-- ==== Sys2Proof/Word.lean ====
section
/-! DEFINITION. The word types of the block: bytes, and the sparse tables keyed by a number. -/

namespace Sys2Proof

/-- One byte of a cell, frame, record or memory. -/
abbrev Byte := BitVec 8

/-- A sparse table: pairs of a key and a value, keys strictly rising, no key twice. -/
abbrev Tbl (α : Type) := List (Nat × α)

end Sys2Proof
end

