-- ==== Sys2Proof/Syntax.lean ====
section
/-! DEFINITION. The commands of the block and their operands. -/

namespace Sys2Proof.Machine

/-- A fabric port, 0 to 255 (R24). -/
abbrev Port := Fin 256
/-- A logical lane of a port (R24). -/
abbrev Lane := Fin 4
/-- An S-die (R21). -/
abbrev Sdie := Fin 2
/-- A pack number, 10 bits (R277). -/
abbrev PackNo := Fin 1024
/-- A context number (R280). -/
abbrev CtxNo := Fin 4096
/-- A whistle number (R30). -/
abbrev WhistleNo := Fin 8192
/-- A host queue pair number. -/
abbrev QpNo := Fin 64
/-- A DMA channel's global number (R492). -/
abbrev ChanNo := Fin 64
/-- A crossbar port of an S-die: 0 to 127 fabric, 128 and up the internal ones (R164). -/
abbrev XPort := Fin 256
/-- The OWNER field of a slot tag (R178): bit 8 is the replay side, bits 7 to 0 the crossbar port. -/
abbrev Owner := Fin 512

/-- The two paths the dictionary protocol is served on (R44). -/
inductive Path where
  | t1s
  | host
  deriving DecidableEq, Repr

/-- A dictionary request as it arrives: the datagram's source and the fields of R46 or R47.
OPCODE is the command's own; LENGTH is the payload's length (R48). -/
structure Req where
  path : Path
  addr : BitVec 128
  udpPort : BitVec 16
  version : BitVec 8
  txn : BitVec 16
  index : BitVec 16
  sub : BitVec 8
  session : BitVec 64
  seg : BitVec 16
  payload : List Byte
  deriving DecidableEq, Repr

/-- A cell without its CRC: the 96-bit header of R119 and the payload of bytes 12 to 75. -/
structure Cell where
  hdr : BitVec 96
  payload : List Byte
  deriving DecidableEq, Repr

/-- Where a collective or routed cell entered the switch core: a fabric port, or an internal
crossbar input of an S-die (R164). -/
inductive Src where
  | fabric (p : Port)
  | internal (d : Sdie) (x : XPort)
  deriving DecidableEq, Repr

/-- The key of a held dictionary response (R54). -/
structure CacheKey where
  path : Path
  addr : BitVec 128
  udpPort : BitVec 16
  txn : BitVec 16
  deriving DecidableEq, Repr

/-- The kennel's pools (R179). -/
inductive Pool where
  | ded
  | sta
  | rpy
  | shr
  deriving DecidableEq, Repr

/-- What an optical module advertises (R94, R102, R105). -/
structure ModuleAdvert where
  lane200 : Bool
  lane100 : Bool
  keepalive25 : Bool
  initTicks : Nat
  deriving DecidableEq, Repr

/-- The PHY modes of the host port (R479). -/
inductive HostMode where
  | cr4x800
  | cr4x400
  deriving DecidableEq, Repr

/-- A RoCE v2 packet's fields as the host transport takes them in (R483 to R491). -/
structure RoceMsg where
  qp : QpNo
  psn : BitVec 24
  first : Bool
  last : Bool
  ackReq : Bool
  rkey : BitVec 32
  va : BitVec 64
  dmaLen : BitVec 32
  syndrome : BitVec 8
  ecn : Bool
  /-- The ICRC holds (R486). -/
  icrcOk : Bool
  /-- Its opcode is not one of R484, or it carries immediate data or a solicited-event request (R485). -/
  invalid : Bool
  payload : List Byte
  deriving DecidableEq, Repr

/-- What the ECC of a scrubbed word shows (R504). -/
inductive EccOutcome where
  | clean
  | corrected (syndrome : BitVec 64)
  | uncorrectable (syndrome : BitVec 64)
  deriving DecidableEq, Repr

/-- The fault classes (R522). -/
inductive FaultClass where
  | corrected
  | contained
  | fatal
  deriving DecidableEq, Repr

/-- A bark as a unit sends it; the sentry fills TICK (R528). -/
structure BarkMsg where
  kind : BitVec 16
  cls : FaultClass
  access : BitVec 8
  initiator : BitVec 16
  injected : Bool
  address : BitVec 64
  detail : BitVec 64
  deriving DecidableEq, Repr

/-- The temperature sensors (R601, R603). -/
inductive Sensor where
  | cdie (c : Fin 4)
  | sdie (s : Sdie)
  | mtile
  | ltile (t : Fin 8)
  | hbm (k : Fin 8)
  deriving DecidableEq, Repr

/-- An instruction of the IEEE 1149.1 test port: the four of R589, or another by its code. -/
inductive TestInstr where
  | idcode
  | bypass
  | samplePreload
  | extest
  | other (ir : BitVec 8)
  deriving DecidableEq, Repr

end Sys2Proof.Machine

namespace Sys2Proof

open Sys2Proof.Machine

/-- The commands of the block: one constructor per row of spec/opcode_table.json. A command that
a dictionary request carries has that request as its operand; a command that a cell carries has
the cell and where it arrived. -/
inductive Instr where
  /-- R51. A dictionary READ request is checked, served from the cache or executed, and answered; a value too long for one frame is captured into a handle, and an RC entry is cleared or re-armed. -/
  | read (q : Req)
  /-- R51. A dictionary WRITE request to an entry that has no row of its own is checked in order and applied or refused. -/
  | write (q : Req)
  /-- R56. Returns segment SEG of a captured value and frees the handle after the final segment. -/
  | readSeg (q : Req)
  /-- R57. Opens a segmented write after the access checks and the total-length check, and returns a handle. -/
  | writeSegStart (q : Req)
  /-- R58. Stages one segment of a segmented write in its handle. -/
  | writeSeg (q : Req)
  /-- R57. Checks completeness and CRC-32C, repeats the access checks, and applies the staged value as one write or discards it. -/
  | writeSegCommit (q : Req)
  /-- R62. Returns a 32-byte nonce bound to the scope, address and path, and voids that requester's previous nonce. -/
  | challenge (q : Req)
  /-- R63. Verifies the signature over the nonce, serial and scope, and opens a session or answers CHALLENGE_FAILED or BUSY. -/
  | answer (q : Req)
  /-- R63. Ends the session named in SESSION. -/
  | close (q : Req)
  /-- R60. Acknowledges the outstanding NOTIFY with the matching TXN, or is dropped. -/
  | notifyAck (q : Req)
  /-- R48. A frame with an unknown VERSION, a wrong length, or a version 1 frame refused in band is dropped unanswered and counted. -/
  | badFrames (path : Path) (bytes : List Byte)
  /-- R43. A datagram without a valid UDP checksum is dropped without an answer. -/
  | udpChecksumDrop (path : Path)
  /-- R60. The 100 ms repeat timer of an unacknowledged NOTIFY expires; the NOTIFY is resent or, after the third repeat, counted in NOTIFY_LOST. -/
  | notifyRepeat (txn : BitVec 16) (dest : Fin 4)
  /-- R59. A segmented-transfer handle unused for 0.5 s expires and is freed. -/
  | handleExpiry (h : BitVec 16)
  /-- R62. An unanswered challenge nonce expires after 10 s. -/
  | nonceExpiry (path : Path) (addr : BitVec 128)
  /-- R63. A session without a request for SESSION_IDLE_TICKS ends. -/
  | sessionIdleExpiry (token : BitVec 64)
  /-- R68. Writing 0x01 ends every session except the writer's. -/
  | endSessions (q : Req)
  /-- R66. An ICMPv6 neighbour solicitation for a TX1 address on the T1S segment or the host port is answered. -/
  | neighbourSolicitation (path : Path) (src : BitVec 128) (target : BitVec 128)
  /-- R67. A PLCA beacon on the segment applies pending PLCA entry changes and sets PLCA_STATUS. -/
  | plcaBeacon
  /-- R67. A collision on the T1S segment is counted and raised as a corrected fault. -/
  | plcaCollision
  /-- R85. Loss of signal asserts or deasserts on a lane; an ACTIVE lane leaves striping and enters FAILED, which may be loss of the port. -/
  | los (p : Port) (l : Lane) (on : Bool)
  /-- R85. Loss of lock asserts or deasserts on a lane, with the same lane and port consequences as LOS. -/
  | lol (p : Port) (l : Lane) (on : Bool)
  /-- R86. A 256-tick margin window ends; MARGIN is updated, port capacity and smallest margin pass to spraying, and hand-over conditions and peaking watches are evaluated. -/
  | marginWindowEnd (p : Port) (l : Lane) (margin : BitVec 8) (corr : BitVec 32) (uncorr : BitVec 16) (uncorrInj : BitVec 16)
  /-- R80. A lane's peaking period starts; it tries one peaking step and opens a watch. -/
  | peakPeriod (p : Port) (l : Lane)
  /-- R80. PEAK_WATCH_TICKS after a peaking step pass; a step that lowered margin is silently reverted. -/
  | peakWatchEnd (p : Port) (l : Lane)
  /-- R83. After 1 ms in ACTIVE with good margin, the lane stores its coefficient set for the rate in use. -/
  | coeffSetStore (p : Port) (l : Lane)
  /-- R93. A hand-over condition of R91 holds with no other hand-over on the port, and the initiator sends a LANE_RATE request with ts = t + 256. -/
  | laneRateReqSend (p : Port) (l : Lane)
  /-- R95. The responder checks a received LANE_RATE request and answers ACCEPT, BUSY, LATE or UNSUPPORTED. -/
  | laneRateReq (p : Port) (c : Cell)
  /-- R96. The initiator receives the answer and commits to ts, or schedules a retry, requests OFF or gives up restores. -/
  | laneRateAns (p : Port) (c : Cell)
  /-- R96. 256 ticks after a BUSY or LATE refusal, the initiator repeats the request if its condition still holds. -/
  | handoverRetry (p : Port) (l : Lane)
  /-- R93. The switch tick ts is reached; a committed lane is parked behind a PARK marker and retuned, or an unanswered initiator lane enters FAILED. -/
  | handoverPark (p : Port)
  /-- R93. The retuned lane holds lock with margin at or above MARGIN_LOW and sends READY. -/
  | laneReadySend (p : Port)
  /-- R93. A READY from the partner for a parked lane is recorded. -/
  | laneReady (p : Port) (c : Cell)
  /-- R99. The tick tj is reached; the lane rejoins striping at the target rate, falls back to 100 Gbit/s, or enters FAILED. -/
  | handoverJoin (p : Port)
  /-- R100. A restore trial ends without a drop, and the restore hold resets to RESTORE_HOLD_TICKS. -/
  | restoreTrialEnd (p : Port) (l : Lane)
  /-- R91. A write of MAX_RATE caps a port; 0x01 starts a CAP hand-over on lanes at 200 Gbit/s. -/
  | maxRateWrite (q : Req) (p : Port)
  /-- R82. A manual peaking code is applied at once with adaptation off, or refused while PEAK_ADAPT is true. -/
  | peakSet (q : Req) (p : Port) (l : Lane)
  /-- R70. A write of a port's electrical class is accepted only while the port is OFF and SHR keeps its minimum. -/
  | elecClassWrite (q : Req) (p : Port)
  /-- R106. A non-zero TEST_MODE puts an eligible lane into TEST with pattern generation or checking; zero returns it when LOOP is also zero. -/
  | testModeWrite (q : Req) (p : Port) (l : Lane)
  /-- R109. A loop code puts an eligible lane into TEST with the near or far loop; zero ends it when TEST_MODE is also zero. -/
  | loopWrite (q : Req) (p : Port) (l : Lane)
  /-- R110. Arms flipping one generated bit every 65,536 unit intervals, count times, in TEST. -/
  | injectBit (q : Req) (p : Port) (l : Lane)
  /-- R110. Arms corrupting the given symbols of count received codewords. -/
  | injectRxFecCorr (q : Req) (p : Port) (l : Lane)
  /-- R110. Arms corrupting 16 symbols of count received codewords. -/
  | injectRxFecUncorr (q : Req) (p : Port) (l : Lane)
  /-- R110. Arms corrupting the given symbols of count transmitted codewords. -/
  | injectTxFecCorr (q : Req) (p : Port) (l : Lane)
  /-- R110. Arms corrupting 16 symbols of count transmitted codewords. -/
  | injectTxFecUncorr (q : Req) (p : Port) (l : Lane)
  /-- R110. Drives the lane's transmitter idle for count ticks. -/
  | injectTxSquelch (q : Req) (p : Port) (l : Lane)
  /-- R110. The squelch count expires and the transmitter resumes. -/
  | txSquelchEnd (p : Port) (l : Lane)
  /-- R104. An optical module asserts MODINT_N; the housekeeping processor reads its CMIS flags and raises MODULE_FLAG. -/
  | moduleInterrupt (site : Fin 32)
  /-- R650. MODPRS_N of a module site changes, and the port's module handling under R105 follows. -/
  | modulePresence (site : Fin 32) (present : Bool) (advert : ModuleAdvert)
  /-- R150. A module's data path initialisation completes, letting a MODULE-class port start LANES. -/
  | moduleDatapathReady (p : Port)
  /-- R133. A cell arrives on a lane; CRC, sequencing, reorder, credit and malformation checks run, and accepted cells pass in LSEQ order to their consumer or the input stage. -/
  | cellReceive (p : Port) (l : Lane) (bytes : List Byte)
  /-- R137. A LINK cell releases acknowledged cells, starts a replay on a new NAK_COUNT, updates credit grants, and on its first arrival takes the port to UP. -/
  | linkCell (p : Port) (c : Cell)
  /-- R135. A LINK cell is sent after 64 accepted cells, 4 ticks after an unacknowledged acceptance, or every 64 ticks. -/
  | linkSend (p : Port)
  /-- R137. The oldest kept cell waits REPLAY_TIMEOUT ticks and is resent; REPLAY_LIMIT resends without progress take the port to RECOVER. -/
  | replayTimeout (p : Port)
  /-- R138. A PARK marker removes its lane from gap counting at the receiver. -/
  | parkCell (p : Port) (l : Lane) (c : Cell)
  /-- R154. No cell passes its CRC for 192 ticks on the check lane, and the port is lost to DETECT. -/
  | portLossTimeout (p : Port)
  /-- R151. A TRAIN cell or training frame is taken in; detection completes, tap requests act, RX_READY is tracked and LANES_END follows. -/
  | trainCell (p : Port) (l : Lane) (c : Cell) (inverted : Bool)
  /-- R148. The port sends IDENT every 16 ticks in IDENT. -/
  | identSend (p : Port)
  /-- R149. A received IDENT is stored in PEER_IDENT, and the partner's verdict is taken; both ACCEPT schedule LANES and QUARANTINE enters QUARANTINE. -/
  | identCell (p : Port) (c : Cell)
  /-- R150. No IDENT for IDENT_TIMEOUT_TICKS returns the port to DETECT. -/
  | identTimeout (p : Port)
  /-- R150. 512 ticks after both ACCEPTs, the port starts LANES at the link rate. -/
  | lanesStart (p : Port)
  /-- R153. LANES_TIMEOUT_TICKS pass in LANES or RECOVER; unready lanes enter FAILED and a port without lane 0 returns to DETECT. -/
  | lanesTimeout (p : Port)
  /-- R153. 25,000 ticks without progress with lane 0 and another lane ready end LANES. -/
  | lanesStall (p : Port)
  /-- R637. A port whose plan expects a neighbour reaches ABSENT_TICKS in DETECT and enters ABSENT. -/
  | portAbsent (p : Port)
  /-- R154. Setting PORT_ENABLE takes the port from OFF to DETECT; clearing it takes the port to OFF and flushes its queues. -/
  | portEnableWrite (q : Req) (p : Port)
  /-- R154. Writing 0x01 takes the port to DETECT. -/
  | retrain (q : Req) (p : Port)
  /-- R154. A KEEP cell is taken; one with a foreign SERIAL or PORT sends the port to IDENT. -/
  | keepCell (p : Port) (c : Cell)
  /-- R158. In KEEPALIVE and QUARANTINE, lane 0 sends KEEP at least every 64 ticks. -/
  | keepSend (p : Port)
  /-- R157. An end puts an UP port to sleep by sending PORT_SLEEP with ts at least 256 ticks ahead. -/
  | portSleepSend (p : Port) (ts : BitVec 64)
  /-- R157. A received PORT_SLEEP schedules the port's sleep at its ts. -/
  | portSleep (p : Port) (c : Cell)
  /-- R154. The sleep ts is reached; lanes 1 to 3 park and lane 0 moves to KEEPALIVE. -/
  | portSleepTs (p : Port)
  /-- R159. A WAKE REQUEST is answered with WAKE ACK within 16 ticks, cancels a pending sleep, and is a wake source. -/
  | wakeRequest (p : Port) (c : Cell)
  /-- R159. With traffic queued for a sleeping port, the end sends WAKE REQUEST. -/
  | wakeRequestSend (p : Port)
  /-- R159. A WAKE ACK from the partner is recorded. -/
  | wakeAck (p : Port) (c : Cell)
  /-- R159. Once it can train, the end sends WAKE READY. -/
  | wakeReadySend (p : Port)
  /-- R159. A WAKE READY from the partner is recorded. -/
  | wakeReady (p : Port) (c : Cell)
  /-- R159. 256 ticks after READY is both sent and received, the port starts LANES with stored sets. -/
  | wakeLanesStart (p : Port)
  /-- R170. Each S-die cycle the crossbar runs request, grant and accept twice and transfers the accepted cells, consuming credits. -/
  | crossbarCycle (d : Sdie)
  /-- R219. A cell is found expired on arrival or at a queue head; it is dropped, released and counted. -/
  | cellExpired (d : Sdie) (input : XPort) (ptr : BitVec 32)
  /-- R188. The kennel pops a free slot into a pool for an owner, or answers POOL_EMPTY. -/
  | allocate (d : Sdie) (pool : Pool) (owner : Owner)
  /-- R188. The kennel frees a HELD or STRAY slot of the named owner, or refuses it. -/
  | release (d : Sdie) (ptr : BitVec 32) (owner : Owner)
  /-- R188. The kennel changes a slot's owner and pool and restamps its ALLOC_TICK, or refuses it. -/
  | handover (d : Sdie) (ptr : BitVec 32) (owner : Owner) (newOwner : Owner) (pool : Pool)
  /-- R190. The 49,152-cycle walk that rebuilds a corrupted free list completes. -/
  | freelistRebuildDone (d : Sdie)
  /-- R192. The stray audit visits the next slot, checks a free slot's LINK, and moves an over-age HELD slot to STRAY. -/
  | auditVisit (d : Sdie)
  /-- R194. Returns every STRAY slot of the named S-dies to FREE. -/
  | strayReclaim (q : Req)
  /-- R196. Arms setting pointer bit [30] in the next release. -/
  | kennelInjectPtrRange (q : Req)
  /-- R196. Arms setting pointer bit [0] in the next release. -/
  | kennelInjectPtrAlign (q : Req)
  /-- R196. Arms naming crossbar port 135 as owner in the next release. -/
  | kennelInjectOwnerMismatch (q : Req)
  /-- R196. Arms corrupting the LINK of the next free-list head. -/
  | kennelInjectFreelistLink (q : Req)
  /-- R196. Arms suppressing the next release. -/
  | kennelInjectLeak (q : Req)
  /-- R215. Arms a route-bank flip at tick T, or cancels the armed flip with 0. -/
  | flipTickWrite (q : Req)
  /-- R214. The flip tick is reached; the IDLE bank becomes LIVE and the LIVE bank DRAINING. -/
  | epochFlip
  /-- R214. Retires a DRAINING bank whose drain count is zero to IDLE. -/
  | bankRetire (q : Req)
  /-- R214. FLIP_DRAIN_BOUND passes after a flip with the drain count above zero, and DRAIN_STUCK is reported. -/
  | drainStuck (bank : Fin 2)
  /-- R227. A bridged request of the TX1 waits E2E_TIMEOUT_TICKS without a reply and is resent, or failed after E2E_RETRIES. -/
  | e2eTimeout (dest : BitVec 20) (seq : BitVec 16)
  /-- R223. Every LEASH_UP_TICKS without a decrease, the TX1 raises its leash rate for a destination. -/
  | leashUp (dest : BitVec 20)
  /-- R278. Activates an IDLE pack, binding its contexts and setting FRONTIER, or refuses it. -/
  | activate (q : Req) (pack : PackNo)
  /-- R279. Frees an ACTIVE pack's contexts and returns it to IDLE, or refuses it. -/
  | deactivate (q : Req) (pack : PackNo)
  /-- R279. Fails every context of the pack in COLLECT with ABORTED. -/
  | packAbort (q : Req) (pack : PackNo)
  /-- R296. A START is checked at ingress, binds or finds its context, sets or matches the record, validates its sender and merges its provisional accumulator. -/
  | startCell (src : Src) (c : Cell)
  /-- R297. A DATA cell is matched, checked for duplicates and layout, widened and accumulated, logged or relayed, and may complete its chunk. -/
  | dataCell (src : Src) (c : Cell)
  /-- R661. A PROMO cell is matched, checked for arrangement, widened and accumulated. -/
  | promoCell (src : Src) (c : Cell)
  /-- R327. A CHECK cell is matched and its contributor's check is run when the contribution is complete. -/
  | checkCell (src : Src) (c : Cell)
  /-- R310. A HEEL is matched and marks its sender; when every rank has arrived the TX1 sets RELEASE_TICK and sends HEEL_RELEASE, or forwards HEEL toward the coordinator. -/
  | heel (src : Src) (c : Cell)
  /-- R370. A relay passes a received HEEL_RELEASE on, multicasts it to its members, enters DONE and counts a late arrival. -/
  | heelRelease (src : Src) (c : Cell)
  /-- R448. RELEASE_TICK of a heel is reached; HEEL_RELEASED bindings are raised and PREPARED slots of a COMMIT heel commit. -/
  | heelReleaseTick (ctx : CtxNo)
  /-- R304. A context in COLLECT without progress for CTX_IDLE_TICKS fails with TIMEOUT. -/
  | ctxIdleTimeout (ctx : CtxNo)
  /-- R302. Every result chunk is released and its ledger record written, so the context enters DONE, writes its COLLECTIVE record and sends COLL_DONE OK. -/
  | contextComplete (ctx : CtxNo)
  /-- R356. A COLL_NAK for a LEVEL 1 or 2 START reaches the sending switch, which stops or schedules a retry under R295. -/
  | collNak (src : Src) (c : Cell)
  /-- R295. The CONTEXT_BUSY backoff expires and the switch resends its START and the cells sent so far. -/
  | busyRetry (ctx : CtxNo)
  /-- R331. The release pipeline of a complete chunk finishes its checks; the chunk is emitted, relayed up or down, or sent to the compute tier, or the context fails. -/
  | releaseCheckDone (ctx : CtxNo) (chunk : BitVec 20)
  /-- R340. Freed frames are granted to a LOGGED chunk, which starts replaying its spill log. -/
  | chunkRestoreStart (ctx : CtxNo) (chunk : BitVec 20)
  /-- R337. A chunk's spill replay ends; its log records are freed and it becomes OPEN. -/
  | chunkRestoreEnd (ctx : CtxNo) (chunk : BitVec 20)
  /-- R363. The span resend timer expires; the switch resends its START and the logged cells of chunks whose result has not come back. -/
  | spanResend (ctx : CtxNo)
  /-- R367. A COLL_DONE from a neighbour switch completes or fails the spanning context and is passed on along the arms. -/
  | collDone (src : Src) (c : Cell)
  /-- R373. Every TIME_PERIOD_TICKS, the TX1 sends a TIME_XFER REQUEST on its parent port. -/
  | timeXferSend
  /-- R373. A received TIME_XFER REQUEST is answered with T2, T3 and ROOT_OFFSET. -/
  | timeXferRequest (p : Port) (c : Cell) (t2 : BitVec 64) (t3 : BitVec 64)
  /-- R374. A TIME_XFER ANSWER yields offset and delay and updates TIME_OFFSET and TIME_ALIGNED. -/
  | timeXferAnswer (p : Port) (c : Cell) (t4 : BitVec 64)
  /-- R410. After the cycle's increments, an armed whistle at threshold fires, subtracts THRESHOLD and enqueues its action, or retries next cycle when the queue is full. -/
  | whistleFire (w : WhistleNo)
  /-- R408. A whistle action starts a DMA descriptor chain on a channel. -/
  | dmaChain (d : Sdie)
  /-- R408. A whistle action runs a product or chain invocation descriptor on a C-die. -/
  | launch (d : Sdie)
  /-- R451. A whistle action injects a stored START as a compute-tier contribution, accepted only for a SOURCE collective. -/
  | injectStart (d : Sdie)
  /-- R408. A whistle action sends a stored CTRL cell as routed CTL traffic. -/
  | sendCtl (d : Sdie)
  /-- R540. A whistle action raises interrupt source ARG2, or fails below 0x80. -/
  | raiseInt (d : Sdie)
  /-- R407. A whistle action completes and adds DONE_INC to its DONE_WHISTLE, or fails and reports ACTION_FAIL. -/
  | actionComplete (w : WhistleNo) (ok : Bool)
  /-- R402. A product's tiles finish with their checks, ending in completion or at the first failed check. -/
  | productComplete (id : BitVec 64)
  /-- R413. Arms the selected whistle and sets its fire count to 0. -/
  | arm (q : Req)
  /-- R413. Disarms the selected whistle and discards its unstarted queued actions. -/
  | disarm (q : Req)
  /-- R412. Sets the selected whistle's counter, ahead of increments of the same cycle. -/
  | whistleCountWrite (q : Req)
  /-- R405. Arms inverting one column sum of the next tile. -/
  | computeInjectAbftColumn (q : Req)
  /-- R405. Arms inverting one row sum of the next tile. -/
  | computeInjectAbftRow (q : Req)
  /-- R405. Arms inverting the residue of the next conversion check. -/
  | computeInjectConversion (q : Req)
  /-- R405. Arms inverting one bit of the next second run's result. -/
  | computeInjectDup (q : Req)
  /-- R423. Reads, validates and copies a chain descriptor into the selected slot, or refuses it. -/
  | chainLoad (q : Req)
  /-- R424. Empties the selected chain slot. -/
  | chainUnload (q : Req)
  /-- R429. Initialises a chain's state slots at INIT_STEP. -/
  | chainInit (q : Req)
  /-- R430. A finished chunk reaches the compute tier, and the chain runs its steps on it, stashing or waiting where its rules require. -/
  | chainChunk (ctx : CtxNo) (chunk : BitVec 20)
  /-- R426. A chain finishes a chunk's state writes and emitted cells and raises OP_DONE. -/
  | opDone (chain : Fin 256) (chunk : BitVec 20)
  /-- R448. Once a COMMIT heel is accepted and step s has finished, WRITING slots become PREPARED and the PREPARED record is written. -/
  | commitPrepare (ctx : CtxNo)
  /-- R449. Fails contexts of step s or later that name a chain with state, and rolls back uncommitted slots. -/
  | stepAbort (q : Req)
  /-- R449. Commits every PREPARED slot tagged s. -/
  | stepCommit (q : Req)
  /-- R449. Sets every WRITING or PREPARED slot tagged s to ROLLED_BACK. -/
  | stepRollback (q : Req)
  /-- R472. Validates a program image and loads it into the selected slot, or refuses it. -/
  | progLoad (q : Req)
  /-- R473. Empties the selected program slot. -/
  | progUnload (q : Req)
  /-- R479. Host port auto-negotiation and training resolve the PHY and set HOST_MODE. -/
  | hostAutoneg (partner : List HostMode) (trained : Bool)
  /-- R491. A SEND on a BRIDGE QP delivers bridge records, each sent as a FWD request, or is answered with RNR NAK. -/
  | sendMessage (m : RoceMsg)
  /-- R488. An RDMA WRITE into a window or doorbell is checked and written before it is acknowledged. -/
  | rdmaWrite (m : RoceMsg)
  /-- R488. An RDMA READ request from a window or the ledger is checked and answered with READ responses. -/
  | rdmaReadRequest (m : RoceMsg)
  /-- R486. A READ response for a FROM_HOST transfer is taken in PSN order. -/
  | rdmaReadResponse (m : RoceMsg)
  /-- R486. An ACK, NAK or RNR NAK from the host advances or rewinds the requester QP. -/
  | acknowledge (m : RoceMsg)
  /-- R487. A CNP halves the requester QP's rate, down to 8. -/
  | cnp (qp : QpNo)
  /-- R486. A requester QP retransmits after RETRY_TICKS, or enters ERROR after RETRY_COUNT retries. -/
  | qpRetryTimeout (qp : QpNo)
  /-- R487. Every 1,375 ticks without a CNP, the QP rate rises by 16. -/
  | qpRateRise (qp : QpNo)
  /-- R485. Writing RESET to QP_STATE resets a queue pair. -/
  | qpReset (q : Req) (qp : QpNo)
  /-- R485. Writing RTS to QP_STATE from RESET makes the queue pair ready. -/
  | qpRts (q : Req) (qp : QpNo)
  /-- R481. A host frame that is tagged, too long, or addressed to no served port or QP is dropped and counted. -/
  | hostDrops (bytes : List Byte)
  /-- R494. A chain start begins a channel or waits in its start queue, or fails when the queue is full. -/
  | dmaStart (q : Req) (ch : ChanNo)
  /-- R498. DMA_CMD RESET abandons the chain and queue and zeroes PRODUCED and CONSUMED. -/
  | dmaReset (q : Req) (ch : ChanNo)
  /-- R495. A descriptor completes; the count and end of count act, and the next or queued descriptor starts, or the channel pauses. -/
  | dmaDescComplete (ch : ChanNo)
  /-- R497. A descriptor fails, and the channel enters ERROR and reports its code. -/
  | dmaDescFail (ch : ChanNo) (code : BitVec 8)
  /-- R496. A PAUSED channel resumes in the tick after F falls to PACE_LOW. -/
  | dmaResume (ch : ChanNo)
  /-- R496. CONSUMED advances by dictionary write or doorbell, lowering the channel's fill level. -/
  | consumedWrite (q : Req) (ch : ChanNo)
  /-- R504. The scrubber reads the next word, writing back a corrected error or reporting an uncorrectable one. -/
  | scrubRead (addr : BitVec 64) (outcome : EccOutcome)
  /-- R528. A bark reaches the sentry, is logged and opens or merges into its class record, raises its source and fences on FATAL. -/
  | bark (m : Option BarkMsg)
  /-- R534. An open record reaches its ESCALATE_TICK and raises ESCALATED in the next class. -/
  | escalation (cls : FaultClass)
  /-- R535. Closes a class record whose COUNT matches the value written, or fails. -/
  | faultAck (q : Req)
  /-- R542. A group with marked sources and an expired hold-off delivers by RDMA record, alert signal or NOTIFY and starts its hold-off. -/
  | intGroupDeliver (g : Fin 16)
  /-- R543. The housekeeping watchdog expires; the processor restarts, sessions and nonces end, and HKP_RESTART is raised. -/
  | hkpWatchdog
  /-- R544. Arms inverting the CRC-32C of the next N cells received on a port. -/
  | faultInjectCellCrc (q : Req)
  /-- R544. Arms inverting the CRC of the next N transfers on a package link. -/
  | faultInjectPkgLinkCrc (q : Req)
  /-- R544. Arms inverting U in the next N contribution checks of a unit. -/
  | faultInjectResContrib (q : Req)
  /-- R544. Arms inverting the sum check of the next N chunks of a unit. -/
  | faultInjectResSum (q : Req)
  /-- R544. Arms inverting the rounding check of the next N chunks of a unit. -/
  | faultInjectResRounding (q : Req)
  /-- R544. Arms inverting one lane of the next N updates of a unit. -/
  | faultInjectResLanes (q : Req)
  /-- R544. Arms inverting the second rounding of the next N chunks of a unit. -/
  | faultInjectResDup (q : Req)
  /-- R544. Arms flipping one bit at the next N reads of a memory class. -/
  | faultInjectSramCe (q : Req)
  /-- R544. Arms flipping two bits at the next N reads of a memory class. -/
  | faultInjectSramUe (q : Req)
  /-- R544. Arms flipping one bit at the next N reads of a stack. -/
  | faultInjectHbmCe (q : Req)
  /-- R544. Arms flipping two bits at the next N reads of a stack. -/
  | faultInjectHbmUe (q : Req)
  /-- R544. Arms inverting the next N page-check verifications. -/
  | faultInjectPageCheck (q : Req)
  /-- R544. Arms inverting RECORD_CRC of the next N ledger records. -/
  | faultInjectLedgerCrc (q : Req)
  /-- R544. Arms inverting CHECK1 in the next N result CHECK cells of a unit. -/
  | faultInjectResultCheckOut (q : Req)
  /-- R555. Clears the named event or error counter and its SATURATED flag. -/
  | counterClear (q : Req)
  /-- R555. Value 0 clears every event and error counter and empties the saturated list. -/
  | counterClearAll (q : Req)
  /-- R558. Arms a snapshot at TARGET_TICK and, with ENDPOINTS, sends SNAP COMMAND to capable endpoints. -/
  | snapCmd (q : Req)
  /-- R558. A write with the armed SNAP_ID and TARGET_TICK 0 cancels the snapshot. -/
  | snapCancel (q : Req)
  /-- R559. At TARGET_TICK, each unit copies its counters and gauges into the shadow set. -/
  | snapCopy
  /-- R559. Four ticks after TARGET_TICK the shadows are complete and SNAP_STATE becomes TAKEN. -/
  | snapTaken
  /-- R565. A SNAP TAKEN from an endpoint is counted, and a LATE one marks its port. -/
  | snapTakenCell (p : Port) (c : Cell)
  /-- R567. A map window ends; each S-die writes its congestion map to HBM4 and MAP_LATEST, or counts it skipped. -/
  | mapWindowEnd (d : Sdie)
  /-- R573. An L-tile passes one queued header sample to the M-tile ring, at most one per 256 ticks. -/
  | sampleTransfer (tile : Fin 8)
  /-- R571. A write of a sampling entry sets every sample count to 0. -/
  | sampleConfigWrite (q : Req)
  /-- R581. Captures every non-default RWP entry and starts burning it as the next profile generation. -/
  | save (q : Req)
  /-- R576. The OTP controller completes one verified 64-bit word and moves to the next, ending the burn after the seal. -/
  | otpWordBurned (ok : Bool)
  /-- R586. Burns a 32-byte owner key hash as the next generation of the selected slot. -/
  | keyBurn (q : Req)
  /-- R587. Stores an owner modulus whose SHA-256 matches the slot's active KEY_HASH. -/
  | ownerPubkeyWrite (q : Req)
  /-- R592. Writes a firmware piece into the idle slot at FW_OFFSET and advances FW_OFFSET. -/
  | fwData (q : Req)
  /-- R591. Checks the idle firmware slot and reports VALID or INVALID. -/
  | verify (q : Req)
  /-- R592. Marks a verified idle slot TRIAL for the next reset. -/
  | fwActivate (q : Req)
  /-- R593. Makes the running TRIAL slot committed and burns the rollback counter. -/
  | fwCommit (q : Req)
  /-- R592. Erases the idle firmware slot. -/
  | erase (q : Req)
  /-- R594. A TRIAL boot receives no COMMIT within FW_TRIAL_TICKS, and the TRIAL mark is cleared. -/
  | trialExpired
  /-- R596. Builds and signs an attestation report over the written nonce. -/
  | attestNonce (q : Req)
  /-- R589. An IEEE 1149.1 instruction is applied, with only IDCODE, BYPASS, SAMPLE/PRELOAD and EXTEST open in FIELD. -/
  | testPortInstruction (i : TestInstr)
  /-- R598. The input rises through 35.0 V; the always-on domain starts and a cold reset begins. -/
  | inputRise (mv : BitVec 32)
  /-- R601. The input falls below 34.0 V, and the TX1 is fenced with HBM4 in self-refresh. -/
  | inputUv (mv : BitVec 32)
  /-- R598. The input falls below 33.0 V, and the always-on domain stops. -/
  | alwaysOnStop (mv : BitVec 32)
  /-- R601. The input rises above 46.0 V, and every domain except always-on and memory powers off. -/
  | inputOv (mv : BitVec 32)
  /-- R601. Input current exceeds 110 A, and every domain except always-on powers off. -/
  | overcurrent (ma : BitVec 32)
  /-- R601. An on-package rail leaves ±8 % of its set point, and every domain except always-on powers off. -/
  | railFault (rail : Fin 16) (mv : BitVec 32)
  /-- R601. A sensor exceeds its OVERTEMP limit, and the fast domains power off until it has cooled. -/
  | overtemp (sensor : Sensor) (mC : BitVec 32)
  /-- R603. A sensor crosses its throttle point up or down; the compute step or switch clock changes and a throttle event is raised. -/
  | thermalThrottle (sensor : Sensor) (mC : BitVec 32)
  /-- R602. At each 256-tick window end, the governor applies a pending cap and steps the compute clock against the ceiling. -/
  | governorWindow (mv : BitVec 32) (ma : BitVec 32)
  /-- R607. An RSYNC marker of a valid frame locks the tick counter, counts a mismatch, or ends holdover with a step. -/
  | rsyncMarker (valid : Bool) (value : BitVec 64)
  /-- R607. No marker for 65,537 ticks is counted and raised. -/
  | rsyncMissing
  /-- R608. RACKCLK shows no edge for 8 oscillator cycles, and the TX1 enters holdover. -/
  | holdoverOn
  /-- R615. SLEEP_CMD ACTIVE wakes the TX1. -/
  | sleepActive (q : Req)
  /-- R615. SLEEP_CMD IDLE gates the fast domains. -/
  | sleepIdle (q : Req)
  /-- R615. SLEEP_CMD DOZE powers the C-dies off when the DOZE conditions hold. -/
  | sleepDoze (q : Req)
  /-- R616. SLEEP_CMD KEEPALIVE starts the KEEPALIVE entry procedure: credits stop and the switch core drains. -/
  | sleepKeepalive (q : Req)
  /-- R613. The fast domains hold no work for AUTO_IDLE_TICKS, and the TX1 enters IDLE. -/
  | autoIdle
  /-- R613. AUTO_DOZE_TICKS pass with the DOZE conditions met, and the TX1 enters DOZE. -/
  | autoDoze
  /-- R616. No slot is held and every replay buffer is acknowledged, so PORT_SLEEP goes out on every UP port. -/
  | keepaliveDrained
  /-- R616. KEEPALIVE_DRAIN_TICKS pass without a drain, and entry is abandoned back to ACTIVE. -/
  | sleepAbandons
  /-- R616. At the sleep ts, control state is saved and the C-dies, S-dies, host domain and lanes 1 to 3 power off in stages. -/
  | keepalivePowerOff
  /-- R617. The staged wake of the domains completes, SLEEP_STATE becomes ACTIVE and withheld credit returns. -/
  | wakeComplete
  /-- R648. WAKE_N sampled low for 2 ticks after high raises wake source WAKE_PIN. -/
  | wakePin
  /-- R618. RESET_N low for 4 ticks holds the TX1 in warm reset, with fast domains stopped. -/
  | resetNLow
  /-- R618. RESET_N rises, and the TX1 takes a warm or cold reset by the low level's length and boots. -/
  | resetNRise (lowTicks : BitVec 64)
  /-- R618. Requests a warm reset 2,500 ticks later. -/
  | resetCmdWarm (q : Req)
  /-- R618. Requests a reset of the switch domain 2,500 ticks later. -/
  | resetCmdSwitch (q : Req)
  /-- R618. Requests the OFF state 2,500 ticks later. -/
  | resetCmdOff (q : Req)
  /-- R619. A requested reset takes effect 2,500 ticks after its command, clearing or keeping state per its type. -/
  | resetTakesEffect
  /-- R620. Boot ROM verification ends and firmware runs, powering the domains under R600. -/
  | firmwareStart
  /-- R620. HBM4 is ready, the profile is applied, BOOT_STAGE reads 0x03, and enabled ports enter DETECT. -/
  | bootComplete
  /-- R633. A port's received IDENT is compared with the plan, setting its verdict and outcome, or swapping logical numbers. -/
  | discoveryCompare (p : Port)
  /-- R630. A plan entry is written, which may change the port's class or take a long-detecting port to ABSENT. -/
  | planNeighbourWrite (q : Req)
  /-- R638. Writing RELEASE takes a quarantined port to IDENT with verdict pending. -/
  | releasePort (q : Req)
  /-- R640. Restores LOGICAL(p) = p and retrains remapped ports. -/
  | remapClear (q : Req)
  /-- R49. A dictionary request whose opcode is unknown, is NOTIFY, or is not allowed in version 1 is answered with BAD_OPCODE. -/
  | badOpcode (q : Req) (op : BitVec 8)
  /-- R54. A held dictionary response reaches 2 s of age and leaves the response cache, so a later matching request is executed again. -/
  | responseExpiry (key : CacheKey)
  /-- R108. The pattern checker declares lock after 1024 error-free bits or loses it on more than 256 errors in 4096 bits, setting CHECK_LOCK and starting or stopping its counts. -/
  | checkerLock (p : Port) (l : Lane) (locked : Bool) (nbits : BitVec 64) (errors : BitVec 32)
  /-- R479. The host Ethernet link goes down; HOST_MODE reads down, in-band service and host NOTIFYs stop, and the 400GBASE-CR4-only advertisement is cleared. -/
  | hostPortDown
  /-- R601. After INPUT_UV or INPUT_OV, the input returns into 36.0 V to 44.0 V and a held warm reset takes effect in that tick. -/
  | inputBackInRange (mv : BitVec 32)
  /-- R601. After OVERTEMP, every sensor reads at least 10 °C below its throttle point; a held warm reset takes effect and a cold boot may power the domains. -/
  | overtempRecovered
  deriving DecidableEq, Repr

end Sys2Proof
end

