-- ==== Sys2Proof/Config.lean ====
section
/-! DEFINITION. The free values: constants without a body, for what the spec leaves open.
Each is applied to the state's draw counter (and to the operands it depends on), so every use
gets a value of its own and no proof can see which. -/

namespace Sys2Proof.Config

/-- A 32-byte challenge nonce (R62 says only that it is returned and single use). -/
opaque freeNonce : Nat → BitVec 256
/-- A fresh 8-byte session token (R62). -/
opaque freeToken : Nat → BitVec 64
/-- A handle value (R59: "the value is left open"). -/
opaque freeHandle : Nat → BitVec 16
/-- Whether a fast-domain event is sampled in the second tick after it is raised rather than
the first (R31: "in the first or second tick"). -/
opaque freeSecondTick : Nat → Bool
/-- Receiver equaliser values after a re-adaptation: FFE taps and DFE tap (R78, R82). -/
opaque freeTaps : Nat → BitVec 264
/-- The adapted peaking code is the spec's; the measured value of a monitor the spec gives no
number for (input voltage, current, temperature before the first window). -/
opaque freeReading : Nat → BitVec 32
/-- A signature of a part that holds no identity key of the length of R595. -/
opaque freeSignature : Nat → BitVec 3072
/-- A value the spec states no result for, of up to 64 bits. -/
opaque freeWord : Nat → BitVec 64
/-- A choice the spec leaves to the implementation, as a number. -/
opaque freeChoice : Nat → Nat
/-- Credits that the unit behind an internal crossbar output grants on a VC, beyond the first (R165, log entry 49). -/
opaque unitCredit : Nat → Nat → Nat
/-- A package link's retry limit (R23 names it and gives no number). -/
opaque pkgRetryLimit : Nat
/-- The sensor code of an L-tile (R601 lists none, R603 gives it a limit). -/
opaque ltileSensor : Nat → Nat
/-- What a vendor entry holds (R38: "not described beyond this table"). -/
opaque vendorValue : Nat → Nat → List Byte
/-- The highest sub-index present at a vendor index, 0 where the index is absent (R36, R38), and whether a sub-index below
it is present or a gap. -/
opaque vendorTop : Nat → Nat
opaque vendorPresent : Nat → Bool
/-- The key of the vendor unlock entry, which lies in 0xF000 to 0xFFFF (R589). -/
opaque vendorUnlock : Nat
/-- The bytes of the firmware image installed at manufacture, before the fields that R590 fixes: the spec gives none. -/
opaque factoryByte : Nat → BitVec 8
/-- The salt of a signature (R588 gives its length). -/
opaque freeSalt : Nat → BitVec 256
/-- The device identification code of the test port (R589 offers IDCODE and gives no code). -/
opaque idcode : BitVec 32

end Sys2Proof.Config
end

