-- ==== Sys2Proof/Machine/Names.lean ====
section
/-! DEFINITION. The dictionary entries by name: each is its key, index × 256 + sub-index (R36), as the
 spec's dictionary tables give it. An entry of a port, pack, unit or lane takes its number. -/

namespace Sys2Proof.Machine.E

/-- R6. STR RO. -/
def PART_NUMBER : Nat := 0x101001
/-- R6. U8 RO. -/
def GRADE : Nat := 0x101002
/-- R6. U8 RO. -/
def STEPPING : Nat := 0x101003
/-- R6. OCTETS RO. -/
def SERIAL : Nat := 0x101004
/-- R68. U16 RO. -/
def DICT_LAYOUT : Nat := 0x100001
/-- R68. BITS32 RO. -/
def PROTO_VERSIONS : Nat := 0x100002
/-- R68. U16 RO. -/
def MAX_PAYLOAD : Nat := 0x100003
/-- R68. STR RO. -/
def FW_VERSION : Nat := 0x101005
/-- R68. U16 RO. -/
def FW_COMPAT : Nat := 0x101006
/-- R68. U8 RO. -/
def FW_SLOT : Nat := 0x101007
/-- R68. OCTETS RO. -/
def T1S_MAC : Nat := 0x102001
/-- R68. U8 RWP. -/
def PLCA_NODE_ID : Nat := 0x102002
/-- R68. U8 RWP. -/
def PLCA_TO_TIMER : Nat := 0x102003
/-- R68. U8 RWP. -/
def PLCA_BURST_COUNT : Nat := 0x102004
/-- R68. U8 RWP. -/
def PLCA_BURST_TIMER : Nat := 0x102005
/-- R68. OCTETS RO. -/
def T1S_ADDRESS : Nat := 0x102006
/-- R68. U8 RO. -/
def PLCA_STATUS : Nat := 0x102007
/-- R68. U32 RO. -/
def PLCA_COLLISIONS : Nat := 0x102008
/-- R68. BOOL RWP. -/
def INBAND_ENABLE : Nat := 0x102201
/-- R68. BOOL RWP. -/
def INBAND_V1 : Nat := 0x102202
/-- R68. TICK RWP. -/
def SESSION_IDLE_TICKS : Nat := 0x102401
/-- R68. U8 RO. -/
def SESSIONS_OPEN : Nat := 0x102402
/-- R68. U32 RO. -/
def CHALLENGE_FAILS : Nat := 0x102403
/-- R68. BOOL WO. -/
def END_SESSIONS : Nat := 0x102404
/-- R68. U64 RO. -/
def FRAMES_RX : Nat := 0x102801
/-- R68. U64 RO. -/
def FRAMES_TX : Nat := 0x102802
/-- R68. U64 RO. -/
def CACHE_REPLAYS : Nat := 0x102803
/-- R68. U32 RO. -/
def BAD_FRAMES : Nat := 0x102804
/-- R68. U32 RO. -/
def NOTIFY_LOST : Nat := 0x102805
/-- R68. -/
def NOTIFY_DEST (n : Nat) : Nat := 0x103000 + 1 + n
/-- R68. BITS32 RW. -/
def NOTIFY_MASK : Nat := 0x103005
/-- R111. BOOL RWP. -/
def LANE_AUTO_RATE : Nat := 0x200001
/-- R111. U8 RWP. -/
def MARGIN_LOW : Nat := 0x200002
/-- R111. U8 RWP. -/
def MARGIN_RESTORE_100 : Nat := 0x200003
/-- R111. TICK RWP. -/
def DROP_HOLD_TICKS : Nat := 0x200004
/-- R111. TICK RWP. -/
def RESTORE_HOLD_TICKS : Nat := 0x200005
/-- R111. TICK RWP. -/
def RESTORE_TRIAL_TICKS : Nat := 0x200006
/-- R111. TICK RWP. -/
def RESTORE_BACKOFF_MAX : Nat := 0x200007
/-- R111. U16 RWP. -/
def FEC_UNCORR_LIMIT : Nat := 0x200008
/-- R111. BOOL RWP. -/
def PEAK_ADAPT : Nat := 0x200101
/-- R111. TICK RWP. -/
def PEAK_PERIOD_TICKS : Nat := 0x200102
/-- R111. TICK RWP. -/
def PEAK_WATCH_TICKS : Nat := 0x200103
/-- R111. U8 RWP. -/
def PEAK_MARGIN_TOL : Nat := 0x200104
/-- R111. U16 RWP. -/
def PEAK_RETRY_TOL : Nat := 0x200105
/-- R111. U8 RWP. -/
def PEAK_BACKOFF_PERIODS : Nat := 0x200106
/-- R112. U8 RWP. -/
def ELEC_CLASS (n : Nat) : Nat := (0x2100 + n) * 256 + 1
/-- R112. U8 RWP. -/
def MAX_RATE (n : Nat) : Nat := (0x2100 + n) * 256 + 2
/-- R112. U8 RO. -/
def LANE_MAP (n : Nat) : Nat := (0x2100 + n) * 256 + 3
/-- R112. BITS32 RO. -/
def RX_POLARITY (n : Nat) : Nat := (0x2100 + n) * 256 + 4
/-- R112. BITS32 RWP. -/
def TX_POLARITY (n : Nat) : Nat := (0x2100 + n) * 256 + 5
/-- R112. U16 RO. -/
def PORT_CAPACITY (n : Nat) : Nat := (0x2100 + n) * 256 + 6
/-- R112. BOOL RO. -/
def LANE0_MISWIRED (n : Nat) : Nat := (0x2100 + n) * 256 + 7
/-- R112. U8 RO. -/
def HANDOVER_LANE (n : Nat) : Nat := (0x2100 + n) * 256 + 8
/-- R113. U8 RO. -/
def LANE_STATE (p l : Nat) : Nat := (0x2200 + p) * 256 + 16 * l + 1
/-- R113. U8 RO. -/
def LANE_RATE (p l : Nat) : Nat := (0x2200 + p) * 256 + 16 * l + 2
/-- R113. U8 RO. -/
def MARGIN (p l : Nat) : Nat := (0x2200 + p) * 256 + 16 * l + 3
/-- R113. U8 RC. -/
def MARGIN_MIN (p l : Nat) : Nat := (0x2200 + p) * 256 + 16 * l + 4
/-- R113. U8 RO. -/
def PEAK_CODE (p l : Nat) : Nat := (0x2200 + p) * 256 + 16 * l + 5
/-- R113. U64 RO. -/
def FEC_CORR_SYMBOLS (p l : Nat) : Nat := (0x2200 + p) * 256 + 16 * l + 6
/-- R113. U32 RO. -/
def FEC_UNCORR_CW (p l : Nat) : Nat := (0x2200 + p) * 256 + 16 * l + 7
/-- R113. U64 RO. -/
def PEAK_UNDOS (p l : Nat) : Nat := (0x2200 + p) * 256 + 16 * l + 8
/-- R113. U64 RO. -/
def RATE_DROPS (p l : Nat) : Nat := (0x2200 + p) * 256 + 16 * l + 9
/-- R113. U64 RO. -/
def RATE_RESTORES (p l : Nat) : Nat := (0x2200 + p) * 256 + 16 * l + 10
/-- R113. U32 RO. -/
def LOS_EVENTS (p l : Nat) : Nat := (0x2200 + p) * 256 + 16 * l + 11
/-- R113. U32 RO. -/
def LOL_EVENTS (p l : Nat) : Nat := (0x2200 + p) * 256 + 16 * l + 12
/-- R113. U8 RW. -/
def PEAK_SET (p l : Nat) : Nat := (0x2200 + p) * 256 + 16 * l + 13
/-- R114. U8 RW. -/
def TEST_MODE (p l : Nat) : Nat := (0x2300 + p) * 256 + 16 * l + 1
/-- R114. U8 RW. -/
def PATTERN (p l : Nat) : Nat := (0x2300 + p) * 256 + 16 * l + 2
/-- R114. U64 RW. -/
def USER_PATTERN (p l : Nat) : Nat := (0x2300 + p) * 256 + 16 * l + 3
/-- R114. U8 RW. -/
def LOOP (p l : Nat) : Nat := (0x2300 + p) * 256 + 16 * l + 4
/-- R114. U64 RO. -/
def CHECK_BITS (p l : Nat) : Nat := (0x2300 + p) * 256 + 16 * l + 5
/-- R114. U32 RO. -/
def CHECK_ERRORS (p l : Nat) : Nat := (0x2300 + p) * 256 + 16 * l + 6
/-- R114. BOOL RO. -/
def CHECK_LOCK (p l : Nat) : Nat := (0x2300 + p) * 256 + 16 * l + 7
/-- R114. U32 WO. -/
def INJECT (p l : Nat) : Nat := (0x2300 + p) * 256 + 16 * l + 8
/-- R114. U32 RO. -/
def INJECT_LEFT (p l : Nat) : Nat := (0x2300 + p) * 256 + 16 * l + 9
/-- R114. U8 RW. -/
def TEST_RATE (p l : Nat) : Nat := (0x2300 + p) * 256 + 16 * l + 10
/-- R162. TICK RWP. -/
def ABSENT_TICKS : Nat := 0x240001
/-- R162. TICK RWP. -/
def IDENT_TIMEOUT_TICKS : Nat := 0x240002
/-- R162. TICK RWP. -/
def LANES_TIMEOUT_TICKS : Nat := 0x240003
/-- R162. U8 RWP. -/
def REPLAY_LIMIT : Nat := 0x240004
/-- R162. TICK RWP. -/
def REPLAY_TIMEOUT_RACK : Nat := 0x240005
/-- R162. TICK RWP. -/
def REPLAY_TIMEOUT_MODULE : Nat := 0x240006
/-- R162. U16 RWP. -/
def GRANT_REQ : Nat := 0x240101
/-- R162. U16 RWP. -/
def GRANT_RPL : Nat := 0x240102
/-- R162. U16 RWP. -/
def GRANT_FWD : Nat := 0x240103
/-- R162. U16 RWP. -/
def GRANT_CUP : Nat := 0x240104
/-- R162. U16 RWP. -/
def GRANT_CDN : Nat := 0x240105
/-- R162. U16 RWP. -/
def GRANT_CTL : Nat := 0x240106
/-- R162. U16 RWP. -/
def GRANT_SHARED : Nat := 0x240107
/-- R163. BOOL RWP. -/
def PORT_ENABLE (n : Nat) : Nat := (0x2500 + n) * 256 + 1
/-- R163. U8 RO. -/
def PORT_STATE (n : Nat) : Nat := (0x2500 + n) * 256 + 2
/-- R163. U8 RO. -/
def FABRIC_LEVEL (n : Nat) : Nat := (0x2500 + n) * 256 + 3
/-- R163. OCTETS RO. -/
def PEER_IDENT (n : Nat) : Nat := (0x2500 + n) * 256 + 4
/-- R163. TICK RO. -/
def UP_TICK (n : Nat) : Nat := (0x2500 + n) * 256 + 5
/-- R163. U64 RO. -/
def REPLAYS (n : Nat) : Nat := (0x2500 + n) * 256 + 6
/-- R163. U64 RO. -/
def REPLAY_CELLS (n : Nat) : Nat := (0x2500 + n) * 256 + 7
/-- R163. U32 RO. -/
def CRC_ERRORS (n : Nat) : Nat := (0x2500 + n) * 256 + 8
/-- R163. U32 RO. -/
def MALFORMED (n : Nat) : Nat := (0x2500 + n) * 256 + 9
/-- R163. U32 RO. -/
def CREDIT_VIOLATIONS (n : Nat) : Nat := (0x2500 + n) * 256 + 10
/-- R163. U32 RO. -/
def RECOVERS (n : Nat) : Nat := (0x2500 + n) * 256 + 11
/-- R163. U32 RO. -/
def PORT_LOSSES (n : Nat) : Nat := (0x2500 + n) * 256 + 12
/-- R163. U64 RO. -/
def GAPS (n : Nat) : Nat := (0x2500 + n) * 256 + 13
/-- R163. BOOL WO. -/
def RETRAIN (n : Nat) : Nat := (0x2500 + n) * 256 + 14
/-- R197. U32 RO. -/
def FREE_SLOTS (n : Nat) : Nat := (0x3000 + n) * 256 + 1
/-- R197. U32 RO. -/
def DED_SIZE (n : Nat) : Nat := (0x3000 + n) * 256 + 2
/-- R197. U32 RO. -/
def STA_SIZE (n : Nat) : Nat := (0x3000 + n) * 256 + 3
/-- R197. U32 RO. -/
def RPY_SIZE (n : Nat) : Nat := (0x3000 + n) * 256 + 4
/-- R197. U32 RO. -/
def SHR_SIZE (n : Nat) : Nat := (0x3000 + n) * 256 + 5
/-- R197. U32 RO. -/
def SHR_USED (n : Nat) : Nat := (0x3000 + n) * 256 + 6
/-- R197. U32 RC. -/
def SHR_PEAK (n : Nat) : Nat := (0x3000 + n) * 256 + 7
/-- R197. U32 RO. -/
def STRAY_SLOTS (n : Nat) : Nat := (0x3000 + n) * 256 + 8
/-- R197. U32 RO. -/
def STRAYS_FOUND (n : Nat) : Nat := (0x3000 + n) * 256 + 9
/-- R197. U32 RO. -/
def KENNEL_REFUSALS (n : Nat) : Nat := (0x3000 + n) * 256 + 10
/-- R197. U32 RO. -/
def ALLOC_FAILS (n : Nat) : Nat := (0x3000 + n) * 256 + 11
/-- R197. U32 RO. -/
def REBUILDS (n : Nat) : Nat := (0x3000 + n) * 256 + 12
/-- R197. U64 RO. -/
def AUDIT_PASSES (n : Nat) : Nat := (0x3000 + n) * 256 + 13
/-- R197. U64 RO. -/
def LAST_REFUSAL (n : Nat) : Nat := (0x3000 + n) * 256 + 14
/-- R198. TICK RWP. -/
def STRAY_AGE_TICKS : Nat := 0x301001
/-- R198. BOOL RWP. -/
def AUDIT_ENABLE : Nat := 0x301002
/-- R198. BITS32 WO. -/
def STRAY_RECLAIM : Nat := 0x301003
/-- R198. U16 RWP. -/
def STA_COMPUTE : Nat := 0x302001
/-- R198. U16 RWP. -/
def STA_BRIDGE : Nat := 0x302002
/-- R198. U16 RWP. -/
def STA_HOST : Nat := 0x302003
/-- R198. U16 RWP. -/
def STA_REDUCE : Nat := 0x302004
/-- R198. U8 RWP. -/
def WEIGHT_REQ : Nat := 0x303001
/-- R198. U8 RWP. -/
def WEIGHT_RPL : Nat := 0x303002
/-- R198. U8 RWP. -/
def WEIGHT_FWD : Nat := 0x303003
/-- R198. U8 RWP. -/
def WEIGHT_CUP : Nat := 0x303004
/-- R198. U8 RWP. -/
def WEIGHT_CDN : Nat := 0x303005
/-- R198. U32 WO. -/
def KENNEL_INJECT : Nat := 0x304001
/-- R198. U16 RO. -/
def KENNEL_INJECT_LEFT : Nat := 0x304002
/-- R199. U64 RO. -/
def PUSHED_OUT (n : Nat) : Nat := (0x3100 + n) * 256 + 1
/-- R199. U64 RO. -/
def PUSHOUTS_CAUSED (n : Nat) : Nat := (0x3100 + n) * 256 + 2
/-- R199. U64 RO. -/
def SHARED_DROPS (n : Nat) : Nat := (0x3100 + n) * 256 + 3
/-- R199. U32 RO. -/
def SHARED_HELD (n : Nat) : Nat := (0x3100 + n) * 256 + 4
/-- R199. U32 RO. -/
def CELLS_HELD (n : Nat) : Nat := (0x3100 + n) * 256 + 5
/-- R199. U64 RO. -/
def FLUSHED (n : Nat) : Nat := (0x3100 + n) * 256 + 6
/-- R199. U64 RO. -/
def MCAST_COPIES (n : Nat) : Nat := (0x3100 + n) * 256 + 7
/-- R199. U32 RO. -/
def REPLAY_HELD (n : Nat) : Nat := (0x3100 + n) * 256 + 8
/-- R231. U8 RO. -/
def INGRESS_EPOCH : Nat := 0x320001
/-- R231. TICK RW. -/
def FLIP_TICK : Nat := 0x320002
/-- R231. U8 RO. -/
def FLIP_STATE : Nat := 0x320003
/-- R231. U32 RO. -/
def DRAIN_0 : Nat := 0x320004
/-- R231. U32 RO. -/
def DRAIN_1 : Nat := 0x320005
/-- R231. U8 RO. -/
def BANK_STATE_0 : Nat := 0x320006
/-- R231. U8 RO. -/
def BANK_STATE_1 : Nat := 0x320007
/-- R231. TICK RO. -/
def LAST_FLIP_TICK : Nat := 0x320008
/-- R231. TICK RO. -/
def FLIP_DRAIN_BOUND : Nat := 0x320009
/-- R231. U8 WO. -/
def BANK_RETIRE : Nat := 0x32000a
/-- R231. TICK RWP. -/
def TTL_REQ : Nat := 0x321001
/-- R231. TICK RWP. -/
def TTL_RPL : Nat := 0x321002
/-- R231. TICK RWP. -/
def TTL_FWD : Nat := 0x321003
/-- R231. TICK RWP. -/
def TTL_CUP : Nat := 0x321004
/-- R231. TICK RWP. -/
def TTL_CDN : Nat := 0x321005
/-- R231. TICK RWP. -/
def TTL_CTL : Nat := 0x321006
/-- R231. U8 RWP. -/
def SPRAY_MARGIN_GOOD : Nat := 0x322001
/-- R231. U16 RWP. -/
def SPRAY_QUEUE_STEP : Nat := 0x322002
/-- R231. U16 RWP. -/
def CE_THRESHOLD : Nat := 0x322003
/-- R231. U16 RWP. -/
def E2E_WINDOW : Nat := 0x323001
/-- R231. TICK RWP. -/
def E2E_TIMEOUT_TICKS : Nat := 0x323002
/-- R231. U8 RWP. -/
def E2E_RETRIES : Nat := 0x323003
/-- R231. U16 RWP. -/
def LEASH_MIN : Nat := 0x323004
/-- R231. U16 RWP. -/
def LEASH_STEP_UP : Nat := 0x323005
/-- R231. TICK RWP. -/
def LEASH_UP_TICKS : Nat := 0x323006
/-- R231. TICK RWP. -/
def LEASH_DOWN_TICKS : Nat := 0x323007
/-- R231. OCTETS RW. -/
def ROUTE_LOCAL_0 : Nat := 0x330001
/-- R231. OCTETS RW. -/
def ROUTE_LOCAL_1 : Nat := 0x330101
/-- R231. OCTETS RW. -/
def ROUTE_RACK_0 : Nat := 0x330002
/-- R231. OCTETS RW. -/
def ROUTE_RACK_1 : Nat := 0x330102
/-- R231. OCTETS RW. -/
def RING_GROUPS_0 : Nat := 0x330003
/-- R231. OCTETS RW. -/
def RING_GROUPS_1 : Nat := 0x330103
/-- R231. U64 RO. -/
def ROUTED (n : Nat) : Nat := (0x3250 + n) * 256 + 1
/-- R231. U32 RO. -/
def EXPIRED (n : Nat) : Nat := (0x3250 + n) * 256 + 2
/-- R231. U32 RO. -/
def NO_ROUTE (n : Nat) : Nat := (0x3250 + n) * 256 + 3
/-- R231. U32 RO. -/
def MISROUTED (n : Nat) : Nat := (0x3250 + n) * 256 + 4
/-- R231. U32 RO. -/
def STALE_EPOCH (n : Nat) : Nat := (0x3250 + n) * 256 + 5
/-- R231. U64 RO. -/
def CE_MARKED (n : Nat) : Nat := (0x3250 + n) * 256 + 6
/-- R231. U32 RO. -/
def DRAIN_STUCK (n : Nat) : Nat := (0x3250 + n) * 256 + 7
/-- R231. U64 RO. -/
def SELF_REQUESTS (n : Nat) : Nat := (0x3250 + n) * 256 + 8
/-- R276. U8 RWP. -/
def PROMOTE_SHIFT_B4 : Nat := 0x4f0001
/-- R276. U8 RWP. -/
def PROMOTE_SHIFT_T2 : Nat := 0x4f0002
/-- R276. U8 RWP. -/
def E4M3_OVERFLOW : Nat := 0x4f0003
/-- R276. U8 RWP. -/
def NAN_POLICY : Nat := 0x4f0004
/-- R276. OCTETS RW. -/
def JOB_SEED : Nat := 0x4f0005
/-- R276. OCTETS RC. -/
def NAN_TRAP : Nat := 0x4f1001
/-- R276. BOOL RO. -/
def NAN_TRAPPED : Nat := 0x4f1002
/-- R276. U64 RO. -/
def NAN_EVENTS : Nat := 0x4f1003
/-- R312. U8 RO. -/
def PACK_STATE (n : Nat) : Nat := (0x4000 + n) * 256 + 1
/-- R312. OCTETS RW. -/
def MEMBERS (n : Nat) : Nat := (0x4000 + n) * 256 + 2
/-- R312. U8 RW. -/
def RESERVE (n : Nat) : Nat := (0x4000 + n) * 256 + 3
/-- R312. U16 RW. -/
def FIRST_CSEQ (n : Nat) : Nat := (0x4000 + n) * 256 + 4
/-- R312. U16 RW. -/
def HIERARCHY (n : Nat) : Nat := (0x4000 + n) * 256 + 5
/-- R312. U8 WO. -/
def PACK_CMD (n : Nat) : Nat := (0x4000 + n) * 256 + 6
/-- R312. U16 RO. -/
def FRONTIER (n : Nat) : Nat := (0x4000 + n) * 256 + 7
/-- R312. U8 RO. -/
def OPEN_CONTEXTS (n : Nat) : Nat := (0x4000 + n) * 256 + 8
/-- R312. OCTETS RO. -/
def CONTEXTS (n : Nat) : Nat := (0x4000 + n) * 256 + 9
/-- R312. U64 RO. -/
def OPENED (n : Nat) : Nat := (0x4000 + n) * 256 + 10
/-- R312. U64 RO. -/
def COMPLETED_OK (n : Nat) : Nat := (0x4000 + n) * 256 + 11
/-- R312. U32 RO. -/
def FAILED (n : Nat) : Nat := (0x4000 + n) * 256 + 12
/-- R312. U64 RO. -/
def BUSY_NAKS (n : Nat) : Nat := (0x4000 + n) * 256 + 13
/-- R312. OCTETS RO. -/
def LAST_FAILURE (n : Nat) : Nat := (0x4000 + n) * 256 + 14
/-- R313. U16 RO. -/
def PACKS_ACTIVE : Nat := 0x440001
/-- R313. U16 RO. -/
def CONTEXTS_RESERVED : Nat := 0x440002
/-- R313. TICK RWP. -/
def CTX_IDLE_TICKS : Nat := 0x440003
/-- R313. TICK RWP. -/
def HEEL_LEAD_TICKS : Nat := 0x440004
/-- R313. TICK RWP. -/
def COLL_RESEND_TICKS : Nat := 0x440005
/-- R313. TICK RWP. -/
def COLL_RESEND_MAX : Nat := 0x440006
/-- R313. TICK RWP. -/
def BUSY_RETRY_TICKS : Nat := 0x440007
/-- R313. TICK RWP. -/
def BUSY_RETRY_MAX : Nat := 0x440008
/-- R313. U64 RO. -/
def INACTIVE_DROPS : Nat := 0x440009
/-- R313. U64 RO. -/
def FOREIGN_DROPS : Nat := 0x44000a
/-- R313. U64 RO. -/
def NO_RECORD_DROPS : Nat := 0x44000b
/-- R313. U64 RO. -/
def PROVISIONAL_DROPS : Nat := 0x44000c
/-- R313. U64 RO. -/
def DUPLICATES : Nat := 0x44000d
/-- R313. U64 RO. -/
def STALE_DROPS : Nat := 0x44000e
/-- R313. U64 RO. -/
def WINDOW_DROPS : Nat := 0x44000f
/-- R313. U32 RO. -/
def MISMATCHES : Nat := 0x440010
/-- R313. U16 RW. -/
def CTX_SELECT : Nat := 0x441001
/-- R313. OCTETS RO. -/
def CTX_STATUS : Nat := 0x441002
/-- R343. U8 RWP. -/
def SPILL_POLICY : Nat := 0x450001
/-- R343. U8 RWP. -/
def FRAME_QUOTA : Nat := 0x450002
/-- R343. U32 RWP. -/
def SPILL_REGION_MIB : Nat := 0x450003
/-- R343. OCTETS RC. -/
def CHECK_FAIL_LAST : Nat := 0x450004
/-- R343. U32 RO. -/
def CHECK_FAILS : Nat := 0x450005
/-- R344. U8 RO. -/
def FRAMES_FREE (n : Nat) : Nat := (0x4520 + n) * 256 + 1
/-- R344. U8 RC. -/
def FRAMES_LOW (n : Nat) : Nat := (0x4520 + n) * 256 + 2
/-- R344. U64 RO. -/
def PASSES (n : Nat) : Nat := (0x4520 + n) * 256 + 3
/-- R344. U64 RO. -/
def CHUNKS_RELEASED (n : Nat) : Nat := (0x4520 + n) * 256 + 4
/-- R344. U64 RO. -/
def CELLS_LOGGED (n : Nat) : Nat := (0x4520 + n) * 256 + 5
/-- R344. U64 RO. -/
def CHUNKS_RESTORED (n : Nat) : Nat := (0x4520 + n) * 256 + 6
/-- R344. U32 RO. -/
def LOG_RECORDS (n : Nat) : Nat := (0x4520 + n) * 256 + 7
/-- R344. U32 RO. -/
def UNIT_CHECK_FAILS (n : Nat) : Nat := (0x4520 + n) * 256 + 8
/-- R344. U32 RO. -/
def STORE_FULLS (n : Nat) : Nat := (0x4520 + n) * 256 + 9
/-- R344. U8 RO. -/
def PROVISIONAL_FRAMES (n : Nat) : Nat := (0x4520 + n) * 256 + 10
/-- R377. TICK RWP. -/
def SPAN_LEAD_TICKS : Nat := 0x460001
/-- R377. TICK RWP. -/
def SPAN_RESEND_TICKS : Nat := 0x460002
/-- R377. TICK RWP. -/
def SPAN_RESEND_MAX : Nat := 0x460003
/-- R377. U32 RO. -/
def SEND_LOG_RECORDS : Nat := 0x460004
/-- R377. U64 RO. -/
def PARTIALS_SENT : Nat := 0x460005
/-- R377. U64 RO. -/
def PARTIALS_ACCEPTED : Nat := 0x460006
/-- R377. U64 RO. -/
def PARTIAL_RESENDS : Nat := 0x460007
/-- R377. U64 RO. -/
def CHUNKS_RELAYED : Nat := 0x460008
/-- R377. U32 RO. -/
def HEEL_LATE_RELAYS : Nat := 0x460009
/-- R377. TICK RWP. -/
def TIME_PERIOD_TICKS : Nat := 0x463001
/-- R377. BOOL RWP. -/
def TIME_ROOT : Nat := 0x463002
/-- R377. U8 RWP. -/
def TIME_PARENT_PORT : Nat := 0x463003
/-- R377. I32 RWP. -/
def TIME_ASYM : Nat := 0x463004
/-- R377. U32 RO. -/
def TIME_DELAY : Nat := 0x463005
/-- R377. BOOL RO. -/
def TIME_ALIGNED : Nat := 0x463006
/-- R377. U16 RWP. -/
def TIME_ALIGN_TOL : Nat := 0x463007
/-- R377. I64 RO. -/
def TIME_OFFSET : Nat := 0x463008
/-- R377. OCTETS RW. -/
def EF_TABLE : Nat := 0x464001
/-- R377. U32 RWP. -/
def EF_REGION_MIB : Nat := 0x464002
/-- R377. U64 RO. -/
def EF_ABSENT : Nat := 0x464003
/-- R377. OCTETS RW. -/
def HIER_RECORD (n : Nat) : Nat := (0x4700 + n) * 256 + 1
/-- R377. U16 RO. -/
def HIER_USERS (n : Nat) : Nat := (0x4700 + n) * 256 + 2
/-- R415. BITS32 RO. -/
def CLUSTER_MAP : Nat := 0x500001
/-- R415. U16 RO. -/
def ENGINES : Nat := 0x500002
/-- R415. U64 RO. -/
def PRODUCTS_DONE : Nat := 0x500003
/-- R415. U64 RO. -/
def PROMOTED_RANGES : Nat := 0x500004
/-- R415. U64 RO. -/
def OUT_SATURATIONS : Nat := 0x500005
/-- R415. U64 RO. -/
def ENGINE_CYCLES : Nat := 0x500006
/-- R415. U32 RO. -/
def COMPUTE_CHECK_FAILS : Nat := 0x501001
/-- R415. OCTETS RC. -/
def COMPUTE_CHECK_LAST : Nat := 0x501002
/-- R415. U32 WO. -/
def COMPUTE_INJECT : Nat := 0x501003
/-- R415. U16 RO. -/
def COMPUTE_INJECT_LEFT : Nat := 0x501004
/-- R415. OCTETS RW. -/
def BINDINGS : Nat := 0x510001
/-- R415. U32 RO. -/
def BINDING_MISSES : Nat := 0x510002
/-- R416. U16 RW. -/
def WHISTLE_SELECT : Nat := 0x530001
/-- R416. OCTETS RW. -/
def WHISTLE_DESC : Nat := 0x530002
/-- R416. U32 RW. -/
def WHISTLE_COUNT : Nat := 0x530003
/-- R416. U64 RO. -/
def WHISTLE_FIRES : Nat := 0x530004
/-- R416. U8 WO. -/
def WHISTLE_CMD : Nat := 0x530005
/-- R416. U8 RO. -/
def WHISTLE_STATE : Nat := 0x530006
/-- R416. U16 RC. -/
def QUEUE_PEAK : Nat := 0x530007
/-- R416. U32 RO. -/
def WHISTLE_OVERFLOWS : Nat := 0x530008
/-- R416. U16 RO. -/
def LAST_ACTION_FAIL : Nat := 0x530009
/-- R454. U8 RW. -/
def CHAIN_SLOT : Nat := 0x520001
/-- R454. U64 RW. -/
def CHAIN_ADDR : Nat := 0x520002
/-- R454. U8 WO. -/
def CHAIN_CMD : Nat := 0x520003
/-- R454. U8 RO. -/
def CHAIN_STATUS : Nat := 0x520004
/-- R454. U32 RO. -/
def CHAIN_ID : Nat := 0x520005
/-- R454. U8 RO. -/
def LOAD_ERROR : Nat := 0x520006
/-- R454. U64 RW. -/
def INIT_STEP : Nat := 0x520007
/-- R454. U64 RO. -/
def COMMITTED_STEP : Nat := 0x520008
/-- R454. U16 RO. -/
def SLOT_STATES : Nat := 0x520009
/-- R454. U16 RO. -/
def CHAIN_USERS : Nat := 0x52000a
/-- R454. OCTETS WO. -/
def STEP_CMD : Nat := 0x521001
/-- R454. U64 RO. -/
def INVOCATIONS : Nat := 0x522001
/-- R454. U32 RO. -/
def STASHED_CHUNKS : Nat := 0x522002
/-- R454. U64 RO. -/
def DROPPED_CHOICES : Nat := 0x522003
/-- R454. U32 RO. -/
def SQUARE_OVERFLOWS : Nat := 0x522004
/-- R454. U32 RO. -/
def KFAC_SKIPS : Nat := 0x522005
/-- R454. U32 RO. -/
def LAST_CLIP_COEFF : Nat := 0x522006
/-- R477. U8 RW. -/
def PROG_SLOT : Nat := 0x540001
/-- R477. OCTETS RW. -/
def PROG_IMAGE : Nat := 0x540002
/-- R477. U8 WO. -/
def PROG_CMD : Nat := 0x540003
/-- R477. U8 RO. -/
def PROG_STATUS : Nat := 0x540004
/-- R477. U32 RO. -/
def PROG_ID : Nat := 0x540005
/-- R477. U8 RO. -/
def PROG_LOAD_ERROR : Nat := 0x540006
/-- R477. U16 RO. -/
def PROG_USERS : Nat := 0x540007
/-- R477. U64 RO. -/
def PROG_ELEMENTS : Nat := 0x540008
/-- R505. OCTETS RO. -/
def HOST_MAC : Nat := 0x600001
/-- R505. OCTETS RWP. -/
def HOST_IPV6 : Nat := 0x600002
/-- R505. U8 RO. -/
def HOST_MODE : Nat := 0x600003
/-- R505. U8 RWP. -/
def HOST_MAX_MODE : Nat := 0x600004
/-- R505. U8 RWP. -/
def HOST_PATH_MTU : Nat := 0x600005
/-- R505. U64 RO. -/
def HOST_FRAMES : Nat := 0x600006
/-- R505. U64 RO. -/
def HOST_DROPS : Nat := 0x600007
/-- R505. U32 RO. -/
def ICRC_ERRORS : Nat := 0x600008
/-- R505. U64 RO. -/
def CNP_SENT : Nat := 0x600009
/-- R505. U8 RW. -/
def QP_STATE (n : Nat) : Nat := (0x6040 + n) * 256 + 1
/-- R505. U8 RW. -/
def QP_KIND (n : Nat) : Nat := (0x6040 + n) * 256 + 2
/-- R505. U32 RW. -/
def REMOTE_QPN (n : Nat) : Nat := (0x6040 + n) * 256 + 3
/-- R505. OCTETS RW. -/
def REMOTE_GID (n : Nat) : Nat := (0x6040 + n) * 256 + 4
/-- R505. U32 RW. -/
def SQ_PSN (n : Nat) : Nat := (0x6040 + n) * 256 + 5
/-- R505. U32 RW. -/
def RQ_PSN (n : Nat) : Nat := (0x6040 + n) * 256 + 6
/-- R505. TICK RW. -/
def RETRY_TICKS (n : Nat) : Nat := (0x6040 + n) * 256 + 7
/-- R505. U8 RW. -/
def RETRY_COUNT (n : Nat) : Nat := (0x6040 + n) * 256 + 8
/-- R505. U8 RW. -/
def RNR_RETRY (n : Nat) : Nat := (0x6040 + n) * 256 + 9
/-- R505. U16 RO. -/
def QP_RATE (n : Nat) : Nat := (0x6040 + n) * 256 + 10
/-- R505. U32 RO. -/
def QP_ERRORS (n : Nat) : Nat := (0x6040 + n) * 256 + 11
/-- R505. U64 RW. -/
def WIN_BASE (n : Nat) : Nat := (0x6080 + n) * 256 + 1
/-- R505. U64 RW. -/
def WIN_LENGTH (n : Nat) : Nat := (0x6080 + n) * 256 + 2
/-- R505. U32 RW. -/
def WIN_RKEY (n : Nat) : Nat := (0x6080 + n) * 256 + 3
/-- R505. U8 RW. -/
def WIN_ACCESS (n : Nat) : Nat := (0x6080 + n) * 256 + 4
/-- R505. U16 RO. -/
def BRIDGE_WAITING : Nat := 0x609001
/-- R505. U64 RO. -/
def BRIDGE_SENT : Nat := 0x609002
/-- R505. U32 RO. -/
def BRIDGE_FAILED : Nat := 0x609003
/-- R505. U64 RO. -/
def BRIDGE_RNR : Nat := 0x609004
/-- R506. U64 WO. -/
def DMA_START (n : Nat) : Nat := (0x6100 + n) * 256 + 1
/-- R506. U8 RO. -/
def DMA_STATE (n : Nat) : Nat := (0x6100 + n) * 256 + 2
/-- R506. U8 WO. -/
def DMA_CMD (n : Nat) : Nat := (0x6100 + n) * 256 + 3
/-- R506. U32 RW. -/
def EOC_COUNT (n : Nat) : Nat := (0x6100 + n) * 256 + 4
/-- R506. U64 RW. -/
def PACE_HIGH (n : Nat) : Nat := (0x6100 + n) * 256 + 5
/-- R506. U64 RW. -/
def PACE_LOW (n : Nat) : Nat := (0x6100 + n) * 256 + 6
/-- R506. U64 RO. -/
def PRODUCED (n : Nat) : Nat := (0x6100 + n) * 256 + 7
/-- R506. U64 RW. -/
def CONSUMED (n : Nat) : Nat := (0x6100 + n) * 256 + 8
/-- R506. U8 RO. -/
def DMA_ERROR_CODE (n : Nat) : Nat := (0x6100 + n) * 256 + 9
/-- R506. OCTETS RC. -/
def DMA_ERROR_AT (n : Nat) : Nat := (0x6100 + n) * 256 + 10
/-- R506. U64 RO. -/
def EOC_EVENTS (n : Nat) : Nat := (0x6100 + n) * 256 + 11
/-- R506. U64 RO. -/
def DMA_BYTES (n : Nat) : Nat := (0x6100 + n) * 256 + 12
/-- R506. U64 RO. -/
def GENERAL_TOP : Nat := 0x620001
/-- R506. U32 RWP. -/
def LEDGER_REGION_MIB : Nat := 0x620002
/-- R506. U64 RO. -/
def LEDGER_NEXT_SEQ : Nat := 0x621001
/-- R506. U64 RW. -/
def LEDGER_READ : Nat := 0x621002
/-- R506. U64 RO. -/
def LEDGER_CAPACITY : Nat := 0x621003
/-- R506. U32 RO. -/
def LEDGER_OVERRUNS : Nat := 0x621004
/-- R506. BOOL RWP. -/
def SCRUB_ENABLE : Nat := 0x622001
/-- R506. TICK RWP. -/
def SCRUB_PASS_TICKS : Nat := 0x622002
/-- R506. U32 RO. -/
def HBM_CORRECTED : Nat := 0x622003
/-- R506. U32 RO. -/
def HBM_UNCORRECTED : Nat := 0x622004
/-- R506. U64 RO. -/
def LAST_HBM_UE : Nat := 0x622005
/-- R506. U32 RO. -/
def PAGE_CHECK_FAILS : Nat := 0x622006
/-- R506. U64 RO. -/
def SCRUB_PASSES : Nat := 0x622007
/-- R547. OCTETS RO. -/
def FATAL_RECORD : Nat := 0x700001
/-- R547. OCTETS RO. -/
def UNC_RECORD : Nat := 0x700002
/-- R547. OCTETS RO. -/
def CORR_RECORD : Nat := 0x700003
/-- R547. U64 WO. -/
def FAULT_ACK : Nat := 0x700004
/-- R547. BOOL RO. -/
def FENCED : Nat := 0x700005
/-- R547. TICK RWP. -/
def ESCALATE_CORR_TICKS : Nat := 0x700006
/-- R547. TICK RWP. -/
def ESCALATE_UNC_TICKS : Nat := 0x700007
/-- R547. BITS32 RWP. -/
def CORR_MASK : Nat := 0x700008
/-- R547. U32 RO. -/
def FATAL_FAULTS : Nat := 0x700009
/-- R547. U32 RO. -/
def UNC_FAULTS : Nat := 0x70000a
/-- R547. U32 RO. -/
def CORR_FAULTS : Nat := 0x70000b
/-- R547. U32 RO. -/
def ESCALATIONS : Nat := 0x70000c
/-- R547. OCTETS RO. -/
def BARK_LOG : Nat := 0x701001
/-- R547. U64 RO. -/
def BARKS : Nat := 0x701002
/-- R547. OCTETS RW. -/
def INT_ENABLE : Nat := 0x702001
/-- R547. OCTETS RC. -/
def INT_PENDING : Nat := 0x702002
/-- R547. OCTETS RC. -/
def INT_COUNTS : Nat := 0x702003
/-- R547. OCTETS RO. -/
def INT_SATURATED : Nat := 0x702004
/-- R547. OCTETS RC. -/
def LINK_CHANGED : Nat := 0x702005
/-- R547. U32 WO. -/
def FAULT_INJECT : Nat := 0x704001
/-- R547. U16 RO. -/
def FAULT_INJECT_LEFT : Nat := 0x704002
/-- R547. TICK RWP. -/
def HKP_WATCHDOG_TICKS : Nat := 0x705001
/-- R547. U32 RO. -/
def HKP_RESTARTS : Nat := 0x705002
/-- R548. TICK RWP. -/
def HOLDOFF_TICKS (n : Nat) : Nat := (0x7030 + n) * 256 + 1
/-- R548. BITS32 RWP. -/
def DELIVERY (n : Nat) : Nat := (0x7030 + n) * 256 + 2
/-- R548. U8 RW. -/
def INT_QP (n : Nat) : Nat := (0x7030 + n) * 256 + 3
/-- R548. U32 RW. -/
def INT_RKEY (n : Nat) : Nat := (0x7030 + n) * 256 + 4
/-- R548. U64 RW. -/
def INT_ADDR (n : Nat) : Nat := (0x7030 + n) * 256 + 5
/-- R548. U64 RO. -/
def DELIVERIES (n : Nat) : Nat := (0x7030 + n) * 256 + 6
/-- R548. U32 RO. -/
def DELIVERY_FAILS (n : Nat) : Nat := (0x7030 + n) * 256 + 7
/-- R574. TICK RO. -/
def TICK_NOW : Nat := 0x800001
/-- R574. U32 WO. -/
def COUNTER_CLEAR : Nat := 0x800002
/-- R574. BOOL RO. -/
def ANY_SATURATED : Nat := 0x801001
/-- R574. OCTETS RO. -/
def SATURATED_LIST : Nat := 0x801002
/-- R574. U64 RO. -/
def SATURATION_EVENTS : Nat := 0x801003
/-- R574. BOOL RO. -/
def LIST_FULL : Nat := 0x801004
/-- R574. OCTETS WO. -/
def SNAP_CMD : Nat := 0x802001
/-- R574. U8 RO. -/
def SNAP_STATE : Nat := 0x802002
/-- R574. OCTETS RO. -/
def SNAP_HELD : Nat := 0x802003
/-- R574. OCTETS RW. -/
def SHADOW_SELECT : Nat := 0x802004
/-- R574. OCTETS RO. -/
def SHADOW_VALUE : Nat := 0x802005
/-- R574. U16 RO. -/
def SNAP_EP_TAKEN : Nat := 0x802006
/-- R574. OCTETS RO. -/
def SNAP_EP_LATE : Nat := 0x802007
/-- R574. U64 RO. -/
def SNAPS_TAKEN : Nat := 0x802008
/-- R574. BOOL RWP. -/
def MAP_ENABLE : Nat := 0x803001
/-- R574. TICK RWP. -/
def MAP_PERIOD_TICKS : Nat := 0x803002
/-- R574. U64 RWP. -/
def MAP_ADDR : Nat := 0x803003
/-- R574. U16 RWP. -/
def MAP_RECORDS : Nat := 0x803004
/-- R574. OCTETS RO. -/
def MAP_LATEST_0 : Nat := 0x803005
/-- R574. OCTETS RO. -/
def MAP_LATEST_1 : Nat := 0x803006
/-- R574. U64 RO. -/
def MAPS_WRITTEN : Nat := 0x803007
/-- R574. U32 RO. -/
def MAPS_SKIPPED : Nat := 0x803008
/-- R574. U8 RWP. -/
def SAMPLE_SHIFT : Nat := 0x804001
/-- R574. OCTETS RWP. -/
def SAMPLE_PORTS : Nat := 0x804002
/-- R574. U8 RWP. -/
def SAMPLE_DIR : Nat := 0x804003
/-- R574. BITS32 RWP. -/
def SAMPLE_CLASSES : Nat := 0x804004
/-- R574. OCTETS RC. -/
def SAMPLE_RING : Nat := 0x804005
/-- R574. U64 RO. -/
def SAMPLES_TAKEN : Nat := 0x804006
/-- R574. U32 RO. -/
def SAMPLES_DROPPED : Nat := 0x804007
/-- R574. U32 RO. -/
def SAMPLES_LOST : Nat := 0x804008
/-- R597. U8 RO. -/
def PROFILE_PINS : Nat := 0xa00001
/-- R597. U8 MZ. -/
def PROFILE_OVERRIDE : Nat := 0xa00002
/-- R597. U8 RO. -/
def ACTIVE_PROFILE : Nat := 0xa00003
/-- R597. U8 RO. -/
def ACTIVE_GEN : Nat := 0xa00004
/-- R597. U8 MZ. -/
def PROFILE_CMD : Nat := 0xa00005
/-- R597. U8 RO. -/
def BURN_STATE : Nat := 0xa00006
/-- R597. OCTETS RO. -/
def PROFILE_GENS : Nat := 0xa00007
/-- R597. BITS32 RO. -/
def PROFILE_FROZEN : Nat := 0xa00008
/-- R597. U16 RO. -/
def IMAGE_BYTES : Nat := 0xa00009
/-- R597. U32 RO. -/
def APPLY_ERRORS : Nat := 0xa0000a
/-- R597. U32 RO. -/
def APPLY_FIRST : Nat := 0xa0000b
/-- R597. U8 RO. -/
def CLAIM_STATE : Nat := 0xa10001
/-- R597. U8 RW. -/
def KEY_SLOT_SELECT : Nat := 0xa10002
/-- R597. OCTETS RO. -/
def KEY_GENS : Nat := 0xa10003
/-- R597. OCTETS RO. -/
def KEY_HASH : Nat := 0xa10004
/-- R597. OCTETS MZ. -/
def KEY_BURN : Nat := 0xa10005
/-- R597. OCTETS RW. -/
def OWNER_PUBKEY : Nat := 0xa10006
/-- R597. OCTETS RO. -/
def FW_INFO_A : Nat := 0xa40001
/-- R597. OCTETS RO. -/
def FW_INFO_B : Nat := 0xa40002
/-- R597. U32 MZ. -/
def FW_OFFSET : Nat := 0xa40003
/-- R597. OCTETS MZ. -/
def FW_DATA : Nat := 0xa40004
/-- R597. U8 MZ. -/
def FW_CMD : Nat := 0xa40005
/-- R597. U8 RO. -/
def FW_STATUS : Nat := 0xa40006
/-- R597. U8 RO. -/
def ROLLBACK_COUNTER : Nat := 0xa40007
/-- R597. TICK RWP. -/
def FW_TRIAL_TICKS : Nat := 0xa40008
/-- R597. OCTETS RO. -/
def IDENTITY_PUBKEY : Nat := 0xa50001
/-- R597. OCTETS RO. -/
def CERT_CHAIN : Nat := 0xa50002
/-- R597. OCTETS WO. -/
def ATTEST_NONCE : Nat := 0xa50003
/-- R597. OCTETS RO. -/
def ATTEST_REPORT : Nat := 0xa50004
/-- R597. U64 RO. -/
def ATTESTS : Nat := 0xa50005
/-- R597. BOOL MZ. -/
def DEBUG_CONSENT : Nat := 0xa60001
/-- R624. U8 RWP. -/
def POWER_CAP : Nat := 0x900001
/-- R624. U16 RO. -/
def CEILING_W : Nat := 0x900002
/-- R624. U32 RO. -/
def INPUT_MV : Nat := 0x900003
/-- R624. U32 RO. -/
def INPUT_MA : Nat := 0x900004
/-- R624. U16 RO. -/
def INPUT_W : Nat := 0x900005
/-- R624. U8 RO. -/
def COMPUTE_STEP : Nat := 0x900006
/-- R624. BOOL RO. -/
def SWITCH_HALVED : Nat := 0x900007
/-- R624. U64 RO. -/
def THROTTLE_WINDOWS : Nat := 0x900008
/-- R624. U8 RWP. -/
def THERMAL_THROTTLE_C : Nat := 0x900009
/-- R624. I32 RO. -/
def TEMP_HOTTEST : Nat := 0x90000a
/-- R624. OCTETS RC. -/
def POWER_EVENT_LAST : Nat := 0x90000b
/-- R624. U8 RO. -/
def CLOCK_STATE : Nat := 0x901001
/-- R624. BOOL RO. -/
def TICK_LOCKED : Nat := 0x901002
/-- R624. U32 RO. -/
def RSYNC_MISMATCHES : Nat := 0x901003
/-- R624. U32 RO. -/
def RSYNC_MISSING : Nat := 0x901004
/-- R624. U32 RO. -/
def HOLDOVERS : Nat := 0x901005
/-- R624. U8 WO. -/
def SLEEP_CMD : Nat := 0x910001
/-- R624. U8 RO. -/
def SLEEP_STATE : Nat := 0x910002
/-- R624. TICK RWP. -/
def AUTO_IDLE_TICKS : Nat := 0x910003
/-- R624. TICK RWP. -/
def AUTO_DOZE_TICKS : Nat := 0x910004
/-- R624. TICK RWP. -/
def KEEPALIVE_DRAIN_TICKS : Nat := 0x910005
/-- R624. OCTETS RO. -/
def LAST_WAKE : Nat := 0x910006
/-- R624. U64 RO. -/
def WAKES : Nat := 0x910007
/-- R624. U32 RO. -/
def SLEEP_ABANDONS : Nat := 0x910008
/-- R624. U8 MZ. -/
def RESET_CMD : Nat := 0x920001
/-- R624. U8 RO. -/
def LAST_RESET : Nat := 0x920002
/-- R624. TICK RO. -/
def RESET_TICK : Nat := 0x920003
/-- R624. U8 RO. -/
def BOOT_STAGE : Nat := 0x920004
/-- R641. U8 RWP. -/
def PLAN_PLANE : Nat := 0x340001
/-- R641. U8 RWP. -/
def PLAN_RACK : Nat := 0x340002
/-- R641. U8 RWP. -/
def PLAN_NX : Nat := 0x340003
/-- R641. U8 RWP. -/
def PLAN_NY : Nat := 0x340004
/-- R641. U8 RWP. -/
def SWAP_POLICY : Nat := 0x340005
/-- R641. BOOL WO. -/
def REMAP_CLEAR : Nat := 0x340006
/-- R641. U16 RO. -/
def PORTS_MATCHED : Nat := 0x340007
/-- R641. U16 RO. -/
def PORTS_ABSENT : Nat := 0x340008
/-- R641. U16 RO. -/
def PORTS_QUARANTINED : Nat := 0x340009
/-- R641. U16 RO. -/
def PORTS_REMAPPED : Nat := 0x34000a
/-- R641. U32 RWP. -/
def COMPAT_EP : Nat := 0x341001
/-- R641. U32 RWP. -/
def COMPAT_TX1 : Nat := 0x341002
/-- R641. U32 RWP. -/
def COMPAT_SX7 : Nat := 0x341003
/-- R641. OCTETS RWP. -/
def PLAN_NEIGHBOUR (n : Nat) : Nat := (0x3500 + n) * 256 + 1
/-- R641. OCTETS RO. -/
def DISCOVERY (n : Nat) : Nat := (0x3500 + n) * 256 + 2
/-- R641. BOOL WO. -/
def RELEASE (n : Nat) : Nat := (0x3500 + n) * 256 + 3
/-- R651. -/
def MODULE_SITE (n : Nat) : Nat := 0x261000 + 1 + n

end Sys2Proof.Machine.E
end

