-- ==== Sys2Proof/Machine/Entries.lean ====
section
/-! DEFINITION. The object dictionary's entries: type, access, default and range of each, one row per
row of the spec's dictionary tables (R36 to R41, R68 and the entry tables of the other chapters). -/

namespace Sys2Proof.Machine

/-- The types of R39. -/
inductive EntryType where
  | bool | u8 | u16 | u32 | u64 | i32 | i64 | tick | bits32 | bits64 | str | octets
  deriving DecidableEq, Repr

/-- The access codes of R40. -/
inductive Access where
  | ro | rw | wo | rwp | rc | mz
  deriving DecidableEq, Repr

/-- One row of a dictionary table. `lane` rows use sub-index 0x10 × L + `sub` (R113). For STR and
OCTETS, `minV` and `maxV` bound the length; for the rest they bound the value, and `alt` is one
further value allowed. `dflt` is the value after the reset that clears the entry (R40). -/
structure EntryRow where
  lo : Nat
  hi : Nat
  sub : Nat
  lane : Bool
  ty : EntryType
  acc : Access
  dflt : Nat
  minV : Nat
  maxV : Nat
  alt : Option Nat
  deriving DecidableEq, Repr

/-- A row whose sub-index is one number. -/
def row (lo hi sub : Nat) (ty : EntryType) (acc : Access) (d mn mx : Nat) (alt : Option Nat) : EntryRow :=
  ⟨lo, hi, sub, false, ty, acc, d, mn, mx, alt⟩

/-- A row of a per-lane entry. -/
def laneRow (lo hi sub : Nat) (ty : EntryType) (acc : Access) (d mn mx : Nat) (alt : Option Nat) : EntryRow :=
  ⟨lo, hi, sub, true, ty, acc, d, mn, mx, alt⟩

/-- The size of a value of a fixed-size type, in bytes (R39). -/
def typeSize (t : EntryType) : Nat :=
  match t with
  | .bool | .u8 => 1
  | .u16 => 2
  | .u32 | .i32 | .bits32 => 4
  | .u64 | .i64 | .tick | .bits64 => 8
  | .str | .octets => 0

/-- Whether a type has a fixed size. -/
def typeFixed (t : EntryType) : Bool :=
  match t with
  | .str | .octets => false
  | _ => true

/-- Entries of 0x1000 to 0x1FFF (R38), part. -/
def rows1a : List EntryRow := [
  row 0x1010 0x1010 1 .str .ro 0 0 0xff none,  -- PART_NUMBER (R6)
  row 0x1010 0x1010 2 .u8 .ro 0 0 0xff none,  -- GRADE (R6)
  row 0x1010 0x1010 3 .u8 .ro 0 0 0xff none,  -- STEPPING (R6)
  row 0x1010 0x1010 4 .octets .ro 0 0x10 0x10 none,  -- SERIAL (R6)
  row 0x1000 0x1000 1 .u16 .ro 1 0 0xffff none,  -- DICT_LAYOUT (R68)
  row 0x1000 0x1000 2 .bits32 .ro 6 0 0xffffffff none,  -- PROTO_VERSIONS (R68)
  row 0x1000 0x1000 3 .u16 .ro 0x400 0 0xffff none,  -- MAX_PAYLOAD (R68)
  row 0x1010 0x1010 5 .str .ro 0 0 0x20 none,  -- FW_VERSION (R68)
  row 0x1010 0x1010 6 .u16 .ro 0 0 0xffff none,  -- FW_COMPAT (R68)
  row 0x1010 0x1010 7 .u8 .ro 0 0 0xff none,  -- FW_SLOT (R68)
  row 0x1020 0x1020 1 .octets .ro 0 6 6 none,  -- T1S_MAC (R68)
  row 0x1020 0x1020 2 .u8 .rwp 1 1 0xfe none,  -- PLCA_NODE_ID (R68)
  row 0x1020 0x1020 3 .u8 .rwp 0x20 0 0xff none,  -- PLCA_TO_TIMER (R68)
  row 0x1020 0x1020 4 .u8 .rwp 0 0 0xff none,  -- PLCA_BURST_COUNT (R68)
  row 0x1020 0x1020 5 .u8 .rwp 0x80 0 0xff none,  -- PLCA_BURST_TIMER (R68)
  row 0x1020 0x1020 6 .octets .ro 0 0x10 0x10 none,  -- T1S_ADDRESS (R68)
  row 0x1020 0x1020 7 .u8 .ro 0 0 0xff none,  -- PLCA_STATUS (R68)
  row 0x1020 0x1020 8 .u32 .ro 0 0 0xffffffff none,  -- PLCA_COLLISIONS (R68)
  row 0x1022 0x1022 1 .bool .rwp 1 0 1 none,  -- INBAND_ENABLE (R68)
  row 0x1022 0x1022 2 .bool .rwp 0 0 1 none,  -- INBAND_V1 (R68)
  row 0x1024 0x1024 1 .tick .rwp 0x59682f00 0x17d7840 0xffffffffffffffff none,  -- SESSION_IDLE_TICKS (R68)
  row 0x1024 0x1024 2 .u8 .ro 0 0 0xff none,  -- SESSIONS_OPEN (R68)
  row 0x1024 0x1024 3 .u32 .ro 0 0 0xffffffff none,  -- CHALLENGE_FAILS (R68)
  row 0x1024 0x1024 4 .bool .wo 0 1 1 none,  -- END_SESSIONS (R68)
  row 0x1028 0x1028 1 .u64 .ro 0 0 0xffffffffffffffff none,  -- FRAMES_RX (R68)
  row 0x1028 0x1028 2 .u64 .ro 0 0 0xffffffffffffffff none,  -- FRAMES_TX (R68)
  row 0x1028 0x1028 3 .u64 .ro 0 0 0xffffffffffffffff none,  -- CACHE_REPLAYS (R68)
  row 0x1028 0x1028 4 .u32 .ro 0 0 0xffffffff none,  -- BAD_FRAMES (R68)
  row 0x1028 0x1028 5 .u32 .ro 0 0 0xffffffff none,  -- NOTIFY_LOST (R68)
  row 0x1030 0x1030 1 .octets .rw 0 0x12 0x12 none,  -- NOTIFY_DEST_0 (R68)
  row 0x1030 0x1030 2 .octets .rw 0 0x12 0x12 none,  -- NOTIFY_DEST_1 (R68)
  row 0x1030 0x1030 3 .octets .rw 0 0x12 0x12 none,  -- NOTIFY_DEST_2 (R68)
  row 0x1030 0x1030 4 .octets .rw 0 0x12 0x12 none,  -- NOTIFY_DEST_3 (R68)
  row 0x1030 0x1030 5 .bits32 .rw 0 0 0xffff none  -- NOTIFY_MASK (R68)
  ]

/-- Entries of 0x2000 to 0x2FFF (R38), part. -/
def rows2a : List EntryRow := [
  row 0x2000 0x2000 1 .bool .rwp 1 0 1 none,  -- LANE_AUTO_RATE (R111)
  row 0x2000 0x2000 2 .u8 .rwp 0x18 0 0xff none,  -- MARGIN_LOW (R111)
  row 0x2000 0x2000 3 .u8 .rwp 0x60 0 0xff none,  -- MARGIN_RESTORE_100 (R111)
  row 0x2000 0x2000 4 .tick .rwp 0x61a8 0 0xffffffffffffffff none,  -- DROP_HOLD_TICKS (R111)
  row 0x2000 0x2000 5 .tick .rwp 0x2625a0 0 0xffffffffffffffff none,  -- RESTORE_HOLD_TICKS (R111)
  row 0x2000 0x2000 6 .tick .rwp 0x3d090 0 0xffffffffffffffff none,  -- RESTORE_TRIAL_TICKS (R111)
  row 0x2000 0x2000 7 .tick .rwp 0x59682f00 0 0xffffffffffffffff none,  -- RESTORE_BACKOFF_MAX (R111)
  row 0x2000 0x2000 8 .u16 .rwp 4 1 0xffff none,  -- FEC_UNCORR_LIMIT (R111)
  row 0x2001 0x2001 1 .bool .rwp 1 0 1 none,  -- PEAK_ADAPT (R111)
  row 0x2001 0x2001 2 .tick .rwp 0x3d090 0 0xffffffffffffffff none,  -- PEAK_PERIOD_TICKS (R111)
  row 0x2001 0x2001 3 .tick .rwp 0x3200 0 0xffffffffffffffff none,  -- PEAK_WATCH_TICKS (R111)
  row 0x2001 0x2001 4 .u8 .rwp 2 0 0xff none,  -- PEAK_MARGIN_TOL (R111)
  row 0x2001 0x2001 5 .u16 .rwp 1 0 0xffff none,  -- PEAK_RETRY_TOL (R111)
  row 0x2001 0x2001 6 .u8 .rwp 8 0 0xff none,  -- PEAK_BACKOFF_PERIODS (R111)
  row 0x2100 0x21ff 1 .u8 .rwp 0 0 2 none,  -- ELEC_CLASS (R112)
  row 0x2100 0x21ff 2 .u8 .rwp 2 1 2 none,  -- MAX_RATE (R112)
  row 0x2100 0x21ff 3 .u8 .ro 0xe4 0 0xff none,  -- LANE_MAP (R112)
  row 0x2100 0x21ff 4 .bits32 .ro 0 0 0xffffffff none,  -- RX_POLARITY (R112)
  row 0x2100 0x21ff 5 .bits32 .rwp 0 0 0xf none,  -- TX_POLARITY (R112)
  row 0x2100 0x21ff 6 .u16 .ro 0 0 0xffff none,  -- PORT_CAPACITY (R112)
  row 0x2100 0x21ff 7 .bool .ro 0 0 1 none,  -- LANE0_MISWIRED (R112)
  row 0x2100 0x21ff 8 .u8 .ro 0xff 0 0xff none,  -- HANDOVER_LANE (R112)
  laneRow 0x2200 0x22ff 1 .u8 .ro 0 0 0xff none,  -- LANE_STATE (R113)
  laneRow 0x2200 0x22ff 2 .u8 .ro 0 0 0xff none,  -- LANE_RATE (R113)
  laneRow 0x2200 0x22ff 3 .u8 .ro 0 0 0xff none,  -- MARGIN (R113)
  laneRow 0x2200 0x22ff 4 .u8 .rc 0xff 0 0xff none,  -- MARGIN_MIN (R113)
  laneRow 0x2200 0x22ff 5 .u8 .ro 0 0 0xff none,  -- PEAK_CODE (R113)
  laneRow 0x2200 0x22ff 6 .u64 .ro 0 0 0xffffffffffffffff none,  -- FEC_CORR_SYMBOLS (R113)
  laneRow 0x2200 0x22ff 7 .u32 .ro 0 0 0xffffffff none,  -- FEC_UNCORR_CW (R113)
  laneRow 0x2200 0x22ff 8 .u64 .ro 0 0 0xffffffffffffffff none,  -- PEAK_UNDOS (R113)
  laneRow 0x2200 0x22ff 9 .u64 .ro 0 0 0xffffffffffffffff none,  -- RATE_DROPS (R113)
  laneRow 0x2200 0x22ff 0xa .u64 .ro 0 0 0xffffffffffffffff none,  -- RATE_RESTORES (R113)
  laneRow 0x2200 0x22ff 0xb .u32 .ro 0 0 0xffffffff none,  -- LOS_EVENTS (R113)
  laneRow 0x2200 0x22ff 0xc .u32 .ro 0 0 0xffffffff none,  -- LOL_EVENTS (R113)
  laneRow 0x2200 0x22ff 0xd .u8 .rw 0 0 0x1f none,  -- PEAK_SET (R113)
  laneRow 0x2300 0x23ff 1 .u8 .rw 0 0 3 none,  -- TEST_MODE (R114)
  laneRow 0x2300 0x23ff 2 .u8 .rw 6 1 9 none,  -- PATTERN (R114)
  laneRow 0x2300 0x23ff 3 .u64 .rw 0xff00ff00ff00ff 0 0xffffffffffffffff none,  -- USER_PATTERN (R114)
  laneRow 0x2300 0x23ff 4 .u8 .rw 0 0 3 none,  -- LOOP (R114)
  laneRow 0x2300 0x23ff 5 .u64 .ro 0 0 0xffffffffffffffff none  -- CHECK_BITS (R114)
  ]

/-- Entries of 0x2000 to 0x2FFF (R38), part. -/
def rows2b : List EntryRow := [
  laneRow 0x2300 0x23ff 6 .u32 .ro 0 0 0xffffffff none,  -- CHECK_ERRORS (R114)
  laneRow 0x2300 0x23ff 7 .bool .ro 0 0 1 none,  -- CHECK_LOCK (R114)
  laneRow 0x2300 0x23ff 8 .u32 .wo 0 0 0xffffffff none,  -- INJECT (R114)
  laneRow 0x2300 0x23ff 9 .u32 .ro 0 0 0xffffffff none,  -- INJECT_LEFT (R114)
  laneRow 0x2300 0x23ff 0xa .u8 .rw 2 0 2 none,  -- TEST_RATE (R114)
  row 0x2400 0x2400 1 .tick .rwp 0x2625a0 0 0xffffffffffffffff none,  -- ABSENT_TICKS (R162)
  row 0x2400 0x2400 2 .tick .rwp 0x61a8 0 0xffffffffffffffff none,  -- IDENT_TIMEOUT_TICKS (R162)
  row 0x2400 0x2400 3 .tick .rwp 0x1e848 0 0xffffffffffffffff none,  -- LANES_TIMEOUT_TICKS (R162)
  row 0x2400 0x2400 4 .u8 .rwp 8 1 0xff none,  -- REPLAY_LIMIT (R162)
  row 0x2400 0x2400 5 .tick .rwp 0x20 0 0xffffffffffffffff none,  -- REPLAY_TIMEOUT_RACK (R162)
  row 0x2400 0x2400 6 .tick .rwp 0x100 0 0xffffffffffffffff none,  -- REPLAY_TIMEOUT_MODULE (R162)
  row 0x2401 0x2401 1 .u16 .rwp 0x10 4 0x8000 none,  -- GRANT_REQ (R162)
  row 0x2401 0x2401 2 .u16 .rwp 0x10 4 0x8000 none,  -- GRANT_RPL (R162)
  row 0x2401 0x2401 3 .u16 .rwp 0x10 4 0x8000 none,  -- GRANT_FWD (R162)
  row 0x2401 0x2401 4 .u16 .rwp 0x20 4 0x8000 none,  -- GRANT_CUP (R162)
  row 0x2401 0x2401 5 .u16 .rwp 0x20 4 0x8000 none,  -- GRANT_CDN (R162)
  row 0x2401 0x2401 6 .u16 .rwp 0x10 4 0x8000 none,  -- GRANT_CTL (R162)
  row 0x2401 0x2401 7 .u16 .rwp 0x200 0 0x8000 none,  -- GRANT_SHARED (R162)
  row 0x2500 0x25ff 1 .bool .rwp 1 0 1 none,  -- PORT_ENABLE (R163)
  row 0x2500 0x25ff 2 .u8 .ro 0 0 0xff none,  -- PORT_STATE (R163)
  row 0x2500 0x25ff 3 .u8 .ro 0 0 0xff none,  -- FABRIC_LEVEL (R163)
  row 0x2500 0x25ff 4 .octets .ro 0 0x40 0x40 none,  -- PEER_IDENT (R163)
  row 0x2500 0x25ff 5 .tick .ro 0 0 0xffffffffffffffff none,  -- UP_TICK (R163)
  row 0x2500 0x25ff 6 .u64 .ro 0 0 0xffffffffffffffff none,  -- REPLAYS (R163)
  row 0x2500 0x25ff 7 .u64 .ro 0 0 0xffffffffffffffff none,  -- REPLAY_CELLS (R163)
  row 0x2500 0x25ff 8 .u32 .ro 0 0 0xffffffff none,  -- CRC_ERRORS (R163)
  row 0x2500 0x25ff 9 .u32 .ro 0 0 0xffffffff none,  -- MALFORMED (R163)
  row 0x2500 0x25ff 0xa .u32 .ro 0 0 0xffffffff none,  -- CREDIT_VIOLATIONS (R163)
  row 0x2500 0x25ff 0xb .u32 .ro 0 0 0xffffffff none,  -- RECOVERS (R163)
  row 0x2500 0x25ff 0xc .u32 .ro 0 0 0xffffffff none,  -- PORT_LOSSES (R163)
  row 0x2500 0x25ff 0xd .u64 .ro 0 0 0xffffffffffffffff none,  -- GAPS (R163)
  row 0x2500 0x25ff 0xe .bool .wo 0 1 1 none,  -- RETRAIN (R163)
  row 0x2610 0x2610 1 .u16 .rwp 0xe0 0 0xff (some 0xffff),  -- MODULE_SITE_0 (R651)
  row 0x2610 0x2610 2 .u16 .rwp 0xe1 0 0xff (some 0xffff),  -- MODULE_SITE_1 (R651)
  row 0x2610 0x2610 3 .u16 .rwp 0xe2 0 0xff (some 0xffff),  -- MODULE_SITE_2 (R651)
  row 0x2610 0x2610 4 .u16 .rwp 0xe3 0 0xff (some 0xffff),  -- MODULE_SITE_3 (R651)
  row 0x2610 0x2610 5 .u16 .rwp 0xe4 0 0xff (some 0xffff),  -- MODULE_SITE_4 (R651)
  row 0x2610 0x2610 6 .u16 .rwp 0xe5 0 0xff (some 0xffff),  -- MODULE_SITE_5 (R651)
  row 0x2610 0x2610 7 .u16 .rwp 0xe6 0 0xff (some 0xffff),  -- MODULE_SITE_6 (R651)
  row 0x2610 0x2610 8 .u16 .rwp 0xe7 0 0xff (some 0xffff)  -- MODULE_SITE_7 (R651)
  ]

/-- Entries of 0x2000 to 0x2FFF (R38), part. -/
def rows2c : List EntryRow := [
  row 0x2610 0x2610 9 .u16 .rwp 0xe8 0 0xff (some 0xffff),  -- MODULE_SITE_8 (R651)
  row 0x2610 0x2610 0xa .u16 .rwp 0xe9 0 0xff (some 0xffff),  -- MODULE_SITE_9 (R651)
  row 0x2610 0x2610 0xb .u16 .rwp 0xea 0 0xff (some 0xffff),  -- MODULE_SITE_10 (R651)
  row 0x2610 0x2610 0xc .u16 .rwp 0xeb 0 0xff (some 0xffff),  -- MODULE_SITE_11 (R651)
  row 0x2610 0x2610 0xd .u16 .rwp 0xec 0 0xff (some 0xffff),  -- MODULE_SITE_12 (R651)
  row 0x2610 0x2610 0xe .u16 .rwp 0xed 0 0xff (some 0xffff),  -- MODULE_SITE_13 (R651)
  row 0x2610 0x2610 0xf .u16 .rwp 0xee 0 0xff (some 0xffff),  -- MODULE_SITE_14 (R651)
  row 0x2610 0x2610 0x10 .u16 .rwp 0xef 0 0xff (some 0xffff),  -- MODULE_SITE_15 (R651)
  row 0x2610 0x2610 0x11 .u16 .rwp 0xf0 0 0xff (some 0xffff),  -- MODULE_SITE_16 (R651)
  row 0x2610 0x2610 0x12 .u16 .rwp 0xf1 0 0xff (some 0xffff),  -- MODULE_SITE_17 (R651)
  row 0x2610 0x2610 0x13 .u16 .rwp 0xf2 0 0xff (some 0xffff),  -- MODULE_SITE_18 (R651)
  row 0x2610 0x2610 0x14 .u16 .rwp 0xf3 0 0xff (some 0xffff),  -- MODULE_SITE_19 (R651)
  row 0x2610 0x2610 0x15 .u16 .rwp 0xf4 0 0xff (some 0xffff),  -- MODULE_SITE_20 (R651)
  row 0x2610 0x2610 0x16 .u16 .rwp 0xf5 0 0xff (some 0xffff),  -- MODULE_SITE_21 (R651)
  row 0x2610 0x2610 0x17 .u16 .rwp 0xf6 0 0xff (some 0xffff),  -- MODULE_SITE_22 (R651)
  row 0x2610 0x2610 0x18 .u16 .rwp 0xf7 0 0xff (some 0xffff),  -- MODULE_SITE_23 (R651)
  row 0x2610 0x2610 0x19 .u16 .rwp 0xf8 0 0xff (some 0xffff),  -- MODULE_SITE_24 (R651)
  row 0x2610 0x2610 0x1a .u16 .rwp 0xf9 0 0xff (some 0xffff),  -- MODULE_SITE_25 (R651)
  row 0x2610 0x2610 0x1b .u16 .rwp 0xfa 0 0xff (some 0xffff),  -- MODULE_SITE_26 (R651)
  row 0x2610 0x2610 0x1c .u16 .rwp 0xfb 0 0xff (some 0xffff),  -- MODULE_SITE_27 (R651)
  row 0x2610 0x2610 0x1d .u16 .rwp 0xfc 0 0xff (some 0xffff),  -- MODULE_SITE_28 (R651)
  row 0x2610 0x2610 0x1e .u16 .rwp 0xfd 0 0xff (some 0xffff),  -- MODULE_SITE_29 (R651)
  row 0x2610 0x2610 0x1f .u16 .rwp 0xfe 0 0xff (some 0xffff),  -- MODULE_SITE_30 (R651)
  row 0x2610 0x2610 0x20 .u16 .rwp 0xff 0 0xff (some 0xffff)  -- MODULE_SITE_31 (R651)
  ]

/-- Entries of 0x3000 to 0x3FFF (R38), part. -/
def rows3a : List EntryRow := [
  row 0x3000 0x3001 1 .u32 .ro 0xc0000 0 0xffffffff none,  -- FREE_SLOTS (R197)
  row 0x3000 0x3001 2 .u32 .ro 0x8000 0 0xffffffff none,  -- DED_SIZE (R197)
  row 0x3000 0x3001 3 .u32 .ro 0 0 0xffffffff none,  -- STA_SIZE (R197)
  row 0x3000 0x3001 4 .u32 .ro 0 0 0xffffffff none,  -- RPY_SIZE (R197)
  row 0x3000 0x3001 5 .u32 .ro 0 0 0xffffffff none,  -- SHR_SIZE (R197)
  row 0x3000 0x3001 6 .u32 .ro 0 0 0xffffffff none,  -- SHR_USED (R197)
  row 0x3000 0x3001 7 .u32 .rc 0 0 0xffffffff none,  -- SHR_PEAK (R197)
  row 0x3000 0x3001 8 .u32 .ro 0 0 0xffffffff none,  -- STRAY_SLOTS (R197)
  row 0x3000 0x3001 9 .u32 .ro 0 0 0xffffffff none,  -- STRAYS_FOUND (R197)
  row 0x3000 0x3001 0xa .u32 .ro 0 0 0xffffffff none,  -- KENNEL_REFUSALS (R197)
  row 0x3000 0x3001 0xb .u32 .ro 0 0 0xffffffff none,  -- ALLOC_FAILS (R197)
  row 0x3000 0x3001 0xc .u32 .ro 0 0 0xffffffff none,  -- REBUILDS (R197)
  row 0x3000 0x3001 0xd .u64 .ro 0 0 0xffffffffffffffff none,  -- AUDIT_PASSES (R197)
  row 0x3000 0x3001 0xe .u64 .ro 0 0 0xffffffffffffffff none,  -- LAST_REFUSAL (R197)
  row 0x3010 0x3010 1 .tick .rwp 0x2625a0 0x100000 0x40000000 none,  -- STRAY_AGE_TICKS (R198)
  row 0x3010 0x3010 2 .bool .rwp 1 0 1 none,  -- AUDIT_ENABLE (R198)
  row 0x3010 0x3010 3 .bits32 .wo 0 0 3 none,  -- STRAY_RECLAIM (R198)
  row 0x3020 0x3020 1 .u16 .rwp 0x200 0 0xffff none,  -- STA_COMPUTE (R198)
  row 0x3020 0x3020 2 .u16 .rwp 0x400 0 0xffff none,  -- STA_BRIDGE (R198)
  row 0x3020 0x3020 3 .u16 .rwp 0x100 0 0xffff none,  -- STA_HOST (R198)
  row 0x3020 0x3020 4 .u16 .rwp 0x100 0 0xffff none,  -- STA_REDUCE (R198)
  row 0x3030 0x3030 1 .u8 .rwp 2 1 0xff none,  -- WEIGHT_REQ (R198)
  row 0x3030 0x3030 2 .u8 .rwp 4 1 0xff none,  -- WEIGHT_RPL (R198)
  row 0x3030 0x3030 3 .u8 .rwp 2 1 0xff none,  -- WEIGHT_FWD (R198)
  row 0x3030 0x3030 4 .u8 .rwp 8 1 0xff none,  -- WEIGHT_CUP (R198)
  row 0x3030 0x3030 5 .u8 .rwp 8 1 0xff none,  -- WEIGHT_CDN (R198)
  row 0x3040 0x3040 1 .u32 .wo 0 0 0xffffffff none,  -- KENNEL_INJECT (R198)
  row 0x3040 0x3040 2 .u16 .ro 0 0 0xffff none,  -- KENNEL_INJECT_LEFT (R198)
  row 0x3100 0x31ff 1 .u64 .ro 0 0 0xffffffffffffffff none,  -- PUSHED_OUT (R199)
  row 0x3100 0x31ff 2 .u64 .ro 0 0 0xffffffffffffffff none,  -- PUSHOUTS_CAUSED (R199)
  row 0x3100 0x31ff 3 .u64 .ro 0 0 0xffffffffffffffff none,  -- SHARED_DROPS (R199)
  row 0x3100 0x31ff 4 .u32 .ro 0 0 0xffffffff none,  -- SHARED_HELD (R199)
  row 0x3100 0x31ff 5 .u32 .ro 0 0 0xffffffff none,  -- CELLS_HELD (R199)
  row 0x3100 0x31ff 6 .u64 .ro 0 0 0xffffffffffffffff none,  -- FLUSHED (R199)
  row 0x3100 0x31ff 7 .u64 .ro 0 0 0xffffffffffffffff none,  -- MCAST_COPIES (R199)
  row 0x3100 0x31ff 8 .u32 .ro 0 0 0xffffffff none,  -- REPLAY_HELD (R199)
  row 0x3200 0x3200 1 .u8 .ro 0 0 0xff none,  -- INGRESS_EPOCH (R231)
  row 0x3200 0x3200 2 .tick .rw 0 0 0xffffffffffffffff none,  -- FLIP_TICK (R231)
  row 0x3200 0x3200 3 .u8 .ro 0 0 0xff none,  -- FLIP_STATE (R231)
  row 0x3200 0x3200 4 .u32 .ro 0 0 0xffffffff none  -- DRAIN_0 (R231)
  ]

/-- Entries of 0x3000 to 0x3FFF (R38), part. -/
def rows3b : List EntryRow := [
  row 0x3200 0x3200 5 .u32 .ro 0 0 0xffffffff none,  -- DRAIN_1 (R231)
  row 0x3200 0x3200 6 .u8 .ro 1 0 0xff none,  -- BANK_STATE_0 (R231)
  row 0x3200 0x3200 7 .u8 .ro 0 0 0xff none,  -- BANK_STATE_1 (R231)
  row 0x3200 0x3200 8 .tick .ro 0 0 0xffffffffffffffff none,  -- LAST_FLIP_TICK (R231)
  row 0x3200 0x3200 9 .tick .ro 0x52848 0 0xffffffffffffffff none,  -- FLIP_DRAIN_BOUND (R231)
  row 0x3200 0x3200 0xa .u8 .wo 0 0 1 none,  -- BANK_RETIRE (R231)
  row 0x3210 0x3210 1 .tick .rwp 0x18000 0x2000 0x1c000 none,  -- TTL_REQ (R231)
  row 0x3210 0x3210 2 .tick .rwp 0x18000 0x2000 0x1c000 none,  -- TTL_RPL (R231)
  row 0x3210 0x3210 3 .tick .rwp 0x18000 0x2000 0x1c000 none,  -- TTL_FWD (R231)
  row 0x3210 0x3210 4 .tick .rwp 0x18000 0x2000 0x1c000 none,  -- TTL_CUP (R231)
  row 0x3210 0x3210 5 .tick .rwp 0x18000 0x2000 0x1c000 none,  -- TTL_CDN (R231)
  row 0x3210 0x3210 6 .tick .rwp 0x18000 0x2000 0x1c000 none,  -- TTL_CTL (R231)
  row 0x3220 0x3220 1 .u8 .rwp 0x30 0 0xff none,  -- SPRAY_MARGIN_GOOD (R231)
  row 0x3220 0x3220 2 .u16 .rwp 0x40 1 0x1000 none,  -- SPRAY_QUEUE_STEP (R231)
  row 0x3220 0x3220 3 .u16 .rwp 0x100 1 0xffff none,  -- CE_THRESHOLD (R231)
  row 0x3230 0x3230 1 .u16 .rwp 0x40 1 0x100 none,  -- E2E_WINDOW (R231)
  row 0x3230 0x3230 2 .tick .rwp 0x30d4 0x100 0xffffffffffffffff none,  -- E2E_TIMEOUT_TICKS (R231)
  row 0x3230 0x3230 3 .u8 .rwp 8 1 0xff none,  -- E2E_RETRIES (R231)
  row 0x3230 0x3230 4 .u16 .rwp 8 1 0x100 none,  -- LEASH_MIN (R231)
  row 0x3230 0x3230 5 .u16 .rwp 8 1 0x100 none,  -- LEASH_STEP_UP (R231)
  row 0x3230 0x3230 6 .tick .rwp 0x100 0 0xffffffffffffffff none,  -- LEASH_UP_TICKS (R231)
  row 0x3230 0x3230 7 .tick .rwp 0x40 0 0xffffffffffffffff none,  -- LEASH_DOWN_TICKS (R231)
  row 0x3300 0x3300 1 .octets .rw 0 0x200 0x200 none,  -- ROUTE_LOCAL_0 (R231)
  row 0x3301 0x3301 1 .octets .rw 0 0x200 0x200 none,  -- ROUTE_LOCAL_1 (R231)
  row 0x3300 0x3300 2 .octets .rw 0 0x200 0x200 none,  -- ROUTE_RACK_0 (R231)
  row 0x3301 0x3301 2 .octets .rw 0 0x200 0x200 none,  -- ROUTE_RACK_1 (R231)
  row 0x3300 0x3300 3 .octets .rw 0 0x84 0x84 none,  -- RING_GROUPS_0 (R231)
  row 0x3301 0x3301 3 .octets .rw 0 0x84 0x84 none,  -- RING_GROUPS_1 (R231)
  row 0x3250 0x3251 1 .u64 .ro 0 0 0xffffffffffffffff none,  -- ROUTED (R231)
  row 0x3250 0x3251 2 .u32 .ro 0 0 0xffffffff none,  -- EXPIRED (R231)
  row 0x3250 0x3251 3 .u32 .ro 0 0 0xffffffff none,  -- NO_ROUTE (R231)
  row 0x3250 0x3251 4 .u32 .ro 0 0 0xffffffff none,  -- MISROUTED (R231)
  row 0x3250 0x3251 5 .u32 .ro 0 0 0xffffffff none,  -- STALE_EPOCH (R231)
  row 0x3250 0x3251 6 .u64 .ro 0 0 0xffffffffffffffff none,  -- CE_MARKED (R231)
  row 0x3250 0x3251 7 .u32 .ro 0 0 0xffffffff none,  -- DRAIN_STUCK (R231)
  row 0x3250 0x3251 8 .u64 .ro 0 0 0xffffffffffffffff none,  -- SELF_REQUESTS (R231)
  row 0x3400 0x3400 1 .u8 .rwp 0 0 0xf none,  -- PLAN_PLANE (R641)
  row 0x3400 0x3400 2 .u8 .rwp 0 0 0xff none,  -- PLAN_RACK (R641)
  row 0x3400 0x3400 3 .u8 .rwp 1 1 0x10 none,  -- PLAN_NX (R641)
  row 0x3400 0x3400 4 .u8 .rwp 1 1 0x10 none  -- PLAN_NY (R641)
  ]

/-- Entries of 0x3000 to 0x3FFF (R38), part. -/
def rows3c : List EntryRow := [
  row 0x3400 0x3400 5 .u8 .rwp 0 0 1 none,  -- SWAP_POLICY (R641)
  row 0x3400 0x3400 6 .bool .wo 0 1 1 none,  -- REMAP_CLEAR (R641)
  row 0x3400 0x3400 7 .u16 .ro 0 0 0xffff none,  -- PORTS_MATCHED (R641)
  row 0x3400 0x3400 8 .u16 .ro 0 0 0xffff none,  -- PORTS_ABSENT (R641)
  row 0x3400 0x3400 9 .u16 .ro 0 0 0xffff none,  -- PORTS_QUARANTINED (R641)
  row 0x3400 0x3400 0xa .u16 .ro 0 0 0xffff none,  -- PORTS_REMAPPED (R641)
  row 0x3410 0x3410 1 .u32 .rwp 0xffff 0 0xffffffff none,  -- COMPAT_EP (R641)
  row 0x3410 0x3410 2 .u32 .rwp 0xffff 0 0xffffffff none,  -- COMPAT_TX1 (R641)
  row 0x3410 0x3410 3 .u32 .rwp 0xffff 0 0xffffffff none,  -- COMPAT_SX7 (R641)
  row 0x3500 0x35ff 1 .octets .rwp 0 0x18 0x18 none,  -- PLAN_NEIGHBOUR (R641)
  row 0x3500 0x35ff 2 .octets .ro 0 0x10 0x10 none,  -- DISCOVERY (R641)
  row 0x3500 0x35ff 3 .bool .wo 0 1 1 none  -- RELEASE (R641)
  ]

/-- Entries of 0x4000 to 0x4FFF (R38), part. -/
def rows4a : List EntryRow := [
  row 0x4f00 0x4f00 1 .u8 .rwp 3 0 0x10 none,  -- PROMOTE_SHIFT_B4 (R276)
  row 0x4f00 0x4f00 2 .u8 .rwp 1 0 0x10 none,  -- PROMOTE_SHIFT_T2 (R276)
  row 0x4f00 0x4f00 3 .u8 .rwp 0 0 1 none,  -- E4M3_OVERFLOW (R276)
  row 0x4f00 0x4f00 4 .u8 .rwp 0 0 1 none,  -- NAN_POLICY (R276)
  row 0x4f00 0x4f00 5 .octets .rw 0 0x10 0x10 none,  -- JOB_SEED (R276)
  row 0x4f10 0x4f10 1 .octets .rc 0 0x20 0x20 none,  -- NAN_TRAP (R276)
  row 0x4f10 0x4f10 2 .bool .ro 0 0 1 none,  -- NAN_TRAPPED (R276)
  row 0x4f10 0x4f10 3 .u64 .ro 0 0 0xffffffffffffffff none,  -- NAN_EVENTS (R276)
  row 0x4000 0x43ff 1 .u8 .ro 0 0 0xff none,  -- PACK_STATE (R312)
  row 0x4000 0x43ff 2 .octets .rw 0 0x20 0x20 none,  -- MEMBERS (R312)
  row 0x4000 0x43ff 3 .u8 .rw 2 2 8 none,  -- RESERVE (R312)
  row 0x4000 0x43ff 4 .u16 .rw 0 0 0xffff none,  -- FIRST_CSEQ (R312)
  row 0x4000 0x43ff 5 .u16 .rw 0 0 0xffff none,  -- HIERARCHY (R312)
  row 0x4000 0x43ff 6 .u8 .wo 0 1 3 none,  -- PACK_CMD (R312)
  row 0x4000 0x43ff 7 .u16 .ro 0 0 0xffff none,  -- FRONTIER (R312)
  row 0x4000 0x43ff 8 .u8 .ro 0 0 0xff none,  -- OPEN_CONTEXTS (R312)
  row 0x4000 0x43ff 9 .octets .ro 0 0 0x10 none,  -- CONTEXTS (R312)
  row 0x4000 0x43ff 0xa .u64 .ro 0 0 0xffffffffffffffff none,  -- OPENED (R312)
  row 0x4000 0x43ff 0xb .u64 .ro 0 0 0xffffffffffffffff none,  -- COMPLETED_OK (R312)
  row 0x4000 0x43ff 0xc .u32 .ro 0 0 0xffffffff none,  -- FAILED (R312)
  row 0x4000 0x43ff 0xd .u64 .ro 0 0 0xffffffffffffffff none,  -- BUSY_NAKS (R312)
  row 0x4000 0x43ff 0xe .octets .ro 0 0x40 0x40 none,  -- LAST_FAILURE (R312)
  row 0x4400 0x4400 1 .u16 .ro 0 0 0xffff none,  -- PACKS_ACTIVE (R313)
  row 0x4400 0x4400 2 .u16 .ro 0 0 0xffff none,  -- CONTEXTS_RESERVED (R313)
  row 0x4400 0x4400 3 .tick .rwp 0xee6b280 0x17d7840 0xffffffffffffffff none,  -- CTX_IDLE_TICKS (R313)
  row 0x4400 0x4400 4 .tick .rwp 0x20 8 0x1000 none,  -- HEEL_LEAD_TICKS (R313)
  row 0x4400 0x4400 5 .tick .rwp 0x61a8 0x100 0xffffffffffffffff none,  -- COLL_RESEND_TICKS (R313)
  row 0x4400 0x4400 6 .tick .rwp 0x2625a0 0 0xffffffffffffffff none,  -- COLL_RESEND_MAX (R313)
  row 0x4400 0x4400 7 .tick .rwp 0x100 0x10 0xffffffffffffffff none,  -- BUSY_RETRY_TICKS (R313)
  row 0x4400 0x4400 8 .tick .rwp 0x61a8 0 0xffffffffffffffff none,  -- BUSY_RETRY_MAX (R313)
  row 0x4400 0x4400 9 .u64 .ro 0 0 0xffffffffffffffff none,  -- INACTIVE_DROPS (R313)
  row 0x4400 0x4400 0xa .u64 .ro 0 0 0xffffffffffffffff none,  -- FOREIGN_DROPS (R313)
  row 0x4400 0x4400 0xb .u64 .ro 0 0 0xffffffffffffffff none,  -- NO_RECORD_DROPS (R313)
  row 0x4400 0x4400 0xc .u64 .ro 0 0 0xffffffffffffffff none,  -- PROVISIONAL_DROPS (R313)
  row 0x4400 0x4400 0xd .u64 .ro 0 0 0xffffffffffffffff none,  -- DUPLICATES (R313)
  row 0x4400 0x4400 0xe .u64 .ro 0 0 0xffffffffffffffff none,  -- STALE_DROPS (R313)
  row 0x4400 0x4400 0xf .u64 .ro 0 0 0xffffffffffffffff none,  -- WINDOW_DROPS (R313)
  row 0x4400 0x4400 0x10 .u32 .ro 0 0 0xffffffff none,  -- MISMATCHES (R313)
  row 0x4410 0x4410 1 .u16 .rw 0 0 0xfff none,  -- CTX_SELECT (R313)
  row 0x4410 0x4410 2 .octets .ro 0 0x40 0x40 none  -- CTX_STATUS (R313)
  ]

/-- Entries of 0x4000 to 0x4FFF (R38), part. -/
def rows4b : List EntryRow := [
  row 0x4500 0x4500 1 .u8 .rwp 0 0 1 none,  -- SPILL_POLICY (R343)
  row 0x4500 0x4500 2 .u8 .rwp 0x60 0xf 0x99 none,  -- FRAME_QUOTA (R343)
  row 0x4500 0x4500 3 .u32 .rwp 0x2000 0 0x10000 none,  -- SPILL_REGION_MIB (R343)
  row 0x4500 0x4500 4 .octets .rc 0 0x28 0x28 none,  -- CHECK_FAIL_LAST (R343)
  row 0x4500 0x4500 5 .u32 .ro 0 0 0xffffffff none,  -- CHECK_FAILS (R343)
  row 0x4520 0x452f 1 .u8 .ro 0x99 0 0xff none,  -- FRAMES_FREE (R344)
  row 0x4520 0x452f 2 .u8 .rc 0x99 0 0xff none,  -- FRAMES_LOW (R344)
  row 0x4520 0x452f 3 .u64 .ro 0 0 0xffffffffffffffff none,  -- PASSES (R344)
  row 0x4520 0x452f 4 .u64 .ro 0 0 0xffffffffffffffff none,  -- CHUNKS_RELEASED (R344)
  row 0x4520 0x452f 5 .u64 .ro 0 0 0xffffffffffffffff none,  -- CELLS_LOGGED (R344)
  row 0x4520 0x452f 6 .u64 .ro 0 0 0xffffffffffffffff none,  -- CHUNKS_RESTORED (R344)
  row 0x4520 0x452f 7 .u32 .ro 0 0 0xffffffff none,  -- LOG_RECORDS (R344)
  row 0x4520 0x452f 8 .u32 .ro 0 0 0xffffffff none,  -- UNIT_CHECK_FAILS (R344)
  row 0x4520 0x452f 9 .u32 .ro 0 0 0xffffffff none,  -- STORE_FULLS (R344)
  row 0x4520 0x452f 0xa .u8 .ro 0 0 0xff none,  -- PROVISIONAL_FRAMES (R344)
  row 0x4600 0x4600 1 .tick .rwp 0x600 0x40 0x10000 none,  -- SPAN_LEAD_TICKS (R377)
  row 0x4600 0x4600 2 .tick .rwp 0x30d4 0x100 0xffffffffffffffff none,  -- SPAN_RESEND_TICKS (R377)
  row 0x4600 0x4600 3 .tick .rwp 0x1312d0 0 0xffffffffffffffff none,  -- SPAN_RESEND_MAX (R377)
  row 0x4600 0x4600 4 .u32 .ro 0 0 0xffffffff none,  -- SEND_LOG_RECORDS (R377)
  row 0x4600 0x4600 5 .u64 .ro 0 0 0xffffffffffffffff none,  -- PARTIALS_SENT (R377)
  row 0x4600 0x4600 6 .u64 .ro 0 0 0xffffffffffffffff none,  -- PARTIALS_ACCEPTED (R377)
  row 0x4600 0x4600 7 .u64 .ro 0 0 0xffffffffffffffff none,  -- PARTIAL_RESENDS (R377)
  row 0x4600 0x4600 8 .u64 .ro 0 0 0xffffffffffffffff none,  -- CHUNKS_RELAYED (R377)
  row 0x4600 0x4600 9 .u32 .ro 0 0 0xffffffff none,  -- HEEL_LATE_RELAYS (R377)
  row 0x4630 0x4630 1 .tick .rwp 0x61a8 0x100 0x2625a0 none,  -- TIME_PERIOD_TICKS (R377)
  row 0x4630 0x4630 2 .bool .rwp 0 0 1 none,  -- TIME_ROOT (R377)
  row 0x4630 0x4630 3 .u8 .rwp 0xff 0 0xff none,  -- TIME_PARENT_PORT (R377)
  row 0x4630 0x4630 4 .i32 .rwp 0 0 0xffffffff none,  -- TIME_ASYM (R377)
  row 0x4630 0x4630 5 .u32 .ro 0 0 0xffffffff none,  -- TIME_DELAY (R377)
  row 0x4630 0x4630 6 .bool .ro 0 0 1 none,  -- TIME_ALIGNED (R377)
  row 0x4630 0x4630 7 .u16 .rwp 0x30 1 0x400 none,  -- TIME_ALIGN_TOL (R377)
  row 0x4630 0x4630 8 .i64 .ro 0 0 0xffffffffffffffff none,  -- TIME_OFFSET (R377)
  row 0x4640 0x4640 1 .octets .rw 0 0 0x1000 none,  -- EF_TABLE (R377)
  row 0x4640 0x4640 2 .u32 .rwp 0x4000 0 0x20000 none,  -- EF_REGION_MIB (R377)
  row 0x4640 0x4640 3 .u64 .ro 0 0 0xffffffffffffffff none,  -- EF_ABSENT (R377)
  row 0x4701 0x47ff 1 .octets .rw 0 0x110 0x110 none,  -- HIER_RECORD (R377)
  row 0x4701 0x47ff 2 .u16 .ro 0 0 0xffff none  -- HIER_USERS (R377)
  ]

/-- Entries of 0x5000 to 0x5FFF (R38), part. -/
def rows5a : List EntryRow := [
  row 0x5000 0x5000 1 .bits32 .ro 0 0 0xffffffff none,  -- CLUSTER_MAP (R415)
  row 0x5000 0x5000 2 .u16 .ro 0 0 0xffff none,  -- ENGINES (R415)
  row 0x5000 0x5000 3 .u64 .ro 0 0 0xffffffffffffffff none,  -- PRODUCTS_DONE (R415)
  row 0x5000 0x5000 4 .u64 .ro 0 0 0xffffffffffffffff none,  -- PROMOTED_RANGES (R415)
  row 0x5000 0x5000 5 .u64 .ro 0 0 0xffffffffffffffff none,  -- OUT_SATURATIONS (R415)
  row 0x5000 0x5000 6 .u64 .ro 0 0 0xffffffffffffffff none,  -- ENGINE_CYCLES (R415)
  row 0x5010 0x5010 1 .u32 .ro 0 0 0xffffffff none,  -- COMPUTE_CHECK_FAILS (R415)
  row 0x5010 0x5010 2 .octets .rc 0 0x30 0x30 none,  -- COMPUTE_CHECK_LAST (R415)
  row 0x5010 0x5010 3 .u32 .wo 0 0 0xffffffff none,  -- COMPUTE_INJECT (R415)
  row 0x5010 0x5010 4 .u16 .ro 0 0 0xffff none,  -- COMPUTE_INJECT_LEFT (R415)
  row 0x5100 0x5100 1 .octets .rw 0 0x800 0x800 none,  -- BINDINGS (R415)
  row 0x5100 0x5100 2 .u32 .ro 0 0 0xffffffff none,  -- BINDING_MISSES (R415)
  row 0x5300 0x5300 1 .u16 .rw 0 0 0x1fff none,  -- WHISTLE_SELECT (R416)
  row 0x5300 0x5300 2 .octets .rw 0 0x20 0x20 none,  -- WHISTLE_DESC (R416)
  row 0x5300 0x5300 3 .u32 .rw 0 0 0xffffffff none,  -- WHISTLE_COUNT (R416)
  row 0x5300 0x5300 4 .u64 .ro 0 0 0xffffffffffffffff none,  -- WHISTLE_FIRES (R416)
  row 0x5300 0x5300 5 .u8 .wo 0 1 2 none,  -- WHISTLE_CMD (R416)
  row 0x5300 0x5300 6 .u8 .ro 0 0 0xff none,  -- WHISTLE_STATE (R416)
  row 0x5300 0x5300 7 .u16 .rc 0 0 0xffff none,  -- QUEUE_PEAK (R416)
  row 0x5300 0x5300 8 .u32 .ro 0 0 0xffffffff none,  -- WHISTLE_OVERFLOWS (R416)
  row 0x5300 0x5300 9 .u16 .ro 0xffff 0 0xffff none,  -- LAST_ACTION_FAIL (R416)
  row 0x5200 0x5200 1 .u8 .rw 0 0 0xff none,  -- CHAIN_SLOT (R454)
  row 0x5200 0x5200 2 .u64 .rw 0 0 0xffffffffffffffff none,  -- CHAIN_ADDR (R454)
  row 0x5200 0x5200 3 .u8 .wo 0 1 3 none,  -- CHAIN_CMD (R454)
  row 0x5200 0x5200 4 .u8 .ro 0 0 0xff none,  -- CHAIN_STATUS (R454)
  row 0x5200 0x5200 5 .u32 .ro 0 0 0xffffffff none,  -- CHAIN_ID (R454)
  row 0x5200 0x5200 6 .u8 .ro 0 0 0xff none,  -- LOAD_ERROR (R454)
  row 0x5200 0x5200 7 .u64 .rw 0 0 0xffffffffffff none,  -- INIT_STEP (R454)
  row 0x5200 0x5200 8 .u64 .ro 0 0 0xffffffffffffffff none,  -- COMMITTED_STEP (R454)
  row 0x5200 0x5200 9 .u16 .ro 0 0 0xffff none,  -- SLOT_STATES (R454)
  row 0x5200 0x5200 0xa .u16 .ro 0 0 0xffff none,  -- CHAIN_USERS (R454)
  row 0x5210 0x5210 1 .octets .wo 0 8 8 none,  -- STEP_CMD (R454)
  row 0x5220 0x5220 1 .u64 .ro 0 0 0xffffffffffffffff none,  -- INVOCATIONS (R454)
  row 0x5220 0x5220 2 .u32 .ro 0 0 0xffffffff none,  -- STASHED_CHUNKS (R454)
  row 0x5220 0x5220 3 .u64 .ro 0 0 0xffffffffffffffff none,  -- DROPPED_CHOICES (R454)
  row 0x5220 0x5220 4 .u32 .ro 0 0 0xffffffff none,  -- SQUARE_OVERFLOWS (R454)
  row 0x5220 0x5220 5 .u32 .ro 0 0 0xffffffff none,  -- KFAC_SKIPS (R454)
  row 0x5220 0x5220 6 .u32 .ro 0 0 0xffffffff none,  -- LAST_CLIP_COEFF (R454)
  row 0x5400 0x5400 1 .u8 .rw 0 0 0x1f none,  -- PROG_SLOT (R477)
  row 0x5400 0x5400 2 .octets .rw 0 0xc 0x108 none  -- PROG_IMAGE (R477)
  ]

/-- Entries of 0x5000 to 0x5FFF (R38), part. -/
def rows5b : List EntryRow := [
  row 0x5400 0x5400 3 .u8 .wo 0 1 2 none,  -- PROG_CMD (R477)
  row 0x5400 0x5400 4 .u8 .ro 0 0 0xff none,  -- PROG_STATUS (R477)
  row 0x5400 0x5400 5 .u32 .ro 0 0 0xffffffff none,  -- PROG_ID (R477)
  row 0x5400 0x5400 6 .u8 .ro 0 0 0xff none,  -- PROG_LOAD_ERROR (R477)
  row 0x5400 0x5400 7 .u16 .ro 0 0 0xffff none,  -- PROG_USERS (R477)
  row 0x5400 0x5400 8 .u64 .ro 0 0 0xffffffffffffffff none  -- PROG_ELEMENTS (R477)
  ]

/-- Entries of 0x6000 to 0x6FFF (R38), part. -/
def rows6a : List EntryRow := [
  row 0x6000 0x6000 1 .octets .ro 0 6 6 none,  -- HOST_MAC (R505)
  row 0x6000 0x6000 2 .octets .rwp 0 0x10 0x10 none,  -- HOST_IPV6 (R505)
  row 0x6000 0x6000 3 .u8 .ro 0 0 0xff none,  -- HOST_MODE (R505)
  row 0x6000 0x6000 4 .u8 .rwp 1 1 2 none,  -- HOST_MAX_MODE (R505)
  row 0x6000 0x6000 5 .u8 .rwp 5 3 5 none,  -- HOST_PATH_MTU (R505)
  row 0x6000 0x6000 6 .u64 .ro 0 0 0xffffffffffffffff none,  -- HOST_FRAMES (R505)
  row 0x6000 0x6000 7 .u64 .ro 0 0 0xffffffffffffffff none,  -- HOST_DROPS (R505)
  row 0x6000 0x6000 8 .u32 .ro 0 0 0xffffffff none,  -- ICRC_ERRORS (R505)
  row 0x6000 0x6000 9 .u64 .ro 0 0 0xffffffffffffffff none,  -- CNP_SENT (R505)
  row 0x6040 0x607f 1 .u8 .rw 0 0 1 none,  -- QP_STATE (R505)
  row 0x6040 0x607f 2 .u8 .rw 0 0 1 none,  -- QP_KIND (R505)
  row 0x6040 0x607f 3 .u32 .rw 0 0 0xffffff none,  -- REMOTE_QPN (R505)
  row 0x6040 0x607f 4 .octets .rw 0 0x10 0x10 none,  -- REMOTE_GID (R505)
  row 0x6040 0x607f 5 .u32 .rw 0 0 0xffffff none,  -- SQ_PSN (R505)
  row 0x6040 0x607f 6 .u32 .rw 0 0 0xffffff none,  -- RQ_PSN (R505)
  row 0x6040 0x607f 7 .tick .rw 0x9c4 0x40 0x2625a0 none,  -- RETRY_TICKS (R505)
  row 0x6040 0x607f 8 .u8 .rw 7 0 7 none,  -- RETRY_COUNT (R505)
  row 0x6040 0x607f 9 .u8 .rw 7 0 7 none,  -- RNR_RETRY (R505)
  row 0x6040 0x607f 0xa .u16 .ro 0x100 0 0xffff none,  -- QP_RATE (R505)
  row 0x6040 0x607f 0xb .u32 .ro 0 0 0xffffffff none,  -- QP_ERRORS (R505)
  row 0x6080 0x608f 1 .u64 .rw 0 0 0xffffffffffffffff none,  -- WIN_BASE (R505)
  row 0x6080 0x608f 2 .u64 .rw 0 0 0xffffffffffffffff none,  -- WIN_LENGTH (R505)
  row 0x6080 0x608f 3 .u32 .rw 0 0 0xffffffff none,  -- WIN_RKEY (R505)
  row 0x6080 0x608f 4 .u8 .rw 0 0 0xff none,  -- WIN_ACCESS (R505)
  row 0x6090 0x6090 1 .u16 .ro 0 0 0xffff none,  -- BRIDGE_WAITING (R505)
  row 0x6090 0x6090 2 .u64 .ro 0 0 0xffffffffffffffff none,  -- BRIDGE_SENT (R505)
  row 0x6090 0x6090 3 .u32 .ro 0 0 0xffffffff none,  -- BRIDGE_FAILED (R505)
  row 0x6090 0x6090 4 .u64 .ro 0 0 0xffffffffffffffff none,  -- BRIDGE_RNR (R505)
  row 0x6100 0x613f 1 .u64 .wo 0 0 0xffffffffffffffff none,  -- DMA_START (R506)
  row 0x6100 0x613f 2 .u8 .ro 0 0 0xff none,  -- DMA_STATE (R506)
  row 0x6100 0x613f 3 .u8 .wo 0 1 1 none,  -- DMA_CMD (R506)
  row 0x6100 0x613f 4 .u32 .rw 1 0 0xffffffff none,  -- EOC_COUNT (R506)
  row 0x6100 0x613f 5 .u64 .rw 0 0 0xffffffffffffffff none,  -- PACE_HIGH (R506)
  row 0x6100 0x613f 6 .u64 .rw 0 0 0xffffffffffffffff none,  -- PACE_LOW (R506)
  row 0x6100 0x613f 7 .u64 .ro 0 0 0xffffffffffffffff none,  -- PRODUCED (R506)
  row 0x6100 0x613f 8 .u64 .rw 0 0 0xffffffffffffffff none,  -- CONSUMED (R506)
  row 0x6100 0x613f 9 .u8 .ro 0 0 0xff none,  -- DMA_ERROR_CODE (R506)
  row 0x6100 0x613f 0xa .octets .rc 0 0x10 0x10 none,  -- DMA_ERROR_AT (R506)
  row 0x6100 0x613f 0xb .u64 .ro 0 0 0xffffffffffffffff none,  -- EOC_EVENTS (R506)
  row 0x6100 0x613f 0xc .u64 .ro 0 0 0xffffffffffffffff none  -- DMA_BYTES (R506)
  ]

/-- Entries of 0x6000 to 0x6FFF (R38), part. -/
def rows6b : List EntryRow := [
  row 0x6200 0x6200 1 .u64 .ro 0xb36000000 0 0xffffffffffffffff none,  -- GENERAL_TOP (R506)
  row 0x6200 0x6200 2 .u32 .rwp 0x400 0x40 0x4000 none,  -- LEDGER_REGION_MIB (R506)
  row 0x6210 0x6210 1 .u64 .ro 0 0 0xffffffffffffffff none,  -- LEDGER_NEXT_SEQ (R506)
  row 0x6210 0x6210 2 .u64 .rw 0 0 0xffffffffffffffff none,  -- LEDGER_READ (R506)
  row 0x6210 0x6210 3 .u64 .ro 0x800000 0 0xffffffffffffffff none,  -- LEDGER_CAPACITY (R506)
  row 0x6210 0x6210 4 .u32 .ro 0 0 0xffffffff none,  -- LEDGER_OVERRUNS (R506)
  row 0x6220 0x6220 1 .bool .rwp 1 0 1 none,  -- SCRUB_ENABLE (R506)
  row 0x6220 0x6220 2 .tick .rwp 0x1f6ea086000 0x5d21dba00 0xffffffffffffffff none,  -- SCRUB_PASS_TICKS (R506)
  row 0x6220 0x6220 3 .u32 .ro 0 0 0xffffffff none,  -- HBM_CORRECTED (R506)
  row 0x6220 0x6220 4 .u32 .ro 0 0 0xffffffff none,  -- HBM_UNCORRECTED (R506)
  row 0x6220 0x6220 5 .u64 .ro 0 0 0xffffffffffffffff none,  -- LAST_HBM_UE (R506)
  row 0x6220 0x6220 6 .u32 .ro 0 0 0xffffffff none,  -- PAGE_CHECK_FAILS (R506)
  row 0x6220 0x6220 7 .u64 .ro 0 0 0xffffffffffffffff none  -- SCRUB_PASSES (R506)
  ]

/-- Entries of 0x7000 to 0x7FFF (R38), part. -/
def rows7a : List EntryRow := [
  row 0x7000 0x7000 1 .octets .ro 0 0x40 0x40 none,  -- FATAL_RECORD (R547)
  row 0x7000 0x7000 2 .octets .ro 0 0x40 0x40 none,  -- UNC_RECORD (R547)
  row 0x7000 0x7000 3 .octets .ro 0 0x40 0x40 none,  -- CORR_RECORD (R547)
  row 0x7000 0x7000 4 .u64 .wo 0 0 0xffffffffffffffff none,  -- FAULT_ACK (R547)
  row 0x7000 0x7000 5 .bool .ro 0 0 1 none,  -- FENCED (R547)
  row 0x7000 0x7000 6 .tick .rwp 0 0x61a8 0x10000000000 (some 0),  -- ESCALATE_CORR_TICKS (R547)
  row 0x7000 0x7000 7 .tick .rwp 0x59682f00 0x61a8 0x10000000000 (some 0),  -- ESCALATE_UNC_TICKS (R547)
  row 0x7000 0x7000 8 .bits32 .rwp 0 0 0x7fff none,  -- CORR_MASK (R547)
  row 0x7000 0x7000 9 .u32 .ro 0 0 0xffffffff none,  -- FATAL_FAULTS (R547)
  row 0x7000 0x7000 0xa .u32 .ro 0 0 0xffffffff none,  -- UNC_FAULTS (R547)
  row 0x7000 0x7000 0xb .u32 .ro 0 0 0xffffffff none,  -- CORR_FAULTS (R547)
  row 0x7000 0x7000 0xc .u32 .ro 0 0 0xffffffff none,  -- ESCALATIONS (R547)
  row 0x7010 0x7010 1 .octets .ro 0 0 0x800 none,  -- BARK_LOG (R547)
  row 0x7010 0x7010 2 .u64 .ro 0 0 0xffffffffffffffff none,  -- BARKS (R547)
  row 0x7020 0x7020 1 .octets .rw 0 0x20 0x20 none,  -- INT_ENABLE (R547)
  row 0x7020 0x7020 2 .octets .rc 0 0x20 0x20 none,  -- INT_PENDING (R547)
  row 0x7020 0x7020 3 .octets .rc 0 0x100 0x100 none,  -- INT_COUNTS (R547)
  row 0x7020 0x7020 4 .octets .ro 0 0x20 0x20 none,  -- INT_SATURATED (R547)
  row 0x7020 0x7020 5 .octets .rc 0 0x20 0x20 none,  -- LINK_CHANGED (R547)
  row 0x7040 0x7040 1 .u32 .wo 0 0 0xffffffff none,  -- FAULT_INJECT (R547)
  row 0x7040 0x7040 2 .u16 .ro 0 0 0xffff none,  -- FAULT_INJECT_LEFT (R547)
  row 0x7050 0x7050 1 .tick .rwp 0x2625a0 0x3d090 0xee6b280 none,  -- HKP_WATCHDOG_TICKS (R547)
  row 0x7050 0x7050 2 .u32 .ro 0 0 0xffffffff none,  -- HKP_RESTARTS (R547)
  row 0x7030 0x703f 1 .tick .rwp 0xfa 1 0x2625a0 none,  -- HOLDOFF_TICKS (R548)
  row 0x7030 0x703f 2 .bits32 .rwp 2 0 3 none,  -- DELIVERY (R548)
  row 0x7030 0x703f 3 .u8 .rw 0 0 0x3f none,  -- INT_QP (R548)
  row 0x7030 0x703f 4 .u32 .rw 0 0 0xffffffff none,  -- INT_RKEY (R548)
  row 0x7030 0x703f 5 .u64 .rw 0 0 0xffffffffffffffff none,  -- INT_ADDR (R548)
  row 0x7030 0x703f 6 .u64 .ro 0 0 0xffffffffffffffff none,  -- DELIVERIES (R548)
  row 0x7030 0x703f 7 .u32 .ro 0 0 0xffffffff none  -- DELIVERY_FAILS (R548)
  ]

/-- Entries of 0x8000 to 0x8FFF (R38), part. -/
def rows8a : List EntryRow := [
  row 0x8000 0x8000 1 .tick .ro 0 0 0xffffffffffffffff none,  -- TICK_NOW (R574)
  row 0x8000 0x8000 2 .u32 .wo 0 0 0xffffffff none,  -- COUNTER_CLEAR (R574)
  row 0x8010 0x8010 1 .bool .ro 0 0 1 none,  -- ANY_SATURATED (R574)
  row 0x8010 0x8010 2 .octets .ro 0 0 0x1000 none,  -- SATURATED_LIST (R574)
  row 0x8010 0x8010 3 .u64 .ro 0 0 0xffffffffffffffff none,  -- SATURATION_EVENTS (R574)
  row 0x8010 0x8010 4 .bool .ro 0 0 1 none,  -- LIST_FULL (R574)
  row 0x8020 0x8020 1 .octets .wo 0 0x10 0x10 none,  -- SNAP_CMD (R574)
  row 0x8020 0x8020 2 .u8 .ro 0 0 0xff none,  -- SNAP_STATE (R574)
  row 0x8020 0x8020 3 .octets .ro 0 0x18 0x18 none,  -- SNAP_HELD (R574)
  row 0x8020 0x8020 4 .octets .rw 0 8 8 none,  -- SHADOW_SELECT (R574)
  row 0x8020 0x8020 5 .octets .ro 0 8 0x10000 none,  -- SHADOW_VALUE (R574)
  row 0x8020 0x8020 6 .u16 .ro 0 0 0xffff none,  -- SNAP_EP_TAKEN (R574)
  row 0x8020 0x8020 7 .octets .ro 0 0x20 0x20 none,  -- SNAP_EP_LATE (R574)
  row 0x8020 0x8020 8 .u64 .ro 0 0 0xffffffffffffffff none,  -- SNAPS_TAKEN (R574)
  row 0x8030 0x8030 1 .bool .rwp 0 0 1 none,  -- MAP_ENABLE (R574)
  row 0x8030 0x8030 2 .tick .rwp 0x61a8 0x100 0x1312d0 none,  -- MAP_PERIOD_TICKS (R574)
  row 0x8030 0x8030 3 .u64 .rwp 0 0 0xffffffffffffffff none,  -- MAP_ADDR (R574)
  row 0x8030 0x8030 4 .u16 .rwp 0 0 0x1000 none,  -- MAP_RECORDS (R574)
  row 0x8030 0x8030 5 .octets .ro 0 0x840 0x840 none,  -- MAP_LATEST_0 (R574)
  row 0x8030 0x8030 6 .octets .ro 0 0x840 0x840 none,  -- MAP_LATEST_1 (R574)
  row 0x8030 0x8030 7 .u64 .ro 0 0 0xffffffffffffffff none,  -- MAPS_WRITTEN (R574)
  row 0x8030 0x8030 8 .u32 .ro 0 0 0xffffffff none,  -- MAPS_SKIPPED (R574)
  row 0x8040 0x8040 1 .u8 .rwp 0 4 0x18 (some 0),  -- SAMPLE_SHIFT (R574)
  row 0x8040 0x8040 2 .octets .rwp 0 0x20 0x20 none,  -- SAMPLE_PORTS (R574)
  row 0x8040 0x8040 3 .u8 .rwp 3 0 3 none,  -- SAMPLE_DIR (R574)
  row 0x8040 0x8040 4 .bits32 .rwp 0x3f 0 0x3f none,  -- SAMPLE_CLASSES (R574)
  row 0x8040 0x8040 5 .octets .rc 0 0 0xf000 none,  -- SAMPLE_RING (R574)
  row 0x8040 0x8040 6 .u64 .ro 0 0 0xffffffffffffffff none,  -- SAMPLES_TAKEN (R574)
  row 0x8040 0x8040 7 .u32 .ro 0 0 0xffffffff none,  -- SAMPLES_DROPPED (R574)
  row 0x8040 0x8040 8 .u32 .ro 0 0 0xffffffff none  -- SAMPLES_LOST (R574)
  ]

/-- Entries of 0x9000 to 0x9FFF (R38), part. -/
def rows9a : List EntryRow := [
  row 0x9000 0x9000 1 .u8 .rwp 0 0 3 none,  -- POWER_CAP (R624)
  row 0x9000 0x9000 2 .u16 .ro 0xfa0 0 0xffff none,  -- CEILING_W (R624)
  row 0x9000 0x9000 3 .u32 .ro 0 0 0xffffffff none,  -- INPUT_MV (R624)
  row 0x9000 0x9000 4 .u32 .ro 0 0 0xffffffff none,  -- INPUT_MA (R624)
  row 0x9000 0x9000 5 .u16 .ro 0 0 0xffff none,  -- INPUT_W (R624)
  row 0x9000 0x9000 6 .u8 .ro 0x10 0 0xff none,  -- COMPUTE_STEP (R624)
  row 0x9000 0x9000 7 .bool .ro 0 0 1 none,  -- SWITCH_HALVED (R624)
  row 0x9000 0x9000 8 .u64 .ro 0 0 0xffffffffffffffff none,  -- THROTTLE_WINDOWS (R624)
  row 0x9000 0x9000 9 .u8 .rwp 0x5f 0x50 0x64 none,  -- THERMAL_THROTTLE_C (R624)
  row 0x9000 0x9000 0xa .i32 .ro 0 0 0xffffffff none,  -- TEMP_HOTTEST (R624)
  row 0x9000 0x9000 0xb .octets .rc 0 0x10 0x10 none,  -- POWER_EVENT_LAST (R624)
  row 0x9010 0x9010 1 .u8 .ro 0 0 0xff none,  -- CLOCK_STATE (R624)
  row 0x9010 0x9010 2 .bool .ro 0 0 1 none,  -- TICK_LOCKED (R624)
  row 0x9010 0x9010 3 .u32 .ro 0 0 0xffffffff none,  -- RSYNC_MISMATCHES (R624)
  row 0x9010 0x9010 4 .u32 .ro 0 0 0xffffffff none,  -- RSYNC_MISSING (R624)
  row 0x9010 0x9010 5 .u32 .ro 0 0 0xffffffff none,  -- HOLDOVERS (R624)
  row 0x9100 0x9100 1 .u8 .wo 0 0 3 none,  -- SLEEP_CMD (R624)
  row 0x9100 0x9100 2 .u8 .ro 0 0 0xff none,  -- SLEEP_STATE (R624)
  row 0x9100 0x9100 3 .tick .rwp 0xfa 0x19 0x2625a0 (some 0),  -- AUTO_IDLE_TICKS (R624)
  row 0x9100 0x9100 4 .tick .rwp 0 0x61a8 0x10000000000 (some 0),  -- AUTO_DOZE_TICKS (R624)
  row 0x9100 0x9100 5 .tick .rwp 0x61a8 0x100 0x2625a0 none,  -- KEEPALIVE_DRAIN_TICKS (R624)
  row 0x9100 0x9100 6 .octets .ro 0 0x10 0x10 none,  -- LAST_WAKE (R624)
  row 0x9100 0x9100 7 .u64 .ro 0 0 0xffffffffffffffff none,  -- WAKES (R624)
  row 0x9100 0x9100 8 .u32 .ro 0 0 0xffffffff none,  -- SLEEP_ABANDONS (R624)
  row 0x9200 0x9200 1 .u8 .mz 0 1 3 none,  -- RESET_CMD (R624)
  row 0x9200 0x9200 2 .u8 .ro 0 0 0xff none,  -- LAST_RESET (R624)
  row 0x9200 0x9200 3 .tick .ro 0 0 0xffffffffffffffff none,  -- RESET_TICK (R624)
  row 0x9200 0x9200 4 .u8 .ro 1 0 0xff none  -- BOOT_STAGE (R624)
  ]

/-- Entries of 0xA000 to 0xAFFF (R38), part. -/
def rowsAa : List EntryRow := [
  row 0xa000 0xa000 1 .u8 .ro 0 0 0xff none,  -- PROFILE_PINS (R597)
  row 0xa000 0xa000 2 .u8 .mz 0xff 0 3 (some 0xff),  -- PROFILE_OVERRIDE (R597)
  row 0xa000 0xa000 3 .u8 .ro 0 0 0xff none,  -- ACTIVE_PROFILE (R597)
  row 0xa000 0xa000 4 .u8 .ro 0 0 0xff none,  -- ACTIVE_GEN (R597)
  row 0xa000 0xa000 5 .u8 .mz 0 1 1 none,  -- PROFILE_CMD (R597)
  row 0xa000 0xa000 6 .u8 .ro 0 0 0xff none,  -- BURN_STATE (R597)
  row 0xa000 0xa000 7 .octets .ro 0 0x10 0x10 none,  -- PROFILE_GENS (R597)
  row 0xa000 0xa000 8 .bits32 .ro 0 0 0xffffffff none,  -- PROFILE_FROZEN (R597)
  row 0xa000 0xa000 9 .u16 .ro 0 0 0xffff none,  -- IMAGE_BYTES (R597)
  row 0xa000 0xa000 0xa .u32 .ro 0 0 0xffffffff none,  -- APPLY_ERRORS (R597)
  row 0xa000 0xa000 0xb .u32 .ro 0 0 0xffffffff none,  -- APPLY_FIRST (R597)
  row 0xa100 0xa100 1 .u8 .ro 0 0 0xff none,  -- CLAIM_STATE (R597)
  row 0xa100 0xa100 2 .u8 .rw 0 0 1 none,  -- KEY_SLOT_SELECT (R597)
  row 0xa100 0xa100 3 .octets .ro 0 6 6 none,  -- KEY_GENS (R597)
  row 0xa100 0xa100 4 .octets .ro 0 0x20 0x20 none,  -- KEY_HASH (R597)
  row 0xa100 0xa100 5 .octets .mz 0 0x20 0x20 none,  -- KEY_BURN (R597)
  row 0xa100 0xa100 6 .octets .rw 0 0x180 0x180 none,  -- OWNER_PUBKEY (R597)
  row 0xa400 0xa400 1 .octets .ro 0 0x80 0x80 none,  -- FW_INFO_A (R597)
  row 0xa400 0xa400 2 .octets .ro 0 0x80 0x80 none,  -- FW_INFO_B (R597)
  row 0xa400 0xa400 3 .u32 .mz 0 0 0x7fffff none,  -- FW_OFFSET (R597)
  row 0xa400 0xa400 4 .octets .mz 0 1 0x10000 none,  -- FW_DATA (R597)
  row 0xa400 0xa400 5 .u8 .mz 0 1 0xff none,  -- FW_CMD (R597)
  row 0xa400 0xa400 6 .u8 .ro 0 0 0xff none,  -- FW_STATUS (R597)
  row 0xa400 0xa400 7 .u8 .ro 0 0 0xff none,  -- ROLLBACK_COUNTER (R597)
  row 0xa400 0xa400 8 .tick .rwp 0x1bf08eb00 0x17d7840 0x10000000000 none,  -- FW_TRIAL_TICKS (R597)
  row 0xa500 0xa500 1 .octets .ro 0 0x180 0x180 none,  -- IDENTITY_PUBKEY (R597)
  row 0xa500 0xa500 2 .octets .ro 0 0 0x2000 none,  -- CERT_CHAIN (R597)
  row 0xa500 0xa500 3 .octets .wo 0 0x20 0x20 none,  -- ATTEST_NONCE (R597)
  row 0xa500 0xa500 4 .octets .ro 0 0x280 0x280 none,  -- ATTEST_REPORT (R597)
  row 0xa500 0xa500 5 .u64 .ro 0 0 0xffffffffffffffff none,  -- ATTESTS (R597)
  row 0xa600 0xa600 1 .bool .mz 0 0 1 none  -- DEBUG_CONSENT (R597)
  ]

/-- The entries of a range of 0x1000 indices (R38). -/
def entryRows (g : Nat) : List EntryRow :=
  if g = 1 then rows1a
  else if g = 2 then rows2a ++ rows2b ++ rows2c
  else if g = 3 then rows3a ++ rows3b ++ rows3c
  else if g = 4 then rows4a ++ rows4b
  else if g = 5 then rows5a ++ rows5b
  else if g = 6 then rows6a ++ rows6b
  else if g = 7 then rows7a
  else if g = 8 then rows8a
  else if g = 9 then rows9a
  else if g = 10 then rowsAa
  else []

/-- Whether a row describes index `i`, sub-index `s`. -/
def EntryRow.names (r : EntryRow) (i s : Nat) : Bool :=
  r.lo ≤ i && i ≤ r.hi &&
    (if r.lane then s % 16 == r.sub && s / 16 < 4 else s == r.sub)

/-- The row of an entry, if the entry is present (R36, R37, R38). Sub-index 0x00 has no row of its own. -/
def findRow (i s : Nat) : Option EntryRow :=
  (entryRows (i / 0x1000)).find? (fun r => r.names i s)

/-- The highest sub-index a row gives. -/
def EntryRow.top (r : EntryRow) : Nat := if r.lane then 0x30 + r.sub else r.sub

/-- The highest sub-index present at an index, 0 when the index is absent (R36). -/
def topSub (i : Nat) : Nat :=
  (entryRows (i / 0x1000)).foldl
    (fun m r => if r.lo ≤ i && i ≤ r.hi then max m r.top else m) 0

/-- The default of an entry by key; 0 for a key no row describes. -/
def keyDefault (k : Nat) : Nat :=
  match findRow (k / 256) (k % 256) with
  | some r => r.dflt
  | none => 0

end Sys2Proof.Machine
end

