-- ==== Sys2Proof/Machine/State.lean ====
section
/-! DEFINITION. The block's state as plain data: every register, table, queue, counter, mode and pin the
spec gives the device, the snapshot shadows, and the queue of waiting commands. -/

namespace Sys2Proof.Machine

/-- A step's fault: what the spec gives no effect for. -/
inductive Fault where
  /-- Raised by an IEEE 1149.1 instruction outside the four of R589 once debug is open: the spec gives no
  effect of the further instructions. Safe. -/
  | debugInstruction
  deriving DecidableEq, Repr

/-- A step's refusal. -/
inductive Refusal where
  /-- Raised only by an arm of the dispatch whose command has no meaning yet. Safe. -/
  | notModelled (mnemonic : String)
  deriving DecidableEq, Repr

/-! ## Identity -/

/-- What is programmed at manufacture and never changes (R6, R66, R595). -/
structure Mfg where
  /-- GRADE full (R6). -/
  full : Bool := true
  stepping : Nat := 1
  serial : Nat := 0
  /-- Disabled cluster of each C-die of a harvested part (R25): die c's in nibble c. -/
  disabled : Nat := 0
  t1sMac : Nat := 0
  hostMac : Nat := 0
  /-- The life cycle is FIELD, which every shipped part holds (R589). -/
  field : Bool := true
  identityModulus : List Byte := []
  /-- The private exponent of the identity key, which the signing engine alone reads (R595). -/
  identityPrivate : Nat := 0
  certChain : List Byte := []
  /-- The vendor scope key's modulus and its hash (R588), and the vendor firmware key's hash (R591). -/
  vendorModulus : List Byte := []
  vendorKeyHash : List Byte := []
  fwKeyHash : List Byte := []
  deriving DecidableEq, Repr

/-! ## Lanes and ports -/

/-- The lane states of R103 and R113. -/
inductive LaneState where
  | off | train | active | parked | failed | keepalive | test
  deriving DecidableEq, Repr

/-- Equaliser taps: main cursor only, or an adapted value the spec leaves to the receiver (R78, R83). -/
inductive Taps where
  | mainCursor
  | adapted (v : BitVec 264)
  deriving DecidableEq, Repr

/-- A coefficient set: peaking code and taps (R83). -/
structure Coeffs where
  peak : Nat
  taps : Taps
  deriving DecidableEq, Repr

/-- A peaking step under watch (R80). -/
structure PeakWatch where
  start : Nat
  saved : Coeffs
  m0 : Nat
  u0 : Nat
  up : Bool
  uncorr : Nat := 0
  deriving DecidableEq, Repr

/-- The injection of R110 armed on a lane: `acc` gathers unit intervals, codewords or ticks in parts of one event, and
`done` counts the events that have been. -/
structure LaneInject where
  kind : Nat
  symbols : Nat
  count : Nat
  acc : Nat := 0
  done : Nat := 0
  deriving DecidableEq, Repr

/-- One logical lane (R69 to R114). -/
structure LaneSt where
  state : LaneState := .off
  /-- Rate code of R74. -/
  rate : Nat := 0
  margin : Nat := 0
  /-- Whether a margin window has ended since the lane took its present rate. -/
  windows : Nat := 0
  peak : Nat := 0
  taps : Taps := .mainCursor
  set200 : Option Coeffs := none
  set100 : Option Coeffs := none
  los : Bool := true
  lol : Bool := true
  /-- Tick of the first window of the present unbroken run below MARGIN_LOW (R91). -/
  lowSince : Option Nat := none
  /-- The same for margin at or above MARGIN_RESTORE_100 (R91). -/
  highSince : Option Nat := none
  /-- The same for ACTIVE with margin at or above MARGIN_LOW (R83). -/
  goodSince : Option Nat := none
  /-- Uncorrectable codewords not injected, by window end (R79, R91). -/
  uncorrLog : List (Nat × Nat) := []
  /-- The present restore hold; none for RESTORE_HOLD_TICKS (R100). -/
  restoreHold : Option Nat := none
  /-- A restore trial has failed: DROP at once (R100). -/
  dropNow : Bool := false
  trialEnd : Option Nat := none
  /-- No further restore attempt until MAX_RATE, ELEC_CLASS or the module changes (R96). -/
  noRestore : Bool := false
  /-- The initiator asks OFF in place of 100 Gbit/s (R96). -/
  askOff : Bool := false
  retryAt : Option Nat := none
  /-- Direction of the last peaking step, up when true (R80). -/
  lastUp : Option Bool := none
  blockUp : Nat := 0
  blockDown : Nat := 0
  /-- Tick at which the lane's present peaking period began, for lanes 1 to 3 (R80). -/
  periodAt : Option Nat := none
  watch : Option PeakWatch := none
  /-- State the lane left for TEST (R103). -/
  leftState : LaneState := .off
  inject : Option LaneInject := none
  /-- Generated bits that an injection has flipped since the checker's last report (R109, R110). -/
  flips : Nat := 0
  /-- The partner's PARK has come while the lane was in striping (R134, R138). -/
  parkSeen : Bool := false
  /-- The lane has left striping by a hand-over or a port sleep, and the partner's last cells and its PARK may still
  arrive (R133, R138). -/
  trailing : Bool := false
  /-- Consecutive TRAIN cells seen by the miswire watch (R90). -/
  miswireRun : Nat := 0
  /-- LANES: this receiver is trained; the partner's report; LANES_END seen (R151 to R153). -/
  rxReady : Bool := false
  peerReady : Bool := false
  endSeen : Bool := false
  /-- SERIAL of the TRAIN cells this lane has brought (R152). -/
  trainSerial : Option Nat := none
  /-- The last tap request answered: tap, result (R151). -/
  tapStatus : Nat := 0
  txTaps : List Int := []
  deriving DecidableEq, Repr

/-- A rate hand-over's target (R91). -/
inductive RateTarget where
  | g200 | g100 | off
  deriving DecidableEq, Repr

/-- The hand-over of a port (R92, R93). -/
structure Handover where
  lane : Lane
  target : RateTarget
  ts : Nat
  initiator : Bool
  accepted : Bool
  /-- The initiator's request is yet to go out: the tick after the condition held (R93). -/
  sendAt : Option Nat := none
  /-- Set once the lane has parked: the join tick (R93, R94). -/
  tj : Option Nat := none
  readySent : Bool := false
  readyRcvd : Bool := false
  /-- A RESTORE, which opens a trial at tj (R100). -/
  restore : Bool := false
  deriving DecidableEq, Repr

/-- The port states of R154. -/
inductive PortState where
  | off | detect | absent | ident | lanes | up | recover | keepalive | quarantine
  deriving DecidableEq, Repr

/-- A kept cell of the replay buffer (R136). -/
structure Kept where
  lseq : Nat
  cell : Cell
  sentAt : Nat
  /-- The kennel slot that holds it beyond the first 1024 of a MODULE port (R183). -/
  slot : Option Nat := none
  deriving DecidableEq, Repr

/-- A received cell held for reordering (R133). -/
structure HeldRx where
  lseq : Nat
  lane : Lane
  cell : Cell
  deriving DecidableEq, Repr

/-- Credit counters of one direction: dedicated by VC, then shared, all cumulative (R139). -/
structure Credits where
  grant : List Nat := []
  used : List Nat := []
  deriving DecidableEq, Repr

/-- One fabric port (R115 to R163). Its dictionary counters stand in `Dev.regs`. -/
structure PortSt where
  state : PortState := .off
  since : Nat := 0
  lane0 : LaneSt := {}
  lane1 : LaneSt := {}
  lane2 : LaneSt := {}
  lane3 : LaneSt := {}
  handover : Option Handover := none
  /-- The class default in force since the port left OFF, while ELEC_CLASS is not written (R70). -/
  heldClass : Option Nat := none
  /-- Tick at which lane 0's present peaking period began (R80). -/
  peakBase : Option Nat := none
  /-- PORT_CAPACITY and the smallest margin as the spraying logic has them (R87). -/
  passedCap : Nat := 0
  passedMargin : Nat := 0
  /-- DETECT: consecutive good TRAIN cells on lane 0 (R148). -/
  trainRun : Nat := 0
  txLseq : Nat := 0
  rxNext : Nat := 0
  held : List HeldRx := []
  /-- By lane: the latest LSEQ shown (R134). -/
  shown : List (Nat × Nat) := []
  gapOpen : Bool := false
  nakCount : Nat := 0
  sinceLink : Nat := 0
  firstUnacked : Option Nat := none
  lastLink : Nat := 0
  gapLinkDue : Bool := false
  kept : List Kept := []
  peerNak : Nat := 0
  resends : Nat := 0
  /-- Credits the partner granted this sender, and cells sent against them. -/
  tx : Credits := {}
  /-- Credits this receiver granted, and cells that arrived against them. -/
  rx : Credits := {}
  /-- Grants in force since the last entry into UP, and returns to swallow after a lowered grant (R142). -/
  granted : List Nat := []
  debt : List Nat := []
  /-- CUP credits withheld while a wake runs (R33), by VC counter. -/
  withheld : List Nat := []
  verdict : Nat := 0
  peerVerdict : Nat := 0
  firstIdent : Option Nat := none
  lastIdent : Nat := 0
  identSent : Option Nat := none
  acceptSent : Bool := false
  bothAccept : Option Nat := none
  progress : Nat := 0
  lastGood : Nat := 0
  sleepTs : Option Nat := none
  sleepSent : Bool := false
  wakeReqSent : Bool := false
  wakeReqRcvd : Option Nat := none
  wakeAckRcvd : Bool := false
  wakeReadySent : Bool := false
  wakeReadyRcvd : Bool := false
  wakeBoth : Option Nat := none
  keepSent : Nat := 0
  lanesEndSent : Bool := false
  fresh : Bool := true
  /-- Sequenced cells waiting for the replay window (R136). -/
  txq : List Cell := []
  sampRx : Nat := 0
  sampTx : Nat := 0
  deriving DecidableEq, Repr

/-- One module site (R104, R105, R650, R651). -/
structure ModuleSt where
  present : Bool := false
  advert : ModuleAdvert := ⟨false, false, false, 0⟩
  dpReady : Bool := false
  /-- MODRST_N is driven low (R650). The TX1 leaves it high. (DESIGN CHOICE, log entry 200). -/
  reset : Bool := false
  /-- MODLP is high: pulled up while the TX1 does not drive it (R650). -/
  lowPower : Bool := true
  deriving DecidableEq, Repr

/-- What the housekeeping processor does to a module through its CMIS memory map, bank 0 (R104). Lane masks name host
lanes, one data path each (R102). -/
inductive CmisOp where
  /-- Read a page of the memory map: 00h, 01h, 02h, 10h or 11h. -/
  | readPage (page : Nat)
  /-- Select the one-lane application of a rate code for the lanes in Staged Control Set 0, page 10h. -/
  | stage (rate lanes : Nat)
  /-- Initialise the data paths of the lanes. -/
  | dpInit (lanes : Nat)
  /-- De-initialise the data paths of the lanes. -/
  | dpDeinit (lanes : Nat)
  /-- Put the module into low-power mode, or take it out. -/
  | lowPower (on : Bool)
  /-- Read the interrupt flags. -/
  | readFlags
  /-- Read the monitors of temperature, supply and per-lane transmit and receive power. -/
  | readMonitors
  deriving DecidableEq, Repr

/-! ## Management -/

/-- Scope of a session (R61). -/
inductive Scope where
  | owner | vendor
  deriving DecidableEq, Repr

/-- A held response (R54). -/
structure Cached where
  key : CacheKey
  opcode : Nat
  index : Nat
  sub : Nat
  seg : Nat
  response : List Byte
  tick : Nat
  deriving DecidableEq, Repr

/-- An open segmented transfer (R56 to R59). -/
structure Handle where
  id : BitVec 16
  path : Path
  addr : BitVec 128
  udpPort : BitVec 16
  lastUse : Nat
  /-- A captured value to read, or the staged write. -/
  writing : Bool
  index : Nat
  sub : Nat
  total : Nat
  data : List Byte
  segs : Tbl (List Byte)
  deriving DecidableEq, Repr

/-- An open session (R63). -/
structure Session where
  token : BitVec 64
  path : Path
  addr : BitVec 128
  scope : Scope
  lastUse : Nat
  deriving DecidableEq, Repr

/-- An outstanding nonce (R62). -/
structure Nonce where
  path : Path
  addr : BitVec 128
  scope : Scope
  value : BitVec 256
  tick : Nat
  deriving DecidableEq, Repr

/-- A NOTIFY awaiting its acknowledgement (R60). -/
structure Notify where
  txn : BitVec 16
  dest : Fin 4
  addr : BitVec 128
  udpPort : BitVec 16
  frame : List Byte
  sentAt : Nat
  repeats : Nat
  deriving DecidableEq, Repr

/-- A request held until a gated domain has woken (R52); `taken` once its frame has been counted. -/
structure HeldReq where
  opcode : Nat
  q : Req
  taken : Bool
  deriving DecidableEq, Repr

/-- The housekeeping processor's protocol state. -/
structure Mgmt where
  cache : List Cached := []
  handles : List Handle := []
  sessions : List Session := []
  nonces : List Nonce := []
  notifies : List Notify := []
  notifyTxn : Nat := 0
  heldReqs : List HeldReq := []
  /-- Neighbour solicitations held while the host domain wakes (R480): source and target. -/
  heldSols : List (BitVec 128 × BitVec 128) := []
  /-- PLCA node ID, TO timer, burst count and burst timer in use (R67). -/
  plca : List Nat := [0x01, 0x20, 0x00, 0x80]
  deriving DecidableEq, Repr

/-! ## Sentry and interrupts -/

/-- A bark as logged (R528). -/
structure Bark where
  tick : Nat
  msg : BarkMsg
  deriving DecidableEq, Repr

/-- A class record (R532); closed while `open` is false. -/
structure FaultRec where
  isOpen : Bool := false
  firstTick : Nat := 0
  lastTick : Nat := 0
  access : Nat := 0
  kind : Nat := 0
  initiator : Nat := 0
  injected : Bool := false
  count : Nat := 0
  units : Nat := 0
  address : Nat := 0
  detail : Nat := 0
  escTick : Nat := 0
  deriving DecidableEq, Repr

/-- An injection armed by FAULT_INJECT (R544). -/
structure FaultInj where
  checker : Nat
  target : Nat
  deriving DecidableEq, Repr

/-- A fast-domain fault on its way to the sentry, with the tick that samples it (R31). -/
structure Report where
  due : Nat
  msg : BarkMsg
  deriving DecidableEq, Repr

/-- The sentry (R522 to R538). -/
structure Sentry where
  fatal : FaultRec := {}
  unc : FaultRec := {}
  corr : FaultRec := {}
  log : List Bark := []
  reports : List Report := []
  /-- First tick in which the fence holds (R523). -/
  fenceAt : Option Nat := none
  inject : Option FaultInj := none
  deriving DecidableEq, Repr

/-- The interrupt controller (R539 to R542). Bit s of a mask is source s; bit p of `linkChanged` port p. -/
structure IntCtl where
  enable : Nat := 0x3F
  pending : Nat := 0
  counts : Tbl Nat := []
  saturated : Nat := 0
  marked : Nat := 0
  holdUntil : Tbl Nat := []
  delivered : Tbl Nat := []
  linkChanged : Nat := 0
  /-- A delivery has asserted the alert signal, and it has not been released since (R542). -/
  alert : Bool := false
  deriving DecidableEq, Repr

/-! ## Telemetry -/

/-- A counter's record in SATURATED_LIST (R553). -/
structure SatRec where
  key : Nat
  tick : Nat
  deriving DecidableEq, Repr

/-- An armed snapshot (R558). -/
structure SnapArm where
  id : Nat
  target : Nat
  endpoints : Bool
  armedAt : Nat
  /-- The COMMAND cells have been sent, where endpoints take part (R563). -/
  sent : Bool := false
  deriving DecidableEq, Repr

/-- Gathering of one S-die's open map window (R566 to R568). -/
structure MapGather where
  active : Bool := false
  start : Nat := 0
  shrPeak : Nat := 0
  /-- Cells expired, and cells dropped without a route, in the window. -/
  expired : Nat := 0
  noRoute : Nat := 0
  marginMin : Tbl Nat := []
  qPeak : Tbl Nat := []
  qSum : Tbl Nat := []
  ceMarks : Tbl Nat := []
  txCells : Tbl Nat := []
  pushouts : Tbl Nat := []
  /-- Maps of windows that have ended, to be written: their number and their bytes. -/
  closed : List (Nat × List Byte) := []
  deriving DecidableEq, Repr

/-- Counters' flags, snapshots, congestion maps and header samples of 24 bytes (R552 to R573). -/
structure Telemetry where
  /-- Counters whose SATURATED flag is set (R552). -/
  satFlags : List Nat := []
  satList : List SatRec := []
  arm : Option SnapArm := none
  /-- SNAP_ID of the armed or most recent snapshot (R565). -/
  lastId : Nat := 0
  copied : Bool := false
  snapState : Nat := 0
  epTaken : Nat := 0
  epLate : Nat := 0
  select : List Byte := []
  map0 : MapGather := {}
  map1 : MapGather := {}
  tileQueues : Tbl (List (List Byte)) := []
  tileNext : Tbl Nat := []
  ring : List (List Byte) := []
  deriving DecidableEq, Repr

/-! ## Power, clocks, sleep and reset -/

/-- Sleep states of R613 and R624. -/
inductive SleepState where
  | active | idle | doze | keepalive | entering | waking
  deriving DecidableEq, Repr

/-- The reset types of R618. -/
inductive ResetKind where
  | cold | warm | switch
  deriving DecidableEq, Repr

/-- The power sequencer, clocks and sleep state (R598 to R624). -/
structure Power where
  /-- The level of PROFILE_SEL[1:0], which the board fixes; open balls select 0 (R647). -/
  profileSel : Nat := 0
  /-- The always-on domain runs (R598). -/
  alwaysOn : Bool := true
  /-- The OFF state of R613. -/
  off : Bool := false
  /-- Tick, in the present counter, at which the last cold or warm reset took effect, and what its SPENT burns add to
  its boot (R620). -/
  bootAt : Nat := 0
  bootWait : Nat := 0
  bootStage : Nat := 1
  lastReset : ResetKind := .cold
  /-- The reset that the last boot followed (R620). -/
  bootKind : ResetKind := .cold
  resetTick : Nat := 0
  /-- Resets asked for by RESET_CMD, with the tick at which each takes effect; none is OFF (R618). -/
  resetPending : List (Option ResetKind × Nat) := []
  /-- A warm reset held back by R601. -/
  heldWarm : Bool := false
  /-- RESET_N holds the TX1 in reset (R618). -/
  resetLow : Bool := false
  /-- Means of the last governor window, and the tick in which it ended (R602, R624). -/
  inputMv : Nat := 40000
  inputMa : Nat := 0
  windowAt : Option Nat := none
  /-- n of R602, and the windows in a row that stayed 150 W or more below the ceiling. -/
  step : Nat := 16
  lowRun : Nat := 0
  /-- POWER_CAP written and not yet in force, and the code in force (R602). -/
  capPending : Option Nat := none
  capInForce : Nat := 0
  switchHalved : Bool := false
  /-- Sensors above their throttle point, and sensors not 5 °C below it, by sensor code, as last read (R603). -/
  hot : List Nat := []
  warm : List Nat := []
  /-- The input has left the operating range and is not known to be back in it (R601). -/
  inputOut : Bool := false
  /-- After OVERTEMP, until every sensor is 10 °C below its throttle point (R601). -/
  overtempHold : Bool := false
  /-- A fault has powered off the compute, switch, lane and host domains; and memory, after which only a cold reset recovers
  the TX1 (R601). -/
  fastOff : Bool := false
  /-- A reset of the switch domain in KEEPALIVE has powered it (R619). -/
  switchOn : Bool := false
  memoryOff : Bool := false
  selfRefresh : Bool := false
  holdover : Bool := false
  /-- Tick from which RACKCLK counts as present again (R608). -/
  rackclkSince : Nat := 0
  tickLocked : Bool := false
  lastMarker : Nat := 0
  sleep : SleepState := .active
  /-- State left by the wake or the entry in progress, and the tick in which a wake may complete (R613, R617). -/
  wakeFrom : SleepState := .active
  wakeDue : Option Nat := none
  /-- Entry to KEEPALIVE: when it began, and the switch tick of its PORT_SLEEPs (R616). -/
  entryStart : Option Nat := none
  sleepTs : Option Nat := none
  /-- Last tick in which the fast domains held work, and the first of the present run in which the conditions of
  automatic DOZE hold (R613). -/
  lastWork : Nat := 0
  dozeSince : Option Nat := none
  /-- Tick of the last assertion of WAKE_N, and the last tick in which it is low (R648). -/
  wakePinAt : Option Nat := none
  wakeUntil : Nat := 0
  wakePorts : List Nat := []
  event : List Byte := []
  lastWake : List Byte := []
  deriving DecidableEq, Repr

/-! ## Outputs -/

/-- What leaves the block, in order. The model's own record; it says what went where and when. -/
inductive Out where
  /-- A dictionary frame on a path to an address and UDP port (R45, R60). -/
  | frame (tick : Nat) (path : Path) (addr : BitVec 128) (udpPort : BitVec 16) (bytes : List Byte)
  /-- A cell sent on a port's lane, with the CRC-32C computed for this hop (R117) and the symbols of its codewords that
  an injection corrupts at the encoder's output (R110). -/
  | cell (tick : Nat) (p : Port) (l : Lane) (c : Cell) (crc : Nat) (bad : Nat)
  /-- Received bytes sent back on their own lane by the loop FAR (R109). -/
  | loop (tick : Nat) (p : Port) (l : Lane) (bytes : List Byte)
  /-- A lane's transmit pins fall idle, or carry a signal again (R72, R109, R110). -/
  | idle (tick : Nat) (p : Port) (l : Lane) (on : Bool)
  /-- Training frames: how many, each the marker and this TRAIN cell (R151). -/
  | train (tick : Nat) (p : Port) (l : Lane) (n : Nat) (c : Cell)
  /-- An accepted cell handed from a port's receiver to its consumer (R133). -/
  | deliver (tick : Nat) (p : Port) (c : Cell)
  /-- A cell handed to an internal crossbar output. -/
  | internal (tick : Nat) (d : Sdie) (x : Nat) (c : Cell)
  /-- A packet of the host transport. -/
  | host (tick : Nat) (qp : Nat) (bytes : List Byte)
  /-- MODSEL_N of a site: low while the module is addressed (R650). -/
  | modsel (tick : Nat) (site : Nat) (level : Bool)
  /-- A message to a module over a two-wire bus: bus, site and CMIS operation (R104, R650). -/
  | cmis (tick : Nat) (bus : Nat) (site : Nat) (op : CmisOp)
  /-- A pin's level: 0 is ALERT_N, driven low while it is asserted (R649). -/
  | pin (tick : Nat) (name : Nat) (level : Bool)
  /-- An answer to a unit inside the package: what was asked, the code, and a value (R188). -/
  | answer (tick : Nat) (what : Nat) (code : Nat) (value : Nat)
  /-- An ICMPv6 neighbour advertisement (R66). -/
  | neighbour (tick : Nat) (path : Path) (addr : BitVec 128) (target : BitVec 128)
  /-- What a test port instruction puts out on TDO: how many bits, and the bits, least significant first (R652). -/
  | tdo (tick : Nat) (n : Nat) (bits : BitVec 32)
  /-- EXTEST takes effect on the package's outputs, or ends (R589). -/
  | extest (tick : Nat) (on : Bool)
  deriving DecidableEq, Repr

/-! ## Kennel and crossbar -/

/-- A HELD or STRAY slot of a cell buffer (R175, R178). Owner: crossbar port, plus 256 on the replay side. -/
structure KSlot where
  stray : Bool := false
  pool : Pool
  owner : Nat
  copies : Nat := 1
  sl : Nat := 0
  allocTick : Nat := 0
  cell : Option Cell := none
  /-- The VC on which the cell came to its input, before the DL it leaves with (R141, R180, R210). -/
  arr : Nat := 0
  /-- Outputs of a multicast cell still to be served (R173, R174). -/
  fan : List Nat := []
  /-- The physical port the input stage of the first half chose, or the ports it fans out to, for the far side
  of the bridge (R166, R173). -/
  dest : List Nat := []
  deriving DecidableEq, Repr

/-- A free-list rebuild in progress (R190): the tick it began and the slots it has passed. -/
structure Rebuild where
  start : Nat
  passed : Nat
  deriving DecidableEq, Repr

/-- How the outputs of an internal input's cell are found when it is enqueued: given with it, as one port or as a multicast;
by route table; or by spraying over a ring group (R166, R173, R355). -/
inductive Way where
  | ports (multi : Bool)
  | table
  | ring (group : Nat)
  deriving DecidableEq, Repr

/-- A cell an internal input holds back until its VC falls below its limit (R180, R190). -/
structure WaitCell where
  input : Nat
  way : Way
  dest : List Nat := []
  cell : Cell
  deriving DecidableEq, Repr

/-- One S-die's kennel and crossbar (R164 to R199). -/
structure Kennel where
  /-- The free list in order, as runs of consecutive slots. -/
  free : List (Nat × Nat) := [(0, 786431)]
  /-- Slots that are not FREE. -/
  slots : Tbl KSlot := []
  /-- Unicast queues by (input × 256 + output) × 16 + VC, heads first (R166). -/
  queues : Tbl (List Nat) := []
  /-- Multicast queues by input × 16 + VC. -/
  mqueues : Tbl (List Nat) := []
  waiting : List WaitCell := []
  rebuild : Option Rebuild := none
  auditNext : Nat := 0
  /-- Round-robin pointers and rotations of R170, R171. -/
  ctlPtr : Tbl Nat := []
  clsPtr : Tbl Nat := []
  accPtr : Tbl Nat := []
  rotCls : Tbl Nat := []
  rotServed : Tbl Nat := []
  /-- Credits used of those an internal output's unit has granted, by output × 16 + VC (R165). -/
  unitUsed : Tbl Nat := []
  /-- Slots taken as victims since the last cycle began (R187). -/
  taken : List Nat := []
  deriving DecidableEq, Repr

/-- An injection armed by KENNEL_INJECT (R196). -/
structure KennelInj where
  kind : Nat
  die : Nat
  deriving DecidableEq, Repr

/-! ## Routing -/

/-- A route bank's state (R214). -/
inductive BankState where
  | idle | live | draining
  deriving DecidableEq, Repr

/-- An outstanding bridged request (R225, R227, R491). -/
structure E2eReq where
  dest : Nat
  mseq : Nat
  cell : Cell
  sentAt : Nat
  resends : Nat := 0
  deriving DecidableEq, Repr

/-- The leash of one destination (R223). -/
structure Leash where
  dest : Nat
  rate : Nat := 256
  lastDown : Option Nat := none
  lastUp : Nat := 0
  deriving DecidableEq, Repr

/-- Route tables stand in `Dev.blobs`; this is the rest of the routing state (R200 to R231). -/
structure Routing where
  bank0 : BankState := .live
  bank1 : BankState := .idle
  flipTick : Option Nat := none
  /-- The last flip, for DRAIN_STUCK; cleared once reported. -/
  stuckFrom : Option Nat := none
  /-- Spray accumulators by (S-die × 4 + group) × 256 + port (R212). -/
  acc : Tbl Int := []
  /-- Weights of the present tick, by port (R211). -/
  weights : Tbl Nat := []
  weightTick : Option Nat := none
  leashes : List Leash := []
  requests : List E2eReq := []
  /-- Next MSEQ by destination (R226). -/
  mseq : Tbl Nat := []
  /-- LOGICAL(p) of ports whose number differs from p (R625). -/
  logical : Tbl Nat := []
  deriving DecidableEq, Repr

/-- The discovery record of a port (R642). -/
structure Discovery where
  outcome : Nat := 0
  other : Nat := 0xFF
  differ : Nat := 0
  tick : Nat := 0
  deriving DecidableEq, Repr

/-! ## Exact values -/

/-- CLASS of an exact value (R250). -/
inductive EClass where
  | finite | negzero | posinf | neginf | nan
  deriving DecidableEq, Repr

/-- An exact value: the finite part is A × 2^−149 (R250). -/
structure Exact where
  cls : EClass
  a : Int
  deriving DecidableEq, Repr

/-! ## Packs, contexts and chunks -/

/-- The states of a context (R302, R314). -/
inductive CtxState where
  | free | collect | done | mismatch | failed
  deriving DecidableEq, Repr

/-- The states of a chunk that the model lists; a chunk not listed is in NONE (R337). -/
inductive ChunkState where
  | opened | logged | restore | check | emit | released
  deriving DecidableEq, Repr

/-- A start record or the record of a heel (R284, R309). -/
structure CollRec where
  heel : Bool := false
  collType : Nat := 0
  elem : Nat := 0
  op : Nat := 0
  compact : Bool := false
  upper : Nat := 0
  rounding : Nat := 0
  dup : Bool := false
  count : Nat := 0
  step : Nat := 0
  tensor : Nat := 0
  fused : Nat := 0
  root : Nat := 0
  shard : Nat := 0
  kind : Nat := 0
  deriving DecidableEq, Repr

/-- The values of a CHECK cell (R130). -/
structure Checks where
  c0 : Nat
  c1 : Nat
  c2 : Nat
  count : Nat
  kind : Nat
  deriving DecidableEq, Repr

/-- A contributor's record for one chunk: arrival bitmaps and residue registers (R297, R316, R326, R362), with the
payloads received, by CELL, then 64 + 8 × CELL + SUB for PROMO, or by 1024 + FIRST for a packed cell. -/
structure Contrib where
  data : Nat := 0
  promo : Nat := 0
  runs : List (Nat × Nat) := []
  cells : Tbl (List Byte) := []
  check : Option Checks := none
  u : Nat := 0
  v : Nat := 0
  /-- In the main accumulator; otherwise it is the member's provisional one (R298). -/
  applied : Bool := false
  /-- Its check has passed (R327). -/
  verified : Bool := false
  deriving DecidableEq, Repr

/-- What a chunk's log keeps beside the spill region (R339): the sender of a cell, and the number of the record that holds the
cell, its arrival port and the tick. -/
structure LogRec where
  sender : Nat
  record : Nat
  deriving DecidableEq, Repr

/-- A chunk of a context (R316, R337). `acc` holds the accumulators by position; one not listed holds the
operator's initial value (R322). -/
structure Chunk where
  state : ChunkState := .opened
  acc : Tbl Exact := []
  h : Nat := 0
  contribs : Tbl Contrib := []
  log : List LogRec := []
  completeTick : Nat := 0
  /-- NaNs of this chunk (R452). -/
  nans : Nat := 0
  deriving DecidableEq, Repr

/-- The entries a context latches at allocation (R271, R339). -/
structure Latch where
  shiftB4 : Nat := 3
  shiftT2 : Nat := 1
  strict : Bool := false
  halt : Bool := false
  seed : Nat := 0
  noSpill : Bool := false
  deriving DecidableEq, Repr

/-- Quantisation-health statistics (R452). -/
structure Health where
  elements : Nat := 0
  promoted : Nat := 0
  saturated : Nat := 0
  efAbsent : Nat := 0
  nans : Nat := 0
  dropped : Nat := 0
  sqOver : Nat := 0
  errSq : Exact := ⟨.finite, 0⟩
  sigSq : Exact := ⟨.finite, 0⟩
  ranges : Nat := 0
  kfac : Nat := 0
  deriving DecidableEq, Repr

/-- A chain cell kept in the send log (R363): where it goes, its chunk, and the number of its record in the spill region. -/
structure SendRec where
  level : Nat
  rack : Nat
  group : Nat
  chunk : Nat
  record : Nat
  deriving DecidableEq, Repr

/-- A neighbour this switch has sent a START or HEEL (R356, R363, R295). -/
structure SpanTarget where
  level : Nat
  rack : Nat
  group : Nat
  busyAt : Option Nat := none
  busyInt : Nat := 0
  deriving DecidableEq, Repr

/-- A chunk that has left its unit for the compute tier (R335): S or Y, the projected partials of its upstreams (R440), and what
its CHUNK record takes from the unit. -/
structure TierChunk where
  s : List Exact
  ups : List (List Exact) := []
  inp : Nat := 0
  res : Nat := 0
  rmd : Nat := 0
  base : Health := {}
  deriving DecidableEq, Repr

/-- A context (R289 to R314). Senders: a logical port, 256 + ring group for an upstream, 260 for the compute tier. -/
structure Ctx where
  pack : Nat
  cseq : Nat := 0
  state : CtxState := .free
  status : Nat := 0
  field : Nat := 0
  member : Nat := 0xFFFF
  openTick : Nat := 0
  progressTick : Nat := 0
  record : Option CollRec := none
  validated : List Nat := []
  /-- WEIGHT_REF by sender (R323). -/
  weights : Tbl Nat := []
  chunks : Tbl Chunk := []
  /-- Chunks handed to the compute tier and not yet taken by the chain (R335). -/
  tier : Tbl TierChunk := []
  /-- Chunks that the chain has not yet finished with, of those taken: they wait for a commit, a block or a token. -/
  atChain : List Nat := []
  /-- Result chunks that come down, relayed here (R365). -/
  down : Tbl Chunk := []
  /-- Chunks released, relayed or finished here. -/
  released : List Nat := []
  relayed : List Nat := []
  /-- Result chunks of an expert collective emitted here as home (R443, R444). -/
  emitted : List Nat := []
  latch : Latch := {}
  health : Health := {}
  /-- Sums of the CHUNK records written (R502). -/
  ledgerIn : Nat := 0
  ledgerRes : Nat := 0
  ledgerRem : Nat := 0
  ledgerOut : Nat := 0
  ledgerN : Nat := 0
  commitCode : Nat := 0
  releaseTick : Option Nat := none
  targets : List SpanTarget := []
  sendLog : List SendRec := []
  resendAt : Option Nat := none
  resendInt : Nat := 0
  /-- Arms of the coordinator from which COLL_DONE OK has come (R366). -/
  doneFrom : List Nat := []
  doneSent : Bool := false
  deriving DecidableEq, Repr

/-- An ACTIVE pack's own state (R277, R278). -/
structure PackSt where
  contexts : List Nat
  frontier : Nat
  members : Nat
  hier : Nat
  deriving DecidableEq, Repr

/-- A collective cell held while the compute or switch domain wakes (R33, R614). -/
structure HeldCell where
  src : Src
  cell : Cell
  deriving DecidableEq, Repr

/-- A released heel whose RELEASE_TICK is ahead (R310, R448). -/
structure HeelRel where
  ctx : Nat
  pack : Nat
  tick : Nat
  kind : Nat
  step : Nat
  deriving DecidableEq, Repr

/-- The NaN trap's record (R273). -/
structure NanTrap where
  tick : Nat
  pack : Nat
  cseq : Nat
  chunk : Nat
  element : Nat
  kind : Nat
  source : Nat
  ty : Nat
  oper : Nat
  deriving DecidableEq, Repr

/-- What a fast clock domain raises to the interrupt controller (R31, R539). -/
inductive ArrivalKind where
  /-- A link state change on a port. -/
  | link (p : Nat)
  /-- A source raised by its code. -/
  | source (s : Nat)
  /-- A NaN for the trap: its record, and whether its policy is HALT, with the agent the bark names. -/
  | nan (t : NanTrap) (halt : Bool) (ini : Nat)
  deriving DecidableEq, Repr

/-- An event on its way to the interrupt controller, with the tick that samples it (R31). -/
structure Arrival where
  due : Nat
  what : ArrivalKind
  deriving DecidableEq, Repr

/-- Time transfer (R373, R374): the exchange under way and the last samples, newest first. -/
structure TimeSync where
  seq : Nat := 0
  t1 : Option Nat := none
  lastSent : Option Nat := none
  samples : List Int := []
  offset : Int := 0
  delay : Int := 0
  deriving DecidableEq, Repr

/-! ## The compute tier -/

/-- A whistle's states (R413). -/
inductive WhistleState where
  | disarmed | armed | spent
  deriving DecidableEq, Repr

/-- A whistle: its 32-byte descriptor, counter and fires (R406, R416). -/
structure Whistle where
  desc : List Byte := List.replicate 32 0
  count : Nat := 0
  fires : Nat := 0
  /-- Fires before the last clear of WHISTLE_FIRES (R555). -/
  cleared : Nat := 0
  state : WhistleState := .disarmed
  deriving DecidableEq, Repr

/-- Where a fired action stands. -/
inductive ActionStage where
  | queued | running | succeeded | failed
  deriving DecidableEq, Repr

/-- A fired action (R408, R411). -/
structure Action where
  whistle : Nat
  fire : Nat
  code : Nat
  cdie : Nat
  addr : Nat
  arg2 : Nat
  stage : ActionStage := .queued
  deriving DecidableEq, Repr

/-- A product or chain invocation under way (R390, R425). -/
structure Product where
  descAddr : Nat
  desc : List Byte
  cdie : Nat
  /-- The whistle and fire that launched it. -/
  whistle : Nat
  fire : Nat
  start : Nat
  /-- The kind of R403 with which it has failed. -/
  failed : Option Nat := none
  deriving DecidableEq, Repr

/-- COMPUTE_INJECT armed (R405). -/
structure ComputeInj where
  kind : Nat
  cdie : Nat
  deriving DecidableEq, Repr

/-- What a chunk at a chain waits for: the coefficient of phase 2 (R438), the commit of the step before (R446), or
the rest of its block (R434). -/
inductive StashWait where
  | clip | commit | block
  deriving DecidableEq, Repr

/-- A write to a chain's slot that waits for its chunk's end (R418): a step's fields of the chunk's elements, or bytes. -/
inductive StateWrite where
  | fields (at0 : Nat) (vs : List (List Nat))
  | bytes (addr : Nat) (bs : List Byte)
  deriving DecidableEq, Repr

/-- A chunk that waits at a chain: in its stash (R435, R446), or for its block (R434). -/
structure Stashed where
  ctx : Nat
  pack : Nat
  cseq : Nat
  step : Nat
  tensor : Nat
  chunk : Nat
  /-- Its local number (R427). -/
  loc : Nat
  /-- The next step of the chain to run. -/
  next : Nat
  rounding : Nat
  dup : Bool
  latch : Latch
  wait : StashWait := .clip
  /-- The invocation that runs it, by product number (R425). -/
  prod : Option Nat := none
  /-- Its CHUNK record is written and its part in its context is over (R435). -/
  recorded : Bool := false
  /-- FP32 bits by element, for a chunk that waits for its block. -/
  g : List Nat := []
  /-- What its CHUNK record takes from the reduction unit (R501). -/
  inp : Nat := 0
  res : Nat := 0
  rmd : Nat := 0
  base : Health := {}
  /-- What its steps have written so far, which reaches the slot at the chunk's end (R418). -/
  writes : List StateWrite := []
  deriving DecidableEq, Repr

/-- A chain slot (R423, R424, R435, R445, R446, R454). The slot headers and slots stand in memory (R427, R428). -/
structure ChainSlot where
  addr : Nat := 0
  /-- The descriptor as copied at LOAD: 64 bytes and 64 for each step; empty when the slot is EMPTY. -/
  desc : List Byte := []
  error : Nat := 0
  initStep : Nat := 0
  committed : Nat := 0
  stash : List Stashed := []
  /-- Local chunks whose state a step has written: step and number (R451). -/
  written : List (Nat × Nat) := []
  /-- Chunks finished whose OP_DONE is still to be raised (R426). -/
  finished : List Nat := []
  /-- The pack and record served last, which number the homed chunks (R427, R476). -/
  served : Option (Nat × CollRec) := none
  deriving DecidableEq, Repr

/-- One kept choice of the router (R443): token, rank, expert, slot number and BF16 weight. -/
structure Choice where
  rank : Nat
  token : Nat
  expert : Nat
  slot : Nat
  weight : Nat
  deriving DecidableEq, Repr

/-- The router's state and routing record for one (STEP, TENSOR) pair (R443). -/
structure RouteRec where
  chain : Nat
  step : Nat
  tensor : Nat
  choices : List Choice := []
  /-- Tokens assigned, by rank: how many from 0 up. -/
  assigned : Tbl Nat := []
  /-- Routed tokens held until every lower token of their rank is assigned: rank × 2^20 + token to expert and weight. -/
  held : Tbl (List (Nat × Nat)) := []
  /-- EXPERT_MAP as read at open (R422). -/
  map : List Nat := []
  deriving DecidableEq, Repr

/-- A program slot (R471 to R477). -/
structure ProgSlot where
  image : List Byte := []
  loaded : List Byte := []
  error : Nat := 0
  elements : Nat := 0
  deriving DecidableEq, Repr

/-- A norm accumulator NA[GROUP, parity] with its tag (R435). -/
structure NormAcc where
  tag : Nat
  val : Exact
  deriving DecidableEq, Repr

/-! ## Host port and DMA -/

/-- What a queue pair's outstanding work is for. -/
inductive QpUse where
  | dma (ch : Nat)
  | bridge
  | interrupt (g : Nat)
  /-- Work whose user has gone. -/
  | dropped
  deriving DecidableEq, Repr

/-- A request packet of a queue pair as requester (R484, R486): its opcode, its first PSN, how many PSNs it covers,
its use, and the fields it is sent with. -/
structure QpReq where
  op : Nat
  psn : Nat := 0
  npkts : Nat := 1
  use : QpUse
  rkey : Nat := 0
  va : Nat := 0
  dmaLen : Nat := 0
  ackReq : Bool := false
  payload : List Byte := []
  deriving DecidableEq, Repr

/-- A message being received (R484): 0 SEND, 1 WRITE, with the bytes taken so far. -/
structure QpRx where
  kind : Nat
  rkey : Nat := 0
  va : Nat := 0
  len : Nat := 0
  taken : Nat := 0
  data : List Byte := []
  deriving DecidableEq, Repr

/-- A queue pair's transport state (R483 to R491, R505). -/
structure Qp where
  state : Nat := 0
  sqPsn : Nat := 0
  rqPsn : Nat := 0
  /-- Messages executed as responder, modulo 2^24. -/
  msn : Nat := 0
  /-- Packets sent and not yet acknowledged, and packets not yet sent, in order. -/
  sent : List QpReq := []
  queue : List QpReq := []
  sentAt : Nat := 0
  retries : Nat := 0
  rnrRetries : Nat := 0
  rate : Nat := 256
  lastCnp : Option Nat := none
  lastRise : Nat := 0
  lastCnpSent : Option Nat := none
  /-- A NAK for a gap in the PSNs has been sent and the gap stays. -/
  gapNak : Bool := false
  rx : Option QpRx := none
  deriving DecidableEq, Repr

/-- The host port (R478 to R481). HOST_MODE stands in `Dev.regs`. -/
structure HostPort where
  fails800 : Nat := 0
  only400 : Bool := false
  deriving DecidableEq, Repr

/-- A bridge record waiting (R490, R491); MSEQ once its request has been sent. -/
structure BridgeRec where
  qp : Nat
  dest : Nat
  len : Nat
  sl : Nat
  tag : Nat
  payload : List Byte
  /-- The SEND message that brought it, by its place among those of its queue pair. -/
  msg : Nat := 0
  mseq : Option Nat := none
  deriving DecidableEq, Repr

/-- What arrived on the host port and is held while a domain it needs wakes (R480, R614). Kinds of a packet: 0 SEND, 1
WRITE, 2 READ request, 3 READ response, 4 acknowledgement. -/
inductive HeldPkt where
  /-- A RoCE packet that nothing has looked at. -/
  | frame (kind : Nat) (m : RoceMsg)
  /-- A RoCE packet accepted, whose effect needs a domain. -/
  | packet (kind : Nat) (m : RoceMsg)
  /-- A congestion notification for a queue pair. -/
  | cnp (qp : Nat)
  /-- Another frame. -/
  | raw (bytes : List Byte)
  deriving DecidableEq, Repr

/-- A DMA channel's states (R498). -/
inductive DmaState where
  | idle | running | paused | error
  deriving DecidableEq, Repr

/-- A chain start of a channel: the descriptor address, and the whistle and fire that made it, if one did. -/
structure DmaStart where
  addr : Nat
  action : Option (Nat × Nat)
  deriving DecidableEq, Repr

/-- A DMA channel (R492 to R498). -/
structure DmaCh where
  state : DmaState := .idle
  remaining : Nat := 0
  addr : Nat := 0
  desc : List Byte := []
  action : Option (Nat × Nat) := none
  queue : List DmaStart := []
  /-- The descriptor is started and its bytes are being moved. -/
  started : Bool := false
  /-- Bytes that a TO_HOST descriptor sends or a FROM_HOST descriptor has received. -/
  got : List Byte := []
  /-- Tick in which F was last seen at or below PACE_LOW while PAUSED. -/
  lowAt : Option Nat := none
  deriving DecidableEq, Repr

/-! ## Profiles, OTP and firmware -/

/-- What a burn is for. -/
inductive BurnKind where
  | profile (p g : Nat)
  | key (k g : Nat)
  | rollback
  | spent
  deriving DecidableEq, Repr

/-- A burn in progress (R576): the words still to program, by word number, and when the present one began. -/
structure Burn where
  kind : BurnKind
  words : List (Nat × Nat)
  start : Nat
  deriving DecidableEq, Repr

/-- The firmware store and the running firmware (R587, R590 to R594). -/
structure FwStore where
  slotA : List Byte := []
  slotB : List Byte := []
  /-- The slot that holds the image installed at manufacture, whose bytes the spec does not give. -/
  factory : Option Nat := some 0
  /-- Pieces written over that image, the latest first: offset and bytes. -/
  patches : List (Nat × List Byte) := []
  running : Nat := 0
  committed : Nat := 0
  /-- The slot marked TRIAL. -/
  trial : Option Nat := none
  /-- When the running slot was booted as TRIAL, while it is one. -/
  trialSince : Option Nat := none
  verified : Bool := false
  pubkey0 : List Byte := []
  pubkey1 : List Byte := []
  /-- No slot was valid: the boot ROM runs on (R594). -/
  romOnly : Bool := false
  deriving DecidableEq, Repr

/-! ## The device -/

/-- Everything the device holds but the snapshot shadows and the queue. -/
structure Dev where
  /-- The 64-bit tick counter (R9, R557). -/
  tick : Nat := 0
  /-- The model's own count of free values drawn. -/
  draws : Nat := 0
  /-- Dictionary entries of a numeric type and counters, by key; a key not listed holds its default (R40). -/
  regs : Tbl Nat := []
  /-- Dictionary entries of type STR and OCTETS, by key; a key not listed holds its default. -/
  blobs : Tbl (List Byte) := []
  mfg : Mfg := {}
  /-- Ports by number; a port not listed is as after reset. -/
  ports : Tbl PortSt := []
  modules : Tbl ModuleSt := []
  /-- Module site in effect of a port, plus 1, 0 for none; by default sites 0 to 31 serve ports 224 to 255 (R651). -/
  siteEff : Tbl Nat := []
  mgmt : Mgmt := {}
  sentry : Sentry := {}
  ints : IntCtl := {}
  tele : Telemetry := {}
  power : Power := {}
  kennel0 : Kennel := {}
  kennel1 : Kennel := {}
  kinject : Option KennelInj := none
  routing : Routing := {}
  discovery : Tbl Discovery := []
  /-- STA_COMPUTE, STA_BRIDGE, STA_HOST and STA_REDUCE as the last reset of the switch domain took them (R198). -/
  staInForce : List Nat := [512, 1024, 256, 256]
  /-- GRANT entries whose change waits for ports to re-enter UP, with the larger value (R182). -/
  dedOld : Tbl Nat := []
  dedWait : List Nat := []
  packs : Tbl PackSt := []
  /-- FRONTIER of the packs that went back to IDLE (R279, R312). -/
  frontLeft : Tbl Nat := []
  ctxs : Tbl Ctx := []
  heldCells : List HeldCell := []
  heels : List HeelRel := []
  /-- Steps of which a context that names a chain with state has ended otherwise than with OK (R448). -/
  stepFails : List Nat := []
  nanTrap : Option NanTrap := none
  /-- Events of fast clock domains on their way to the interrupt controller (R31). -/
  arrivals : List Arrival := []
  time : TimeSync := {}
  /-- HBM4, cluster buffers and scratchpads by tier address (R386); an address not listed reads 0x00. -/
  mem : List Host.Cell := []
  /-- Words that read as uncorrectable (R504): tier addresses. -/
  ueWords : List Nat := []
  /-- Page checks kept in the page-check region (R503), by tier address of the page. -/
  pageChecks : Tbl Nat := []
  whistles : Tbl Whistle := []
  /-- The action queues of S-die 0 and S-die 1 (R411), with the actions under way. -/
  actions0 : List Action := []
  actions1 : List Action := []
  products : Tbl Product := []
  productNext : Nat := 0
  cinject : Option ComputeInj := none
  chains : Tbl ChainSlot := []
  norms : Tbl NormAcc := []
  routes : List RouteRec := []
  programs : Tbl ProgSlot := []
  hostPort : HostPort := {}
  qps : Tbl Qp := []
  bridge : List BridgeRec := []
  heldPkts : List HeldPkt := []
  dma : Tbl DmaCh := []
  /-- The scrubber's next HBM4 word (R504). -/
  scrubNext : Nat := 0
  /-- OTP words from 0x04000 up that are not zero, by offset / 8 (R575). -/
  otp : Tbl Nat := []
  burn : Option Burn := none
  burnState : Nat := 0
  fw : FwStore := {}
  /-- Debug opened by the vendor unlock (R589). -/
  debugOpen : Bool := false
  /-- The instruction in effect at the IEEE 1149.1 test port (R589). -/
  testPort : TestInstr := .idcode
  out : List Out := []
  deriving DecidableEq, Repr

/-- A taken snapshot: the device as its units copied it (R559, R560). -/
structure ShadowSet where
  id : Nat
  target : Nat
  /-- Set 4 ticks after the copy (R559). -/
  taken : Bool
  image : Dev
  deriving DecidableEq, Repr

/-- The block's whole state: the device, its shadows, and the commands waiting, first in first out. -/
structure State extends Dev where
  shadows : List ShadowSet
  /-- The device at the boundary at which its tick became the armed TARGET_TICK, which the copy takes (R559). -/
  boundary : Option Dev := none
  pending : List Instr
  deriving DecidableEq, Repr

/-- The block right after a cold reset at tick 0. -/
def State.reset : State := { toDev := {}, shadows := [], pending := [] }

end Sys2Proof.Machine
end

