-- ==== Sys2Proof/Machine/Ops.lean ====
section
/-! DEFINITION. The shared operations: sparse tables, byte order, dictionary registers, ports, outputs,
free values, domains and the fence. -/

namespace Sys2Proof.Machine

/-! ## Sparse tables -/

/-- The value at a key. -/
def tget {α : Type} (t : Tbl α) (k : Nat) : Option α :=
  match t with
  | [] => none
  | (j, v) :: r => if j = k then some v else tget r k

/-- The table with one key set, keys kept rising. -/
def tset {α : Type} (t : Tbl α) (k : Nat) (v : α) : Tbl α :=
  match t with
  | [] => [(k, v)]
  | (j, w) :: r => if j < k then (j, w) :: tset r k v else if j = k then (k, v) :: r else (k, v) :: (j, w) :: r

/-- The table without one key. -/
def terase {α : Type} (t : Tbl α) (k : Nat) : Tbl α :=
  t.filter (fun e => e.1 != k)

/-- The value at a key, or a default. -/
def tgetD {α : Type} (t : Tbl α) (k : Nat) (d : α) : α := (tget t k).getD d

/-! ## Numbers as bytes -/

/-- The number of a byte string, most significant byte first (R11). -/
def beNat (bs : List Byte) : Nat := bs.foldl (fun a b => a * 256 + b.toNat) 0

/-- The number of a byte string, least significant byte first (R12). -/
def leNat (bs : List Byte) : Nat := bs.foldr (fun b a => b.toNat + 256 * a) 0

/-- `n` bytes of a number, least significant byte first. -/
def leBytes (n v : Nat) : List Byte :=
  match n with
  | 0 => []
  | m + 1 => BitVec.ofNat 8 v :: leBytes m (v / 256)

/-- `n` bytes of a number, most significant byte first. -/
def beBytes (n v : Nat) : List Byte := (leBytes n v).reverse

/-- A field of a number: `w` bits from bit `lo` up. -/
def bits (v lo w : Nat) : Nat := v / 2 ^ lo % 2 ^ w

/-- Bytes `a` to `a + n - 1` of a string. -/
def slice (bs : List Byte) (a n : Nat) : List Byte := (bs.drop a).take n

/-- A string padded with zeros, or cut, to a length. -/
def padTo (n : Nat) (bs : List Byte) : List Byte :=
  bs.take n ++ List.replicate (n - bs.length) 0

/-- Bytes with one position replaced. -/
def splice (bs : List Byte) (a : Nat) (v : List Byte) : List Byte :=
  bs.take a ++ v ++ bs.drop (a + v.length)

/-- Bit masks of 256 bits as the 32 bytes of a dictionary value: bit [j] of byte k is 8k + j. -/
def maskBytes (m : Nat) : List Byte := leBytes 32 m

/-- A two's complement number of `w` bits as an integer. -/
def toSigned (w v : Nat) : Int := if v < 2 ^ (w - 1) then (v : Int) else (v : Int) - 2 ^ w

/-- An integer as a two's complement number of `w` bits. -/
def ofSigned (w : Nat) (i : Int) : Nat := (i % (2 ^ w : Int)).toNat

/-- Insert into a list kept in order. -/
def insertBy {α : Type} (le : α → α → Bool) (a : α) : List α → List α
  | [] => [a]
  | b :: r => if le a b then a :: b :: r else b :: insertBy le a r

/-- A list in order; equals keep their order. -/
def sortBy {α : Type} (le : α → α → Bool) : List α → List α
  | [] => []
  | a :: r => insertBy le a (sortBy le r)

/-! ## Dictionary registers -/

/-- The value of a numeric entry or counter: what was stored, or its default (R40). -/
def Dev.reg (d : Dev) (k : Nat) : Nat := (tget d.regs k).getD (keyDefault k)

/-- Store a numeric entry. -/
def Dev.setReg (d : Dev) (k v : Nat) : Dev := { d with regs := tset d.regs k v }

/-- A BOOL entry. -/
def Dev.flag (d : Dev) (k : Nat) : Bool := d.reg k != 0

/-- Store a BOOL entry. -/
def Dev.setFlag (d : Dev) (k : Nat) (b : Bool) : Dev := d.setReg k (if b then 1 else 0)

/-- The default of an OCTETS or STR entry: its exact length in zeros, or empty (R40). -/
def blobDefault (k : Nat) : List Byte :=
  match findRow (k / 256) (k % 256) with
  | some r => if r.minV = r.maxV then List.replicate r.minV 0 else []
  | none => []

/-- The value of an OCTETS or STR entry. -/
def Dev.blob (d : Dev) (k : Nat) : List Byte := (tget d.blobs k).getD (blobDefault k)

/-- Store an OCTETS or STR entry. -/
def Dev.setBlob (d : Dev) (k : Nat) (v : List Byte) : Dev := { d with blobs := tset d.blobs k v }

/-! ## Free values -/

/-- Count one use of a free value. -/
def Dev.drew (d : Dev) : Dev := { d with draws := d.draws + 1 }

/-- Several free values were used. -/
def Dev.drewN (d : Dev) (n : Nat) : Dev := { d with draws := d.draws + n }

/-! ## Ports and lanes -/

/-- A port. -/
def Dev.port (d : Dev) (p : Nat) : PortSt := tgetD d.ports p {}

/-- Replace a port. -/
def Dev.setPort (d : Dev) (p : Nat) (x : PortSt) : Dev := { d with ports := tset d.ports p x }

/-- Change a port. -/
def Dev.updPort (d : Dev) (p : Nat) (f : PortSt → PortSt) : Dev := d.setPort p (f (d.port p))

/-- A lane of a port. -/
def PortSt.lane (x : PortSt) (l : Lane) : LaneSt :=
  match l with
  | 0 => x.lane0
  | 1 => x.lane1
  | 2 => x.lane2
  | 3 => x.lane3

/-- Replace a lane of a port. -/
def PortSt.setLane (x : PortSt) (l : Lane) (v : LaneSt) : PortSt :=
  match l with
  | 0 => { x with lane0 := v }
  | 1 => { x with lane1 := v }
  | 2 => { x with lane2 := v }
  | 3 => { x with lane3 := v }

/-- A lane of a port of the device. -/
def Dev.lane (d : Dev) (p : Nat) (l : Lane) : LaneSt := (d.port p).lane l

/-- Change a lane of a port of the device. -/
def Dev.updLane (d : Dev) (p : Nat) (l : Lane) (f : LaneSt → LaneSt) : Dev :=
  d.updPort p (fun x => x.setLane l (f (x.lane l)))

/-- The four lanes, lowest first. -/
def lanes4 : List Lane := [0, 1, 2, 3]

/-- The lanes of a port in striping, lowest first: the ACTIVE ones (R103). -/
def PortSt.striping (x : PortSt) : List Lane := lanes4.filter (fun l => (x.lane l).state == .active)

/-- A lane rate code's rate in Gbit/s (R74). -/
def rateGbit (code : Nat) : Nat :=
  if code = 2 then 200 else if code = 1 then 100 else 0

/-- PORT_CAPACITY: the sum of the rates of the lanes in striping (R112). -/
def PortSt.capacity (x : PortSt) : Nat := (x.striping.map (fun l => rateGbit (x.lane l).rate)).sum

/-- All ports, lowest first. -/
def allPorts : List Nat := List.range 256

/-- A port number as an operand. -/
def portFin (p : Nat) : Port := Fin.ofNat 256 p

/-- The S-die that serves a port (R24). -/
def sdieOf (p : Nat) : Nat := p / 128

/-- LOGICAL(p) (R625). -/
def Dev.logical (d : Dev) (p : Nat) : Nat := tgetD d.routing.logical p p

/-- The physical port that holds a logical number (R625). -/
def Dev.physical (d : Dev) (n : Nat) : Nat := (allPorts.find? (fun p => d.logical p = n)).getD n

/-- PLAN_NEIGHBOUR of a logical port; by default KIND NONE, with CLASS REACH on ports 224 to 255 (R628). -/
def Dev.planEntry (d : Dev) (n : Nat) : List Byte :=
  match tget d.blobs (E.PLAN_NEIGHBOUR n) with
  | some v => v
  | none => List.replicate 17 0 ++ [if 224 ≤ n then 1 else 0] ++ List.replicate 6 0

/-- KIND of a plan entry (R628). -/
def planKind (v : List Byte) : Nat := beNat (slice v 16 1)

/-- CLASS of a plan entry: reach (R628). -/
def planReach (v : List Byte) : Bool := beNat (slice v 17 1) = 1

/-- The plan class of a physical port: that of its logical number (R629). -/
def Dev.reach (d : Dev) (p : Nat) : Bool := planReach (d.planEntry (d.logical p))

/-- The class default of a port's plan class (R69). -/
def Dev.planClass (d : Dev) (p : Nat) : Nat := if d.reach p then 1 else 0

/-- ELEC_CLASS of a port: what was written, or the class default of its plan class (R69, R112), which changes only while
the port is OFF (R70). -/
def Dev.elecClass (d : Dev) (p : Nat) : Nat :=
  (tget d.regs (E.ELEC_CLASS p)).getD ((d.port p).heldClass.getD (d.planClass p))

/-- Whether a port is of MODULE class. -/
def Dev.isModule (d : Dev) (p : Nat) : Bool := d.elecClass p = 1

/-- The number of MODULE-class ports of an S-die. -/
def Dev.modulePorts (d : Dev) (s : Nat) : Nat := (allPorts.filter (fun p => p / 128 = s && d.isModule p)).length

/-! ## Outputs and the fence -/

/-- The fence holds (R523). -/
def Dev.fenced (d : Dev) : Bool :=
  match d.sentry.fenceAt with
  | some t => t ≤ d.tick
  | none => false

/-- Append an output. -/
def Dev.emit (d : Dev) (o : Out) : Dev := { d with out := d.out ++ [o] }

/-- Append an output that the fence stops (R523). -/
def Dev.emitLive (d : Dev) (o : Out) : Dev := if d.fenced then d else d.emit o

/-! ## Domains -/

/-- The clock and power domains of R32; each C-die has its own compute domain. -/
inductive Domain where
  | alwaysOn | host | lane0 | lanes | switch
  | compute (cdie : Fin 4)
  deriving DecidableEq, Repr

/-- The domain of an entry (R658). Sub-index 0x00 of 0x2200 to 0x23FF stands in the lane 0 sections, as log entry 185 says. An entry of the compute tier covers all four C-dies, so it stands in the domain that is
powered last (R617). (DEDUCED, log entry 180). -/
def domainOf (i s : Nat) : Domain :=
  if i = 0x2000 || i = 0x2001 || i = 0x2400 || i = 0x2401 || i = 0x2610 then .alwaysOn
  else if 0x2100 ≤ i && i ≤ 0x21FF || 0x2500 ≤ i && i ≤ 0x25FF then .lane0
  else if 0x2200 ≤ i && i ≤ 0x23FF then (if s < 0x10 then .lane0 else .lanes)
  else if 0x3000 ≤ i && i ≤ 0x33FF then .switch
  else if i = 0x4630 then .alwaysOn
  else if 0x4000 ≤ i && i ≤ 0x47FF then .switch
  else if i = 0x5000 || i = 0x5010 || 0x5200 ≤ i && i ≤ 0x5220 || i = 0x5400 then .compute 3
  else if i = 0x5100 || i = 0x5300 then .switch
  else if 0x6000 ≤ i && i ≤ 0x60FF then .host
  else if 0x6100 ≤ i && i ≤ 0x613F || i = 0x6220 then .compute 3
  else if i = 0x8030 && (s = 5 || s = 6) then .switch
  else .alwaysOn

/-- The present sleep state as the power of domains sees it: a wake keeps the state it left until it completes, and an
entry to KEEPALIVE from DOZE leaves the C-dies off. -/
def Power.sleepPower (p : Power) : SleepState :=
  if p.sleep = .waking then p.wakeFrom
  else if p.sleep = .entering then (if p.wakeFrom = .doze then .doze else .active)
  else p.sleep

/-- In a wake from DOZE a C-die is back 2,000 ticks after its start, and they start 500 ticks apart: the last as the wake
completes (R617). -/
def Power.cdieBack (p : Power) (c : Nat) (tick : Nat) : Bool :=
  p.sleep = .waking && (match p.wakeDue with
    | some t => t + 500 * c ≤ tick + 1500
    | none => false)

/-- Whether a domain's power is removed (R32, R52, R601, R620). -/
def Dev.domainOff (d : Dev) (m : Domain) : Bool :=
  match m with
  | .alwaysOn => d.power.off
  | .lane0 => d.power.off || d.power.bootStage < 3 || d.power.fastOff || d.power.resetLow
  | .host | .lanes =>
    d.power.off || d.power.bootStage < 3 || d.power.fastOff || d.power.resetLow || d.power.sleepPower = .keepalive
  | .switch =>
    d.power.off || d.power.bootStage < 3 || d.power.fastOff || d.power.resetLow ||
      (d.power.sleepPower = .keepalive && !d.power.switchOn)
  | .compute c =>
    d.power.off || d.power.bootStage < 3 || d.power.fastOff || d.power.resetLow || d.power.sleepPower = .keepalive ||
      (d.power.sleepPower = .doze && !d.power.cdieBack c d.tick)

/-- Whether a domain is powered with its clock stopped (R32). -/
def Dev.domainGated (d : Dev) (m : Domain) : Bool :=
  !d.domainOff m && d.power.sleepPower = .idle &&
    (match m with
     | .host | .switch | .compute _ => true
     | _ => false)

/-- The S-dies are off, or powered with their clock stopped (R32). -/
def Dev.switchStill (d : Dev) : Bool := d.domainOff .switch || d.domainGated .switch

/-- A compute domain is off, so not all of HBM4 is reached (R33, R570). -/
def Dev.computeOff (d : Dev) : Bool := (List.finRange 4).any (fun c => d.domainOff (.compute c))

/-- A C-die is powered with its clock stopped (R32). -/
def Dev.computeGated (d : Dev) : Bool := (List.finRange 4).any (fun c => d.domainGated (.compute c))

/-- A C-die's domain runs. -/
def Dev.cdieRuns (d : Dev) (c : Nat) : Bool := !(d.domainOff (.compute (Fin.ofNat 4 c)) || d.domainGated (.compute (Fin.ofNat 4 c)))

/-! ## Lifting to the state -/

/-- A change of the device alone. -/
def State.onDev (s : State) (f : Dev → Dev) : State := { s with toDev := f s.toDev }

/-- Answer the next state. -/
def done (s : State) : Host.Outcome State Fault Refusal := .next s

/-- Apply a change of the device alone and answer the next state. -/
def run (s : State) (f : Dev → Dev) : Host.Outcome State Fault Refusal := .next (s.onDev f)

end Sys2Proof.Machine
end

