-- ==== Sys2Proof/Machine/Flags.lean ====
section
/-! DEFINITION. Counters and their saturation, interrupt sources, the sentry's records, power events and
link state events: everything that raises a flag. -/

namespace Sys2Proof.Machine

/-! ## Counters (R549 to R556) -/

/-- Add to an event counter: 64 bits, wrapping (R549). -/
def Dev.countN (d : Dev) (k n : Nat) : Dev := d.setReg k ((d.reg k + n) % 2 ^ 64)

/-- Add one to an event counter. -/
def Dev.count (d : Dev) (k : Nat) : Dev := d.countN k 1

/-- The saturation event (R553). -/
def Dev.saturate (d : Dev) (k : Nat) : Dev :=
  let t := d.tele
  let t' := { t with satFlags := t.satFlags ++ [k],
                     satList := if t.satList.length < 256 then t.satList ++ [SatRec.mk k d.tick] else t.satList }
  (({ d with tele := t' }).setReg E.ANY_SATURATED 1).count E.SATURATION_EVENTS

/-- Add one to an error counter: 32 bits, sticking at its largest value with its flag (R549, R552). -/
def Dev.countErr (d : Dev) (k : Nat) : Dev :=
  let v := d.reg k
  if v = 0xFFFFFFFF then d
  else
    let d1 := d.setReg k (v + 1)
    if v + 1 = 0xFFFFFFFF then d1.saturate k else d1

/-- Add several to an error counter: the sum sticks, and the saturation event comes once (R549, R552). -/
def Dev.countErrN (d : Dev) (k n : Nat) : Dev :=
  let v := d.reg k
  if v = 0xFFFFFFFF || n = 0 then d
  else
    let w := min (v + n) 0xFFFFFFFF
    let d1 := d.setReg k w
    if w = 0xFFFFFFFF then d1.saturate k else d1

/-- Whether a counter's SATURATED flag is set. -/
def Dev.saturated (d : Dev) (k : Nat) : Bool := d.tele.satFlags.contains k

/-- Clear one counter with its flag and its record (R555). -/
def Dev.clearCounter (d : Dev) (k : Nat) : Dev :=
  let t := d.tele
  { d with regs := terase d.regs k,
           tele := { t with satFlags := t.satFlags.filter (· != k), satList := t.satList.filter (·.key != k) } }

/-! ## Interrupt sources (R539 to R541) -/

/-- Bit `s` of a mask. -/
def maskHas (m s : Nat) : Bool := m / 2 ^ s % 2 = 1

/-- A mask with bit `s` set. -/
def maskSet (m s : Nat) : Nat := if maskHas m s then m else m + 2 ^ s

/-- A mask with bit `s` clear. -/
def maskClear (m s : Nat) : Nat := if maskHas m s then m - 2 ^ s else m

/-- One raise of a source (R541). -/
def Dev.raiseInt (d : Dev) (s : Nat) : Dev :=
  let i := d.ints
  let c := tgetD i.counts s 0
  let i1 := { i with counts := tset i.counts s (min (c + 1) 255),
                     saturated := if c + 1 ≥ 255 then maskSet i.saturated s else i.saturated,
                     pending := maskSet i.pending s,
                     marked := if maskHas i.enable s then maskSet i.marked s else i.marked }
  { d with ints := i1 }

/-- The tick that samples an event raised now in a fast clock domain: the next or the one after (R31).
(DESIGN CHOICE, log entry 131). -/
def Dev.sampledAt (d : Dev) : Nat := d.tick + (if Config.freeSecondTick d.draws then 2 else 1)

/-- An event of a fast clock domain is on its way to the interrupt controller (R31).
(DESIGN CHOICE, log entry 131). -/
def Dev.arrive (d : Dev) (w : ArrivalKind) : Dev := { d with arrivals := d.arrivals ++ [Arrival.mk d.sampledAt w] }.drew

/-- A link state change on a port (R539). -/
def Dev.linkEvent (d : Dev) (p : Nat) : Dev := d.arrive (.link p)

/-- The interrupt controller samples a link state change (R539). -/
def Dev.markLink (d : Dev) (p : Nat) : Dev :=
  ({ d with ints := { d.ints with linkChanged := maskSet d.ints.linkChanged p } }).raiseInt 0x05

/-- A power event (R623): the record, and source 0x07. -/
def Dev.powerEvent (d : Dev) (code sensor : Nat) (reading : Int) : Dev :=
  let rec16 := beBytes 8 d.tick ++ beBytes 1 code ++ beBytes 1 sensor ++ beBytes 4 (ofSigned 32 reading) ++ [0, 0]
  ({ d with power := { d.power with event := rec16 } }).raiseInt 0x07

/-! ## The sentry (R522 to R538) -/

/-- The class code of R522. -/
def classCode (c : FaultClass) : Nat :=
  match c with
  | .corrected => 1
  | .contained => 2
  | .fatal => 3

/-- The class of a fault kind of R525 to R527. NAN_TRAP and ESCALATED take the class the bark gives. -/
def kindClass (kind : Nat) (given : FaultClass) : FaultClass :=
  if kind = 0x0B01 || kind = 0x0D01 then given
  else if kind = 0x0102 || kind = 0x0907 || kind / 256 = 0x0E then .fatal
  else if [0x0101, 0x0201, 0x0202, 0x0301, 0x0302, 0x0303, 0x0407, 0x0901, 0x0902, 0x0906, 0x0A01, 0x0C01, 0x0C03].contains kind
  then .corrected
  else .contained

/-- Whether a kind is one of R525 to R527. -/
def kindKnown (kind : Nat) : Bool :=
  [0x0101, 0x0102, 0x0201, 0x0202, 0x0301, 0x0302, 0x0303, 0x0304, 0x0401, 0x0402, 0x0403, 0x0404, 0x0405, 0x0406,
   0x0407, 0x0501, 0x0601, 0x0602, 0x0603, 0x0604, 0x0605, 0x0701, 0x0702, 0x0703, 0x0704, 0x0705, 0x0706, 0x0707,
   0x0710, 0x0711, 0x0801, 0x0802, 0x0803, 0x0804, 0x0805, 0x0901, 0x0902, 0x0903, 0x0904, 0x0905, 0x0906, 0x0907,
   0x0A01, 0x0B01, 0x0C01, 0x0C02, 0x0C03, 0x0D01, 0x0E01, 0x0E02, 0x0E03, 0x0E04, 0x0E05].contains kind

/-- The record of a class. -/
def Sentry.record (s : Sentry) (c : FaultClass) : FaultRec :=
  match c with
  | .corrected => s.corr
  | .contained => s.unc
  | .fatal => s.fatal

/-- Replace the record of a class. -/
def Sentry.setRecord (s : Sentry) (c : FaultClass) (r : FaultRec) : Sentry :=
  match c with
  | .corrected => { s with corr := r }
  | .contained => { s with unc := r }
  | .fatal => { s with fatal := r }

/-- A fault opens a closed record or merges into an open one (R532, R533, R534). `esc` is the class's
escalation time, 0 for never. -/
def openOrMerge (r : FaultRec) (tick esc : Nat) (b : BarkMsg) : FaultRec :=
  let unit := b.kind.toNat / 256
  if r.isOpen then
    { r with count := min (r.count + 1) (2 ^ 32 - 1), units := maskSet r.units unit, lastTick := tick }
  else
    { isOpen := true, firstTick := tick, lastTick := tick, access := b.access.toNat, kind := b.kind.toNat,
      initiator := b.initiator.toNat, injected := b.injected, count := 1, units := 2 ^ unit,
      address := b.address.toNat, detail := b.detail.toNat, escTick := if esc = 0 then 0 else tick + esc }

/-- The escalation time of a class (R534). -/
def Dev.escalateTicks (d : Dev) (c : FaultClass) : Nat :=
  match c with
  | .corrected => d.reg E.ESCALATE_CORR_TICKS
  | .contained => d.reg E.ESCALATE_UNC_TICKS
  | .fatal => 0

/-- The sentry samples a bark in this tick: it is logged and counted (R529), a masked corrected fault stops
there (R536), and any other opens or merges into its record, raises its source, and on FATAL fences (R522, R523). -/
def Dev.sample (d : Dev) (b : BarkMsg) : Dev :=
  let cls := kindClass b.kind.toNat b.cls
  let log := d.sentry.log ++ [Bark.mk d.tick { b with cls := cls }]
  let d1 := { d with sentry := { d.sentry with log := log.drop (log.length - 64) } }.count E.BARKS
  let d2 := d1.countErr (match cls with
    | .corrected => E.CORR_FAULTS
    | .contained => E.UNC_FAULTS
    | .fatal => E.FATAL_FAULTS)
  if cls = .corrected && maskHas (d.reg E.CORR_MASK) (b.kind.toNat / 256) then d2
  else
    let r := openOrMerge (d2.sentry.record cls) d.tick (d2.escalateTicks cls) b
    let s1 := d2.sentry.setRecord cls r
    let s2 := if cls = .fatal then { s1 with fenceAt := some (s1.fenceAt.getD (d.tick + 1)) } else s1
    ({ d2 with sentry := s2 }).raiseInt (match cls with
      | .corrected => 0x02
      | .contained => 0x01
      | .fatal => 0x00)

/-- A fault of a fast clock domain: it is on its way, and is sampled in the first or second tick (R31). -/
def Dev.report (d : Dev) (b : BarkMsg) : Dev :=
  { d with sentry := { d.sentry with reports := d.sentry.reports ++ [Report.mk d.sampledAt b] } }.drew

/-- A bark from its parts. -/
def bark (kind access initiator : Nat) (injected : Bool) (address detail : Nat) (given : FaultClass := .contained) :
    BarkMsg :=
  { kind := BitVec.ofNat 16 kind, cls := kindClass kind given, access := BitVec.ofNat 8 access,
    initiator := BitVec.ofNat 16 initiator, injected := injected, address := BitVec.ofNat 64 address,
    detail := BitVec.ofNat 64 detail }

/-- The ACCESS codes of R528. -/
def accNone : Nat := 0
/-- R528. -/
def accRead : Nat := 1
/-- R528. -/
def accWrite : Nat := 2
/-- R528. -/
def accCellRx : Nat := 3
/-- R528. -/
def accCompute : Nat := 5
/-- R528. -/
def accCheck : Nat := 6
/-- R528. -/
def accKennel : Nat := 7

/-- INITIATOR of a fabric port (R530). -/
def iniPort (p : Nat) : Nat := p
/-- INITIATOR of a crossbar input (R530). -/
def iniXbar (d x : Nat) : Nat := 0x1000 + d * 256 + x
/-- INITIATOR of a reduction unit (R530). -/
def iniUnit (u : Nat) : Nat := 0x2000 + u
/-- INITIATOR of an engine (R530). -/
def iniEngine (c e : Nat) : Nat := 0x3000 + c * 256 + e
/-- INITIATOR of a core (R530). -/
def iniCore (c k : Nat) : Nat := 0x4000 + c * 256 + k
/-- INITIATOR of a DMA channel (R530). -/
def iniDma (n : Nat) : Nat := 0x5000 + n
/-- INITIATOR of a host queue pair (R530). -/
def iniQp (q : Nat) : Nat := 0x6000 + q
/-- INITIATOR of the housekeeping processor (R530). -/
def iniHkp : Nat := 0x7000
/-- INITIATOR of the scrubber (R530). -/
def iniScrub : Nat := 0x8000
/-- No initiator (R530). -/
def iniNone : Nat := 0xFFFF

/-- A collective position (R531). -/
def collPos (pack cseq chunk : Nat) : Nat := pack * 2 ^ 48 + cseq * 2 ^ 32 + chunk

/-- Take one injection of FAULT_INJECT for a checker and target, if armed (R544): whether the access is
inverted, and the device after. (DEDUCED, log entries 73 and 101). -/
def Dev.takeInject (d : Dev) (checker target : Nat) : Bool × Dev :=
  match d.sentry.inject with
  | none => (false, d)
  | some j =>
    if j.checker = checker && j.target = target && d.reg E.FAULT_INJECT_LEFT > 0 then
      let n := d.reg E.FAULT_INJECT_LEFT - 1
      let d1 := d.setReg E.FAULT_INJECT_LEFT n
      (true, if n = 0 then { d1 with sentry := { d1.sentry with inject := none } } else d1)
    else (false, d)

/-! ## Injected memory and package-link errors (R23, R526, R527, R531, R544) -/

/-- The mark of a word of an SRAM that has no tier address, beside the tier addresses of other marks (R504).
(DESIGN CHOICE, log entry 198). -/
def sramMark (cls word : Nat) : Nat := 3 * 2 ^ 62 + cls * 2 ^ 56 + word

/-- A word of an SRAM is written again, and its mark goes (R504). (DESIGN CHOICE, log entry 198). -/
def Dev.rewriteWord (d : Dev) (cls word : Nat) : Dev := { d with ueWords := d.ueWords.filter (· != sramMark cls word) }

/-- A read of an SRAM of a memory class of R544: whether the word came back, and the device with an injected error
reported. Class 4 is control state, whose uncorrectable error is FATAL. (DESIGN CHOICE, log entry 133). -/
def Dev.sramRead (d : Dev) (cls word ini : Nat) : Bool × Dev :=
  let addr := cls * 2 ^ 56 + word
  let syn := (Config.freeWord d.draws).toNat
  let (ce, d1) := d.takeInject 0x08 cls
  if ce then (true, d1.drew.report (bark 0x0901 accRead ini true addr syn))
  else
    let (ue, d2) := d1.takeInject 0x09 cls
    if ue then (false, d2.drew.report (bark (if cls = 4 then 0x0907 else 0x0903) accRead ini true addr syn)) else (!d2.ueWords.contains (sramMark cls word), d2)

/-- A transfer on a link fails past its retry limit: what it carries does not arrive (R23, R544). -/
def Dev.linkDown (d : Dev) (link : Nat) : Bool :=
  match d.sentry.inject with
  | none => false
  | some j => j.checker = 0x02 && j.target = link && decide (Config.pkgRetryLimit < d.reg E.FAULT_INJECT_LEFT)

/-- A transfer on a package link (R23): each armed CRC inversion (R544) fails one attempt, and a failure past the link's retry limit
is FATAL. (DESIGN CHOICE, log entry 45). -/
def Dev.pkgTransfer (d : Dev) (link : Nat) : Dev :=
  match d.sentry.inject with
  | none => d
  | some j =>
    if j.checker = 0x02 && j.target = link then
      let n := d.reg E.FAULT_INJECT_LEFT
      let down : Bool := Config.pkgRetryLimit < n
      let left := if down then n - (Config.pkgRetryLimit + 1) else 0
      let d1 := { d.setReg E.FAULT_INJECT_LEFT left with sentry := { d.sentry with inject := if left = 0 then none else some j } }
      if down then d1.report (bark 0x0102 accNone iniNone true link Config.pkgRetryLimit)
      else d1.report (bark 0x0101 accNone iniNone true link n)
    else d

/-- A transfer passes package links in order. -/
def Dev.cross (d : Dev) (links : List Nat) : Dev := links.foldl Dev.pkgTransfer d

/-- What passes package links arrives (R23). -/
def Dev.arrives (d : Dev) (links : List Nat) : Bool := links.all (fun l => !d.linkDown l)

/-- Bytes 0 to 31 of a bark as BARK_LOG holds it (R528). -/
def barkBytes (b : Bark) : List Byte :=
  beBytes 8 b.tick ++ beBytes 2 b.msg.kind.toNat ++ beBytes 1 (classCode b.msg.cls) ++ [b.msg.access] ++
    beBytes 2 b.msg.initiator.toNat ++ [if b.msg.injected then 1 else 0, 0] ++ beBytes 8 b.msg.address.toNat ++
    beBytes 8 b.msg.detail.toNat

/-- The 64 bytes of a class record (R532). -/
def recordBytes (c : FaultClass) (r : FaultRec) : List Byte :=
  if r.isOpen then
    beBytes 8 r.firstTick ++ beBytes 8 r.lastTick ++ beBytes 1 (classCode c) ++ beBytes 1 r.access ++
      beBytes 2 r.kind ++ beBytes 2 r.initiator ++ [if r.injected then 1 else 0, 0] ++ beBytes 4 r.count ++
      beBytes 4 r.units ++ beBytes 8 r.address ++ beBytes 8 r.detail ++ beBytes 8 r.escTick ++ List.replicate 8 0
  else List.replicate 64 0

end Sys2Proof.Machine
end

