-- ==== Sys2Proof/Machine/Operands.lean ====
section
/-! DEFINITION. Layouts: the CRC-32C, the cell header and its three forms, cells as bytes, fabric addresses,
the payloads of link and control cells, and the dictionary frames. -/

namespace Sys2Proof.Machine

/-! ## CRC-32C (R116) -/

/-- One bit of the reflected CRC. -/
def crcBit (c : Nat) : Nat := if c % 2 = 1 then (c / 2) ^^^ 0x82F63B78 else c / 2

/-- One byte of the reflected CRC. -/
def crcByte (c : Nat) (b : Byte) : Nat :=
  crcBit (crcBit (crcBit (crcBit (crcBit (crcBit (crcBit (crcBit (c ^^^ b.toNat))))))))

/-- CRC-32C of a byte string (R116). -/
def crc32c (bs : List Byte) : Nat := bs.foldl crcByte 0xFFFFFFFF ^^^ 0xFFFFFFFF

/-! ## The header (R119, R120) -/

/-- A field of the header: `w` bits from bit `lo` up. -/
def Cell.fld (c : Cell) (lo w : Nat) : Nat := bits c.hdr.toNat lo w

/-- A cell with a header field replaced. -/
def Cell.setFld (c : Cell) (lo w v : Nat) : Cell :=
  let h := c.hdr.toNat
  { c with hdr := BitVec.ofNat 96 (h - bits h lo w * 2 ^ lo + v % 2 ^ w * 2 ^ lo) }

/-- TYPE [95:92]. -/
def Cell.type (c : Cell) : Nat := c.fld 92 4
/-- CLASS [91:89]. -/
def Cell.cls (c : Cell) : Nat := c.fld 89 3
/-- DL [88]. -/
def Cell.dl (c : Cell) : Nat := c.fld 88 1
/-- SL [87:86]. -/
def Cell.sl (c : Cell) : Nat := c.fld 86 2
/-- EPOCH [85]. -/
def Cell.epoch (c : Cell) : Nat := c.fld 85 1
/-- CE [84]. -/
def Cell.ce (c : Cell) : Nat := c.fld 84 1
/-- ECE [83]. -/
def Cell.ece (c : Cell) : Nat := c.fld 83 1
/-- SH [82]. -/
def Cell.sh (c : Cell) : Nat := c.fld 82 1
/-- EXPIRY [81:76]. -/
def Cell.expiry (c : Cell) : Nat := c.fld 76 6
/-- LSEQ [75:62]. -/
def Cell.lseq (c : Cell) : Nat := c.fld 62 14
/-- The VC index, 2 × CLASS + DL. -/
def Cell.vc (c : Cell) : Nat := 2 * c.cls + c.dl
/-- DST of forms P and K [61:42]. -/
def Cell.dst (c : Cell) : Nat := c.fld 42 20
/-- SRC of forms P and K [41:22]. -/
def Cell.srcAddr (c : Cell) : Nat := c.fld 22 20
/-- MSEQ of form P [21:6]. -/
def Cell.mseq (c : Cell) : Nat := c.fld 6 16
/-- LEN of form P [5:0]. -/
def Cell.len (c : Cell) : Nat := c.fld 0 6
/-- PACK of form C [61:52]. -/
def Cell.pack (c : Cell) : Nat := c.fld 52 10
/-- CELL of form C [51:46]. -/
def Cell.cell (c : Cell) : Nat := c.fld 46 6
/-- CSEQ of form C [45:30]. -/
def Cell.cseq (c : Cell) : Nat := c.fld 30 16
/-- CHUNK of form C [29:10]. -/
def Cell.chunk (c : Cell) : Nat := c.fld 10 20
/-- LEVEL of form C [9:8]. -/
def Cell.level (c : Cell) : Nat := c.fld 8 2
/-- DST_RACK of form C [7:0]. -/
def Cell.dstRack (c : Cell) : Nat := c.fld 0 8
/-- OP of form K [21:14]. -/
def Cell.op (c : Cell) : Nat := c.fld 14 8
/-- ARG of form K [13:0]. -/
def Cell.arg (c : Cell) : Nat := c.fld 0 14

/-- Bits [95:62] of a header from TYPE, CLASS, DL, SL, EPOCH and EXPIRY, with CE, ECE, SH and LSEQ zero. -/
def hdrTop (type cls dl sl epoch expiry : Nat) : Nat :=
  type * 2 ^ 92 + cls * 2 ^ 89 + dl * 2 ^ 88 + sl * 2 ^ 86 + epoch * 2 ^ 85 + expiry * 2 ^ 76

/-- A cell from a header number and payload bytes, the rest of the payload zero (R13). -/
def mkCell (h : Nat) (payload : List Byte) : Cell := ⟨BitVec.ofNat 96 h, padTo 64 payload⟩

/-- A cell of form K (R120). -/
def mkCtl (type dst src op arg : Nat) (payload : List Byte) : Cell :=
  mkCell (hdrTop type 5 0 0 0 0 + dst * 2 ^ 42 + src * 2 ^ 22 + op * 2 ^ 14 + arg) payload

/-- A cell of form L (R120): LINK, TRAIN, IDENT, NULL and PARK are on CTL (R122). -/
def mkLinkCell (type lseq : Nat) (payload : List Byte) : Cell :=
  mkCell (hdrTop type 5 0 0 0 0 + lseq * 2 ^ 62) payload

/-- A cell of form C (R120). -/
def mkColl (type cls sl epoch expiry pack cell cseq chunk level dstRack : Nat) (payload : List Byte) : Cell :=
  mkCell (hdrTop type cls 0 sl epoch expiry + pack * 2 ^ 52 + cell * 2 ^ 46 + cseq * 2 ^ 30 + chunk * 2 ^ 10 +
    level * 2 ^ 8 + dstRack) payload

/-- The cell types of R121. -/
def tNull : Nat := 0
/-- R121. -/
def tLink : Nat := 1
/-- R121. -/
def tPark : Nat := 2
/-- R121. -/
def tTrain : Nat := 3
/-- R121. -/
def tIdent : Nat := 4
/-- R121. -/
def tKeep : Nat := 5
/-- R121. -/
def tWake : Nat := 6
/-- R121. -/
def tCtrl : Nat := 7
/-- R121. -/
def tMsg : Nat := 8
/-- R121. -/
def tStart : Nat := 9
/-- R121. -/
def tData : Nat := 10
/-- R121. -/
def tPromo : Nat := 11
/-- R121. -/
def tCheck : Nat := 12

/-- The message classes of R124. -/
def cREQ : Nat := 0
/-- R124. -/
def cRPL : Nat := 1
/-- R124. -/
def cFWD : Nat := 2
/-- R124. -/
def cCUP : Nat := 3
/-- R124. -/
def cCDN : Nat := 4
/-- R124. -/
def cCTL : Nat := 5

/-- A link-local CTRL opcode (R131). -/
def localOp (op : Nat) : Bool := 1 ≤ op && op ≤ 0x0F

/-- A cell that the receiving link layer consumes (R122). -/
def Cell.linkLocal (c : Cell) : Bool := c.type ≤ 6 || (c.type = tCtrl && localOp c.op)

/-- A cell that takes an LSEQ (R122). -/
def Cell.sequenced (c : Cell) : Bool := c.type = 5 || c.type = 6 || 7 ≤ c.type

/-- A cell that a quarantined port sends under retry: KEEP and link-local CTRL (R155). -/
def Cell.quarantined (c : Cell) : Bool := c.linkLocal && (c.type = tKeep || c.type = tCtrl)

/-- A cell that takes a credit (R122); one of a reserved TYPE takes an LSEQ and a credit as the types before it do.
(DESIGN CHOICE, log entry 191). -/
def Cell.takesCredit (c : Cell) : Bool := 7 ≤ c.type && !c.linkLocal

/-- A malformed cell by R122: type, class for type, DL of a link-local cell, SH on CTL or CDN. -/
def Cell.malformedForm (c : Cell) : Bool :=
  12 < c.type ||
  (if c.type ≤ 7 then c.cls != 5
   else if c.type = 8 then 2 < c.cls
   else if c.type = 9 then c.cls != 3
   else c.cls != 3 && c.cls != 4) ||
  (c.linkLocal && c.dl = 1) ||
  (c.sh = 1 && (c.cls = 5 || c.cls = 4))

/-- A START or a HEEL (R33, R614). -/
def Cell.starts (c : Cell) : Bool := c.type = tStart || (c.type = tCtrl && c.op = 0x10)

/-! ## Cells as bytes (R115) -/

/-- The CRC-32C that a transmitter puts into a cell (R116, R117). -/
def cellCrc (c : Cell) : Nat := crc32c (beBytes 12 c.hdr.toNat ++ c.payload)

/-- The 80 bytes of a cell, its CRC over bytes 0 to 75 (R115, R116). -/
def cellBytes (c : Cell) : List Byte :=
  beBytes 12 c.hdr.toNat ++ c.payload ++ beBytes 4 (cellCrc c)

/-- Read 80 bytes as a cell: none when the length or the CRC-32C is wrong (R118). -/
def parseCell (bs : List Byte) : Option Cell :=
  if bs.length = 80 && beNat (bs.drop 76) = crc32c (bs.take 76) then
    some ⟨BitVec.ofNat 96 (beNat (bs.take 12)), slice bs 12 64⟩
  else none

/-! ## Fabric addresses (R120) -/

/-- A fabric address from its four fields. -/
def fabAddr (rx ry plane port : Nat) : Nat := rx * 2 ^ 16 + ry * 2 ^ 12 + plane * 2 ^ 8 + port

/-- Rack, X in [7:4] and Y in [3:0], of a fabric address. -/
def addrRack (a : Nat) : Nat := bits a 12 8

/-- Plane of a fabric address. -/
def addrPlane (a : Nat) : Nat := bits a 8 4

/-- Port of a fabric address. -/
def addrPort (a : Nat) : Nat := bits a 0 8

/-- This switch's fabric address with a port; 0xFF is the switch itself (R120, R201). -/
def Dev.ownAddr (d : Dev) (port : Nat) : Nat :=
  let r := d.reg E.PLAN_RACK
  fabAddr (r / 16) (r % 16) (d.reg E.PLAN_PLANE) port

/-! ## Payload fields -/

/-- `n` bytes from byte `a` of a payload, most significant byte first (R11). -/
def Cell.pay (c : Cell) (a n : Nat) : Nat := beNat (slice c.payload a n)

/-! ## Dictionary frames (R46, R47, R48) -/

/-- The opcodes of R49. -/
def opREAD : Nat := 0x01
/-- R49. -/
def opWRITE : Nat := 0x02
/-- R49. -/
def opREADSEG : Nat := 0x03
/-- R49. -/
def opWSEGSTART : Nat := 0x04
/-- R49. -/
def opWSEG : Nat := 0x05
/-- R49. -/
def opWSEGCOMMIT : Nat := 0x06
/-- R49. -/
def opCHALLENGE : Nat := 0x10
/-- R49. -/
def opANSWER : Nat := 0x11
/-- R49. -/
def opCLOSE : Nat := 0x12
/-- R49. -/
def opNOTIFY : Nat := 0x20
/-- R49. -/
def opNOTIFYACK : Nat := 0x21

/-- The fields of a frame. -/
structure Frame where
  version : Nat
  opcode : Nat
  txn : Nat
  index : Nat
  sub : Nat
  status : Nat
  session : Nat
  seg : Nat
  payload : List Byte
  deriving DecidableEq, Repr

/-- A frame's bytes in its version's layout (R46, R47). -/
def frameBytes (f : Frame) : List Byte :=
  let top := beBytes 1 f.version ++ beBytes 1 f.opcode ++ beBytes 2 f.txn ++ beBytes 2 f.index ++ beBytes 1 f.sub ++
    beBytes 1 f.status
  if f.version = 1 then top ++ beBytes 2 f.seg ++ beBytes 2 f.payload.length ++ f.payload
  else top ++ beBytes 8 f.session ++ beBytes 2 f.seg ++ beBytes 2 f.payload.length ++ f.payload

/-- Read a datagram as a frame; none where R48 drops it. -/
def parseFrame (bs : List Byte) : Option Frame :=
  let at8 := fun a n => beNat (slice bs a n)
  if at8 0 1 = 2 then
    if 20 ≤ bs.length && bs.length = 20 + at8 18 2 then
      some ⟨2, at8 1 1, at8 2 2, at8 4 2, at8 6 1, at8 7 1, at8 8 8, at8 16 2, bs.drop 20⟩
    else none
  else if at8 0 1 = 1 then
    if 12 ≤ bs.length && bs.length = 12 + at8 10 2 then
      some ⟨1, at8 1 1, at8 2 2, at8 4 2, at8 6 1, at8 7 1, 0, at8 8 2, bs.drop 12⟩
    else none
  else none

/-- The payload limit of a version (R46, R47). -/
def payloadLimit (version : Nat) : Nat := if version = 1 then 240 else 1024

/-- The status codes of R50. -/
inductive Status where
  | ok | noEntry | accessDenied | muzzled | badLength | invalidValue | stateConflict | domainOff | busy | segmented
  | badHandle | checkFailed | sessionInvalid | challengeFailed | badOpcode
  deriving DecidableEq, Repr

/-- The code of a status (R50). -/
def Status.code (s : Status) : Nat :=
  match s with
  | .ok => 0x00
  | .noEntry => 0x01
  | .accessDenied => 0x02
  | .muzzled => 0x03
  | .badLength => 0x04
  | .invalidValue => 0x05
  | .stateConflict => 0x06
  | .domainOff => 0x07
  | .busy => 0x08
  | .segmented => 0x09
  | .badHandle => 0x0A
  | .checkFailed => 0x0B
  | .sessionInvalid => 0x0C
  | .challengeFailed => 0x0D
  | .badOpcode => 0x0E

/-! ## The running firmware's header (R590, R632) -/

/-- A slot's bytes, where they were written. -/
def FwStore.slot (f : FwStore) (i : Nat) : List Byte := if i = 0 then f.slotA else f.slotB

/-- Bytes of the image installed at manufacture, before the fields that R590 fixes. (DESIGN CHOICE, log entry 10). -/
def factoryRaw (off n : Nat) : List Byte := (List.range n).map (fun i => Config.factoryByte (off + i))

/-- The header of that image: MAGIC, LENGTH, SECURITY_VERSION, an ASCII VERSION and RESERVED as R590 has them.
(DESIGN CHOICE, log entry 10). -/
def factoryHeader : List Byte :=
  leBytes 4 0x4F564657 ++ leBytes 4 (leNat (factoryRaw 4 4) % 8387712 + 1) ++ factoryRaw 8 2 ++ leBytes 2 (leNat (factoryRaw 10 2) % 65) ++
    (factoryRaw 12 32).map (fun b => b &&& 0x7F) ++ factoryRaw 44 32 ++ List.replicate 52 0 ++ factoryRaw 128 768

/-- Bytes of the slot that holds that image, with what was written over it (R592). -/
def FwStore.patched (f : FwStore) (off n : Nat) : List Byte :=
  (List.range n).map (fun i =>
    let k := off + i
    match f.patches.find? (fun z => z.1 ≤ k && k < z.1 + z.2.length) with
    | some z => z.2.getD (k - z.1) 0
    | none => if k < 896 then factoryHeader.getD k 0 else Config.factoryByte k)

/-- Bytes of a slot. -/
def FwStore.bytes (f : FwStore) (i off n : Nat) : List Byte :=
  if f.factory = some i then f.patched off n else slice (f.slot i) off n

/-- The header of a slot's image; zeros when the slot is empty. -/
def FwStore.header (f : FwStore) (i : Nat) : List Byte :=
  if f.factory = some i && f.patches = [] then factoryHeader else padTo 896 (f.bytes i 0 896)

/-- FW_COMPAT of a header. -/
def fwCompat (h : List Byte) : Nat := leNat (slice h 8 2)

/-- FW_COMPAT of the running slot's image, which the dictionary and IDENT report (R68, R632). -/
def Dev.fwCompatNow (d : Dev) : Nat := fwCompat (d.fw.header d.fw.running)

end Sys2Proof.Machine
end

