-- ==== Sys2Proof/Machine/Formats.lean ====
section
/-! DEFINITION. Number formats: exact values, widening, the one rounding, B4 and T2 blocks, the random bits, and
the residue and CRC-64 checks (R232 to R269). -/

namespace Sys2Proof.Machine

/-! ## Element types (R232) -/

/-- FP32. -/
def eFP32 : Nat := 1
/-- FP16. -/
def eFP16 : Nat := 2
/-- BF16. -/
def eBF16 : Nat := 3
/-- E4M3. -/
def eE4M3 : Nat := 4
/-- E5M2. -/
def eE5M2 : Nat := 5
/-- INT8. -/
def eINT8 : Nat := 6
/-- INT32. -/
def eINT32 : Nat := 7
/-- B4. -/
def eB4 : Nat := 8
/-- T2. -/
def eT2 : Nat := 9
/-- BYTES. -/
def eBYTES : Nat := 15

/-- Whether a code names an element type (R232). -/
def elemKnown (t : Nat) : Bool := 1 ≤ t && t ≤ 9 || t = 15

/-- A block-scaled type. -/
def elemBlocks (t : Nat) : Bool := t = eB4 || t = eT2

/-- Elements in one DATA cell (R232). -/
def eCell (t : Nat) : Nat :=
  if t = eFP32 || t = eINT32 then 16
  else if t = eFP16 || t = eBF16 then 32
  else if t = eB4 then 112
  else if t = eT2 then 224
  else 64

/-- Elements in a full chunk (R232). -/
def eChunk (t : Nat) : Nat := 64 * eCell t

/-- Bytes of one element of types 0x01 to 0x07 and BYTES. -/
def elemBytes (t : Nat) : Nat :=
  if t = eFP32 || t = eINT32 then 4 else if t = eFP16 || t = eBF16 then 2 else 1

/-- Elements of a block: 16 for B4, 32 for T2. -/
def blockLen (t : Nat) : Nat := if t = eT2 then 32 else 16

/-! ## Exact values (R250 to R253) -/

/-- The CLASS code (R250). -/
def EClass.code (c : EClass) : Nat :=
  match c with
  | .finite => 0
  | .negzero => 1
  | .posinf => 2
  | .neginf => 3
  | .nan => 4

/-- The class of a CLASS code; the reserved codes are never formed (R250). -/
def EClass.ofCode (n : Nat) : Option EClass :=
  if n = 0 then some .finite else if n = 1 then some .negzero else if n = 2 then some .posinf
  else if n = 3 then some .neginf else if n = 4 then some .nan else none

/-- The start of an empty sum (R253). -/
def Exact.empty : Exact := ⟨.negzero, 0⟩

/-- +0. -/
def Exact.zero : Exact := ⟨.finite, 0⟩

/-- Whether a value is a NaN. -/
def Exact.isNan (x : Exact) : Bool := x.cls = .nan

/-- Whether a value is an infinity. -/
def Exact.isInf (x : Exact) : Bool := x.cls = .posinf || x.cls = .neginf

/-- Whether a value is finite, −0 included. -/
def Exact.isFin (x : Exact) : Bool := x.cls = .finite || x.cls = .negzero

/-- The class of a sum (R252). -/
def EClass.add (a b : EClass) : EClass :=
  match a, b with
  | .nan, _ => .nan
  | _, .nan => .nan
  | .posinf, .neginf => .nan
  | .neginf, .posinf => .nan
  | .posinf, _ => .posinf
  | _, .posinf => .posinf
  | .neginf, _ => .neginf
  | _, .neginf => .neginf
  | .negzero, .negzero => .negzero
  | _, _ => .finite

/-- The sum of two exact values (R252). -/
def Exact.add (x y : Exact) : Exact := ⟨x.cls.add y.cls, x.a + y.a⟩

/-- The sum produces a NaN from opposite infinities (R252, R270). -/
def Exact.addMakesNan (x y : Exact) : Bool := x.cls != .nan && y.cls != .nan && x.cls.add y.cls = .nan

/-- An exact sum of several values forms a NaN from values that are none (R252, R270). -/
def sumMakesNan (vs : List Exact) : Bool := vs.all (fun v => !v.isNan) && (vs.foldl Exact.add Exact.empty).isNan

/-- The sign of an exact value, true for negative; −0 is negative. -/
def Exact.neg (x : Exact) : Bool :=
  match x.cls with
  | .negzero | .neginf => true
  | .finite => x.a < 0
  | .posinf | .nan => false

/-- x < y in the order of R236, where −0 is less than +0; neither is a NaN. -/
def Exact.lt (x y : Exact) : Bool :=
  let rank := fun (z : Exact) => match z.cls with
    | .neginf => (0 : Int)
    | .posinf => 2
    | _ => 1
  if rank x != rank y then rank x < rank y
  else if rank x != 1 then false
  else if x.a != y.a then x.a < y.a
  else x.cls = .negzero && y.cls != .negzero

/-- IEEE 754-2019 maximum (R236). -/
def Exact.max (x y : Exact) : Exact := if x.isNan then x else if y.isNan then y else if x.lt y then y else x

/-- IEEE 754-2019 minimum (R236). -/
def Exact.min (x y : Exact) : Exact := if x.isNan then x else if y.isNan then y else if y.lt x then y else x

/-- The difference of two exact values: classes as in a sum with the second negated (R252). -/
def Exact.sub (x y : Exact) : Exact :=
  let neg : EClass := match y.cls with
    | .posinf => .neginf
    | .neginf => .posinf
    | .negzero => .finite
    | .finite => if y.a = 0 then .negzero else .finite
    | .nan => .nan
  ⟨x.cls.add neg, x.a - y.a⟩

/-- fin(Y): the value where it is finite, and zero elsewhere (R267). -/
def Exact.fin (x : Exact) : Int := if x.isFin then x.a else 0

/-! ## Float formats (R235 to R240) -/

/-- A binary format: exponent bits, significand bits below the leading one, bias, and whether it has infinities. -/
structure FloatFmt where
  eb : Nat
  mb : Nat
  bias : Nat
  inf : Bool
  deriving DecidableEq, Repr

/-- The format of a float element type. -/
def floatFmt (t : Nat) : FloatFmt :=
  if t = eFP16 then ⟨5, 10, 15, true⟩
  else if t = eBF16 then ⟨8, 7, 127, true⟩
  else if t = eE4M3 then ⟨4, 3, 7, false⟩
  else if t = eE5M2 then ⟨5, 2, 15, true⟩
  else ⟨8, 23, 127, true⟩

/-- E2M1, the element of a B4 block (R241). -/
def fmtE2M1 : FloatFmt := ⟨2, 1, 1, false⟩

/-- Whether a type is a float type. -/
def elemFloat (t : Nat) : Bool := 1 ≤ t && t ≤ 5

/-- The canonical quiet NaN of a float type (R237). -/
def canonNan (t : Nat) : Nat :=
  if t = eFP32 then 0x7FC00000 else if t = eFP16 then 0x7E00 else if t = eBF16 then 0x7FC0
  else if t = eE4M3 then 0x7F else 0x7E

/-- The sign bit's weight. -/
def FloatFmt.signBit (f : FloatFmt) : Nat := 2 ^ (f.eb + f.mb)

/-- Widen float bits to the exact form (R251). -/
def FloatFmt.widen (f : FloatFmt) (v : Nat) : Exact :=
  let s := bits v (f.eb + f.mb) 1 = 1
  let e := bits v f.mb f.eb
  let m := bits v 0 f.mb
  let top := 2 ^ f.eb - 1
  if e = top && f.inf then (if m = 0 then ⟨if s then .neginf else .posinf, 0⟩ else ⟨.nan, 0⟩)
  else if e = top && f.eb = 4 && m = 2 ^ f.mb - 1 then ⟨.nan, 0⟩
  else
    let sig := if e = 0 then m else 2 ^ f.mb + m
    let sh := (if e = 0 then 1 else e) + 149 - f.bias - f.mb
    let a : Int := (sig * 2 ^ sh : Nat)
    if a = 0 then ⟨if s then .negzero else .finite, 0⟩ else ⟨.finite, if s then -a else a⟩

/-- Widen element bits of types 0x01 to 0x07 to the exact form (R251). -/
def widen (t v : Nat) : Exact :=
  if t = eINT8 then ⟨.finite, toSigned 8 v * 2 ^ 149⟩
  else if t = eINT32 then ⟨.finite, toSigned 32 v * 2 ^ 149⟩
  else (floatFmt t).widen v

/-! ## Rounding (R258 to R260) -/

/-- The floor of log2 of the positive rational n / d. -/
def log2Rat (n d : Nat) : Int :=
  let g : Int := (Nat.log2 n : Int) - (Nat.log2 d : Int)
  if 0 ≤ g then (if d * 2 ^ g.toNat ≤ n then g else g - 1)
  else (if d ≤ n * 2 ^ (-g).toNat then g else g - 1)

/-- n / d over 2^q as a fraction of naturals. -/
def scaleRat (n d : Nat) (q : Int) : Nat × Nat := if 0 ≤ q then (n, d * 2 ^ q.toNat) else (n * 2 ^ (-q).toNat, d)

/-- The magnitude n / d rounded to a multiple of 2^q: mode 0 RNE, 1 RTZ, 2 SR with 16 random bits r (R259). -/
def roundMag (mode r n d : Nat) (q : Int) : Nat :=
  if mode = 2 then
    let (x, y) := scaleRat n d (q - 16)
    (x / y + r) / 65536
  else
    let (x, y) := scaleRat n d q
    let k := x / y
    let rem := x % y
    if mode = 1 then k
    else if y < 2 * rem || (2 * rem = y && k % 2 = 1) then k + 1 else k

/-- A conversion's result: the bits, whether the element saturated (R239, R260), and whether a NaN was produced
(R239, R270). -/
structure Conv where
  bits : Nat
  sat : Bool := false
  nan : Bool := false
  deriving DecidableEq, Repr

/-- Encode the magnitude k × 2^q, with q no finer than the format's point for it; none where it exceeds the largest
finite value. -/
def FloatFmt.encode (f : FloatFmt) (k : Nat) (q : Int) : Option Nat :=
  if k = 0 then some 0
  else
    let (k1, q1) := if 2 ^ (f.mb + 1) ≤ k then (k / 2, q + 1) else (k, q)
    if k1 < 2 ^ f.mb then some k1
    else
      let e := (q1 + f.mb + f.bias).toNat
      let v := e * 2 ^ f.mb + (k1 - 2 ^ f.mb)
      let lim := if f.inf then (2 ^ f.eb - 1) * 2 ^ f.mb else if f.eb = 4 then 2 ^ f.eb * 2 ^ f.mb - 1 else 2 ^ f.eb * 2 ^ f.mb
      if v < lim then some v else none

/-- The largest finite magnitude's bits. -/
def FloatFmt.maxBits (f : FloatFmt) : Nat :=
  if f.inf then (2 ^ f.eb - 1) * 2 ^ f.mb - 1 else if f.eb = 4 then 2 ^ f.eb * 2 ^ f.mb - 2 else 2 ^ f.eb * 2 ^ f.mb - 1

/-- Round the positive rational n / d to the format's bits, the exponent range unbounded above (R258). -/
def FloatFmt.round (f : FloatFmt) (mode r n d : Nat) : Option Nat :=
  let q := max (log2Rat n d - f.mb) (1 - (f.bias : Int) - f.mb)
  f.encode (roundMag mode r n d q) q

/-- An infinite or overflowing result (R239, R240). `strict`: the E4M3 overflow policy. `isInf`: the input is an
infinity. -/
def overflowTo (t mode : Nat) (strict neg isInf : Bool) : Conv :=
  let f := floatFmt t
  let sg := if neg then f.signBit else 0
  if t = eE4M3 then (if strict then { bits := canonNan t, nan := true } else { bits := f.maxBits + sg, sat := true })
  else if !isInf && mode = 1 then { bits := f.maxBits + sg }
  else { bits := (2 ^ f.eb - 1) * 2 ^ f.mb + sg }

/-- Convert a signed rational to a float type (R258 to R240). -/
def convRat (t mode r : Nat) (strict neg : Bool) (n d : Nat) : Conv :=
  let f := floatFmt t
  let sg := if neg then f.signBit else 0
  if n = 0 then { bits := sg }
  else
    match f.round mode r n d with
    | some v => { bits := v + sg }
    | none => overflowTo t mode strict neg false

/-- Convert a signed rational to an integer type, saturating (R260). -/
def convInt (t mode r : Nat) (neg : Bool) (n d : Nat) : Conv :=
  let w := if t = eINT8 then 8 else 32
  let k := if n = 0 then 0 else roundMag mode r n d 0
  let lim := if neg then 2 ^ (w - 1) else 2 ^ (w - 1) - 1
  if lim < k then { bits := if neg then 2 ^ (w - 1) else 2 ^ (w - 1) - 1, sat := true }
  else { bits := if neg then (2 ^ w - k) % 2 ^ w else k }

/-- The denominator of exact values. -/
def unit149 : Nat := 2 ^ 149

/-- Convert an exact value to an element of types 0x01 to 0x07, rounding once (R258). -/
def convert (t mode r : Nat) (strict : Bool) (x : Exact) : Conv :=
  if t = eINT8 || t = eINT32 then
    match x.cls with
    | .nan => { bits := 0 }
    | .posinf => { bits := (if t = eINT8 then 2 ^ 7 else 2 ^ 31) - 1, sat := true }
    | .neginf => { bits := if t = eINT8 then 2 ^ 7 else 2 ^ 31, sat := true }
    | _ => convInt t mode r (x.a < 0) x.a.natAbs unit149
  else
    match x.cls with
    | .nan => { bits := canonNan t }
    | .posinf => overflowTo t mode strict false true
    | .neginf => overflowTo t mode strict true true
    | _ => convRat t mode r strict x.neg x.a.natAbs unit149

/-! ## Blocks (R241 to R247) -/

/-- The scale of a code, in units of 2^−17 (R242). -/
def scaleUnits (c : Nat) : Nat :=
  let e := bits c 3 5
  let m := bits c 0 3
  if e = 0 then m else (8 + m) * 2 ^ (e - 1)

/-- Twice the magnitude of an E2M1 code (R241). -/
def e2m1Twice (c : Nat) : Nat := [0, 1, 2, 3, 4, 6, 8, 12].getD (c % 8) 0

/-- A signed magnitude in units of 2^−149, zero keeping its sign. -/
def signedExact (neg : Bool) (n : Nat) : Exact :=
  if n = 0 then ⟨if neg then .negzero else .finite, 0⟩ else ⟨.finite, if neg then -(n : Int) else n⟩

/-- The value of an unpromoted element: its code times its scale (R246). -/
def blockElem (t scale code : Nat) : Exact :=
  if t = eB4 then signedExact (bits code 3 1 = 1) (e2m1Twice code * scaleUnits scale * 2 ^ 131)
  else signedExact (bits code 1 1 = 1) (bits code 0 1 * scaleUnits scale * 2 ^ 132)

/-- The value of an element of a promoted block (R246). -/
def promoElem (scale code : Nat) : Exact :=
  let x := widen eE4M3 code
  if x.isNan then x else signedExact x.neg (x.a.natAbs / 2 ^ 140 * scaleUnits scale * 2 ^ 123)

/-- An encoded block (R247): scale code, element codes, and the E4M3 codes of a promoted one. -/
structure Block where
  scale : Nat
  promoted : Bool
  codes : List Nat
  e4m3 : List Nat
  /-- Elements saturated, and NaNs produced, by the conversion. -/
  sats : Nat := 0
  nans : Nat := 0
  deriving DecidableEq, Repr

/-- An E2M1 or ternary code for x / s, x and s in the same units (R241, R247). -/
def blockCode (t mode r : Nat) (x : Exact) (s : Nat) : Nat :=
  let n := x.a.natAbs
  if t = eB4 then
    let m := if n = 0 then 0 else (fmtE2M1.round mode r n s).getD fmtE2M1.maxBits
    m + (if x.neg then 8 else 0)
  else (if n = 0 then 0 else min 1 (roundMag mode r n s 0)) + (if x.neg then 2 else 0)

/-- The scale code the procedure of R247 takes for a largest magnitude, in units of 2^−149. -/
def blockScale (t amax : Nat) : Nat :=
  let k := if t = eB4 then 6 else 1
  ((List.range 256).find? (fun c => amax ≤ k * scaleUnits c * 2 ^ 132)).getD 255

/-- Convert an element of a promoted block: x / s to E4M3 (R247). -/
def promoCode (mode r : Nat) (strict : Bool) (x : Exact) (s : Nat) : Conv :=
  match x.cls with
  | .nan => { bits := canonNan eE4M3 }
  | .posinf => overflowTo eE4M3 mode strict false true
  | .neginf => overflowTo eE4M3 mode strict true true
  | _ => convRat eE4M3 mode r strict x.neg x.a.natAbs s

/-- The sum of the squares of a list of integers. -/
def sqSum (l : List Int) : Int := (l.map (fun x => x * x)).sum

/-- Encode a block (R247). `rs` are the elements' random bits, `shift` the promotion SHIFT.
(DEDUCED, log entries 75 and 140). -/
def encodeBlock (t mode shift : Nat) (strict : Bool) (xs : List Exact) (rs : List Nat) : Block :=
  let forced := xs.any (fun x => !x.isFin)
  let amax := (xs.map (fun x => if x.isFin then x.a.natAbs else 0)).foldl max 0
  let c0 := blockScale t amax
  let code := if c0 = 0 && forced then 1 else c0
  let s := scaleUnits code * 2 ^ 132
  let zr := xs.zip rs
  if code = 0 then { scale := 0, promoted := false, codes := xs.map (fun x => if x.neg then (if t = eB4 then 8 else 2) else 0), e4m3 := [] }
  else
    let qs := zr.map (fun z => blockCode t mode z.2 z.1 s)
    let errs := (zr.zip qs).map (fun z => 2 * (z.1.1.a - (blockElem t code z.2).a))
    let top := (if t = eB4 then 6 else 1) * s
    let big := xs.any (fun x => top < x.a.natAbs)
    let prom := forced || big || (4 * sqSum (xs.map (·.a)) < 2 ^ shift * sqSum errs : Bool)
    if prom then
      let cs := zr.map (fun z => promoCode mode z.2 strict z.1 s)
      { scale := code, promoted := true, codes := List.replicate xs.length 0, e4m3 := cs.map (·.bits),
        sats := (cs.filter (·.sat)).length, nans := (cs.filter (·.nan)).length }
    else { scale := code, promoted := false, codes := qs, e4m3 := [] }

/-- The values of a block (R246). -/
def Block.values (t : Nat) (b : Block) : List Exact :=
  if b.promoted then b.e4m3.map (promoElem b.scale) else b.codes.map (blockElem t b.scale)

/-- The eight ELEMS bytes of a block (R243). -/
def elemsBytes (t : Nat) (codes : List Nat) : List Byte :=
  (List.range 8).map (fun i =>
    if t = eB4 then BitVec.ofNat 8 (codes.getD (2 * i) 0 * 16 + codes.getD (2 * i + 1) 0)
    else BitVec.ofNat 8 (codes.getD (4 * i) 0 * 64 + codes.getD (4 * i + 1) 0 * 16 + codes.getD (4 * i + 2) 0 * 4 + codes.getD (4 * i + 3) 0))

/-- The codes in eight ELEMS bytes (R243). -/
def elemsCodes (t : Nat) (bs : List Byte) : List Nat :=
  bs.flatMap (fun b =>
    if t = eB4 then [b.toNat / 16, b.toNat % 16]
    else [bits b.toNat 6 2, bits b.toNat 4 2, bits b.toNat 2 2, bits b.toNat 0 2])

/-- The payload of a B4 or T2 DATA cell of at most seven blocks (R243). -/
def blocksPayload (t : Nat) (bl : List Block) : List Byte :=
  let body := bl.flatMap (fun b => BitVec.ofNat 8 b.scale :: elemsBytes t b.codes)
  let prom := ((List.range 7).map (fun i => if ((bl[i]?).map (·.promoted)).getD false then 2 ^ i else 0)).sum
  padTo 63 body ++ [BitVec.ofNat 8 prom]

/-- The slots of PROMO cells that a DATA cell's promoted blocks fill: block, half, scale, sixteen codes (R244). -/
def promoSlots (t : Nat) (bl : List Block) : List (Nat × Nat × Nat × List Nat) :=
  (bl.zipIdx).flatMap (fun z =>
    if z.1.promoted then
      (List.range (if t = eT2 then 2 else 1)).map (fun h => (z.2, h, z.1.scale, (z.1.e4m3.drop (16 * h)).take 16))
    else [])

/-- The 20 bytes of one slot of a PROMO cell (R245); a last block may have fewer than sixteen codes in it. -/
def slotBytes (x : Nat × Nat × Nat × List Nat) : List Byte :=
  padTo 20 ([BitVec.ofNat 8 (128 + x.2.1 * 8 + x.1), BitVec.ofNat 8 x.2.2.1, 0, 0] ++ x.2.2.2.map (BitVec.ofNat 8))

/-- The payloads of the PROMO cells of a DATA cell, by SUB (R244, R245). -/
def promoPayloads (t : Nat) (bl : List Block) : List (List Byte) :=
  let sl := promoSlots t bl
  (List.range ((sl.length + 2) / 3)).map (fun i =>
    [BitVec.ofNat 8 i, 0, 0, 0] ++ padTo 60 ((sl.drop (3 * i)).take 3 |>.flatMap slotBytes))

/-! ## The random bits (R261, R262) -/

/-- Left rotation of a 32-bit word. -/
def rotl32 (x n : Nat) : Nat := (x * 2 ^ n % 2 ^ 32) + x / 2 ^ (32 - n)

/-- One round of the generator. -/
def rngRound (k : List Nat) (s : Nat × Nat × Nat × Nat) (i : Nat) : Nat × Nat × Nat × Nat :=
  let (x0, x1, x2, x3) := s
  let m := 2 ^ 32
  let x0 := (x0 + x1 + k.getD (i % 4) 0) % m
  let x3 := rotl32 (x3 ^^^ x0) 16
  let x2 := (x2 + x3 + i) % m
  let x1 := rotl32 (x1 ^^^ x2) 12
  let x0 := (x0 + x1) % m
  let x3 := rotl32 (x3 ^^^ x0) 8
  let x2 := (x2 + x3) % m
  let x1 := rotl32 (x1 ^^^ x2) 7
  (x0, x1, x2, x3)

/-- The 16 random bits of an element (R262). -/
def randomBits (seed step tensor index purpose : Nat) : Nat :=
  let k := [bits seed 0 32, bits seed 32 32, bits seed 64 32, bits seed 96 32]
  let s0 := (bits index 0 32, bits index 32 8 * 2 ^ 24 + bits purpose 0 8 * 2 ^ 16 + bits step 32 16, bits step 0 32, bits tensor 0 32)
  let (x0, _, x2, _) := (List.range 8).foldl (rngRound k) s0
  bits (x0 ^^^ x2) 16 16

/-! ## Residues (R263 to R266) and CRC-64 (R269) -/

/-- p = 2^61 − 1. -/
def resP : Nat := 2 ^ 61 - 1

/-- The residue of an exact value's VALUE (R264). -/
def residueA (a : Int) : Nat := (a % (resP : Int)).toNat

/-- The weight of chunk position j (R265). -/
def resWeight (j : Nat) : Nat :=
  match j with
  | 0 => 37
  | n + 1 => 37 * resWeight n % resP

/-- Σ w_j × residue over a list of values in position order from a first position's weight (R266). -/
def residueFrom (w : Nat) (as : List Int) (acc : Nat) : Nat :=
  match as with
  | [] => acc
  | a :: r => residueFrom (w * 37 % resP) r ((acc + w * residueA a) % resP)

/-- The residue of a chunk's values (R266). -/
def residueList (as : List Int) : Nat := residueFrom 37 as 0

/-- Sum of two residues. -/
def resAdd (a b : Nat) : Nat := (a + b) % resP

/-- Difference of two residues. -/
def resSub (a b : Nat) : Nat := (a + (resP - b % resP)) % resP

/-- One bit of the CRC-64. -/
def crc64Bit (c : Nat) : Nat := if 2 ^ 63 ≤ c then (c * 2 % 2 ^ 64) ^^^ 0x42F0E1EBA9EA3693 else c * 2

/-- One byte of the CRC-64. -/
def crc64Byte (c : Nat) (b : Byte) : Nat :=
  crc64Bit (crc64Bit (crc64Bit (crc64Bit (crc64Bit (crc64Bit (crc64Bit (crc64Bit (c ^^^ (b.toNat * 2 ^ 56)))))))))

/-- CRC-64, ECMA-182, not reflected, zero initial value and final XOR (R269). -/
def crc64 (bs : List Byte) : Nat := bs.foldl crc64Byte 0

/-! ## Packed exact form (R254 to R257) -/

/-- Bits that hold an integer in two's complement; none for zero (R257). -/
def intWidth (a : Int) : Nat := if a = 0 then 0 else if 0 < a then Nat.log2 a.toNat + 2 else (if a = -1 then 1 else Nat.log2 (-a - 1).toNat + 2)

/-- The number of low zero bits of a positive natural, at most `fuel`. -/
def lowZeros (n fuel : Nat) : Nat :=
  match fuel with
  | 0 => 0
  | f + 1 => if n % 2 = 1 then 0 else 1 + lowZeros (n / 2) f

/-- LOW of a run: the least number of low zero bits of the non-zero values (R257). -/
def runLow (xs : List Exact) : Nat :=
  let zs := (xs.filter (fun x => x.a != 0)).map (fun x => lowZeros x.a.natAbs 317)
  match zs with
  | [] => 0
  | z :: r => r.foldl min z

/-- WIDTH of a run under a LOW. -/
def runWidth (xs : List Exact) (low : Nat) : Nat := (xs.map (fun x => intWidth (x.a / 2 ^ low))).foldl max 0

/-- SPEC of a run. -/
def runSpec (xs : List Exact) : Nat := if xs.all (fun x => x.cls = .finite) then 0 else 1

/-- Whether a run fits one cell (R255). -/
def runFits (xs : List Exact) : Bool :=
  xs.length * (runWidth xs (runLow xs) + 3 * runSpec xs) ≤ 464 && xs.length ≤ 16383

/-- The largest run from the head of a list that fits, by its length (R257). -/
def runLen (xs : List Exact) (n fuel : Nat) : Nat :=
  match fuel with
  | 0 => n
  | f + 1 => if n < xs.length && runFits (xs.take (n + 1)) then runLen xs (n + 1) f else n

/-- The bits of a run's fields, most significant first (R254). -/
def runFields (xs : List Exact) (low width spec : Nat) : Nat × Nat :=
  xs.foldl (fun (acc : Nat × Nat) x =>
    let a := (acc.1 * 2 ^ width + ofSigned width (x.a / 2 ^ low), acc.2 + width)
    if spec = 1 then (a.1 * 8 + x.cls.code, a.2 + 3) else a) (0, 0)

/-- The payload of one packed cell (R254). -/
def packedPayload (first : Nat) (xs : List Exact) : List Byte :=
  let low := runLow xs
  let width := runWidth xs low
  let spec := runSpec xs
  let head := ((((first * 2 ^ 14 + xs.length) * 2 ^ 9 + width) * 2 ^ 9 + low) * 2 + spec) * 2
  let (v, n) := runFields xs low width spec
  beBytes 6 head ++ beBytes 58 (v * 2 ^ (464 - n))

/-- The packed cells of values from a position on (R257). -/
def packCells (first : Nat) (xs : List Exact) (fuel : Nat) : List (List Byte) :=
  match fuel with
  | 0 => []
  | f + 1 =>
    if xs = [] then []
    else
      let n := max 1 (runLen xs 0 xs.length)
      packedPayload first (xs.take n) :: packCells (first + n) (xs.drop n) f

/-- A packed cell read: FIRST and the values (R254, R255); none where a condition of R255 that needs no more than
the cell and COUNT breaks, or a CLASS code is reserved. -/
def readPacked (count : Nat) (bs : List Byte) : Option (Nat × List Exact) :=
  let h := beNat (bs.take 6)
  let first := bits h 34 14
  let n := bits h 20 14
  let width := bits h 11 9
  let low := bits h 2 9
  let spec := bits h 1 1
  let v := beNat (slice bs 6 58)
  let per := width + 3 * spec
  if n = 0 || 317 < width + low || (width = 0 && low != 0) || 464 < n * per || count < first + n then none
  else
    let xs := (List.range n).map (fun i =>
      let lo := 464 - (i + 1) * per
      let cls := if spec = 1 then EClass.ofCode (bits v lo 3) else some .finite
      cls.map (fun c => (⟨c, (if width = 0 then 0 else toSigned width (bits v (lo + 3 * spec) width)) * 2 ^ low⟩ : Exact)))
    if xs.all (·.isSome) then some (first, xs.filterMap id) else none

end Sys2Proof.Machine
end

