-- ==== Sys2Proof/Machine/Arith.lean ====
section
/-! DEFINITION. FP32 arithmetic of the operator chains and the combine programs: exact expressions rounded once, and
the correctly rounded functions (R417, R460 to R464). -/

namespace Sys2Proof.Machine

/-! ## Exact expressions (R417) -/

/-- A value an expression takes before its one rounding: n / d where it is finite. -/
structure Val where
  cls : EClass
  n : Int
  d : Nat := 1
  deriving DecidableEq, Repr

/-- An exact value as an expression. -/
def Exact.val (x : Exact) : Val := ⟨x.cls, x.a, unit149⟩

/-- FP32 bits as an expression. -/
def fv (b : Nat) : Val := (widen eFP32 b).val

/-- BF16 bits as an expression. -/
def bv16 (b : Nat) : Val := (widen eBF16 b).val

/-- An integer as an expression. -/
def Val.ofInt (i : Int) : Val := ⟨.finite, i, 1⟩

/-- Whether a value is a NaN. -/
def Val.isNan (x : Val) : Bool := x.cls = .nan

/-- Whether a value is zero. -/
def Val.isZero (x : Val) : Bool := (x.cls = .finite || x.cls = .negzero) && x.n = 0

/-- Whether a value is an infinity. -/
def Val.isInf (x : Val) : Bool := x.cls = .posinf || x.cls = .neginf

/-- The sign of a value, true for negative. -/
def Val.neg (x : Val) : Bool :=
  match x.cls with
  | .negzero | .neginf => true
  | .finite => x.n < 0
  | _ => false

/-- A NaN. -/
def Val.nan : Val := ⟨.nan, 0, 1⟩

/-- An infinity of a sign. -/
def Val.infOf (neg : Bool) : Val := ⟨if neg then .neginf else .posinf, 0, 1⟩

/-- A zero of a sign. -/
def Val.zeroOf (neg : Bool) : Val := ⟨if neg then .negzero else .finite, 0, 1⟩

/-- Sum (R252, IEEE 754-2019). -/
def Val.add (x y : Val) : Val :=
  let c := x.cls.add y.cls
  match c with
  | .finite => ⟨.finite, x.n * y.d + y.n * x.d, x.d * y.d⟩
  | c => ⟨c, 0, 1⟩

/-- Negation. -/
def Val.negate (x : Val) : Val :=
  match x.cls with
  | .nan => x
  | .posinf => ⟨.neginf, 0, 1⟩
  | .neginf => ⟨.posinf, 0, 1⟩
  | .negzero => ⟨.finite, 0, 1⟩
  | .finite => if x.n = 0 then ⟨.negzero, 0, 1⟩ else ⟨.finite, -x.n, x.d⟩

/-- Difference. -/
def Val.sub (x y : Val) : Val := x.add y.negate

/-- Product with the IEEE sign rules. -/
def Val.mul (x y : Val) : Val :=
  let s := x.neg != y.neg
  if x.isNan || y.isNan then .nan
  else if x.isInf || y.isInf then (if x.isZero || y.isZero then .nan else .infOf s)
  else if x.isZero || y.isZero then .zeroOf s
  else ⟨.finite, x.n * y.n, x.d * y.d⟩

/-- Quotient (R461, R462). -/
def Val.div (x y : Val) : Val :=
  let s := x.neg != y.neg
  if x.isNan || y.isNan then .nan
  else if x.isInf then (if y.isInf then .nan else .infOf s)
  else if y.isInf then .zeroOf s
  else if y.isZero then (if x.isZero then .nan else .infOf s)
  else if x.isZero then .zeroOf s
  else
    let n : Int := (x.n.natAbs * y.d : Nat)
    ⟨.finite, if s then -n else n, x.d * y.n.natAbs⟩

/-- Round an expression to a float type; an overflow under RNE gives an infinity (R240, R417). -/
def Val.round (t mode r : Nat) (strict : Bool) (x : Val) : Conv :=
  match x.cls with
  | .nan => { bits := canonNan t }
  | .posinf => overflowTo t mode strict false true
  | .neginf => overflowTo t mode strict true true
  | _ => convRat t mode r strict x.neg x.n.natAbs x.d

/-- rn: the one rounding to FP32 (R417). -/
def rn (x : Val) : Nat := (x.round eFP32 0 0 false).bits

/-- rnb: the one rounding to BF16 (R417). -/
def rnb (x : Val) : Nat := (x.round eBF16 0 0 false).bits

/-- Whether FP32 bits are a NaN. -/
def isNan32 (b : Nat) : Bool := (widen eFP32 b).isNan

/-- 1.0. -/
def one32 : Nat := 0x3F800000

/-! ## Roots (R461) -/

/-- The integer square root by bits from bit `b` down. -/
def isqrtLoop (n r b : Nat) : Nat :=
  match b with
  | 0 => if (r + 1) * (r + 1) ≤ n then r + 1 else r
  | c + 1 =>
    let t := r + 2 ^ (c + 1)
    isqrtLoop n (if t * t ≤ n then t else r) c

/-- The integer square root. -/
def isqrt (n : Nat) : Nat := isqrtLoop n 0 (Nat.log2 n / 2 + 1)

/-- sqrt(n / d) of a positive rational, close enough for one rounding: exact, or half a unit past its floor. -/
def sqrtRat (n d : Nat) : Nat × Nat :=
  let s := 200 + Nat.log2 d
  let m := n * 2 ^ (2 * s) / d
  let k := isqrt m
  if k * k * d = n * 2 ^ (2 * s) then (k, 2 ^ s) else (2 * k + 1, 2 ^ (s + 1))

/-- SQRT before its rounding (R462). -/
def Val.sqrt (x : Val) : Val :=
  if x.isNan then .nan
  else if x.isZero then .zeroOf x.neg
  else if x.neg then .nan
  else if x.isInf then .infOf false
  else
    let (a, b) := sqrtRat x.n.natAbs x.d
    ⟨.finite, a, b⟩

/-- RSQRT before its rounding (R462). -/
def Val.rsqrt (x : Val) : Val :=
  if x.isNan then .nan
  else if x.isZero then .infOf x.neg
  else if x.neg then .nan
  else if x.isInf then .zeroOf false
  else
    let (a, b) := sqrtRat x.d x.n.natAbs
    ⟨.finite, a, b⟩

/-! ## EXP, EXP2 and LOG (R461, R462) -/

/-- Terms of the exponential series on a fixed-point interval (units of 2^−P), rounded outward. -/
def expSeries (P ylo yhi : Nat) (i : Nat) (tlo thi slo shi : Nat) (fuel : Nat) : Nat × Nat :=
  match fuel with
  | 0 => (slo, shi + 2)
  | f + 1 =>
    let tlo1 := tlo * ylo / (2 ^ P * i)
    let thi1 := thi * yhi / (2 ^ P * i) + 1
    expSeries P ylo yhi (i + 1) tlo1 thi1 (slo + tlo1) (shi + thi1) f

/-- Square a fixed-point interval `n` times, outward. -/
def squareIv (P lo hi n : Nat) : Nat × Nat :=
  match n with
  | 0 => (lo, hi)
  | m + 1 => squareIv P (lo * lo / 2 ^ P) (hi * hi / 2 ^ P + 1) m

/-- e^y for y in a fixed-point interval of [0, 128] (units of 2^−P): an interval in the same units. -/
def expFix (P ylo yhi : Nat) : Nat × Nat :=
  let (lo, hi) := expSeries P (ylo / 512) (yhi / 512 + 1) 1 (2 ^ P) (2 ^ P) (2 ^ P) (2 ^ P) (P / 4)
  squareIv P lo hi 9

/-- ln 2 in units of 2^−P, as an interval. -/
def ln2Fix (P : Nat) : Nat × Nat :=
  let s := ((List.range P).map (fun k => 2 ^ P / ((k + 1) * 2 ^ (k + 1)))).sum
  (s, s + P + 2)

/-- Terms of 2 atanh z on a fixed-point interval, outward. -/
def atanhSeries (P zzlo zzhi : Nat) (i : Nat) (tlo thi slo shi : Nat) (fuel : Nat) : Nat × Nat :=
  match fuel with
  | 0 => (2 * slo, 2 * shi + 4)
  | f + 1 =>
    let tlo1 := tlo * zzlo / 2 ^ P
    let thi1 := thi * zzhi / 2 ^ P + 1
    atanhSeries P zzlo zzhi (i + 2) tlo1 thi1 (slo + tlo1 / i) (shi + thi1 / i + 1) f

/-- ln m for a rational m in [1, 2): an interval in units of 2^−P. -/
def lnFix (P num den : Nat) : Nat × Nat :=
  let zlo := (num - den) * 2 ^ P / (num + den)
  let zhi := zlo + 1
  atanhSeries P (zlo * zlo / 2 ^ P) (zhi * zhi / 2 ^ P + 1) 3 zlo zhi zlo zhi (P / 3)

/-- Both ends of a positive interval round to the same FP32 value. -/
def agree32 (neg : Bool) (an ad bn bd : Nat) : Option Nat :=
  let x := (convRat eFP32 0 0 false neg an ad).bits
  let y := (convRat eFP32 0 0 false neg bn bd).bits
  if an != 0 && x = y then some x else none

/-- e^(±y) at a precision, for y in an interval. -/
def expTry (P : Nat) (neg : Bool) (ylo yhi : Nat) : Option Nat :=
  let (lo, hi) := expFix P ylo yhi
  if neg then agree32 false (2 ^ P) hi (2 ^ P) lo else agree32 false lo (2 ^ P) hi (2 ^ P)

/-- Try rising precisions until both ends of the interval round alike. -/
def atPrecision (f : Nat → Option Nat) : List Nat → Nat
  | [] => 0
  | p :: r =>
    match f p with
    | some v => v
    | none => atPrecision f r

/-- The precisions tried, in fractional bits. -/
def precisions : List Nat := [192, 320, 640, 1280]

/-- EXP (R461, R462). -/
def exp32 (b : Nat) : Nat :=
  let x := widen eFP32 b
  if x.isNan then canonNan eFP32
  else if x.isInf then (if x.neg then 0 else 0x7F800000)
  else if x.a = 0 then one32
  else if (128 * unit149 : Int) ≤ x.a then 0x7F800000
  else if x.a ≤ -(128 * unit149 : Int) then 0
  else
    let n := x.a.natAbs
    atPrecision (fun P => let y := n * 2 ^ P / unit149; expTry P (x.a < 0) y (y + 1)) precisions

/-- EXP2 (R461, R462). -/
def exp2f32 (b : Nat) : Nat :=
  let x := widen eFP32 b
  if x.isNan then canonNan eFP32
  else if x.isInf then (if x.neg then 0 else 0x7F800000)
  else if x.a = 0 then one32
  else if (128 * unit149 : Int) ≤ x.a then 0x7F800000
  else if x.a < -(151 * unit149 : Int) then 0
  else
    let fl := x.a / (unit149 : Int)
    let fr := (x.a % (unit149 : Int)).toNat
    let (n, d) := if 0 ≤ fl then (2 ^ fl.toNat, 1) else (1, 2 ^ (-fl).toNat)
    if fr = 0 then (convRat eFP32 0 0 false false n d).bits
    else
      atPrecision (fun P =>
        let (l, h) := ln2Fix P
        let (lo, hi) := expFix P (fr * l / unit149) (fr * h / unit149 + 1)
        agree32 false (lo * n) (2 ^ P * d) (hi * n) (2 ^ P * d)) precisions

/-- LOG (R461, R462). -/
def log32 (b : Nat) : Nat :=
  let x := widen eFP32 b
  if x.isNan then canonNan eFP32
  else if x.isFin && x.a = 0 then 0xFF800000
  else if x.neg then canonNan eFP32
  else if x.isInf then 0x7F800000
  else if b = one32 then 0
  else
    let n := x.a.natAbs
    let e := log2Rat n unit149
    let (num, den) := scaleRat n unit149 e
    atPrecision (fun P =>
      let (l, h) := ln2Fix P
      let (ml, mh) := lnFix P num den
      let lo : Int := (if 0 ≤ e then e * l else e * h) + ml
      let hi : Int := (if 0 ≤ e then e * h else e * l) + mh
      if 0 < lo then agree32 false lo.toNat (2 ^ P) hi.toNat (2 ^ P)
      else if hi < 0 then agree32 true (-hi).toNat (2 ^ P) (-lo).toNat (2 ^ P)
      else none) precisions

/-! ## The BF16 accumulation form (R384, R385) -/

/-- A state of BF16 accumulation: m × 2^e where it is finite, with |m| below 2^40. -/
structure BfAcc where
  cls : EClass
  m : Int
  e : Int
  deriving DecidableEq, Repr

/-- Round an integer times 2^e to a 40-bit significand by RNE (R384). -/
def bfRound (m e : Int) : BfAcc :=
  let n := m.natAbs
  let w := Nat.log2 n + 1
  if w ≤ 40 then ⟨.finite, m, e⟩
  else
    let k := roundMag 0 0 n 1 (w - 40 : Nat)
    ⟨.finite, if m < 0 then -(k : Int) else k, e + (w - 40 : Nat)⟩

/-- The exact product of two BF16 values (R384). -/
def bfProduct (a b : Nat) : BfAcc :=
  let v := (bv16 a).mul (bv16 b)
  match v.cls with
  | .finite => ⟨.finite, v.n, -298⟩
  | c => ⟨c, 0, 0⟩

/-- ⊕ (R384). -/
def BfAcc.add (x y : BfAcc) : BfAcc :=
  match x.cls.add y.cls with
  | .finite =>
    if x.m = 0 then (if y.m = 0 then ⟨.finite, 0, 0⟩ else y)
    else if y.m = 0 then x
    else
      let e := min x.e y.e
      let s := x.m * 2 ^ (x.e - e).toNat + y.m * 2 ^ (y.e - e).toNat
      if s = 0 then ⟨.finite, 0, 0⟩ else bfRound s e
  | c => ⟨c, 0, 0⟩

/-- The value of a BF16 state. -/
def BfAcc.val (x : BfAcc) : Val :=
  if 0 ≤ x.e then ⟨x.cls, x.m * 2 ^ x.e.toNat, 1⟩ else ⟨x.cls, x.m, 2 ^ (-x.e).toNat⟩

/-- Adjacent pairs of a list replaced by their ⊕ (R384). -/
def bfPairs : List BfAcc → List BfAcc
  | a :: b :: r => a.add b :: bfPairs r
  | l => l

/-- The pairwise tree of a group (R384). -/
def bfTree (l : List BfAcc) (fuel : Nat) : Option BfAcc :=
  match fuel with
  | 0 => l.head?
  | f + 1 => if l.length ≤ 1 then l.head? else bfTree (bfPairs l) f

/-- Cut a list into pieces of a length. -/
def chunksOf {α : Type} (n : Nat) (l : List α) (fuel : Nat) : List (List α) :=
  match fuel, l with
  | 0, _ => []
  | _, [] => []
  | f + 1, l => l.take n :: chunksOf n (l.drop n) f

/-- A sum of BF16 products from a state, by groups of 64 steps (R384, R385). -/
def bfDot (start : Option BfAcc) (ps : List BfAcc) : Option BfAcc :=
  (chunksOf 64 ps (ps.length + 1)).foldl (fun (s : Option BfAcc) g =>
    match bfTree g 8, s with
    | none, s => s
    | some t, none => some t
    | some t, some s => some (s.add t)) start

end Sys2Proof.Machine
end

