-- ==== Sys2Proof/Machine/Memory.lean ====
section
/-! DEFINITION. Tier addresses, HBM4 regions, memory, page checks and the step ledger
(R386, R499 to R504, R27). -/

namespace Sys2Proof.Machine

/-! ## Memory as a canonical list -/

/-- What an address not listed reads as. (DESIGN CHOICE, log entry 15). -/
def memDefault : Byte := 0

/-- The byte at an address. (DESIGN CHOICE, log entry 15). -/
def memGet (m : List Host.Cell) (a : Nat) : Byte :=
  match m with
  | [] => memDefault
  | (k, v) :: r => if k = a then v else if a < k then memDefault else memGet r a

/-- Keys strictly rising from a bound, and no byte equal to the default. -/
def memWfFrom (lo : Nat) : List Host.Cell → Bool
  | [] => true
  | (k, v) :: r => lo ≤ k && v != memDefault && memWfFrom (k + 1) r

/-- The canonical form. -/
def Memory.wf (m : List Host.Cell) : Bool := memWfFrom 0 m

/-- Store one byte. -/
def memSet (m : List Host.Cell) (a : Nat) (b : Byte) : List Host.Cell :=
  match m with
  | [] => if b = memDefault then [] else [(a, b)]
  | (k, v) :: r =>
    if k < a then (k, v) :: memSet r a b
    else if k = a then (if b = memDefault then r else (a, b) :: r)
    else if b = memDefault then (k, v) :: r else (a, b) :: (k, v) :: r

/-- The entries at or above an address. -/
def memFrom (m : List Host.Cell) (a : Nat) : List Host.Cell :=
  match m with
  | [] => []
  | (k, v) :: r => if k < a then memFrom r a else (k, v) :: r

/-- Bytes to list from an address up, before a rest: those that differ from the default. -/
def memLay (a : Nat) (bs : List Byte) (rest : List Host.Cell) : List Host.Cell :=
  match bs with
  | [] => rest
  | b :: r => if b = memDefault then memLay (a + 1) r rest else (a, b) :: memLay (a + 1) r rest

/-- Store bytes from an address up. -/
def memPut (m : List Host.Cell) (a : Nat) (bs : List Byte) : List Host.Cell :=
  match m with
  | [] => memLay a bs []
  | (k, v) :: r => if k < a then (k, v) :: memPut r a bs else memLay a bs (memFrom ((k, v) :: r) (a + bs.length))

/-- Read `n` bytes from an address up. -/
def memTake (m : List Host.Cell) (a n : Nat) : List Byte :=
  match n with
  | 0 => []
  | c + 1 =>
    match m with
    | [] => memDefault :: memTake [] (a + 1) c
    | (k, v) :: r => if k = a then v :: memTake r (a + 1) c else memDefault :: memTake ((k, v) :: r) (a + 1) c

/-- Read `n` bytes of a memory. -/
def memRead (m : List Host.Cell) (a n : Nat) : List Byte := memTake (memFrom m a) a n

/-! ## Tier addresses (R386) -/

/-- 48 GiB. -/
def stackBytes : Nat := 0xC00000000

/-- SPACE of a tier address. -/
def tierSpace (a : Nat) : Nat := bits a 62 2
/-- STACK of an HBM4 address. -/
def tierStack (a : Nat) : Nat := bits a 36 3
/-- OFFSET of an HBM4 address. -/
def tierOffset (a : Nat) : Nat := bits a 0 36
/-- An HBM4 address. -/
def hbmAddr (stack off : Nat) : Nat := stack * 2 ^ 36 + off

/-- Logical clusters on each C-die (R4, R386). -/
def Dev.clusters (d : Dev) : Nat := if d.mfg.full then 8 else 7

/-- A range of bytes exists (R386). -/
def Dev.tierExists (d : Dev) (a n : Nat) : Bool :=
  a < 2 ^ 64 &&
  (if tierSpace a = 0 then bits a 39 23 = 0 && tierOffset a + n ≤ stackBytes
   else if tierSpace a = 1 then bits a 34 28 = 0 && bits a 29 3 < d.clusters && bits a 24 5 = 0 && bits a 0 24 + n ≤ 2 ^ 24
   else if tierSpace a = 2 then bits a 34 28 = 0 && bits a 29 3 < d.clusters && bits a 22 4 = 0 && bits a 0 22 + n ≤ 2 ^ 22
   else false)

/-! ## Regions (R499, R500) -/

/-- A region's size in MiB per stack: rounded up to a multiple of 8 MiB, an eighth from each stack. -/
def perStack (mib : Nat) : Nat := (mib + 7) / 8

/-- One MiB. -/
def mib1 : Nat := 2 ^ 20

/-- Base of the ledger region in every stack. -/
def Dev.ledgerBase (d : Dev) : Nat := stackBytes - perStack (d.reg E.LEDGER_REGION_MIB) * mib1
/-- Base of the page-check region. -/
def Dev.pageBase (d : Dev) : Nat := d.ledgerBase - 32 * mib1
/-- Base of the spill region. -/
def Dev.spillBase (d : Dev) : Nat := d.pageBase - perStack (d.reg E.SPILL_REGION_MIB) * mib1
/-- GENERAL_TOP: base of the residual region. -/
def Dev.generalTop (d : Dev) : Nat := d.spillBase - perStack (d.reg E.EF_REGION_MIB) * mib1

/-- A range lies in what descriptors, products, chains and windows may name (R500). -/
def Dev.generalRange (d : Dev) (a n : Nat) : Bool :=
  d.tierExists a n && (tierSpace a != 0 || tierOffset a + n ≤ d.generalTop)

/-- A range lies in the general region of HBM4. -/
def Dev.generalHbm (d : Dev) (a n : Nat) : Bool := tierSpace a = 0 && d.generalRange a n

/-- A range lies in the ledger region (R500). (DEDUCED, log entry 111). -/
def Dev.ledgerRange (d : Dev) (a n : Nat) : Bool := d.tierExists a n && tierSpace a = 0 && d.ledgerBase ≤ tierOffset a

/-- The tier address of byte o of a reserved region (R499). -/
def regionAddr (base o : Nat) : Nat := hbmAddr (o / 4096 % 8) (base + o / 32768 * 4096 + o % 4096)

/-! ## Page checks (R503) -/

/-- The residue of the 4 KiB page at an address. -/
def pageResidue (m : List Host.Cell) (page : Nat) : Nat :=
  residueList ((chunksOf 4 (memRead m page 4096) 1025).map (fun w => (leNat w : Int)))

/-- The pages that a range touches. -/
def pagesOf (a n : Nat) : List Nat :=
  if n = 0 then [] else (List.range ((a + n - 1) / 4096 - a / 4096 + 1)).map (fun i => (a / 4096 + i) * 4096)

/-! ## Paths over package links (R22, R23, R27, R387) -/

/-- The C-die that holds a tier address (R386). -/
def tierCdie (a : Nat) : Nat := if tierSpace a = 0 then tierStack a / 2 else bits a 32 2

/-- The package links between an initiator and a C-die: a reduction unit uses its S-die's compute link, the host its link
and S-die 0's compute link, and one C-die reaches another through S-die 0. The scrubber reads beside the memory.
(DESIGN CHOICE, log entry 181). -/
def dieLinks (ini die : Nat) : List Nat :=
  let kind := ini / 4096
  let self := if kind = 5 then ini % 4096 / 16 else ini / 256 % 16
  if kind = 2 then [4 * (ini % 4096 / 8) + die]
  else if kind = 3 || kind = 4 || kind = 5 then (if self = die then [] else [self, die])
  else if kind = 6 then [17, die]
  else []

/-- An access by an initiator travels to the C-die that holds the address. -/
def Dev.travel (d : Dev) (ini a : Nat) : Dev := d.cross (dieLinks ini (tierCdie a))

/-- An access by an initiator reaches the C-die that holds the address. -/
def Dev.reaches (d : Dev) (ini a : Nat) : Bool := d.arrives (dieLinks ini (tierCdie a))

/-! ## Access -/

/-- The words of an uncorrectable error that a range meets (R504). The word is taken as 4 bytes.
(DESIGN CHOICE, log entry 17). -/
def Dev.ueIn (d : Dev) (a n : Nat) : Bool := d.ueWords.any (fun w => w < a + n && a < w + 4)

/-- Store bytes: every write updates the page checks it touches (R503); the fence lets nothing be written to HBM4
(R523). (DESIGN CHOICE, log entry 17; DEDUCED, log entry 18). -/
def Dev.writeMem (d : Dev) (a : Nat) (bs : List Byte) : Dev :=
  if d.fenced && tierSpace a = 0 then d
  else
    let m := memPut d.mem a bs
    let n := bs.length
    let pc := d.pageChecks.map (fun e => if e.1 < a + n && a < e.1 + 4096 then (e.1, pageResidue m e.1) else e)
    { d with mem := m, pageChecks := pc, ueWords := d.ueWords.filter (fun w => !(a ≤ w && w + 4 ≤ a + n)) }

/-- A write by an initiator: it travels to the C-die that holds the address, and is lost with a link on the way (R23, R27, R387). -/
def Dev.writeFrom (d : Dev) (ini a : Nat) (bs : List Byte) : Dev :=
  if d.reaches ini a then (d.travel ini a).writeMem a bs else d.travel ini a

/-- An error of the word at a tier address met by a read (R504, R526, R531). -/
def Dev.memError (d : Dev) (ue : Bool) (a ini : Nat) (inj : Bool) (syn : Nat) : Dev :=
  if tierSpace a != 0 then d.report (bark (if ue then 0x0903 else 0x0901) accRead ini inj a syn)
  else if ue then ((d.countErr E.HBM_UNCORRECTED).setReg E.LAST_HBM_UE a).report (bark 0x0904 accRead ini inj a syn)
  else (d.countErr E.HBM_CORRECTED).report (bark 0x0902 accRead ini inj a syn)

/-- The word of a range that an injected error falls in: the spec does not say which of those read, so it is free.
(DESIGN CHOICE, log entry 133). -/
def Dev.freeWordIn (d : Dev) (a n : Nat) : Nat := (a / 4 + Config.freeChoice d.draws % max 1 ((a + n + 3) / 4 - a / 4)) * 4

/-- Read bytes for an agent, over the links between it and the memory (R27, R387): none where a link fails past its retries (R23) or
the read meets an uncorrectable error (R504, R526, R544). A word that the scrubber has found fails its reader alone, with no
further report. (DESIGN CHOICE, log entry 133). -/
def Dev.readMem (d0 : Dev) (a n ini : Nat) : Option (List Byte) × Dev :=
  let d := d0.travel ini a
  let v := memRead d.mem a n
  let hbm : Bool := tierSpace a = 0
  let target := if hbm then tierStack a else if tierSpace a = 1 then 3 else 2
  if !d0.reaches ini a then (none, d)
  else
    let syn := (Config.freeWord d.draws).toNat
    let at0 := d.freeWordIn a n
    let (ce, d1) := d.takeInject (if hbm then 0x0A else 0x08) target
    let d2 := if ce then d1.drew.memError false at0 ini true syn else d1
    let (ue, d3) := if ce then (false, d2) else d2.takeInject (if hbm then 0x0B else 0x09) target
    if ue then (none, d3.drew.memError true at0 ini true syn)
    else if d3.ueIn a n then (none, d3)
    else (some v, d3)

/-- Verify one page check for a reader (R503): whether it holds, and the device with a failure counted and reported. -/
def Dev.verifyPage (d : Dev) (page ini : Nat) : Bool × Dev :=
  match tget d.pageChecks page with
  | none => (true, d)
  | some r =>
    let (inj, d1) := d.takeInject 0x0C 0
    if !inj && r = pageResidue d1.mem page then (true, d1)
    else (false, (d1.countErr E.PAGE_CHECK_FAILS).report (bark 0x0905 accCheck ini inj page 0))

/-- Verify every page check that a range covers whole. -/
def Dev.verifyPages (d : Dev) (a n ini : Nat) : Bool × Dev :=
  ((pagesOf a n).filter (fun p => a ≤ p && p + 4096 ≤ a + n)).foldl
    (fun (acc : Bool × Dev) p =>
      let (ok, d1) := acc.2.verifyPage p ini
      (acc.1 && ok, d1)) (true, d)

/-- A core of a C-die: which one runs a step is left open, so it is free. (DESIGN CHOICE, log entry 134). -/
def Dev.freeCore (d : Dev) (die : Nat) : Nat := iniCore die (Config.freeChoice d.draws % (8 * d.clusters))

/-! ## Reserved regions (R499) -/

/-- The parts of a range of a region, by its blocks of 4,096 bytes: offset and length. -/
def regionParts (o n : Nat) : List (Nat × Nat) :=
  if n = 0 then []
  else (List.range ((o + n - 1) / 4096 - o / 4096 + 1)).map (fun i =>
    let lo := max o ((o / 4096 + i) * 4096)
    (lo, min (o + n) ((o / 4096 + i + 1) * 4096) - lo))

/-- Read a range of a region for an agent, each block over the links to its own stack (R27, R499): none where a word is
uncorrectable. -/
def Dev.regionRead (d : Dev) (base o n ini : Nat) : Option (List Byte) × Dev :=
  (regionParts o n).foldl (fun (a : Option (List Byte) × Dev) p =>
    match a.1 with
    | none => a
    | some l =>
      match a.2.readMem (regionAddr base p.1) p.2 ini with
      | (some bs, d1) => (some (l ++ bs), d1)
      | (none, d1) => (none, d1)) (some [], d)

/-- Write a range of a region for an agent, each block over the links to its own stack (R27, R499). -/
def Dev.regionWrite (d : Dev) (base o : Nat) (bs : List Byte) (ini : Nat) : Dev :=
  (regionParts o bs.length).foldl (fun a p => a.writeFrom ini (regionAddr base p.1) (slice bs (p.1 - o) p.2)) d

/-! ## The step ledger (R501, R502) -/

/-- LEDGER_CAPACITY. -/
def Dev.ledgerCapacity (d : Dev) : Nat := 8 * perStack (d.reg E.LEDGER_REGION_MIB) * mib1 / 128

/-- The fields of a ledger record that its writer gives (R501). -/
structure LedgerRec where
  kind : Nat
  status : Nat := 0
  pack : Nat := 0
  cseq : Nat := 0
  step : Nat := 0
  tensor : Nat := 0
  fused : Nat := 0
  chunk : Nat := 0
  inCheck : Nat := 0
  resCheck : Nat := 0
  remainder : Nat := 0
  health : List Byte := List.replicate 48 0
  outCheck : Nat := 0
  commit : Nat := 0
  elem : Nat := 0
  op : Nat := 0
  modes : Nat := 0
  /-- The S-die that writes it. -/
  sdie : Nat := 0
  deriving DecidableEq, Repr

/-- Bytes 0 to 123 of a record (R501). -/
def LedgerRec.body (r : LedgerRec) (tick seq : Nat) : List Byte :=
  leBytes 1 r.kind ++ leBytes 1 r.status ++ leBytes 2 r.pack ++ leBytes 2 r.cseq ++ leBytes 6 r.step ++
  leBytes 4 r.tensor ++ leBytes 4 r.fused ++ leBytes 4 r.chunk ++ leBytes 8 r.inCheck ++ leBytes 8 r.resCheck ++
  leBytes 8 r.remainder ++ leBytes 8 tick ++ leBytes 8 seq ++ padTo 48 r.health ++ leBytes 8 r.outCheck ++
  leBytes 1 r.commit ++ leBytes 1 r.elem ++ leBytes 1 r.op ++ leBytes 1 r.modes

/-- Write the next ledger record (R501, R502, R544), over the compute link of the C-die that owns its stack (R27); the fence
lets none be written (R523). (DEDUCED, log entry 142). -/
def Dev.ledger (d : Dev) (r : LedgerRec) : Dev :=
  if d.fenced then d else
  let n := d.reg E.LEDGER_NEXT_SEQ
  let cap := d.ledgerCapacity
  let (inj, d1) := d.takeInject 0x0D 0
  let body := r.body d.tick n
  let crc := if inj then crc32c body ^^^ 0xFFFFFFFF else crc32c body
  let at0 := n % cap * 128
  let a := regionAddr d.ledgerBase at0
  let full : Bool := cap ≤ n && d.reg E.LEDGER_READ ≤ n - cap
  let link := 4 * r.sdie + tierCdie a
  let d2 := ((d1.pkgTransfer link).writeMem a (body ++ leBytes 4 crc)).setReg E.LEDGER_NEXT_SEQ (n + 1)
  if d1.linkDown link then d1.pkgTransfer link
  else if full then (d2.countErr E.LEDGER_OVERRUNS).report (bark 0x0906 accNone iniNone false a (n - cap)) else d2

end Sys2Proof.Machine
end

