-- ==== Sys2Proof/Machine/Kennel.lean ====
section
/-! DEFINITION. The kennel: slots, pools, the free list, admission and push-out, the stray audit
(R164 to R199). -/

namespace Sys2Proof.Machine

/-! ## Access -/

/-- An S-die's kennel. -/
def Dev.kennel (d : Dev) (s : Nat) : Kennel := if s = 0 then d.kennel0 else d.kennel1

/-- Replace an S-die's kennel. -/
def Dev.setKennel (d : Dev) (s : Nat) (k : Kennel) : Dev :=
  if s = 0 then { d with kennel0 := k } else { d with kennel1 := k }

/-- Slots of one S-die (R175). -/
def slotCount : Nat := 786432

/-- The kennel pointer of a slot (R176). -/
def slotPtr (s i : Nat) : Nat := s * 2 ^ 27 + i * 128

/-- The null pointer (R176). -/
def nullPtr : Nat := 0xFFFFFFFF

/-- The POOL field of a slot tag (R178). -/
def poolCode (p : Pool) : Nat :=
  match p with
  | .ded => 0
  | .shr => 1
  | .sta => 2
  | .rpy => 3

/-- The 64-bit tag of a slot (R178). -/
def slotTag (x : KSlot) : Nat :=
  (if x.stray then 2 else 1) * 2 ^ 62 + poolCode x.pool * 2 ^ 59 + x.owner * 2 ^ 50 + x.copies * 2 ^ 42 +
    x.sl * 2 ^ 40 + x.allocTick

/-! ## Pool sizes (R179 to R182) -/

/-- A GRANT entry as DED is sized for it (R182). -/
def Dev.grantSized (d : Dev) (k : Nat) : Nat := max (d.reg k) (tgetD d.dedOld k 0)

/-- The GRANT entries in class order (R162). -/
def grantKeys : List Nat := [E.GRANT_REQ, E.GRANT_RPL, E.GRANT_FWD, E.GRANT_CUP, E.GRANT_CDN, E.GRANT_CTL]

/-- DED size (R179). (DEDUCED, log entry 57). -/
def Dev.dedSize (d : Dev) : Nat := 256 * (grantKeys.map d.grantSized).sum

/-- STA on an S-die for the four limits of 0x3020 (R179). -/
def staFor (l : List Nat) (s : Nat) : Nat :=
  12 * (4 * l.getD 0 0 + l.getD 1 0 + (if s = 0 then l.getD 2 0 else 0) + 8 * l.getD 3 0)

/-- The limits of 0x3020 as written (R198). (DEDUCED, log entry 57). -/
def Dev.staWritten (d : Dev) : List Nat := [d.reg E.STA_COMPUTE, d.reg E.STA_BRIDGE, d.reg E.STA_HOST, d.reg E.STA_REDUCE]

/-- STA size of an S-die (R179). (DEDUCED, log entry 58). -/
def Dev.staSize (d : Dev) (s : Nat) : Nat := staFor d.staInForce s

/-- RPY size of an S-die (R179). -/
def Dev.rpySize (d : Dev) (s : Nat) : Nat := 7168 * d.modulePorts s

/-- SHR size of an S-die (R179). -/
def Dev.shrSize (d : Dev) (s : Nat) : Nat := slotCount - (d.dedSize + d.staSize s + d.rpySize s)

/-- Whether SHR keeps its minimum on both S-dies (R181), with the limits in force and with those written. -/
def Dev.shrKept (d : Dev) : Bool :=
  (List.range 2).all (fun s => d.dedSize + max (d.staSize s) (staFor d.staWritten s) + d.rpySize s + 131072 ≤ slotCount)

/-- The size of a pool. -/
def Dev.poolSize (d : Dev) (s : Nat) (p : Pool) : Nat :=
  match p with
  | .ded => d.dedSize
  | .sta => d.staSize s
  | .rpy => d.rpySize s
  | .shr => d.shrSize s

/-- The used count of a pool: HELD slots (R179, R192). -/
def Kennel.used (k : Kennel) (p : Pool) : Nat := (k.slots.filter (fun e => !e.2.stray && e.2.pool = p)).length

/-- Slots on the free list. -/
def Kennel.freeCount (k : Kennel) : Nat := (k.free.map (fun r => r.2 + 1 - r.1)).sum

/-- STRAY slots. -/
def Kennel.strays (k : Kennel) : Nat := (k.slots.filter (fun e => e.2.stray)).length

/-! ## Reports (R191) -/

/-- Report a kennel code. `ini` is the crossbar input or replay side that asked. -/
def Dev.kennelReport (d : Dev) (s code ini ptr : Nat) (inj : Bool) : Dev :=
  d.report (bark (0x0400 + code) accKennel ini inj ptr (d.reg (E.LAST_REFUSAL s)))

/-- Record and report a refusal of codes 0x02 to 0x05 (R191, R197). (DEDUCED, log entry 56). -/
def Dev.kennelRefuse (d : Dev) (s code owner ptr : Nat) (inj : Bool) : Dev :=
  let d1 := (d.setReg (E.LAST_REFUSAL s) (code * 2 ^ 56 + owner * 2 ^ 47 + ptr)).countErr (E.KENNEL_REFUSALS s)
  d1.kennelReport s code (iniXbar s (owner % 256)) ptr inj

/-! ## The free list and its rebuild (R190, R195) -/

/-- Runs of slots from `a` up to, not including, `b` that are not among the rising keys. (DEDUCED, log entry 59). -/
def freeRuns (a b : Nat) (keys : List Nat) : List (Nat × Nat) :=
  match keys with
  | [] => if a < b then [(a, b - 1)] else []
  | k :: r =>
    if k < a then freeRuns a b r
    else if k < b then (if a < k then [(a, k - 1)] else []) ++ freeRuns (k + 1) b r
    else if a < b then [(a, b - 1)] else []

/-- Bring a rebuild in progress up to a tick: the walk passes 16 slots a cycle, 80 cycles a tick (R190). -/
def Kennel.walk (k : Kennel) (tick : Nat) : Kennel :=
  match k.rebuild with
  | none => k
  | some r =>
    let n := min slotCount ((tick - r.start) * 1280)
    if r.passed < n then
      { k with free := k.free ++ freeRuns r.passed n (k.slots.map (·.1)), rebuild := some { r with passed := n } }
    else k

/-- The free list is threaded afresh, so every FREE slot's LINK is written (R190), and the marks of those words go.
(DESIGN CHOICE, log entry 198). -/
def Dev.rewriteLinks (d : Dev) (s : Nat) : Dev :=
  { d with ueWords := d.ueWords.filter (fun a =>
      !(a / 2 ^ 56 = 192 && a % 2 ^ 56 / slotCount = s && (tget (d.kennel s).slots (a % 2 ^ 56 % slotCount)).isNone)) }

/-- Start the rebuild (R190): the list is threaded afresh. -/
def Dev.startRebuild (d : Dev) (s : Nat) (ini ptr : Nat) (inj : Bool) : Dev :=
  let k := d.kennel s
  let d1 := d.setKennel s { k with free := [], rebuild := some ⟨d.tick, 0⟩ }
  ((d1.rewriteLinks s).countErr (E.REBUILDS s)).kennelReport s 6 ini ptr inj

/-- Append a slot to the tail of the free list; during a rebuild, only once the walk has passed it. -/
def Kennel.appendFree (k : Kennel) (i : Nat) : Kennel :=
  match k.rebuild with
  | some r => if i < r.passed then { k with free := k.free ++ [(i, i)] } else k
  | none => { k with free := k.free ++ [(i, i)] }

/-- Take one armed kennel injection of a kind on an S-die (R196). -/
def Dev.takeKinject (d : Dev) (s kind : Nat) : Bool × Dev :=
  match d.kinject with
  | none => (false, d)
  | some j =>
    if j.kind = kind && j.die = s && d.reg E.KENNEL_INJECT_LEFT > 0 then
      let n := d.reg E.KENNEL_INJECT_LEFT - 1
      let d1 := d.setReg E.KENNEL_INJECT_LEFT n
      (true, if n = 0 then { d1 with kinject := none } else d1)
    else (false, d)

/-! ## The three operations (R188, R189) -/

/-- The map gatherer of an S-die. -/
def Telemetry.map (t : Telemetry) (s : Nat) : MapGather := if s = 0 then t.map0 else t.map1

/-- Change the map gatherer of an S-die while it gathers (R566). -/
def Dev.updMap (d : Dev) (s : Nat) (f : MapGather → MapGather) : Dev :=
  let m := d.tele.map s
  if !m.active then d
  else { d with tele := if s = 0 then { d.tele with map0 := f m } else { d.tele with map1 := f m } }

/-- An expired cell is counted, for the open map too (R219, R567). -/
def Dev.countExpired (d : Dev) (s : Nat) : Dev := (d.countErr (E.EXPIRED s)).updMap s (fun m => { m with expired := m.expired + 1 })

/-- SHR_PEAK and the open map's peak follow SHR_USED (R197, R567). -/
def Dev.notePeak (d : Dev) (s : Nat) : Dev :=
  let u := (d.kennel s).used .shr
  let d1 := d.updMap s (fun m => { m with shrPeak := max m.shrPeak u })
  if d1.reg (E.SHR_PEAK s) < u then d1.setReg (E.SHR_PEAK s) u else d1

/-- A kennel's slot is read through its ECC, whose word holds the cell, the LINK and the tag (R175, R544).
(DEDUCED, log entry 59). -/
def Dev.readSlot (d : Dev) (s i ini : Nat) : Bool × Dev := d.sramRead 0 (s * slotCount + i) ini

/-- POOL_EMPTY: counted always, reported where credits guaranteed a slot (R188, R191). (DEDUCED, log entry 56). -/
def Dev.poolEmpty (d : Dev) (s owner : Nat) (fault : Bool) : Dev :=
  let d1 := d.countErr (E.ALLOC_FAILS s)
  if fault then d1.kennelReport s 1 (iniXbar s (owner % 256)) nullPtr false else d1

/-- ALLOCATE: pop the head of the free list and set the tag (R188). A slot that is not FREE, or a LINK that is corrupt
(R196) or does not come back, starts a rebuild; only a fabric port's cell is then discarded and counted, and another requester
waits or goes without (R190). (DEDUCED, log entry 59). -/
def Dev.allocate (d : Dev) (s : Nat) (pool : Pool) (owner sl : Nat) : Option Nat × Dev :=
  let d0 := d.setKennel s ((d.kennel s).walk d.tick)
  let k := d0.kennel s
  if d0.poolSize s pool ≤ k.used pool then (none, d0.poolEmpty s owner (pool != .shr))
  else
    match k.free with
    | [] => (none, d0.poolEmpty s owner true)
    | (lo, hi) :: rest =>
      let ini := iniXbar s (owner % 256)
      let (hit, d1) := d0.takeKinject s 4
      let (ok, d2) := d1.readSlot s lo ini
      if hit || !ok || (tget k.slots lo).isSome then 
        (none, let d3 := d2.startRebuild s ini (slotPtr s lo) hit
               if owner < 128 then d3.countErr (E.ALLOC_FAILS s) else d3)
      else
        let free := if lo < hi then (lo + 1, hi) :: rest else rest
        let slot : KSlot := { pool := pool, owner := owner, sl := sl, allocTick := d.tick % 2 ^ 32 }
        (some lo, ((d2.setKennel s { k with free := free, slots := tset k.slots lo slot }).rewriteWord 0 (s * slotCount + lo)).notePeak s)

/-- The checks of R177 on a pointer: the code that refuses it. -/
def ptrCheck (s ptr : Nat) : Option Nat :=
  if bits ptr 28 4 != 0 || 0x6000000 ≤ bits ptr 0 27 then some 2
  else if bits ptr 0 7 != 0 then some 3
  else if bits ptr 27 1 != s then some 2
  else none

/-- Remove a slot from every queue of a kennel. -/
def Kennel.unqueue (k : Kennel) (i : Nat) : Kennel :=
  { k with queues := k.queues.map (fun e => (e.1, e.2.filter (· != i))),
           mqueues := k.mqueues.map (fun e => (e.1, e.2.filter (· != i))) }

/-- RELEASE (R188, R189, R194, R196): the device after. A tag that does not come back leaves the slot as it is. -/
def Dev.release (d : Dev) (s ptr0 owner0 : Nat) : Dev :=
  let (i1, d1) := d.takeKinject s 1
  let (i2, d2) := if i1 then (false, d1) else d1.takeKinject s 2
  let (i3, d3) := if i1 || i2 then (false, d2) else d2.takeKinject s 3
  let (i5, d4) := if i1 || i2 || i3 then (false, d3) else d3.takeKinject s 5
  let ptr := if i1 then ptr0 ||| 2 ^ 30 else if i2 then ptr0 ||| 1 else ptr0
  let owner := if i3 then 135 else owner0
  let inj := i1 || i2 || i3
  let d5 := d4.setKennel s ((d4.kennel s).walk d.tick)
  if i5 then d5
  else
    match ptrCheck s ptr with
    | some code => d5.kennelRefuse s code owner ptr inj
    | none =>
      let i := bits ptr 7 20
      match d5.readSlot s i (iniXbar s (owner % 256)) with
      | (false, d6) => d6
      | (true, d6) =>
        let k := d6.kennel s
        match tget k.slots i with
        | none => d6.kennelRefuse s 5 owner ptr inj
        | some x =>
          if x.owner != owner then d6.kennelRefuse s 4 owner ptr inj
          else d6.setKennel s (({ k with slots := terase k.slots i }).appendFree i)

/-- HANDOVER (R188, R189): owner, pool and ALLOC_TICK change, or the operation is refused. A FREE slot, and a STRAY one that
its owner names, have no row in R195: nothing happens (R18). -/
def Dev.handover (d : Dev) (s ptr owner newOwner : Nat) (pool : Pool) : Bool × Dev :=
  match ptrCheck s ptr with
  | some code => (false, d.kennelRefuse s code owner ptr false)
  | none =>
    let i := bits ptr 7 20
    match d.readSlot s i (iniXbar s (owner % 256)) with
    | (false, d1) => (false, d1)
    | (true, d1) =>
      let k := d1.kennel s
      match tget k.slots i with
      | none => (false, d1)
      | some x =>
        if x.owner != owner then (false, d1.kennelRefuse s 4 owner ptr false)
        else if x.stray then (false, d1)
        else
          (true, (d1.setKennel s
            { k with slots := tset k.slots i { x with owner := newOwner, pool := pool, allocTick := d.tick % 2 ^ 32 } }
            ).notePeak s)

/-! ## Credits returned (R141) -/

/-- A list of counters with one raised, padded with zeros. -/
def bumpAt (l : List Nat) (i n : Nat) : List Nat :=
  let l' := l ++ List.replicate (i + 1 - l.length) 0
  l'.take i ++ [l'.getD i 0 + n] ++ l'.drop (i + 1)

/-- The grant counter a credit belongs to: the VC, or 12 for the shared pool (R126, R141). -/
def creditSlot (vc : Nat) (sh : Bool) : Nat := if sh then 12 else vc

/-- Return one credit of a fabric port's grant counter (R141). It is withheld while KEEPALIVE is being entered (R616), and for
CUP while a wake that the port's START began runs (R33). -/
def Dev.giveCredit (d : Dev) (p i : Nat) (cup : Bool) : Dev :=
  let hold := d.power.sleep = .entering || (d.power.wakePorts.contains p && cup)
  d.updPort p (fun x =>
    if hold then { x with withheld := bumpAt x.withheld i 1 }
    else if x.debt.getD i 0 > 0 then { x with debt := x.debt.set i (x.debt.getD i 0 - 1) }
    else { x with rx := { x.rx with grant := bumpAt x.rx.grant i 1 } })

/-- Return the credit of a cell that came on a VC, to the pool that its SH names (R141). -/
def Dev.returnCredit (d : Dev) (p vc : Nat) (sh : Bool) : Dev := d.giveCredit p (creditSlot vc sh) (vc / 2 = 3)

/-- A held cell leaves its input buffer: the credit of a fabric input goes back on the VC it arrived on (R141). -/
def Dev.leaveInput (d : Dev) (s : Nat) (x : KSlot) : Dev :=
  if x.owner < 128 && (x.pool = .ded || x.pool = .shr) && x.cell.isSome then
    d.returnCredit (s * 128 + x.owner) x.arr (x.pool = .shr)
  else d

/-- Drop a held cell: it leaves its queues, its input and its slot. -/
def Dev.dropSlot (d : Dev) (s i : Nat) : Dev :=
  match tget (d.kennel s).slots i with
  | none => d
  | some x => ((d.setKennel s ((d.kennel s).unqueue i)).leaveInput s x).release s (slotPtr s i) x.owner

/-! ## Queues (R166 to R169) -/

/-- The key of a unicast queue. -/
def uniKey (input output vc : Nat) : Nat := (input * 256 + output) * 16 + vc
/-- The key of a multicast queue. -/
def multiKey (input vc : Nat) : Nat := input * 16 + vc

/-- Cells queued to an output on one VC, unicast and multicast. -/
def Kennel.queuedVc (k : Kennel) (output vc : Nat) : Nat :=
  ((k.queues.filter (fun e => e.1 / 16 % 256 = output && e.1 % 16 = vc)).map (fun e => e.2.length)).sum +
  (k.slots.filter (fun e => e.2.fan.contains output &&
    (match e.2.cell with
     | some c => c.vc = vc
     | none => false))).length

/-- REQ, RPL, FWD and CUP cells queued to an output: Q of R211. -/
def Kennel.queueQ (k : Kennel) (output : Nat) : Nat :=
  ((k.queues.filter (fun e => e.1 / 16 % 256 = output && e.1 % 16 < 8)).map (fun e => e.2.length)).sum

/-- Slots of STA an internal input holds on a VC (R180). -/
def Kennel.staHeld (k : Kennel) (input vc : Nat) : Nat :=
  (k.slots.filter (fun e => !e.2.stray && e.2.pool = .sta && e.2.owner = input && e.2.cell.isSome && e.2.arr = vc)).length

/-- The 0x3020 limit of an internal input per VC (R180). -/
def Dev.staLimit (d : Dev) (input : Nat) : Nat :=
  let at4 := fun (i : Nat) => d.staInForce.getD i 0
  if input < 132 then at4 0 else if input = 132 then at4 1 else if input = 133 then at4 2 else at4 3

/-- An internal output of an S-die as a destination, beside the physical ports (R164). -/
def innerDest (t x : Nat) : Nat := 256 * (t + 1) + x

/-- The S-die of a destination. -/
def destSdie (q : Nat) : Nat := if q < 256 then q / 128 else q / 256 - 1

/-- The crossbar outputs of an S-die that lead to destinations; the bridge stands for those of the other half (R24, R164, R173). -/
def outputsOf (s : Nat) (dest : List Nat) : List Nat :=
  let here := (dest.filter (fun q => destSdie q = s)).map (fun q => if q < 256 then q % 128 else q % 256)
  if dest.any (fun q => destSdie q != s) then here ++ [132] else here

/-- Take an output out of one multicast slot's fan-out; the slot goes when none is left (R169). -/
def Dev.unfan (d : Dev) (s i o : Nat) : Dev :=
  let k := d.kennel s
  match tget k.slots i with
  | none => d
  | some x =>
    let fan := x.fan.filter (· != o)
    if fan = [] then d.dropSlot s i
    else d.setKennel s { k with slots := tset k.slots i { x with fan := fan, copies := fan.length } }

/-- Whether a port keeps its output queues (R169): a LANES that is not fresh is one on its way back to UP.
(DEDUCED, log entry 52). -/
def PortSt.keepsQueues (x : PortSt) : Bool :=
  match x.state with
  | .up | .keepalive | .recover => true
  | .lanes => !x.fresh
  | _ => false

/-- An output that takes cells into its queues: an internal one, or a fabric port that keeps them. -/
def Dev.queues (d : Dev) (s o : Nat) : Bool := 128 ≤ o || (d.port (s * 128 + o)).keepsQueues

/-- Mark CE on a REQ, RPL or FWD cell that is enqueued behind CE_THRESHOLD cells of its VC at its output (R221). -/
def Dev.mark (d : Dev) (s o : Nat) (c : Cell) : Cell × Dev :=
  if c.cls ≤ 2 && d.reg E.CE_THRESHOLD ≤ (d.kennel s).queuedVc o c.vc then
    let p := s * 128 + o
    let d1 := d.count (E.CE_MARKED s)
    (c.setFld 84 1 1, if o < 128 then d1.updMap s (fun m => { m with ceMarks := tset m.ceMarks p (tgetD m.ceMarks p 0 + 1) }) else d1)
  else (c, d)

/-- Put an allocated slot's cell into its queue (R166, R168, R173): unicast behind its one output, where it may be marked (R221),
or multicast. A port that keeps no queues takes none of it: the cell is dropped and counted, or the port left out of the
fan-out (R169). `arr` is the VC it came on. (DEDUCED, log entry 52). -/
def Dev.enqueue (d0 : Dev) (s i input arr : Nat) (dest : List Nat) (multi : Bool) (c0 : Cell) : Dev :=
  let outputs := outputsOf s dest
  let o := outputs.getD 0 0
  let (c, d) := if multi then (c0, d0) else d0.mark s o c0
  let k := d.kennel s
  match tget k.slots i with
  | none => d
  | some x0 =>
    let x := { x0 with cell := some c, arr := arr, sl := c.sl, dest := dest }
    if multi then
      let d1 := d.setKennel s { k with slots := tset k.slots i { x with copies := outputs.length, fan := outputs },
                                       mqueues := tset k.mqueues (multiKey input c.vc) (tgetD k.mqueues (multiKey input c.vc) [] ++ [i]) }
      (outputs.filter (fun p => !d.queues s p)).foldl (fun a p => a.unfan s i p) d1
    else
      let d1 := d.setKennel s { k with slots := tset k.slots i { x with copies := 1 },
                                       queues := tset k.queues (uniKey input o c.vc) (tgetD k.queues (uniKey input o c.vc) [] ++ [i]) }
      if d.queues s o then d1 else (d1.dropSlot s i).count (E.FLUSHED (s * 128 + o))

/-! ## Push-out (R185, R186) -/

/-- HELD SHR slots with their service level and input. -/
def Kennel.shrSlots (k : Kennel) : List (Nat × KSlot) := k.slots.filter (fun e => !e.2.stray && e.2.pool = .shr)

/-- The first of a list that is at least as good as every other under a strict order given by a key. -/
def leastBy (f : Nat × KSlot → Nat) : List (Nat × KSlot) → Option (Nat × KSlot)
  | [] => none
  | e :: r =>
    match leastBy f r with
    | none => some e
    | some b => if f b < f e then some b else some e

/-- The victim for an arriving cell of service level `sl` (R185): none that this cycle has already taken (R187). -/
def Kennel.victim (k : Kennel) (sl now : Nat) : Option (Nat × KSlot) :=
  let el := k.shrSlots.filter (fun e => e.2.sl < sl && !k.taken.contains e.1)
  match leastBy (fun e => e.2.sl) el with
  | none => none
  | some lowest =>
    let at0 := el.filter (fun e => e.2.sl = lowest.2.sl)
    let cnt := fun o => (at0.filter (fun e => e.2.owner = o)).length
    match leastBy (fun e => (slotCount - cnt e.2.owner) * 256 + e.2.owner) at0 with
    | none => none
    | some top =>
      leastBy (fun e => (2 ^ 32 - 1 - (now + 2 ^ 32 - e.2.allocTick) % 2 ^ 32) * slotCount + e.1)
        (at0.filter (fun e => e.2.owner = top.2.owner))

/-- Find room for a cell that a fabric port received: DED with SH 0, SHR with SH 1, push-out when SHR is full (R184 to R186,
R190). Without room the cell is discarded and its credit goes back. -/
def Dev.takeRoom (d : Dev) (p : Nat) (c : Cell) : Option Nat × Dev :=
  let s := sdieOf p
  let x := p % 128
  let from_ : Pool → Option Nat × Dev := fun pool =>
    match d.allocate s pool x c.sl with
    | (some i, d1) => (some i, d1)
    | (none, d1) => (none, d1.returnCredit p c.vc (c.sh = 1))
  if c.sh = 0 then from_ .ded
  else if (d.kennel s).used .shr < d.shrSize s then from_ .shr
  else
    match (d.kennel s).victim c.sl (d.tick % 2 ^ 32) with
    | none => (none, (d.count (E.SHARED_DROPS p)).returnCredit p c.vc true)
    | some (i, v) =>
      let vp := s * 128 + v.owner
      let d1 := ((((d.setKennel s ((d.kennel s).unqueue i)).count (E.PUSHED_OUT vp)).count (E.PUSHOUTS_CAUSED p)).leaveInput s v).updMap s
        (fun m => { m with pushouts := tset m.pushouts vp (tgetD m.pushouts vp 0 + 1) })
      let k := d1.kennel s
      let slot : KSlot := { pool := .shr, owner := x, sl := c.sl, allocTick := d.tick % 2 ^ 32 }
      (some i, (d1.setKennel s { k with slots := tset k.slots i slot, taken := k.taken ++ [i] }).rewriteWord 0 (s * slotCount + i))

/-- Admit a routed cell that a fabric port received: `c` as it came, `c1` with the DL it leaves with, `dest` its port (R166). -/
def Dev.letIn (d : Dev) (p : Nat) (c c1 : Cell) (dest : List Nat) : Dev :=
  match d.takeRoom p c with
  | (some i, d1) => d1.enqueue (sdieOf p) i (p % 128) c.vc dest false c1
  | (none, d1) => d1

/-- Pass a cell that a fabric port received to a consumer inside the package: it takes a slot like any other, and leaves it in
this step (R184, R185). Whether there was room. (DEDUCED, log entry 44). -/
def Dev.passIn (d : Dev) (p : Nat) (c : Cell) : Bool × Dev :=
  match d.takeRoom p c with
  | (some i, d1) => (true, (d1.returnCredit p c.vc (c.sh = 1)).release (sdieOf p) (slotPtr (sdieOf p) i) (p % 128))
  | (none, d1) => (false, d1)

/-! ## Flushing a port (R169) -/

/-- Drop what is queued to a fabric port, and take it out of every fan-out (R169). -/
def Dev.flushPort (d : Dev) (p : Nat) : Dev :=
  let s := sdieOf p
  let o := p % 128
  let k := d.kennel s
  let uni := (k.queues.filter (fun e => e.1 / 16 % 256 = o)).flatMap (·.2)
  let d1 := uni.foldl (fun a i => (a.dropSlot s i).count (E.FLUSHED p)) d
  let mul := (d1.kennel s).slots.filter (fun e => e.2.fan.contains o)
  mul.foldl (fun a e => a.unfan s e.1 o) d1

/-- Cells queued to a port as an output. -/
def Dev.queuedTo (d : Dev) (p : Nat) : Bool :=
  let k := d.kennel (sdieOf p)
  let o := p % 128
  k.queues.any (fun e => e.1 / 16 % 256 = o && e.2 != []) || k.slots.any (fun e => e.2.fan.contains o)

/-- A collective start waits for a port as an output (R129). -/
def Dev.startQueuedTo (d : Dev) (p : Nat) : Bool :=
  let k := d.kennel (sdieOf p)
  let o := p % 128
  let starts := fun (x : KSlot) => match x.cell with
    | some c => c.starts
    | none => false
  k.queues.any (fun e => e.1 / 16 % 256 = o && e.2.any (fun n => (tget k.slots n).any starts)) ||
    k.slots.any (fun e => e.2.fan.contains o && starts e.2)

/-! ## The commands of the kennel family -/

/-- What an ALLOCATE, RELEASE or HANDOVER asked. -/
def askAllocate : Nat := 1
/-- What was asked. -/
def askHandover : Nat := 2

/-- ALLOCATE (R188), while the S-dies have power (R32). -/
def execAllocate (sd : Sdie) (pool : Pool) (owner : Owner) (s : State) : Host.Outcome State Fault Refusal :=
  run s fun d =>
    if d.domainOff .switch then d
    else
    match d.allocate sd.val pool owner.val 0 with
    | (some i, d1) => d1.emit (.answer d.tick askAllocate 0 (slotPtr sd.val i))
    | (none, d1) => d1.emit (.answer d.tick askAllocate 1 nullPtr)

/-- RELEASE (R188, R189), while the S-dies have power (R32). -/
def execRelease (sd : Sdie) (ptr : BitVec 32) (owner : Owner) (s : State) : Host.Outcome State Fault Refusal :=
  run s fun d => if d.domainOff .switch then d else d.release sd.val ptr.toNat owner.val

/-- HANDOVER (R188, R189), while the S-dies have power (R32). -/
def execHandover (sd : Sdie) (ptr : BitVec 32) (owner newOwner : Owner) (pool : Pool) (s : State) :
    Host.Outcome State Fault Refusal :=
  run s fun d =>
    if d.domainOff .switch then d
    else
    match d.handover sd.val ptr.toNat owner.val newOwner.val pool with
    | (ok, d1) => d1.emit (.answer d.tick askHandover (if ok then 0 else 1) ptr.toNat)

/-- FREELIST_REBUILD_DONE: the walk has passed every slot (R190). -/
def execFreelistRebuildDone (sd : Sdie) (s : State) : Host.Outcome State Fault Refusal :=
  run s fun d =>
    let k := (d.kennel sd.val).walk d.tick
    match k.rebuild with
    | some r => if r.passed = slotCount then d.setKennel sd.val { k with rebuild := none } else d
    | none => d

/-- The LINK of a FREE slot is corrupt: its word does not come back, or it is the head of the list and an armed injection
corrupts it (R177, R196). (DEDUCED, log entry 59). -/
def Dev.badLink (d : Dev) (s i : Nat) : Bool × Bool × Dev :=
  let k := d.kennel s
  let (hit, d1) := if (k.free.head?.map (·.1)) = some i then d.takeKinject s 4 else (false, d)
  let (ok, d2) := d1.readSlot s i iniNone
  (hit || !ok, hit, d2)

/-- One visit of the stray audit (R192): a FREE slot's LINK is checked, and a HELD slot's age. STRAY_FOUND has no initiator
(R531). -/
def Dev.auditVisit (d : Dev) (s : Nat) : Dev :=
  let k := d.kennel s
  let i := k.auditNext
  let next := if i + 1 = slotCount then 0 else i + 1
  let d1 := d.setKennel s { k with auditNext := next }
  let d2 := if next = 0 then d1.count (E.AUDIT_PASSES s) else d1
  match tget k.slots i with
  | none =>
    let (bad, hit, d3) := d2.badLink s i
    if bad then d3.startRebuild s iniNone (slotPtr s i) hit else d3
  | some x =>
    let (ok, d3) := d2.readSlot s i iniNone
    if ok && !x.stray && d.reg E.STRAY_AGE_TICKS < (d.tick + 2 ^ 32 - x.allocTick) % 2 ^ 32 then
      let k3 := d3.kennel s
      let d4 := d3.setKennel s { k3 with slots := tset k3.slots i { x with stray := true } }
      (d4.countErr (E.STRAYS_FOUND s)).kennelReport s 7 iniNone (slotPtr s i) false
    else d3

/-- AUDIT_VISIT (R192), while the switch domain has power; the kennel keeps its clock in IDLE (R32). -/
def execAuditVisit (sd : Sdie) (s : State) : Host.Outcome State Fault Refusal :=
  run s fun d => if d.flag E.AUDIT_ENABLE && !d.domainOff .switch then d.auditVisit sd.val else d

/-- Return every STRAY slot of an S-die to FREE, in index order (R194). -/
def Dev.reclaim (d : Dev) (s : Nat) : Dev :=
  let st := (d.kennel s).slots.filter (fun e => e.2.stray)
  st.foldl (fun a e =>
    let k := (a.kennel s).unqueue e.1
    a.setKennel s (({ k with slots := terase k.slots e.1 }).appendFree e.1)) d

end Sys2Proof.Machine
end

