-- ==== Sys2Proof/Machine/Sleep.lean ====
section
/-! DEFINITION. Wake sources and the start of a wake (R613 to R617). -/

namespace Sys2Proof.Machine

/-- The code of a sleep state in LAST_WAKE and SLEEP_STATE (R624). -/
def sleepCode (x : SleepState) : Nat :=
  match x with
  | .active => 0
  | .idle => 1
  | .doze => 2
  | .keepalive => 3
  | .entering => 4
  | .waking => 5

/-- Wake source codes (R614). -/
def wkCELL : Nat := 1
/-- R614. -/
def wkSTART : Nat := 2
/-- R614. -/
def wkHOST : Nat := 3
/-- R614. -/
def wkCOMMAND : Nat := 4
/-- R614. -/
def wkWHISTLE : Nat := 5
/-- R614. -/
def wkWAKECELL : Nat := 6
/-- R614. -/
def wkPIN : Nat := 7
/-- R614. -/
def wkIDENT : Nat := 8

/-- Whether a code is a wake source of a state (R613). -/
def wakes (x : SleepState) (code : Nat) : Bool :=
  match x with
  | .idle => [1, 2, 3, 4, 5, 7].contains code
  | .doze => [2, 3, 4, 5, 7].contains code
  | .keepalive | .entering => [4, 6, 7, 8].contains code
  | .active | .waking => false

/-- The least ticks a wake takes: 3,501 from DOZE by the staging of R617, as many after the S-dies from KEEPALIVE, and one from
IDLE; R613 only bounds what comes before the C-dies. (DESIGN CHOICE, log entry 154). -/
def wakeLeast (x : SleepState) : Nat := if x = .doze then 3501 else if x = .keepalive then 3502 else 1

/-- In a wake from KEEPALIVE the host domain and the S-dies are up, a tick after its start at the earliest, and the C-dies wake
as from DOZE (R617). (DESIGN CHOICE, log entry 154). -/
def Dev.switchBack (d : Dev) : Dev :=
  let w := d.power
  match w.wakeDue with
  | none => d
  | some t =>
    if w.sleep = .waking && w.wakeFrom = .keepalive && t ≤ d.tick + wakeLeast .doze then
      { d with power := { w with wakeFrom := .doze, wakeDue := some (d.tick + wakeLeast .doze), switchOn := false } }
    else d

/-- Withheld credits go back (R33, R616). -/
def PortSt.giveBack (x : PortSt) : PortSt :=
  let w := x.withheld
  { x with withheld := [],
           rx := { x.rx with grant := (List.range 13).foldl (fun g i => if w.getD i 0 = 0 then g else bumpAt g i (w.getD i 0)) x.rx.grant } }

/-- All withheld credits go back. -/
def Dev.giveBackAll (d : Dev) : Dev := { d with ports := d.ports.map (fun e => (e.1, e.2.giveBack)) }

/-- A LAST_WAKE record (R614). -/
def wakeRecord (tick code left : Nat) : List Byte :=
  beBytes 8 tick ++ beBytes 1 code ++ beBytes 1 left ++ List.replicate 6 0

/-- Entry to KEEPALIVE is abandoned: credits return and the state is ACTIVE again, or the C-dies wake where the entry
began in DOZE (R616). (DEDUCED, log entry 47). -/
def Dev.abandonEntry (d : Dev) : Dev :=
  let w := d.power
  let back := { w with entryStart := none, sleepTs := none, lastWork := d.tick }
  let w1 := if w.wakeFrom = .doze then { back with sleep := .waking, wakeDue := some (d.tick + wakeLeast .doze) }
    else { back with sleep := .active }
  ({ d with power := w1 }.giveBackAll).powerEvent 0x0B 0 0

/-- A wake source is sampled (R614): it starts a wake, or abandons an entry to KEEPALIVE (R616). -/
def Dev.wake (d : Dev) (code : Nat) : Dev :=
  if !wakes d.power.sleep code then d
  else if d.power.sleep = .entering then
    let d1 := { d with power := { d.power with lastWake := wakeRecord d.tick code (sleepCode d.power.sleep) } }
    d1.abandonEntry
  else
    { d with power := { d.power with sleep := .waking, wakeFrom := d.power.sleep,
                                     wakeDue := some (d.tick + wakeLeast d.power.sleep),
                                     lastWake := wakeRecord d.tick code (sleepCode d.power.sleep) } }

/-- A START or HEEL from a port is a wake source, and its port's CUP credit is withheld (R33, R614).
(DEDUCED, log entry 68). -/
def Dev.wakeStart (d : Dev) (p : Nat) : Dev :=
  let was := d.power.sleep
  let d1 := d.wake wkSTART
  if was = .idle || was = .doze || was = .waking && d1.power.wakeFrom = .doze then
    { d1 with power := { d1.power with wakePorts := if d1.power.wakePorts.contains p then d1.power.wakePorts else d1.power.wakePorts ++ [p] } }
  else d1

/-- The fast domains have work (R613). -/
def Dev.worked (d : Dev) : Dev := { d with power := { d.power with lastWork := d.tick } }

end Sys2Proof.Machine
end

