-- ==== Sys2Proof/Machine/Ports.lean ====
section
/-! DEFINITION. The port states' entries and exits, with what each does to the lanes (R103, R154). -/

namespace Sys2Proof.Machine

/-! ## Modules (R105, R651) -/

/-- The module site that MODULE_SITE names for a port (R651). -/
def Dev.siteNamed (d : Dev) (p : Nat) : Option Nat := (List.range 32).find? (fun m => d.reg (E.MODULE_SITE m) = p)

/-- The module site in effect for a port (R651). -/
def Dev.siteOf (d : Dev) (p : Nat) : Option Nat :=
  match tget d.siteEff p with
  | some v => if v = 0 then none else some (v - 1)
  | none => if 224 ≤ p && p ≤ 255 then some (p - 224) else none

/-- A port's entry into DETECT puts a written MODULE_SITE into effect for it (R651). -/
def Dev.takeSite (d : Dev) (p : Nat) : Dev :=
  { d with siteEff := tset d.siteEff p (match d.siteNamed p with
    | some m => m + 1
    | none => 0) }

/-- What the module of a MODULE-class port offers: its site's advertisement, and everything when no site names
the port (R651). -/
def Dev.advert (d : Dev) (p : Nat) : ModuleAdvert :=
  match d.siteOf p with
  | some m => (tgetD d.modules m {}).advert
  | none => ⟨true, true, true, 0⟩

/-- Whether the module of a port is present (R105). -/
def Dev.modulePresent (d : Dev) (p : Nat) : Bool :=
  match d.siteOf p with
  | some m => (tgetD d.modules m {}).present
  | none => true

/-- Whether the data paths of a MODULE-class port have initialised (R150). -/
def Dev.moduleReady (d : Dev) (p : Nat) : Bool :=
  if d.isModule p then
    match d.siteOf p with
    | some m => (tgetD d.modules m {}).dpReady
    | none => true
  else true

/-- The rate code lane 0 runs at in DETECT, IDENT, QUARANTINE and KEEPALIVE (R105, R147). An absent module advertises nothing, so
it counts as one without the 25 Gbit/s application. (DESIGN CHOICE, log entry 189). -/
def Dev.lowRate (d : Dev) (p : Nat) : Nat := if d.isModule p && !(d.advert p).keepalive25 then 1 else 0

/-- Operations on the CMIS memory map of a port's module, where one is present on the site driven for a MODULE-class port
(R104, R651): on bus m div 8, with the site's MODSEL_N low (R650). -/
def Dev.cmis (d : Dev) (p : Nat) (ops : List CmisOp) : Dev :=
  match d.siteOf p with
  | none => d
  | some m =>
    if d.isModule p && (tgetD d.modules m {}).present then 
      (ops.foldl (fun (a : Dev) o => a.emit (.cmis a.tick (m / 8) m o)) (d.emit (.modsel d.tick m false))).emit (.modsel d.tick m true)
    else d

/-- The level of MODLP and the state of the data paths of a port's module. -/
def Dev.setModule (d : Dev) (p : Nat) (f : ModuleSt → ModuleSt) : Dev :=
  match d.siteOf p with
  | none => d
  | some m => if d.isModule p && (tgetD d.modules m {}).present then { d with modules := tset d.modules m (f (tgetD d.modules m {})) } else d

/-- A site that no MODULE-class port drives any longer leaves its module deselected and in low-power mode, by the board's pulls
(R650, R651). -/
def Dev.freeSite (d : Dev) (site : Option Nat) : Dev :=
  match site with
  | none => d
  | some m =>
    if allPorts.any (fun q => d.siteOf q = some m && d.isModule q) then d
    else { d with modules := tset d.modules m { tgetD d.modules m {} with lowPower := true, dpReady := false } }

/-- A MODULE-class port whose site has no module presents LOS on all four lanes (R105, R650). -/
def Dev.siteLos (d : Dev) (p : Nat) : Dev :=
  if d.isModule p && !d.modulePresent p then
    lanes4.foldl (fun (a : Dev) l =>
      if (a.lane p l).los then a else (a.updLane p l (fun y => { y with los := true })).countErr (E.LOS_EVENTS p l.val)) d
  else d

/-- The host lane of a lane as a mask. -/
def laneMask (l : Lane) : Nat := 2 ^ l.val

/-- A module out of low-power mode with only the data path of host lane 0, at the port's low rate; in low-power mode with none
where the port is OFF (R102, R104, R105). (DEDUCED, log entry 176). -/
def Dev.moduleLow (d : Dev) (p : Nat) : Dev :=
  if (d.port p).state = .off then (d.cmis p [.dpDeinit 15, .lowPower true]).setModule p (fun m => { m with lowPower := true, dpReady := false })
  else (d.cmis p [.lowPower false, .dpDeinit 15, .stage (d.lowRate p) 1, .dpInit 1]).setModule p (fun m => { m with lowPower := false, dpReady := false })

/-- A module with four data paths of one host lane each at a rate, which are then to initialise (R102, R104, R150).
(DEDUCED, log entry 176). -/
def Dev.moduleLanes (d : Dev) (p rate : Nat) : Dev :=
  (d.cmis p [.dpDeinit 15, .stage rate 15, .dpInit 15]).setModule p (fun m => { m with dpReady := false })

/-- The data path of one lane is set to another rate (R94, R104). (DEDUCED, log entry 176). -/
def Dev.moduleRate (d : Dev) (p : Nat) (l : Lane) (rate : Nat) : Dev :=
  d.cmis p [.dpDeinit (laneMask l), .stage rate (laneMask l), .dpInit (laneMask l)]

/-! ## Peers -/

/-- A field of the last IDENT received (R127). -/
def Dev.peer (d : Dev) (p a n : Nat) : Nat := beNat (slice (d.blob (E.PEER_IDENT p)) a n)

/-- The partner's SERIAL. -/
def Dev.peerSerial (d : Dev) (p : Nat) : Nat := d.peer p 0 16
/-- The partner's NODE_KIND. -/
def Dev.peerKind (d : Dev) (p : Nat) : Nat := d.peer p 16 1
/-- The partner's LEVELS. -/
def Dev.peerLevels (d : Dev) (p : Nat) : Nat := d.peer p 17 1
/-- The partner's MAX_RATE. -/
def Dev.peerMaxRate (d : Dev) (p : Nat) : Nat := d.peer p 23 1
/-- The partner's CAPS. -/
def Dev.peerCaps (d : Dev) (p : Nat) : Nat := d.peer p 24 1

/-- This part's LEVELS: FL3 and FL2 (R127). -/
def ownLevels : Nat := 0x0C

/-- The fabric level of a link: the highest both ends have; an SX7 runs FL2 (R144, R146). -/
def Dev.linkLevel (d : Dev) (p : Nat) : Nat :=
  let l := d.peerLevels p
  if d.peerKind p = 3 then (if bits l 2 1 = 1 then 2 else 0)
  else if bits l 3 1 = 1 then 3 else if bits l 2 1 = 1 then 2 else 0

/-- The link rate: the highest code both ends, the level and the module allow (R101, R105, R112, R127). -/
def Dev.linkRate (d : Dev) (p : Nat) : Nat :=
  if d.reg (E.FABRIC_LEVEL p) = 2 then 1
  else if d.isModule p && !(d.advert p).lane200 then 1
  else if d.peerMaxRate p = 1 then 1
  else min 2 (d.reg (E.MAX_RATE p))

/-! ## Coefficients (R83) -/

/-- The class default peaking code (R83). (DEDUCED, log entry 39). -/
def classPeak (cls : Nat) : Nat := if cls = 0 then 16 else if cls = 1 then 8 else 6

/-- The set a lane loads for a rate code: the stored one or the class default. -/
def LaneSt.load (x : LaneSt) (rate cls : Nat) : LaneSt :=
  let s := if rate = 2 then x.set200 else if rate = 1 then x.set100 else none
  match s with
  | some c => { x with peak := c.peak, taps := c.taps }
  | none => { x with peak := classPeak cls, taps := .mainCursor }

/-- Keep the present coefficients as the set of the rate in use. -/
def LaneSt.store (x : LaneSt) : LaneSt :=
  if x.rate = 2 then { x with set200 := some ⟨x.peak, x.taps⟩ }
  else if x.rate = 1 then { x with set100 := some ⟨x.peak, x.taps⟩ }
  else x

/-- Keep the coefficients of a lane that carries or has carried traffic, at the entry to a sleep state (R83). -/
def LaneSt.sleepStore (x : LaneSt) : LaneSt :=
  match x.state with
  | .active | .parked | .failed => x.store
  | _ => x

/-- Clear the measures, requests and trials that a lane's rate or state change ends. -/
def LaneSt.fresh (x : LaneSt) : LaneSt :=
  { x with lowSince := none, highSince := none, goodSince := none, trialEnd := none, watch := none, uncorrLog := [],
           windows := 0, retryAt := none, askOff := false, dropNow := false, parkSeen := false, trailing := false }

/-- Lane 0 runs at the port's low rate: a retune loads the set for it, and one that runs there already goes on (R83,
R105, R147). -/
def LaneSt.runLow (x : LaneSt) (low cls : Nat) : LaneSt :=
  if x.state = .keepalive && x.rate = low then x.fresh
  else { (x.fresh.load low cls) with state := .keepalive, rate := low }

/-- Lane 0 takes the port's low rate while it runs low and its module has changed (R105). -/
def Dev.relow (d : Dev) (p : Nat) : Dev :=
  let low := d.lowRate p
  let cls := d.elecClass p
  d.updPort p (fun x =>
    if x.lane0.state = .keepalive && x.lane0.rate != low then { x with lane0 := x.lane0.runLow low cls } else x)

/-- A lane enters FAILED (R103). -/
def LaneSt.fail (x : LaneSt) : LaneSt := { x.fresh with state := .failed }

/-- A lane starts training at a rate (R103). -/
def LaneSt.startTrain (x : LaneSt) (rate cls : Nat) : LaneSt :=
  match x.state with
  | .off | .active | .parked | .failed | .keepalive =>
    { (x.fresh.load rate cls) with state := .train, rate := rate, rxReady := false, peerReady := false, endSeen := false,
                                   trainSerial := none, tapStatus := 0, txTaps := [] }
  | _ => x

/-- A lane joins striping (R103). -/
def LaneSt.join (x : LaneSt) (rate : Nat) : LaneSt := { x.fresh with state := .active, rate := rate }

/-- Lane `l` after its port enters DETECT from a state other than OFF (R103). -/
def LaneSt.toDetect (x : LaneSt) (l : Lane) (low cls : Nat) : LaneSt :=
  match x.state with
  | .off | .test => x
  | _ => if l = 0 then x.runLow low cls else { x.fresh with state := .off, rate := 0 }

/-- Lane `l` after its port enters KEEPALIVE: coefficient sets are stored, and the partner's last cells may still come
on the lanes that park (R103, R138). -/
def LaneSt.toKeepalive (x : LaneSt) (l : Lane) (low cls : Nat) : LaneSt :=
  match x.state with
  | .active | .parked | .failed =>
    if l = 0 then x.store.runLow low cls
    else { x.store.fresh with state := .off, rate := 0, trailing := x.state = .active && !x.parkSeen }
  | _ => x

/-- A lane after its port enters OFF: any pattern or loop stops (R103). -/
def LaneSt.toOff (x : LaneSt) : LaneSt := { x.fresh with state := .off, rate := 0, miswireRun := 0, inject := none, flips := 0 }

/-- Change every lane. -/
def PortSt.mapLanes (x : PortSt) (f : Lane → LaneSt → LaneSt) : PortSt :=
  { x with lane0 := f 0 x.lane0, lane1 := f 1 x.lane1, lane2 := f 2 x.lane2, lane3 := f 3 x.lane3 }

/-- The miswire watch starts again, and the run of TRAIN cells with it (R90, R148). -/
def PortSt.endMiswire (x : PortSt) : PortSt := x.mapLanes (fun _ y => { y with miswireRun := 0 })

/-- The lane that carries the check cells: lane 0 short of UP and in KEEPALIVE, else the lowest in striping (R154). -/
def PortSt.checkLane (x : PortSt) : Lane :=
  if x.state = .up || x.state = .recover then (x.striping.head?).getD 0 else 0

/-- A port after a change of its lanes: the count of ticks without a good cell restarts when another lane has become the
lowest in striping (R154). -/
def PortSt.recheck (x old : PortSt) (now : Nat) : PortSt :=
  if x.checkLane = old.checkLane then x else { x with lastGood := now }

/-- The smallest margin among a port's lanes in striping, 0 when none is (R87). -/
def PortSt.portMargin (x : PortSt) : Nat :=
  match x.striping.map (fun l => (x.lane l).margin) with
  | [] => 0
  | m :: r => r.foldl min m

/-- The two values of R87 reach the spraying logic. -/
def PortSt.passOn (x : PortSt) : PortSt := { x with passedCap := x.capacity, passedMargin := x.portMargin }

/-! ## Transmitters (R72, R109, R110) -/

/-- Codewords per tick at a lane's rate, in units of 1/32: frames of LANES and test patterns carry no FEC (R74, R110, R151). -/
def LaneSt.codewords (x : LaneSt) : Nat :=
  match x.state with
  | .off | .train | .test => 0
  | _ => if x.rate = 2 then 50 else if x.rate = 1 then 25 else 0

/-- An injection of a kind is under way on a lane (R110). -/
def LaneSt.injecting (x : LaneSt) (kind : Nat) : Bool :=
  match x.inject with
  | some j => j.kind = kind && j.done < j.count
  | none => false

/-- Symbols that an injection corrupts in each codeword sent now (R110). -/
def LaneSt.txBad (x : LaneSt) : Nat :=
  match x.inject with
  | some j => if (j.kind = 4 || j.kind = 5) && j.done < j.count && 0 < x.codewords then j.symbols else 0
  | none => 0

/-- A lane's transmit pins are idle: in OFF, behind the fence, in a near loop, and while squelched (R72, R109, R110, R523). -/
def Dev.txIdle (d : Dev) (p : Nat) (l : Lane) : Bool :=
  let x := d.lane p l
  d.power.off || d.fenced || d.power.resetLow || x.state = .off || x.injecting 6 ||
    (x.state = .test && (d.reg (E.LOOP p l.val) = 1 || d.reg (E.LOOP p l.val) = 2))

/-! ## Leaving states -/

/-- Discard the replay buffer, with its RPY slots (R154, R183). -/
def Dev.discardReplay (d : Dev) (p : Nat) : Dev :=
  let x := d.port p
  let s := sdieOf p
  let d1 := x.kept.foldl (fun a k =>
    match k.slot with
    | some i => a.release s (slotPtr s i) (256 + p % 128)
    | none => a) d
  d1.updPort p (fun y => { y with kept := [] })

/-- Abandon a hand-over, a sleep, a wake and reordering in progress (R154). -/
def PortSt.abandon (x : PortSt) : PortSt :=
  { x with handover := none, sleepTs := none, sleepSent := false, wakeReqSent := false, wakeReqRcvd := none,
           wakeAckRcvd := false, wakeReadySent := false, wakeReadyRcvd := false, wakeBoth := none,
           bothAccept := none, acceptSent := false, firstIdent := none, identSent := none, verdict := 0, peerVerdict := 0, trainRun := 0,
           lanesEndSent := false }

/-- The discovery outcome is PENDING again (R636). -/
def Dev.pendDiscovery (d : Dev) (p : Nat) : Dev := { d with discovery := tset d.discovery p { tick := d.tick } }

/-- Credits a receiver has taken and not given back, on one counter: cells of this port that still hold buffer space. -/
def PortSt.outstanding (x : PortSt) (i : Nat) : Nat :=
  x.rx.used.getD i 0 + x.debt.getD i 0 - (x.rx.grant.getD i 0 - x.granted.getD i 0) - x.withheld.getD i 0

/-- The credits of a link close: nothing more may arrive against them, and the cells that still hold buffer space give back
nothing when they leave (R139). -/
def PortSt.closeCredits (x : PortSt) : PortSt :=
  { x with debt := (List.range 13).map x.outstanding, withheld := [], granted := [], rx := {}, tx := {} }

/-- A link starts from nothing: both ends count LSEQs from zero, and nothing is held, kept or waiting (R154).
(DESIGN CHOICE, log entry 193). -/
def PortSt.startLink (x : PortSt) : PortSt :=
  ({ x with fresh := true, txLseq := 0, rxNext := 0, held := [], txq := [], shown := [], gapOpen := false, resends := 0, nakCount := 0,
            peerNak := 0 } : PortSt).closeCredits

/-- Record a lane's transmit pins where they have fallen idle, or carry a signal again, since `before` (R72, R109). -/
def Dev.notePins (d before : Dev) (p : Nat) (l : Lane) : Dev :=
  if d.txIdle p l = before.txIdle p l then d else d.emit (.idle d.tick (portFin p) l (d.txIdle p l))

/-- The same for all four lanes of a port. -/
def Dev.notePort (d before : Dev) (p : Nat) : Dev := lanes4.foldl (fun a l => a.notePins before p l) d

/-- A port enters DETECT (R154): queues flushed (R169), the replay buffer discarded, lanes as R103 says. The class in force
is held until the port is OFF again (R70), and the miswire watch starts anew (R90). -/
def Dev.toDetect (d : Dev) (p : Nat) : Dev :=
  let was := (d.port p).state
  let d1 := ((d.flushPort p).discardReplay p).takeSite p
  let held := if was = .off then some (d1.planClass p) else (d1.port p).heldClass
  let d2 := d1.updPort p (fun x => { x with heldClass := held })
  let low := d2.lowRate p
  let cls := d2.elecClass p
  let d3 := d2.updPort p (fun (x : PortSt) =>
    let x1 : PortSt := { x.abandon.startLink.endMiswire with state := .detect, since := d.tick }
    if was = .off then
      (if x1.lane0.state = .off then { x1 with lane0 := x1.lane0.runLow low cls } else x1)
    else x1.mapLanes (fun l y => y.toDetect l low cls))
  (((((d3.setReg (E.FABRIC_LEVEL p) 0).pendDiscovery p).notePort d p).freeSite (d.siteOf p)).siteLos p).moduleLow p

/-- A port enters OFF (R103, R154): what runs in TEST stops, and its checkers with it. (DEDUCED, log entry 130). -/
def Dev.toOff (d : Dev) (p : Nat) : Dev :=
  let d1 := (d.flushPort p).discardReplay p
  let d2 := d1.updPort p (fun x =>
    ({ x.abandon.startLink with state := .off, since := d.tick, heldClass := none, peakBase := none }).mapLanes
      (fun _ y => y.toOff))
  let d3 := lanes4.foldl (fun a l =>
    (((a.setReg (E.TEST_MODE p l.val) 0).setReg (E.LOOP p l.val) 0).setReg (E.CHECK_LOCK p l.val) 0)) d2
  (((d3.setReg (E.FABRIC_LEVEL p) 0).setReg (E.LANE0_MISWIRED p) 0).notePort d p).moduleLow p

/-- A port enters IDENT (R148, R154). Queues go when it comes from a state that keeps them (R169). The replay buffer and
the LSEQs stay: only a move to DETECT discards them. FABRIC_LEVEL stands until DETECT or OFF.
(DESIGN CHOICE, log entry 171). -/
def Dev.toIdent (d : Dev) (p : Nat) : Dev :=
  let low := d.lowRate p
  let cls := d.elecClass p
  let d1 := d.flushPort p
  let d2 := d1.updPort p (fun x =>
    ({ x.abandon.closeCredits.endMiswire with state := .ident, fresh := true, since := d.tick, lastIdent := d.tick, lastGood := d.tick }).mapLanes
      (fun l y => y.toDetect l low cls))
  (d2.pendDiscovery p).notePort d p

/-- A port enters LANES, or runs LANES again in RECOVER (R103, R150, R154): the level of the link is set.
(DESIGN CHOICE, log entry 171). -/
def Dev.toLanes (d : Dev) (p : Nat) (recover : Bool) : Dev :=
  let lv := d.linkLevel p
  let d0 := d.setReg (E.FABRIC_LEVEL p) lv
  let rate := d0.linkRate p
  let cls := d0.elecClass p
  let d1 := if (d.port p).state = .ident then d0 else d0.moduleLanes p rate
  (d1.updPort p (fun x =>
    (({ x with state := if recover then .recover else .lanes, since := d.tick, progress := d.tick, handover := none,
               bothAccept := none, lanesEndSent := false, resends := 0 } : PortSt).mapLanes (fun _ y => y.startTrain rate cls)).recheck x d.tick)).notePort d p

/-- A port enters QUARANTINE (R150, R155): lane 0 keeps its low rate, lanes 1 to 3 are OFF or in TEST, and no credit is
open. What waits for the window and may not go out there is dropped. (DESIGN CHOICE, log entry 195). -/
def Dev.toQuarantine (d : Dev) (p : Nat) : Dev :=
  let low := d.lowRate p
  let cls := d.elecClass p
  (((d.flushPort p).updPort p (fun x =>
    ({ x.closeCredits with state := .quarantine, since := d.tick, bothAccept := none,
                           txq := x.txq.filter Cell.quarantined }).mapLanes (fun l y => y.toDetect l low cls))).notePort d p).linkEvent p

/-- The grants of a port: each VC's entry, then GRANT_SHARED (R142). -/
def Dev.grantList (d : Dev) : List Nat :=
  let g := grantKeys.map d.reg
  g.flatMap (fun v => [v, v]) ++ [d.reg E.GRANT_SHARED]

/-- A port's next entry into UP: its grants are those of the entries, counted from zero, and the cells that still hold
buffer space under earlier grants raise no counter when they leave (R139, R142). (DEDUCED, log entry 42). -/
def Dev.regrant (d : Dev) (p : Nat) : Dev :=
  let g := d.grantList
  d.updPort p (fun x => { x.closeCredits with granted := g, rx := ⟨g, []⟩ })

/-- A port has entered UP again after a change of the grants: DED's old sizing ends with the last such port (R182). -/
def Dev.upAgain (d : Dev) (p : Nat) : Dev :=
  let w := d.dedWait.filter (· != p)
  { d with dedWait := w, dedOld := if w = [] then [] else d.dedOld }

/-- LANES has ended and cells start (R153): grants are set and the gaps count from the entry into UP (R126, R139). LSEQs and
the replay buffer go on where the port ran LANES from RECOVER or KEEPALIVE (R154). (DEDUCED, log entry 42). -/
def Dev.openLink (d : Dev) (p : Nat) : Dev :=
  (d.regrant p).updPort p (fun x => { x with fresh := false, shown := [], nakCount := 0, peerNak := 0, gapOpen := false, lanesEndSent := true })

/-- A port enters UP (R153, R154): link state change and UP_TICK. The two values of R87 reach the spraying logic with it,
since a port in UP has a weight (R211). (DEDUCED, log entry 163). -/
def Dev.toUp (d : Dev) (p : Nat) : Dev :=
  let d2 := d.updPort p (fun (x : PortSt) =>
    ({ x with state := .up, since := d.tick, lastGood := d.tick, resends := 0 } : PortSt).passOn)
  (((d2.upAgain p).setReg (E.UP_TICK p) d.tick).linkEvent p)

/-- A port enters KEEPALIVE (R103, R154, R157). -/
def Dev.toKeepalive (d : Dev) (p : Nat) : Dev :=
  let low := d.lowRate p
  let cls := d.elecClass p
  ((d.updPort p (fun x =>
    ({ x with state := .keepalive, since := d.tick, sleepTs := none, sleepSent := false, handover := none, lastGood := d.tick,
              wakeReqSent := false, wakeReqRcvd := none, wakeAckRcvd := false, wakeReadySent := false,
              wakeReadyRcvd := false, wakeBoth := none, keepSent := d.tick }).mapLanes (fun l y => y.toKeepalive l low cls))).notePort d p).moduleLow p

/-- The states in which loss of the port applies (R154). -/
def PortState.lossApplies (x : PortState) : Bool :=
  match x with
  | .ident | .lanes | .up | .recover | .keepalive | .quarantine => true
  | .off | .detect | .absent => false

/-- Loss of the port (R154): to DETECT, counted, with a link state change. -/
def Dev.portLoss (d : Dev) (p : Nat) : Dev :=
  if (d.port p).state.lossApplies then ((d.toDetect p).countErr (E.PORT_LOSSES p)).linkEvent p else d

/-! ## Sending one cell (R72, R109, R110, R117) -/

/-- Send one cell on a lane: the CRC-32C is computed afresh for this hop (R117). Nothing leaves while the fence holds (R523)
or the lane's transmitter is idle. -/
def Dev.sendCell (d : Dev) (p : Nat) (l : Lane) (c : Cell) : Dev :=
  if d.txIdle p l then d
  else d.emitLive (.cell d.tick (portFin p) l c (cellCrc c) (d.lane p l).txBad)

/-! ## LINK cells and gaps (R126, R134, R135) -/

/-- The payload of a LINK cell of a port (R126). -/
def Dev.linkPayload (d : Dev) (p : Nat) : List Byte :=
  let x := d.port p
  beBytes 2 (x.rxNext * 4) ++ beBytes 2 x.nakCount ++ (List.range 13).flatMap (fun i => beBytes 2 (x.rx.grant.getD i 0)) ++ beBytes 8 d.tick

/-- Send a LINK cell (R135), on the lane that carries the check cells. (DESIGN CHOICE, log entry 192). -/
def Dev.sendLink (d : Dev) (p : Nat) : Dev :=
  (d.updPort p (fun x => { x with sinceLink := 0, firstUnacked := none, lastLink := d.tick })).sendCell p (d.port p).checkLane
    (mkLinkCell tLink 0 (d.linkPayload p))

/-- A lane has shown an LSEQ later than the expected one (R134). -/
def PortSt.showsLater (x : PortSt) (l : Lane) : Bool :=
  match x.shown.find? (fun e => e.1 = l.val) with
  | some e =>
    let v := (e.2 + 16384 - x.rxNext) % 16384
    0 < v && v < 8192
  | none => false

/-- The lanes that count for a gap: those that carry the port's cells, but for one whose PARK has come (R134, R138). -/
def PortSt.counted (x : PortSt) : List Lane :=
  if x.state = .keepalive || x.state = .quarantine then [0] else x.striping.filter (fun l => !(x.lane l).parkSeen)

/-- Declare a gap when every lane in striping shows a later LSEQ, once until the expected cell comes (R134). -/
def Dev.gapCheck (d : Dev) (p : Nat) : Dev :=
  let x := d.port p
  let ls := x.counted
  if !x.gapOpen && ls != [] && ls.all x.showsLater then
    ((d.setPort p { x with gapOpen := true, nakCount := (x.nakCount + 1) % 65536 }).count (E.GAPS p)).sendLink p
  else d

/-- Note the LSEQ a lane has shown. -/
def PortSt.show (x : PortSt) (l : Lane) (v : Nat) : PortSt :=
  { x with shown := (x.shown.filter (fun e => e.1 != l.val)) ++ [(l.val, v)] }

/-! ## Sampling (R571 to R573) -/

/-- A sample record (R572). -/
def sampleBytes (tick p : Nat) (tx replay : Bool) (l : Lane) (c : Cell) : List Byte :=
  beBytes 4 tick ++ beBytes 1 p ++ beBytes 1 ((if tx then 1 else 0) + (if replay then 2 else 0)) ++ beBytes 1 l.val ++ [0] ++
    beBytes 12 c.hdr.toNat ++ slice c.payload 0 4

/-- Whether a port is in SAMPLE_PORTS (R571). -/
def Dev.samplePort (d : Dev) (p : Nat) : Bool := maskHas (leNat (d.blob E.SAMPLE_PORTS)) p

/-- Count one sequenced cell for sampling, and queue a sample when the count says so (R571, R573). -/
def Dev.sampleCell (d : Dev) (p : Nat) (tx replay : Bool) (l : Lane) (c : Cell) : Dev :=
  let sh := d.reg E.SAMPLE_SHIFT
  if sh = 0 || !d.samplePort p || bits (d.reg E.SAMPLE_DIR) (if tx then 1 else 0) 1 = 0 ||
      bits (d.reg E.SAMPLE_CLASSES) c.cls 1 = 0 then d
  else
    let x := d.port p
    let n := (if tx then x.sampTx else x.sampRx) + 1
    let d1 := d.setPort p (if tx then { x with sampTx := n } else { x with sampRx := n })
    if n % 2 ^ sh != 0 then d1
    else
      let q := tgetD d1.tele.tileQueues (p / 32) []
      if 4 ≤ q.length then d1.countErr E.SAMPLES_DROPPED
      else { d1 with tele := { d1.tele with tileQueues := tset d1.tele.tileQueues (p / 32) (q ++ [sampleBytes d.tick p tx replay l c]) } }

/-! ## Sending sequenced cells (R132, R136) -/

/-- The replay window of a port's class (R136). -/
def Dev.window (d : Dev) (p : Nat) : Nat := if d.isModule p then 8192 else 1024

/-- The lane a cell goes out on: any in striping (R132), so a free choice among them.
(DESIGN CHOICE, log entry 132). -/
def Dev.pickLane (d : Dev) (p : Nat) : Lane :=
  let ls := (d.port p).striping
  ls.getD (Config.freeChoice d.draws % max 1 ls.length) 0

/-- Whether a cell fits the window (R136). -/
def Dev.canSend (d : Dev) (p : Nat) : Bool :=
  let x := d.port p
  x.kept.length < d.window p && x.txq = []

/-- Send a sequenced cell with the next LSEQ and keep it until an ACK passes it (R132, R136). `slot` is the RPY
slot that keeps it beyond the first 1024 (R183). -/
def Dev.sendNow (d : Dev) (p : Nat) (c : Cell) (slot : Option Nat) : Dev :=
  let x := d.port p
  let c1 := c.setFld 62 14 x.txLseq
  let l := d.pickLane p
  let d1 := d.setPort p { x with txLseq := (x.txLseq + 1) % 16384,
                                 kept := x.kept ++ [{ lseq := x.txLseq, cell := c1, sentAt := d.tick, slot := slot }] }
  (d1.drew.sampleCell p true false l c1).sendCell p l c1

/-- Send a sequenced cell that no crossbar slot holds. Beyond the first 1024 of a MODULE port it takes an RPY slot
of its own; it waits while the window is full (R136, R183). -/
def Dev.sendSeq (d : Dev) (p : Nat) (c : Cell) : Dev :=
  if d.canSend p then
    if 1024 ≤ (d.port p).kept.length then
      match d.allocate (sdieOf p) .rpy (256 + p % 128) c.sl with
      | (some i, d1) => d1.sendNow p c (some i)
      | (none, d1) => d1.updPort p (fun x => { x with txq := x.txq ++ [c] })
    else d.sendNow p c none
  else d.updPort p (fun x => { x with txq := x.txq ++ [c] })

/-- Send what waits for the window, in order, as far as it fits. -/
def Dev.drainTxq (d : Dev) (p : Nat) : Dev :=
  let q := (d.port p).txq
  let d0 := d.updPort p (fun x => { x with txq := [] })
  q.foldl (fun a c => a.sendSeq p c) d0

/-- The partner's address, for link-local cells (R131): an endpoint's is that of its port here, a switch's has
port 0xFF. -/
def Dev.peerAddr (d : Dev) (p : Nat) : Nat :=
  if d.peerKind p = 1 then d.ownAddr (d.logical p)
  else
    let r := d.peer p 19 1
    fabAddr (r / 16) (r % 16) (d.peer p 18 1 % 16) 0xFF

/-- Send a link-local CTRL cell (R131). -/
def Dev.sendLocal (d : Dev) (p op : Nat) (payload : List Byte) : Dev :=
  d.sendSeq p (mkCtl tCtrl (d.peerAddr p) (d.ownAddr 0xFF) op 0 payload)

end Sys2Proof.Machine
end

