-- ==== Sys2Proof/Machine/Lanes.lean ====
section
/-! DEFINITION. Fabric lanes: detectors, margin windows, peaking, the rate hand-over, optical modules, test
patterns and lane injection (R69 to R114). -/

namespace Sys2Proof.Machine

/-! ## Detectors (R84, R85, R154) -/

/-- Undo a peaking step under watch (R80, R81). -/
def LaneSt.undoPeak (x : LaneSt) : LaneSt :=
  match x.watch with
  | some w => { x with peak := w.saved.peak, taps := w.saved.taps, watch := none }
  | none => x

/-- A lane in striping leaves it without a hand-over and enters FAILED, with a link state change; a hand-over of the lane
ends (R85). The receiver counts it no more, so that a gap may stand declared (R134, R138). -/
def Dev.failLane (d : Dev) (p : Nat) (l : Lane) : Dev :=
  ((d.updPort p (fun x =>
    let x1 := x.setLane l (x.lane l).undoPeak.fail
    ({ x1 with handover := (match x.handover with
        | some h => if h.lane = l then none else some h
        | none => none) } : PortSt).recheck x d.tick)).gapCheck p).linkEvent p

/-- Detection completes when lane 0 is free of LOS and LOL and 8 TRAIN cells have passed (R148). The miswire
flag clears, and its watch ends (R90). -/
def Dev.detectCheck (d : Dev) (p : Nat) : Dev :=
  let x := d.port p
  if (x.state = .detect || x.state = .absent) && !x.lane0.los && !x.lane0.lol && 8 ≤ x.trainRun then
    (d.toIdent p).setReg (E.LANE0_MISWIRED p) 0
  else d

/-- What an asserted LOS or LOL does to lane and port (R85, R154). `alone`: the lane was the only one in striping. -/
def Dev.detector (d : Dev) (p : Nat) (l : Lane) (isLos alone : Bool) : Dev :=
  let d1 := if (d.lane p l).state = .active then d.failLane p l else d
  let x := d1.port p
  let allLos := lanes4.all (fun k => (x.lane k).los)
  if (isLos && l = 0) || alone || allLos then d1.portLoss p else d1

/-- LOS on a lane asserts or deasserts (R84, R85). Without LOS on lane 0 nothing watches the other lanes for it (R90). -/
def Dev.los (d : Dev) (p : Nat) (l : Lane) (on : Bool) : Dev :=
  let x := d.port p
  let alone := x.striping = [l]
  let d1 := d.updLane p l (fun y => { y with los := on })
  if on then
    if (x.lane l).los then d else (d1.countErr (E.LOS_EVENTS p l.val)).detector p l true alone
  else (if l = 0 then d1.updPort p PortSt.endMiswire else d1).detectCheck p

/-- LOL on a lane asserts or deasserts (R84, R85). A hold that asks for lock starts again with it (R91). -/
def Dev.lol (d : Dev) (p : Nat) (l : Lane) (on : Bool) : Dev :=
  let x := d.port p
  let alone := x.striping = [l]
  let d1 := d.updLane p l (fun y => { y with lol := on, highSince := if on then none else y.highSince })
  if on then
    if (x.lane l).lol then d else (d1.countErr (E.LOL_EVENTS p l.val)).detector p l false alone
  else d1.detectCheck p

/-- LOS, but for what a loss of the port does to contexts (R85). A site without a module holds it asserted (R105, R650). -/
def bareLos (p : Port) (l : Lane) (on : Bool) (s : State) : Host.Outcome State Fault Refusal :=
  run s fun d => d.los p.val l (on || d.isModule p.val && !d.modulePresent p.val)

/-- LOL, but for what a loss of the port does to contexts (R85). -/
def bareLol (p : Port) (l : Lane) (on : Bool) (s : State) : Host.Outcome State Fault Refusal :=
  run s fun d => d.lol p.val l on

/-! ## Margin windows (R86, R87, R91, R100) -/

/-- Uncorrectable codewords not injected in the last `span` ticks (R79). (DEDUCED, log entry 33). -/
def LaneSt.uncorrIn (x : LaneSt) (now span : Nat) : Nat :=
  ((x.uncorrLog.filter (fun e => now < e.1 + span)).map (·.2)).sum

/-- The uncorrectable test of DROP and REMOVE (R91). (DEDUCED, log entry 33). -/
def Dev.uncorrTest (d : Dev) (x : LaneSt) : Bool := d.reg E.FEC_UNCORR_LIMIT ≤ x.uncorrIn d.tick 25000

/-- Since when a condition has held in every window: kept while it holds, from this window's end at first.
(DEDUCED, log entry 32). -/
def since (holds : Bool) (old : Option Nat) (now : Nat) : Option Nat := if holds then some (old.getD now) else none

/-- The module of a MODULE-class port offers one-lane applications at both rates (R102). -/
def Dev.moduleBoth (d : Dev) (p : Nat) : Bool := !d.isModule p || ((d.advert p).lane200 && (d.advert p).lane100)

/-- The low-margin or uncorrectable test of DROP and REMOVE (R91, R100). -/
def Dev.lowTest (d : Dev) (x : LaneSt) : Bool :=
  x.dropNow || d.uncorrTest x ||
    (match x.lowSince with
     | some t => t + d.reg E.DROP_HOLD_TICKS ≤ d.tick
     | none => false)

/-- A drop condition holds on a lane: DROP or REMOVE of R91, or the test of R102. -/
def Dev.dropHolds (d : Dev) (p : Nat) (l : Lane) : Bool :=
  (d.lane p l).state = .active && (d.flag E.LANE_AUTO_RATE || !d.moduleBoth p) && d.lowTest (d.lane p l)

/-- A drop condition undoes the step under watch in the tick in which it arises (R81); the step does not count in PEAK_UNDOS.
(DESIGN CHOICE, log entry 167). -/
def Dev.dropUndo (d : Dev) (p : Nat) (l : Lane) : Dev := if d.dropHolds p l then d.updLane p l LaneSt.undoPeak else d

/-- The taps after a re-adaptation: a value the receiver finds (R78). (DESIGN CHOICE, log entry 38). -/
def Dev.newTaps (d : Dev) : Taps := .adapted (Config.freeTaps d.draws)

/-- One margin window's end on a lane that holds lock: the values of R113, the adaptation of R78, the holds of R91 and R83,
and the count of the watch of R80. (DEDUCED, log entries 32 and 177). -/
def Dev.windowValues (d : Dev) (x : LaneSt) (margin uncorr : Nat) (log : List (Nat × Nat)) : LaneSt :=
  let low := d.reg E.MARGIN_LOW
  { x with
    margin := margin, windows := x.windows + 1, uncorrLog := log, taps := d.newTaps,
    lowSince := since (margin < low) x.lowSince d.tick,
    highSince := since (d.reg E.MARGIN_RESTORE_100 ≤ margin) x.highSince d.tick,
    goodSince := since (x.state = .active && low ≤ margin) x.goodSince d.tick,
    watch := x.watch.map (fun w => { w with uncorr := w.uncorr + uncorr }) }

/-- A window of a restore trial with a low margin, or with the uncorrectable test, asks for a DROP at once and doubles the
restore hold (R100). -/
def Dev.trialWindow (d : Dev) (p : Nat) (l : Lane) : Dev :=
  let y := d.lane p l
  if y.trialEnd.isSome && y.state = .active && (y.margin < d.reg E.MARGIN_LOW || d.uncorrTest y) then
    d.updLane p l (fun z => { z with dropNow := true, trialEnd := none,
                                     restoreHold := some (min (d.reg E.RESTORE_BACKOFF_MAX) (2 * z.restoreHold.getD (d.reg E.RESTORE_HOLD_TICKS))) })
  else d

/-- The watch of a peaking step at a window's end: a drop condition undoes it first (R81); a margin or codewords beyond the
tolerances undo it, count it and block its direction (R80). -/
def Dev.watchWindow (d : Dev) (p : Nat) (l : Lane) : Dev :=
  let y := d.lane p l
  match y.watch with
  | none => d
  | some w =>
    if d.dropHolds p l then d.dropUndo p l
    else if y.margin + d.reg E.PEAK_MARGIN_TOL < w.m0 || w.u0 + d.reg E.PEAK_RETRY_TOL < w.uncorr then
      (d.updLane p l (fun z =>
        let z1 := z.undoPeak
        if w.up then { z1 with blockUp := d.reg E.PEAK_BACKOFF_PERIODS }
        else { z1 with blockDown := d.reg E.PEAK_BACKOFF_PERIODS })).count (E.PEAK_UNDOS p l.val)
    else d

/-- One margin window's end on a lane: what the decoder found in it (R79, R113), and, with lock, the values, the trial and the
watch. Codewords that an UNCORR injection makes uncorrectable are counted as they happen; `uncorrInj` of those found here are
uncorrectable only because an injection added to the line's own errors, so they leave the lane's measures out (R79). -/
def Dev.windowEnd (d : Dev) (p : Nat) (l : Lane) (margin corr uncorr uncorrInj : Nat) : Dev :=
  let x := d.lane p l
  let d1 := (d.countN (E.FEC_CORR_SYMBOLS p l.val) corr).countErrN (E.FEC_UNCORR_CW p l.val) uncorr
  let span := max 25000 (d.reg E.PEAK_WATCH_TICKS)
  let log := (x.uncorrLog ++ [(d.tick, uncorr - uncorrInj)]).filter (fun e => d.tick < e.1 + span)
  if x.lol then d1.updLane p l (fun y => { y with uncorrLog := log, highSince := none })
  else
    let d2 := ((d1.updLane p l (fun _ => d1.windowValues x margin (uncorr - uncorrInj) log)).drew).setReg (E.MARGIN_MIN p l.val)
      (min (d1.reg (E.MARGIN_MIN p l.val)) margin)
    (d2.trialWindow p l).watchWindow p l

/-- A map gatherer with a port's margin noted (R568). -/
def MapGather.noteMargin (m : MapGather) (p v : Nat) : MapGather :=
  { m with marginMin := tset m.marginMin p (min v (tgetD m.marginMin p 255)) }

/-- MARGIN_WINDOW_END (R86, R87): window boundaries are the multiples of 256 ticks, and the port's two values reach the
spraying logic with it. -/
def execMarginWindowEnd (p : Port) (l : Lane) (margin : BitVec 8) (corr : BitVec 32) (uncorr uncorrInj : BitVec 16) (s : State) :
    Host.Outcome State Fault Refusal :=
  run s fun d =>
    if d.tick % 256 = 0 && (d.lane p.val l).state != .off then
      let d1 := (d.windowEnd p.val l margin.toNat corr.toNat uncorr.toNat uncorrInj.toNat).updPort p.val PortSt.passOn
      d1.updMap (sdieOf p.val) (fun m => m.noteMargin p.val (d1.port p.val).portMargin)
    else d

/-! ## Peaking (R78 to R82) -/

/-- A step of the peaking code in a direction stays in 0 to 31. -/
def peakFits (code : Nat) (up : Bool) : Bool := if up then code < 31 else 0 < code

/-- Whether a direction may be tried (R80). -/
def LaneSt.peakOpen (x : LaneSt) (up : Bool) : Bool :=
  peakFits x.peak up && (if up then x.blockUp = 0 else x.blockDown = 0)

/-- The peaking period that is due on a lane, and the port with it noted. Lane 0's periods follow one another from the first;
lane k's begin k quarters of a period later, rounded down (R80). (DESIGN CHOICE, log entry 162). -/
def PortSt.beginPeriod (x : PortSt) (l : Lane) (period now : Nat) : Option PortSt :=
  match x.peakBase with
  | none => if l = 0 then some { x with peakBase := some now } else none
  | some b =>
    if l = 0 then (if b + period ≤ now then some { x with peakBase := some (b + (now - b) / max 1 period * period) } else none)
    else
      let t := b + l.val * period / 4
      let y := x.lane l
      if t ≤ now && y.periodAt != some t then some (x.setLane l { y with periodAt := some t }) else none

/-- The direction that a period tries: the opposite of the one tried last, or the other one (R80). A period without a step
leaves the last direction tried as it was. (DESIGN CHOICE, log entry 162). -/
def LaneSt.peakDir (x : LaneSt) : Option Bool :=
  let first := match x.lastUp with
    | some u => !u
    | none => true
  if x.peakOpen first then some first else if x.peakOpen (!first) then some (!first) else none

/-- A step is tried on a lane in ACTIVE that is in no rate transition, no restore trial and no watch (R80). -/
def Dev.mayPeak (d : Dev) (p : Nat) (l : Lane) : Bool :=
  let x := d.lane p l
  let busy := match (d.port p).handover with
    | some h => h.lane = l
    | none => false
  d.flag E.PEAK_ADAPT && x.state = .active && !busy && x.trialEnd.isNone && x.watch.isNone

/-- A peaking period on a lane: one step where one may be tried, and one period less of each direction's block (R80). -/
def Dev.peakPeriod (d : Dev) (p : Nat) (l : Lane) : Dev :=
  let x := d.lane p l
  let x1 := { x with blockUp := x.blockUp - 1, blockDown := x.blockDown - 1 }
  match (if d.mayPeak p l then x.peakDir else none) with
  | none => d.updLane p l (fun _ => x1)
  | some up =>
    let w : PeakWatch := { start := d.tick, saved := ⟨x.peak, x.taps⟩, m0 := x.margin,
                           u0 := x.uncorrIn d.tick (d.reg E.PEAK_WATCH_TICKS), up := up }
    (d.updLane p l (fun _ => { x1 with peak := if up then x.peak + 1 else x.peak - 1, taps := d.newTaps,
                                       lastUp := some up, watch := some w })).drew

/-- PEAK_PERIOD (R80). -/
def execPeakPeriod (p : Port) (l : Lane) (s : State) : Host.Outcome State Fault Refusal :=
  run s fun d =>
    match (d.port p.val).beginPeriod l (d.reg E.PEAK_PERIOD_TICKS) d.tick with
    | none => d
    | some x => (d.setPort p.val x).peakPeriod p.val l

/-- PEAK_WATCH_END: a step that lowered margin is silently reverted (R80). -/
def execPeakWatchEnd (p : Port) (l : Lane) (s : State) : Host.Outcome State Fault Refusal :=
  run s fun d =>
    match (d.lane p.val l).watch with
    | none => d
    | some w =>
      if d.tick < w.start + d.reg E.PEAK_WATCH_TICKS then d
      else d.updLane p.val l (fun y => if y.margin < w.m0 then y.undoPeak else { y with watch := none })

/-- COEFF_SET_STORE: 25,000 ticks in ACTIVE with margin at or above MARGIN_LOW (R83). -/
def execCoeffSetStore (p : Port) (l : Lane) (s : State) : Host.Outcome State Fault Refusal :=
  run s fun d =>
    let x := d.lane p.val l
    match x.goodSince with
    | some t => if x.state = .active && t + 25000 ≤ d.tick then d.updLane p.val l (fun y => { y.store with goodSince := some d.tick }) else d
    | none => d

/-! ## Rate hand-over (R91 to R102) -/

/-- The target code of a LANE_RATE request (R131). -/
def targetCode (t : RateTarget) : Nat :=
  match t with
  | .g200 => 2
  | .g100 => 1
  | .off => 0xFF

/-- The target a code names. -/
def targetOf (c : Nat) : Option RateTarget :=
  if c = 2 then some .g200 else if c = 1 then some .g100 else if c = 0xFF then some .off else none

/-- The condition of R91 that holds on a lane, as its target and whether it is a RESTORE. -/
def Dev.handCondition (d : Dev) (p : Nat) (l : Lane) : Option (RateTarget × Bool) :=
  let x := d.lane p l
  let auto := d.flag E.LANE_AUTO_RATE
  let high := fun hold => match x.highSince with
    | some t => t + hold ≤ d.tick
    | none => false
  if x.state = .active && x.rate = 2 then
    if !d.moduleBoth p && d.lowTest x then some (.off, false)
    else if auto && d.moduleBoth p && d.lowTest x then some (if x.askOff then .off else .g100, false)
    else if d.reg (E.MAX_RATE p) = 1 then some (if x.askOff then .off else .g100, false)
    else none
  else if x.state = .active && x.rate = 1 then
    if (auto || !d.moduleBoth p) && d.lowTest x then some (.off, false)
    else if auto && d.moduleBoth p && d.reg (E.MAX_RATE p) = 2 && !x.noRestore &&
        high (x.restoreHold.getD (d.reg E.RESTORE_HOLD_TICKS)) then some (.g200, true)
    else none
  else if x.state = .failed && (d.port p).state = .up && !x.lol && high (d.reg E.RESTORE_HOLD_TICKS) then
    some (if x.askOff then .off else .g100, false)
  else none

/-- Whether a hand-over may start on a port now: none in progress, UP, no sleep pending (R92, R157, R616). -/
def Dev.handFree (d : Dev) (p : Nat) : Bool :=
  let x := d.port p
  x.state = .up && x.handover.isNone && x.sleepTs.isNone && d.power.sleep != .entering

/-- The payload of a LANE_RATE request (R131). -/
def rateReqPayload (l : Lane) (t : RateTarget) (ts : Nat) : List Byte :=
  beBytes 1 l.val ++ beBytes 1 (targetCode t) ++ beBytes 8 ts

/-- A hand-over begins on a lane in the tick in which its condition holds: its switch tick is t + 256, and its request goes
out in the tick after (R93). -/
def Dev.askRate (d : Dev) (p : Nat) (l : Lane) (t : RateTarget) (restore : Bool) : Dev :=
  let h : Handover := { lane := l, target := t, ts := d.tick + 256, initiator := true, accepted := false,
                        sendAt := some (d.tick + 1), restore := restore }
  d.updPort p (fun x => { x.setLane l { x.lane l with retryAt := none } with handover := some h })

/-- The request of a hand-over goes out in its tick (R93). -/
def Dev.sendRequest (d : Dev) (p : Nat) : Dev :=
  match (d.port p).handover with
  | none => d
  | some h =>
    match h.sendAt with
    | none => d
    | some t =>
      if d.tick < t then d
      else (d.updPort p (fun x => { x with handover := some { h with sendAt := none } })).sendLocal p 0x01 (rateReqPayload h.lane h.target h.ts)

/-- Start the hand-over whose condition holds on a lane, if any may start now (R91, R92); a drop condition undoes a peaking
step under watch even where the hand-over waits (R81). On FL2 the hand-over is not used: a lane that meets the REMOVE test
is removed as under R85, unless it is the only one (R101). -/
def Dev.startHand (d0 : Dev) (p : Nat) (l : Lane) : Dev :=
  let d := d0.dropUndo p l
  let x := d.port p
  let lone := x.striping = [l]
  if d.reg (E.FABRIC_LEVEL p) = 2 then
    if x.state = .up && (x.lane l).state = .active && d.flag E.LANE_AUTO_RATE && d.lowTest (x.lane l) && !lone then d.failLane p l
    else d
  else if !d.handFree p then d
  else
    match d.handCondition p l with
    | none => d
    | some (t, r) => if lone then d else d.askRate p l t r

/-- LANE_RATE_REQ_SEND (R91, R93). A refused lane waits for its retry (R96). -/
def execLaneRateReqSend (p : Port) (l : Lane) (s : State) : Host.Outcome State Fault Refusal :=
  run s fun d => if (d.lane p.val l).retryAt.isSome then d else d.startHand p.val l

/-- HANDOVER_RETRY: 256 ticks after the refusal, if the condition still holds (R96). -/
def execHandoverRetry (p : Port) (l : Lane) (s : State) : Host.Outcome State Fault Refusal :=
  run s fun d =>
    match (d.lane p.val l).retryAt with
    | none => d
    | some t => if d.tick < t then d else (d.updLane p.val l (fun y => { y with retryAt := none })).startHand p.val l

/-- Count and report a malformed cell (R123, R531). -/
def Dev.malformed (d : Dev) (p : Nat) (c : Cell) : Dev :=
  (d.countErr (E.MALFORMED p)).report (bark 0x0201 accCellRx (iniPort p) false p (c.hdr.toNat / 2 ^ 32))

/-- The device's serial as a number (R97). -/
def Dev.ownSerial (d : Dev) : Nat := beNat (beBytes 16 d.mfg.serial)

/-- An end whose own request is not yet accepted withdraws it when the partner's request, from the lower serial, crosses it,
whatever it then answers (R97). -/
def Dev.yieldRequest (d : Dev) (p : Nat) : Dev :=
  d.updPort p (fun x => { x with handover := (match x.handover with
    | some h => if h.initiator && !h.accepted && d.peerSerial p < d.ownSerial then none else some h
    | none => none) })

/-- The answer code to a LANE_RATE request, once a request of one's own that ranks second is withdrawn (R95, R97, R157,
R616). A request for the lane that is already in an accepted hand-over is taken, and replaces it.
(DEDUCED, log entry 34; DESIGN CHOICE, log entry 165). -/
def Dev.rateAnswer (d : Dev) (p : Nat) (l : Lane) (t : RateTarget) (ts : Nat) : Nat :=
  let x := d.port p
  let busy := match x.handover with
    | none => false
    | some h => (h.initiator && !h.accepted) || h.lane != l
  if busy || x.sleepTs.isSome || d.power.sleep = .entering then 1
  else if ts < d.tick + 16 then 2
  else
    match t with
    | .g200 => if d.reg (E.MAX_RATE p) = 1 || d.reg (E.FABRIC_LEVEL p) = 2 || (d.isModule p && !(d.advert p).lane200) then 3 else 0
    | .g100 => if d.isModule p && !(d.advert p).lane100 then 3 else 0
    | .off => 0

/-- LANE_RATE_REQ at the responder (R93, R95, R97). A target code that R131 does not list makes the cell malformed.
(DESIGN CHOICE, log entry 170). -/
def execLaneRateReq (p : Port) (c : Cell) (s : State) : Host.Outcome State Fault Refusal :=
  run s fun d =>
    let l : Lane := Fin.ofNat 4 (c.pay 0 1)
    match targetOf (c.pay 1 1) with
    | none => d.malformed p.val c
    | some t =>
      let d0 := d.yieldRequest p.val
      let a := d0.rateAnswer p.val l t (c.pay 2 8)
      let d1 := if a = 0 then
          d0.updPort p.val (fun x => { x with handover := some { lane := l, target := t, ts := c.pay 2 8, initiator := false, accepted := true } })
        else d0
      d1.sendLocal p.val 0x02 (beBytes 1 l.val ++ beBytes 1 a)

/-- LANE_RATE_ANS at the initiator (R96). A lane that has meanwhile become the only one in striping waits with its request
for OFF (R92). -/
def execLaneRateAns (p : Port) (c : Cell) (s : State) : Host.Outcome State Fault Refusal :=
  run s fun d =>
    match (d.port p.val).handover with
    | none => d
    | some h =>
      if !h.initiator || h.accepted || h.sendAt.isSome || h.lane.val != c.pay 0 1 then d
      else
        let a := c.pay 1 1
        if a = 0 then d.updPort p.val (fun x => { x with handover := some { h with accepted := true } })
        else
          let d1 := d.updPort p.val (fun x => { x with handover := none })
          if a = 1 || a = 2 then d1.updLane p.val h.lane (fun y => { y with retryAt := some (d.tick + 256) })
          else if a = 3 then
            match h.target with
            | .g100 =>
              let d2 := d1.updLane p.val h.lane (fun y => { y with askOff := true })
              if (d2.port p.val).striping = [h.lane] then d2 else d2.askRate p.val h.lane .off false
            | .g200 => d1.updLane p.val h.lane (fun y => { y with noRestore := true })
            | .off => d1
          else d1

/-- The join tick: ts + 5,000, or longer for a module's data path initialisation (R93, R94). -/
def Dev.joinTick (d : Dev) (p ts : Nat) : Nat :=
  if d.isModule p then ts + max 5000 ((d.advert p).initTicks + 2500) else ts + 5000

/-- Send the park marker of a lane on it: it shows the next LSEQ (R93, R138). -/
def Dev.sendPark (d : Dev) (p : Nat) (l : Lane) : Dev := d.sendCell p l (mkLinkCell tPark (d.port p).txLseq [])

/-- The initiator has no ACCEPT by ts: a lane in striping is removed as under R85, and a FAILED one stays as it is (R98,
R103). -/
def Dev.endUnaccepted (d : Dev) (p : Nat) (h : Handover) : Dev :=
  if (d.lane p h.lane).state = .active then d.failLane p h.lane else d.updPort p (fun x => { x with handover := none })

/-- A committed lane leaves striping at ts: FAILED for a target of OFF, else PARKED and retuned from its stored set (R93,
R103). Its new capacity reaches the spraying logic at once (R87), and the partner's last cells may still come (R133). -/
def PortSt.parkLane (x : PortSt) (h : Handover) (tj cls now : Nat) : PortSt :=
  let y := x.lane h.lane
  let awaits := y.state = .active && !y.parkSeen
  let code := targetCode h.target
  let x1 : PortSt := match h.target with
    | .off => { x.setLane h.lane { y.fail with trailing := awaits } with handover := none }
    | .g200 | .g100 =>
      { x.setLane h.lane { (y.fresh.load code cls) with state := .parked, rate := code, trailing := awaits } with
        handover := some { h with tj := some tj } }
  ({ x1 with passedCap := x1.capacity } : PortSt).recheck x now

/-- The switch tick of a hand-over (R93, R98, R103). A gap may stand declared once the lane counts no more (R134, R138). A lane
that has become the only one in striping since tick t is parked or fails all the same. (DEDUCED, log entry 35; DESIGN CHOICE,
log entry 187). -/
def Dev.park (d : Dev) (p : Nat) (h : Handover) : Dev :=
  if !h.accepted then d.endUnaccepted p h
  else
    let was := (d.lane p h.lane).state
    let d1 := if was = .active then d.sendPark p h.lane else d
    let d2 := match h.target with
      | .g200 => d1.count (E.RATE_RESTORES p h.lane.val)
      | .g100 | .off => d1.count (E.RATE_DROPS p h.lane.val)
    let d3 := (d2.updPort p (fun x => x.parkLane h (d.joinTick p h.ts) (d.elecClass p) d.tick)).gapCheck p
    match h.target with
    | .off => d3.linkEvent p
    | .g200 => d3.moduleRate p h.lane 2
    | .g100 => d3.moduleRate p h.lane 1

/-- HANDOVER_PARK: ts is reached (R93, R98). -/
def execHandoverPark (p : Port) (s : State) : Host.Outcome State Fault Refusal :=
  run s fun d =>
    match (d.port p.val).handover with
    | none => d
    | some h => if h.tj.isSome || d.tick < h.ts then d else d.park p.val h

/-- LANE_READY_SEND: the retuned lane holds lock with margin at or above MARGIN_LOW (R93). -/
def execLaneReadySend (p : Port) (s : State) : Host.Outcome State Fault Refusal :=
  run s fun d =>
    match (d.port p.val).handover with
    | none => d
    | some h =>
      let y := d.lane p.val h.lane
      if h.tj.isSome && !h.readySent && !y.lol && 0 < y.windows && d.reg E.MARGIN_LOW ≤ y.margin then
        (d.updPort p.val (fun x => { x with handover := some { h with readySent := true } })).sendLocal p.val 0x03 (beBytes 1 h.lane.val)
      else d

/-- LANE_READY (R93). -/
def execLaneReady (p : Port) (c : Cell) (s : State) : Host.Outcome State Fault Refusal :=
  run s fun d =>
    match (d.port p.val).handover with
    | none => d
    | some h =>
      if h.lane.val = c.pay 0 1 then d.updPort p.val (fun x => { x with handover := some { h with readyRcvd := true } }) else d

/-- The lane of a hand-over joins striping at the target rate, where what it showed before counts no more; a restore opens its
trial (R93, R100, R134). Its capacity reaches the spraying logic at once (R87). -/
def PortSt.joinHand (x : PortSt) (h : Handover) (trialTo now : Nat) : PortSt :=
  let y := (x.lane h.lane).join (targetCode h.target)
  let x1 : PortSt := { x.setLane h.lane { y with trialEnd := if h.target = .g200 then some trialTo else none } with
    handover := none, shown := x.shown.filter (fun e => e.1 != h.lane.val) }
  ({ x1 with passedCap := x1.capacity } : PortSt).recheck x now

/-- The join tick of a hand-over (R93, R99, R100). -/
def Dev.joinLane (d : Dev) (p : Nat) (h : Handover) (tj : Nat) : Dev :=
  if h.readySent && h.readyRcvd then d.updPort p (fun x => x.joinHand h (tj + d.reg E.RESTORE_TRIAL_TICKS) d.tick)
  else if h.target = .g200 then
    (d.updPort p (fun x =>
      { x.setLane h.lane { ((x.lane h.lane).fresh.load 1 (d.elecClass p)) with rate := 1, trailing := (x.lane h.lane).trailing } with
        handover := some { h with target := .g100, tj := some (tj + 5000), readySent := false, readyRcvd := false } })).moduleRate p h.lane 1
  else (d.updPort p (fun x => { x.setLane h.lane (x.lane h.lane).fail with handover := none })).linkEvent p

/-- HANDOVER_JOIN: tj is reached (R93, R99). -/
def execHandoverJoin (p : Port) (s : State) : Host.Outcome State Fault Refusal :=
  run s fun d =>
    match (d.port p.val).handover with
    | none => d
    | some h =>
      match h.tj with
      | none => d
      | some tj => if d.tick < tj then d else d.joinLane p.val h tj

/-- RESTORE_TRIAL_END (R100). -/
def execRestoreTrialEnd (p : Port) (l : Lane) (s : State) : Host.Outcome State Fault Refusal :=
  run s fun d =>
    match (d.lane p.val l).trialEnd with
    | none => d
    | some t => if d.tick < t then d else d.updLane p.val l (fun y => { y with trialEnd := none, restoreHold := none })

/-! ## Writes of lane entries: the state checks and effects -/

/-- Every lane of a port may try a restore again (R96). -/
def Dev.allowRestore (d : Dev) (p : Nat) : Dev :=
  d.updPort p (fun x => x.mapLanes (fun _ y => { y with noRestore := false, askOff := false }))

/-- MAX_RATE is written: CAP starts on the lowest lane at 200 Gbit/s that may (R91, R92, R96). -/
def Dev.writeMaxRate (d : Dev) (p v : Nat) : Dev :=
  let d1 := if d.reg (E.MAX_RATE p) = v then d else d.allowRestore p
  let d2 := d1.setReg (E.MAX_RATE p) v
  if v = 1 then lanes4.foldl (fun a l => a.startHand p l) d2 else d2

/-- ELEC_CLASS is refused (R70, R181). -/
def Dev.refuseClass (d : Dev) (p v : Nat) : Option Status :=
  if v = 2 && d.reach p then some .invalidValue
  else if lanes4.any (fun l => (d.lane p l).state != .off) then some .stateConflict
  else if v = 1 && !(d.setReg (E.ELEC_CLASS p) 1).shrKept then some .stateConflict
  else none

/-- ELEC_CLASS is written. -/
def Dev.writeClass (d : Dev) (p v : Nat) : Dev := (d.allowRestore p).setReg (E.ELEC_CLASS p) v

/-- PEAK_SET is written with adaptation off (R82). -/
def Dev.writePeak (d : Dev) (p : Nat) (l : Lane) (v : Nat) : Dev :=
  ((d.setReg (E.PEAK_SET p l.val) v).updLane p l (fun y => { y with peak := v, taps := d.newTaps, watch := none })).drew

/-- A pattern suits a rate (R107). -/
def patternSuits (pat rate : Nat) : Bool :=
  if rate = 0 then !(pat = 3 || pat = 6 || pat = 7) else pat != 5

/-- Whether a lane may be put into TEST (R106). (DEDUCED, log entry 36). -/
def Dev.testEligible (d : Dev) (p : Nat) (l : Lane) : Bool :=
  let x := d.port p
  (x.lane l).state = .off || (x.lane l).state = .failed || (x.state = .quarantine && l != 0)

/-- The rate a pattern runs at: the lane's own in TEST, and TEST_RATE for its next entry (R77, R106). TEST_RATE written in
TEST leaves the running rate. (DESIGN CHOICE, log entry 168). -/
def Dev.patternRate (d : Dev) (p : Nat) (l : Lane) : Nat :=
  if (d.lane p l).state = .test then (d.lane p l).rate else d.reg (E.TEST_RATE p l.val)

/-- A write of TEST_MODE or LOOP is refused (R106, R107). (DEDUCED, log entry 36). -/
def Dev.refuseTest (d : Dev) (p : Nat) (l : Lane) (v : Nat) (mode : Bool) : Option Status :=
  if v = 0 then none
  else if !d.testEligible p l then some .stateConflict
  else if mode && !patternSuits (d.reg (E.PATTERN p l.val)) (d.patternRate p l) then some .stateConflict
  else none

/-- A lane enters or leaves TEST after a write of TEST_MODE or LOOP (R103, R106). A lane that returns to OFF or FAILED runs
at no rate; on one that stays in TEST the flips of a loop start again. (DESIGN CHOICE, log entry 166). -/
def Dev.setTest (d : Dev) (p : Nat) (l : Lane) : Dev :=
  let run := d.reg (E.TEST_MODE p l.val) != 0 || d.reg (E.LOOP p l.val) != 0
  let rate := d.reg (E.TEST_RATE p l.val)
  let x := d.lane p l
  let cls := d.elecClass p
  if run then
    if x.state = .test then d.updLane p l (fun y => { y with flips := 0 })
    else d.updLane p l (fun y => { (y.fresh.load rate cls) with state := .test, leftState := y.state, rate := rate, flips := 0 })
  else if x.state = .test then
    (d.updLane p l (fun y => { y.fresh with state := y.leftState, rate := 0 })).setReg (E.CHECK_LOCK p l.val) 0
  else d

/-- TEST_MODE is written: the counts clear (R114). -/
def Dev.writeTestMode (d : Dev) (p : Nat) (l : Lane) (v : Nat) : Dev :=
  (((((d.setReg (E.TEST_MODE p l.val) v).clearCounter (E.CHECK_BITS p l.val)).clearCounter (E.CHECK_ERRORS p l.val)).setReg
    (E.CHECK_LOCK p l.val) 0).setTest p l).notePins d p l

/-- LOOP is written (R109). -/
def Dev.writeLoop (d : Dev) (p : Nat) (l : Lane) (v : Nat) : Dev := ((d.setReg (E.LOOP p l.val) v).setTest p l).notePins d p l

/-- PATTERN is written to a lane that runs a pattern, and does not suit the lane's rate (R107). -/
def Dev.refusePattern (d : Dev) (p : Nat) (l : Lane) (pat : Nat) : Option Status :=
  if (d.lane p l).state = .test && d.reg (E.TEST_MODE p l.val) != 0 && !patternSuits pat (d.patternRate p l) then some .stateConflict
  else none

/-! ### Injection (R110) -/

/-- The generator runs on a lane in TEST (R106, R114). -/
def Dev.generating (d : Dev) (p : Nat) (l : Lane) : Bool :=
  (d.lane p l).state = .test && bits (d.reg (E.TEST_MODE p l.val)) 0 1 = 1

/-- A near loop brings the generator's own bits back to the lane's checker (R109). Where no generator runs the checker's own report
stands. (DESIGN CHOICE, log entry 190). -/
def Dev.nearLoop (d : Dev) (p : Nat) (l : Lane) : Bool :=
  d.generating p l && (d.reg (E.LOOP p l.val) = 1 || d.reg (E.LOOP p l.val) = 2)

/-- What one tick adds to an injection of a kind on a lane, and how much one event takes: quarters of a unit interval for BIT,
ticks for TX_SQUELCH, codewords in 32nds for the others, with lock for those received (R74, R110).
(DEDUCED, log entry 174). -/
def Dev.injectStep (d : Dev) (p : Nat) (l : Lane) (kind : Nat) : Nat × Nat :=
  let x := d.lane p l
  if kind = 1 then (if d.generating p l then (if x.rate = 2 then 17000 else if x.rate = 1 then 8500 else 4125) else 0, 4 * 65536)
  else if kind = 6 then (1, 1)
  else (if (kind = 2 || kind = 3) && x.lol then 0 else x.codewords, 32)

/-- One tick of the injection armed on a lane: the events that fall into it are counted, and those of a receiver reach its FEC
counters; they are excluded from the lane's own measures (R79, R110). A flipped bit reaches the lane's own checker in a near loop
(R109), and after the last tick of a squelch the transmitter carries a signal again. -/
def Dev.injectTick (d : Dev) (p : Nat) (l : Lane) : Dev :=
  match (d.lane p l).inject with
  | none => d
  | some j =>
    if j.count ≤ j.done then d
    else
      let (add, per) := d.injectStep p l j.kind
      let n := min (j.count - j.done) ((j.acc + add) / per)
      let d1 := d.updLane p l (fun y => { y with inject := some { j with acc := (j.acc + add) % per, done := j.done + n },
                                                 flips := if j.kind = 1 && d.nearLoop p l then y.flips + n else y.flips })
      if j.kind = 2 then d1.countN (E.FEC_CORR_SYMBOLS p l.val) (n * j.symbols)
      else if j.kind = 3 then d1.countErrN (E.FEC_UNCORR_CW p l.val) n
      else d1.notePins d p l

/-- INJECT_LEFT (R114). (DEDUCED, log entry 37). -/
def Dev.injectLeft (d : Dev) (p : Nat) (l : Lane) : Nat :=
  match (d.lane p l).inject with
  | some j => j.count - j.done
  | none => 0

/-- A write of INJECT is refused (R110): by value, or by state. -/
def Dev.refuseInject (d : Dev) (p : Nat) (l : Lane) (v : Nat) : Option Status :=
  let kind := bits v 28 4
  let st := (d.lane p l).state
  if kind = 0 || 6 < kind || bits v 0 24 = 0 || ((kind = 2 || kind = 4) && bits v 24 4 = 0) then some .invalidValue
  else if d.injectLeft p l != 0 then some .stateConflict
  else if (kind = 1 && st != .test) || st = .off then some .stateConflict
  else none

/-- INJECT is written. -/
def Dev.writeInject (d : Dev) (p : Nat) (l : Lane) (v : Nat) : Dev :=
  let kind := bits v 28 4
  (d.updLane p l (fun y =>
    { y with inject := some { kind := kind, symbols := if kind = 3 || kind = 5 then 16 else bits v 24 4, count := bits v 0 24 } })).notePins d p l

/-- TX_SQUELCH_END: the count of ticks has passed, and the transmitter resumes (R110). -/
def execTxSquelchEnd (p : Port) (l : Lane) (s : State) : Host.Outcome State Fault Refusal :=
  run s fun d =>
    match (d.lane p.val l).inject with
    | some j => if j.kind = 6 && j.count ≤ j.done then (d.updLane p.val l (fun y => { y with inject := none })).notePins d p.val l else d
    | none => d

/-- CHECKER_LOCK (R108): the checker of a lane in TEST reports the bits it has compared and the errors among them since it last
reported, and whether it is locked. It locks on 1024 bits without an error and loses lock on more than 256 errors within 4096
bits; only a report of a locked checker counts. In a near loop its errors are the flips of an injection.
(DEDUCED, log entry 175). -/
def execCheckerLock (p : Port) (l : Lane) (locked : Bool) (nbits : BitVec 64) (errors : BitVec 32) (s : State) :
    Host.Outcome State Fault Refusal :=
  run s fun d =>
    let k := E.CHECK_LOCK p.val l.val
    let e := if d.nearLoop p.val l then (d.lane p.val l).flips else errors.toNat
    if (d.lane p.val l).state != .test || bits (d.reg (E.TEST_MODE p.val l.val)) 1 1 = 0 then d
    else
      let d1 := d.updLane p.val l (fun y => { y with flips := 0 })
      if d.flag k then
        let lost := 256 < e && (!locked || nbits.toNat ≤ 4096)
        ((d1.countN (E.CHECK_BITS p.val l.val) nbits.toNat).countErrN (E.CHECK_ERRORS p.val l.val) e).setFlag k (!lost)
      else if locked && 1024 ≤ nbits.toNat && e = 0 then d1.setFlag k true
      else d1

/-- The loop FAR sends what a lane in TEST receives back on the same lane (R109). -/
def Dev.farLoop (d : Dev) (p : Nat) (l : Lane) (bytes : List Byte) : Dev :=
  if (d.lane p l).state = .test && d.reg (E.LOOP p l.val) = 3 && !d.txIdle p l then d.emitLive (.loop d.tick (portFin p) l bytes) else d

/-! ## Optical modules (R104, R105) -/

/-- The port of a module site in effect. -/
def Dev.portOfSite (d : Dev) (m : Nat) : Option Nat := allPorts.find? (fun p => d.siteOf p = some m)

/-- MODULE_INTERRUPT: the flags and the monitors are read and MODULE_FLAG raised (R104, R525). -/
def execModuleInterrupt (site : Fin 32) (s : State) : Host.Outcome State Fault Refusal :=
  run s fun d =>
    match d.portOfSite site.val with
    | none => d
    | some p =>
      if d.isModule p then
        (d.cmis p [.readFlags, .readMonitors]).sample (bark 0x0C03 accNone iniHkp false p 0)
      else d

/-- A module's presence, but for what a loss of its port does to contexts (R105, R650): an absent module presents LOS on all
four lanes; a present one is read and set up, and a lane 0 that runs low takes the rate it allows. (DEDUCED, log entry 176). -/
def bareModulePresence (site : Fin 32) (present : Bool) (advert : ModuleAdvert) (s : State) : Host.Outcome State Fault Refusal :=
  run s fun d =>
    let m : ModuleSt := { present := present, advert := if present then advert else ⟨false, false, false, 0⟩ }
    let d1 := { d with modules := tset d.modules site.val m }
    match d1.portOfSite site.val with
    | none => d1
    | some p =>
      if !d1.isModule p then d1
      else
        let d2 := (d1.allowRestore p).relow p
        if present then (d2.cmis p [.readPage 0x00, .readPage 0x01, .readPage 0x02, .readPage 0x10, .readPage 0x11]).moduleLow p
        else lanes4.foldl (fun a l => a.los p l true) d2

/-- MODULE_DATAPATH_READY (R150). -/
def execModuleDatapathReady (p : Port) (s : State) : Host.Outcome State Fault Refusal :=
  run s fun d =>
    match d.siteOf p.val with
    | none => d
    | some m =>
      let x := tgetD d.modules m {}
      if x.present then { d with modules := tset d.modules m { x with dpReady := true } } else d

end Sys2Proof.Machine
end

