-- ==== Sys2Proof/Machine/Transport.lean ====
section
/-! DEFINITION. The RoCE v2 queue pairs: packets, sending, acknowledgement and errors, with the failure of a DMA
channel and the end of a whistle's action that they may cause (R407, R483 to R487, R497), and the leash (R222, R223). -/

namespace Sys2Proof.Machine

/-! ## Access -/

/-- A queue pair. -/
def Dev.qp (d : Dev) (q : Nat) : Qp := tgetD d.qps q {}

/-- Replace a queue pair. -/
def Dev.setQp (d : Dev) (q : Nat) (x : Qp) : Dev := { d with qps := tset d.qps q x }

/-- A DMA channel. -/
def Dev.chan (d : Dev) (n : Nat) : DmaCh := tgetD d.dma n {}

/-- Replace a DMA channel. -/
def Dev.setChan (d : Dev) (n : Nat) (x : DmaCh) : Dev := { d with dma := tset d.dma n x }

/-- A sequence number's distance ahead of another, modulo 2^24. -/
def psnAhead (a b : Nat) : Nat := (a + 2 ^ 24 - b) % 2 ^ 24

/-- The path MTU in bytes (R486, R505). -/
def Dev.pathMtu (d : Dev) : Nat := 2 ^ (7 + d.reg E.HOST_PATH_MTU)

/-- The host port is up: HOST_MODE names a PHY and the host domain runs or is gated (R479, R480). -/
def Dev.hostUp (d : Dev) : Bool := d.reg E.HOST_MODE != 0 && !d.domainOff .host && !d.fenced

/-! ## Packets (R484)

The base transport, RDMA, and acknowledgement headers are those of RoCE v2 (PRESUMED: the spec names the opcodes). -/

/-- The base transport header. (PRESUMED, log entry 102). -/
def bth (op pad qpn psn : Nat) (ack : Bool) : List Byte :=
  beBytes 1 op ++ beBytes 1 (pad * 16) ++ [0xFF, 0xFF, 0] ++ beBytes 3 qpn ++ [if ack then 0x80 else 0] ++ beBytes 3 psn

/-- Zeros that bring a payload to a multiple of four bytes. -/
def padLen (n : Nat) : Nat := (4 - n % 4) % 4

/-- The bytes of a request packet, from the base transport header to the pad. -/
def Dev.reqBytes (d : Dev) (q : Nat) (r : QpReq) : List Byte :=
  let pad := padLen r.payload.length
  let reth := if r.op = 0x06 || r.op = 0x0A || r.op = 0x0C then beBytes 8 r.va ++ beBytes 4 r.rkey ++ beBytes 4 r.dmaLen else []
  bth r.op pad (d.reg (E.REMOTE_QPN q)) r.psn r.ackReq ++ reth ++ r.payload ++ List.replicate pad 0

/-- Send a packet to the host: while the port is down its transmitters are idle (R480), and the fence stops it (R523).
(DESIGN CHOICE, log entry 5; PRESUMED, log entry 102). -/
def Dev.hostSend (d : Dev) (q : Nat) (bs : List Byte) : Dev := if d.hostUp then d.emit (.host d.tick q bs) else d

/-- An acknowledgement with a syndrome. -/
def Dev.sendAck (d : Dev) (q psn syndrome : Nat) : Dev :=
  d.hostSend q (bth 0x11 0 (d.reg (E.REMOTE_QPN q)) psn false ++ beBytes 1 syndrome ++ beBytes 3 (d.qp q).msn)

/-- The syndrome of a positive acknowledgement. -/
def synACK : Nat := 0x1F
/-- The syndrome of an RNR NAK. -/
def synRNR : Nat := 0x20
/-- NAK, PSN sequence error. -/
def synSEQ : Nat := 0x60
/-- NAK, invalid request. -/
def synINVALID : Nat := 0x61
/-- NAK, remote access error. -/
def synACCESS : Nat := 0x62
/-- NAK, remote operational error. -/
def synOPERATION : Nat := 0x63

/-! ## Sending as requester (R486) -/

/-- RDMA READ requests outstanding on a queue pair. -/
def Qp.reads (x : Qp) : Nat := (x.sent.filter (fun r => r.op = 0x0C)).length

/-- Send what the queue pair holds, in order: at most 16 RDMA READ requests outstanding. -/
def Dev.pumpList (d : Dev) (q : Nat) : List QpReq → Dev
  | [] => d.setQp q { d.qp q with queue := [] }
  | r :: rest =>
    let x := d.qp q
    if r.op = 0x0C && 16 ≤ x.reads then d.setQp q { x with queue := r :: rest }
    else
      let r1 := { r with psn := x.sqPsn }
      let x1 := { x with sqPsn := (x.sqPsn + r.npkts) % 2 ^ 24, sent := x.sent ++ [r1],
                         sentAt := if x.sent = [] then d.tick else x.sentAt }
      ((d.setQp q x1).hostSend q (d.reqBytes q r1)).pumpList q rest

/-- Send what the queue pair holds, in RTS (R485). -/
def Dev.pump (d : Dev) (q : Nat) : Dev := if (d.qp q).state = 1 then d.pumpList q (d.qp q).queue else d

/-- Post packets on a queue pair: one that is not in RTS takes none (R485). -/
def Dev.post (d : Dev) (q : Nat) (rs : List QpReq) : Dev :=
  let x := d.qp q
  if x.state = 1 then (d.setQp q { x with queue := x.queue ++ rs }).pump q else d

/-- The opcode of a packet by its place in its message, from the First code of its kind. -/
def placeOp (base : Nat) (first last : Bool) : Nat :=
  if first && last then base + 4 else if first then base else if last then base + 2 else base + 1

/-- The packets of one message: SEND from 0x00, RDMA WRITE from 0x06. -/
def messagePackets (base mtu : Nat) (use : QpUse) (rkey va : Nat) (data : List Byte) : List QpReq :=
  let ps := if data = [] then [[]] else chunksOf mtu data (data.length + 1)
  (ps.zipIdx).map (fun (z : List Byte × Nat) =>
    let first : Bool := z.2 = 0
    let last : Bool := z.2 + 1 = ps.length
    { op := placeOp base first last, use := use, rkey := rkey, va := va, dmaLen := if first then data.length else 0,
      ackReq := last, payload := z.1 })

/-- The longest message: 2^31 bytes (PRESUMED, RoCE v2). -/
def maxMessage : Nat := 2 ^ 31

/-- RDMA WRITE of data to a host address, in messages of at most 2^31 bytes. -/
def Dev.postWrite (d : Dev) (q : Nat) (use : QpUse) (rkey va : Nat) (data : List Byte) : Dev :=
  d.post q (((chunksOf maxMessage data (data.length + 1)).zipIdx).flatMap (fun (z : List Byte × Nat) =>
    messagePackets 0x06 d.pathMtu use rkey (va + z.2 * maxMessage) z.1))

/-- RDMA READ of a host range. -/
def Dev.postRead (d : Dev) (q : Nat) (use : QpUse) (rkey va n : Nat) : Dev :=
  let mtu := d.pathMtu
  d.post q ((List.range ((n + maxMessage - 1) / maxMessage)).map (fun i =>
    let m := min maxMessage (n - i * maxMessage)
    { op := 0x0C, npkts := (m + mtu - 1) / mtu, use := use, rkey := rkey, va := va + i * maxMessage, dmaLen := m, ackReq := true }))

/-- SEND of one message. -/
def Dev.postSend (d : Dev) (q : Nat) (data : List Byte) : Dev := d.post q (messagePackets 0x00 d.pathMtu .bridge 0 0 data)

/-- Work of a channel is no longer anyone's. -/
def Qp.forget (x : Qp) (ch : Nat) : Qp :=
  let f := fun (r : QpReq) => if r.use = .dma ch then { r with use := .dropped } else r
  { x with sent := x.sent.map f, queue := x.queue.filter (fun r => r.use != .dma ch) }

/-- A DMA descriptor's OP (R492). -/
def ddOp (c : List Byte) : Nat := leNat (slice c 0 1)
/-- A DMA descriptor's QP (R492). -/
def ddQp (c : List Byte) : Nat := leNat (slice c 2 1) % 64

/-- The side of a DMA descriptor that its queue pair moves (R531): TO_HOST writes at its destination, FROM_HOST reads its
source. -/
def ddHostAccess (c : List Byte) : Nat := if ddOp c = 2 then accWrite else accRead

/-! ## The end of a whistle's action (R407, R408) -/

/-- Mark the action under way of a whistle's fire as succeeded or failed. -/
def endActionIn (as : List Action) (w f : Nat) (ok : Bool) : List Action :=
  as.map (fun a => if a.whistle = w && a.fire = f && a.stage = .running then { a with stage := if ok then .succeeded else .failed } else a)

/-- Mark an action under way as succeeded or failed. -/
def Dev.endAction (d : Dev) (a : Option (Nat × Nat)) (ok : Bool) : Dev :=
  match a with
  | none => d
  | some (w, f) => { d with actions0 := endActionIn d.actions0 w f ok, actions1 := endActionIn d.actions1 w f ok }

/-! ## Failures of channels and queue pairs (R485, R486, R497) -/

/-- A channel's descriptor fails (R497): ERROR, the code, the bark, and its actions fail. -/
def Dev.dmaFail (d : Dev) (n code acc : Nat) : Dev :=
  let c := d.chan n
  let d1 := c.queue.foldl (fun (a : Dev) q => a.endAction q.action false) (d.endAction c.action false)
  let d2 := { d1.setChan n { state := .error, addr := c.addr, desc := c.desc } with qps := d1.qps.map (fun (e : Nat × Qp) => (e.1, e.2.forget n)) }
  ((d2.setReg (E.DMA_ERROR_CODE n) code).setBlob (E.DMA_ERROR_AT n) (beBytes 8 d.tick ++ beBytes 8 c.addr)).report
    (bark (0x0800 + code) acc (iniDma n) false c.addr (leNat (slice c.desc 8 8)))

/-- The users of a queue pair's work fail (R486, R497). -/
def Dev.failUsers (d : Dev) (uses : List QpUse) : Dev :=
  uses.foldl (fun (a : Dev) u =>
    match u with
    | .dma ch => if (a.chan ch).state = .running || (a.chan ch).state = .paused then a.dmaFail ch 3 (ddHostAccess (a.chan ch).desc) else a
    | .bridge | .interrupt _ | .dropped => a) d

/-- What a queue pair serves: its work, and the descriptors that paused channels hold for it (R497). -/
def Dev.qpUses (d : Dev) (q : Nat) : List QpUse :=
  let x := d.qp q
  (x.sent ++ x.queue).map (fun (r : QpReq) => r.use) ++
    (d.dma.filter (fun (e : Nat × DmaCh) => e.2.state = .paused && ddOp e.2.desc != 1 && ddQp e.2.desc = q)).map
      (fun (e : Nat × DmaCh) => QpUse.dma e.1)

/-- A queue pair that leaves RTS gives up its bridge records, so that it sends nothing more for them (R485, R486).
(DEDUCED, log entry 105). -/
def Dev.dropRecords (d : Dev) (q : Nat) : Dev := { d with bridge := d.bridge.filter (fun r => r.qp != q) }

/-- A queue pair enters ERROR (R485, R486, R526). -/
def Dev.qpError (d : Dev) (q psn : Nat) : Dev :=
  let x := d.qp q
  let uses := d.qpUses q
  let d1 := (d.setQp q { x with state := 2, sent := [], queue := [], rx := none, retries := 0, rnrRetries := 0 }).dropRecords q
  ((d1.countErr (E.QP_ERRORS q)).report (bark 0x0A01 accNone (iniQp q) false q psn)).failUsers uses

/-- Send again everything outstanding, from the oldest on (R486). -/
def Dev.resendAll (d : Dev) (q : Nat) : Dev :=
  let x := d.qp q
  x.sent.foldl (fun (a : Dev) r => a.hostSend q (a.reqBytes q r)) (d.setQp q { x with sentAt := d.tick })

/-- A retry: resend, or ERROR once RETRY_COUNT retries are used up (R486). (DEDUCED, log entry 108). -/
def Dev.retry (d : Dev) (q : Nat) : Dev :=
  let x := d.qp q
  if d.reg (E.RETRY_COUNT q) ≤ x.retries then d.qpError q ((x.sent.head?.map (fun r => r.psn)).getD x.sqPsn)
  else (d.setQp q { x with retries := x.retries + 1 }).resendAll q

/-- The packets a positive acknowledgement of `psn` covers leave; a READ request stays until its responses come. -/
def ackPrefix (psn : Nat) : List QpReq → List QpReq
  | [] => []
  | r :: rest => if r.op != 0x0C && psnAhead psn (r.psn + r.npkts - 1) < 2 ^ 23 then ackPrefix psn rest else r :: rest

/-- Apply an acknowledgement of everything up to `psn`. (DEDUCED, log entry 108). -/
def Dev.acked (d : Dev) (q psn : Nat) : Dev :=
  let x := d.qp q
  let s := ackPrefix psn x.sent
  if s.length = x.sent.length then d
  else d.setQp q { x with sent := s, retries := 0, rnrRetries := 0, sentAt := d.tick }

/-! ## The leash (R222, R223) -/

/-- The leash of a destination. -/
def Dev.leash (d : Dev) (dest : Nat) : Leash :=
  (d.routing.leashes.find? (fun l => l.dest = dest)).getD { dest := dest, lastUp := d.tick }

/-- Replace the leash of a destination. -/
def Dev.setLeash (d : Dev) (l : Leash) : Dev :=
  { d with routing := { d.routing with leashes := d.routing.leashes.filter (fun m => m.dest != l.dest) ++ [l] } }

/-- A congestion signal for a destination (R222, R223). (DEDUCED, log entry 61). -/
def Dev.leashDown (d : Dev) (dest : Nat) : Dev :=
  let l := d.leash dest
  let ok : Bool := match l.lastDown with
    | some t => decide (t + d.reg E.LEASH_DOWN_TICKS ≤ d.tick)
    | none => true
  if ok then d.setLeash { l with rate := max (d.reg E.LEASH_MIN) (l.rate - l.rate / 4), lastDown := some d.tick, lastUp := d.tick } else d

/-- LEASH_UP (R223). (DEDUCED, log entry 61). -/
def execLeashUp (dest : BitVec 20) (s : State) : Host.Outcome State Fault Refusal :=
  run s fun d =>
    match d.routing.leashes.find? (fun l => l.dest = dest.toNat) with
    | none => d
    | some l =>
      if d.tick < l.lastUp + d.reg E.LEASH_UP_TICKS then d
      else d.setLeash { l with rate := min 256 (l.rate + d.reg E.LEASH_STEP_UP), lastUp := d.tick }

/-! ## The bridge's replies (R490, R491) -/

/-- What names a stream's destination (R226): rack and port, with the plane only for port 0xFF. -/
def streamKey (a : Nat) : Nat := if addrPort a = 0xFF then a else a - addrPlane a * 256

/-- A reply record goes back on its queue pair. -/
def Dev.bridgeAnswer (d : Dev) (r : BridgeRec) (from_ status len : Nat) (payload : List Byte) : Dev :=
  let d1 := if status = 0 then d else d.countErr E.BRIDGE_FAILED
  if (d.qp r.qp).state = 1 then
    d1.postSend r.qp (beBytes 3 from_ ++ beBytes 1 len ++ [0] ++ beBytes 1 status ++ beBytes 2 r.tag ++ padTo 64 payload)
  else d1

/-- Requests of a stream outstanding. -/
def Dev.streamOut (d : Dev) (key : Nat) : Nat := (d.routing.requests.filter (fun r => streamKey r.dest = key)).length

/-- The FWD cell of a bridge record (R491). -/
def Dev.bridgeCell (d : Dev) (r : BridgeRec) (mseq : Nat) : Cell :=
  mkCell (hdrTop tMsg cFWD 0 r.sl 0 0 + r.dest * 2 ^ 42 + d.ownAddr 0xFF * 2 ^ 22 + mseq * 2 ^ 6 + r.len) r.payload

end Sys2Proof.Machine
end

