-- ==== Sys2Proof/Machine/Routing.lean ====
section
/-! DEFINITION. Route tables, spraying, epochs, time-to-live, marks and the host bridge's requests (R200 to R231). -/

namespace Sys2Proof.Machine

/-! ## Contexts as the input stage finds them (R27, R315) -/

/-- A context. -/
def Dev.ctx (d : Dev) (n : Nat) : Ctx := tgetD d.ctxs n { pack := 0 }

/-- The record of a context, or an empty one. -/
def Ctx.rc (x : Ctx) : CollRec := x.record.getD {}

/-- The reduction unit of a chunk (R315). -/
def unitOf (n c : Nat) : Nat := (n + c) % 16

/-- The S-die and crossbar input of a reduction unit (R315). -/
def unitSdie (u : Nat) : Nat := u / 8
/-- R315. -/
def unitX (u : Nat) : Nat := 136 + u % 8

/-- The context bound to a pair. -/
def Dev.bound (d : Dev) (p s : Nat) : Option Nat :=
  match tget d.packs p with
  | none => none
  | some k => k.contexts.find? (fun n => (d.ctx n).state != .free && (d.ctx n).cseq = s)

/-! ## What a link carries (R3, R144 to R146) -/

/-- The record in a START's payload. -/
def startRecord (c : Cell) : CollRec :=
  let m := c.pay 3 1
  { collType := c.pay 0 1, elem := c.pay 1 1, op := c.pay 2 1, compact := bits m 0 1 = 1, upper := bits m 1 2,
    rounding := bits m 3 2, dup := bits m 5 1 = 1, count := c.pay 4 5, step := c.pay 9 6, tensor := c.pay 15 4,
    fused := c.pay 19 4, root := c.pay 23 1, shard := bits (c.pay 24 3) 0 20 }

/-- A record that FL2 does not carry (R144, R249, R375). -/
def needsFL3 (r : CollRec) (ring : Bool) : Bool :=
  !r.compact || r.fused != 0 || elemBlocks r.elem || (ring && (r.upper = 2 || r.upper = 3))

/-- A cell that FL2 does not carry: PROMO, a START whose record needs FL3, and the DATA and CHECK cells of a collective that
this switch knows to need it (R144, R249). (DEDUCED, log entry 179). -/
def Dev.fl3Only (d : Dev) (c : Cell) : Bool :=
  c.type = tPromo || (c.type = tStart && needsFL3 (startRecord c) true) ||
  (tData ≤ c.type && (match d.bound c.pack c.cseq with
    | some n => (d.ctx n).record.any (fun r => needsFL3 r true)
    | none => false))

/-- A START that this switch takes itself: from an endpoint, or for its own rack (R200, R296). -/
def Dev.ownStart (d : Dev) (c : Cell) : Bool := c.level = 0 || c.dstRack = d.reg E.PLAN_RACK

/-- A port may send a cell: an SX7 takes MSG and link-local cells only, and an FL2 link what R144 gives it. -/
def Dev.maySend (d : Dev) (c : Cell) (p : Nat) : Bool :=
  (d.peerKind p != 3 || c.type = tMsg || c.linkLocal) && !(d.reg (E.FABRIC_LEVEL p) = 2 && d.fl3Only c)

/-! ## Banks (R203, R214 to R218) -/

/-- A bank's state. -/
def Dev.bank (d : Dev) (b : Nat) : BankState := if b = 0 then d.routing.bank0 else d.routing.bank1

/-- Replace a bank's state. -/
def Dev.setBank (d : Dev) (b : Nat) (x : BankState) : Dev :=
  { d with routing := if b = 0 then { d.routing with bank0 := x } else { d.routing with bank1 := x } }

/-- INGRESS_EPOCH: the LIVE bank (R213, R214). -/
def Dev.ingressEpoch (d : Dev) : Nat := if d.routing.bank0 = .live then 0 else 1

/-- The key of a bank's table. (DEDUCED, log entry 53). -/
def localKey (b : Nat) : Nat := if b = 0 then E.ROUTE_LOCAL_0 else E.ROUTE_LOCAL_1
/-- The key of a bank's table. -/
def rackKey (b : Nat) : Nat := if b = 0 then E.ROUTE_RACK_0 else E.ROUTE_RACK_1
/-- The key of a bank's table. -/
def groupKey (b : Nat) : Nat := if b = 0 then E.RING_GROUPS_0 else E.RING_GROUPS_1

/-- Entry n of ROUTE_LOCAL (R204). -/
def Dev.routeLocal (d : Dev) (b n : Nat) : Nat := beNat (slice (d.blob (localKey b)) (2 * n) 2)
/-- Entry n of ROUTE_RACK (R205). -/
def Dev.routeRack (d : Dev) (b n : Nat) : Nat := beNat (slice (d.blob (rackKey b)) (2 * n) 2)
/-- The record of a ring group, X_PLUS, X_MINUS, Y_PLUS, Y_MINUS as 0 to 3 (R206). -/
def Dev.ringGroup (d : Dev) (b g : Nat) : List Byte := slice (d.blob (groupKey b)) (33 * g) 33
/-- The ports of a ring group, lowest first. -/
def Dev.groupPorts (d : Dev) (b g : Nat) : List Nat :=
  let m := leNat ((d.ringGroup b g).take 32)
  if m = 0 then [] else allPorts.filter (maskHas m)
/-- CROSSES_DATELINE of a group (R206). -/
def Dev.crosses (d : Dev) (b g : Nat) : Bool := beNat (slice (d.ringGroup b g) 32 1) % 2 = 1

/-- A slot whose cell waits in a queue of its input (R216). -/
def Kennel.inUse (k : Kennel) (i : Nat) : Bool := k.queues.any (fun e => e.2.contains i) || k.mqueues.any (fun e => e.2.contains i)

/-- Cells of an epoch that the device holds in input queues and in STA, those that came over a bridge and wait for their slot
among them, and in the replay buffers of the L-tiles and in RPY (R216). -/
def Dev.drainCount (d : Dev) (e : Nat) : Nat :=
  let held := fun (k : Kennel) =>
    (k.slots.filter (fun x => k.inUse x.1 && x.2.cell.any (fun c => c.epoch = e))).length +
      (k.waiting.filter (fun w => w.input = 132 && w.cell.epoch = e)).length
  held d.kennel0 + held d.kennel1 +
    (d.ports.map (fun x => (x.2.kept.filter (fun k => !k.cell.linkLocal && k.cell.epoch = e)).length)).sum

/-- The TTL entry of a class (R220). -/
def ttlKey (cls : Nat) : Nat := E.TTL_REQ + cls

/-- The largest TTL of 0x3210. -/
def Dev.ttlMax (d : Dev) : Nat := ((List.range 6).map (fun c => d.reg (ttlKey c))).foldl max 0

/-- FLIP_DRAIN_BOUND (R218). -/
def Dev.drainBound (d : Dev) : Nat := 2 * (d.ttlMax + 8192) + d.reg E.LANES_TIMEOUT_TICKS

/-! ## Stamping and expiry (R213, R219) -/

/-- EXPIRY stamped at a tick for a class (R219). -/
def Dev.stampExpiry (d : Dev) (cls : Nat) : Nat := bits (d.tick + d.reg (ttlKey cls)) 13 6

/-- Stamp EPOCH and EXPIRY on a cell that enters the fabric here (R213). -/
def Dev.stamp (d : Dev) (c : Cell) : Cell := (c.setFld 85 1 d.ingressEpoch).setFld 76 6 (d.stampExpiry c.cls)

/-- A cell is expired at a tick (R219). -/
def expiredAt (tick : Nat) (c : Cell) : Bool :=
  let v := (bits tick 13 6 + 64 - c.expiry) % 64
  1 ≤ v && v ≤ 32

/-! ## Weights and spraying (R211, R212) -/

/-- The weight of a port (R211), from the two values last passed on for it (R87). -/
def Dev.weight (d : Dev) (p : Nat) : Nat :=
  let x := d.port p
  if x.state != .up then 0
  else
    let pm := x.passedMargin
    let m := if d.reg E.SPRAY_MARGIN_GOOD ≤ pm then 4 else if d.reg E.MARGIN_LOW ≤ pm then 2 else 1
    let q := (d.kennel (sdieOf p)).queueQ (p % 128)
    let c := 8 - min 7 (q / max 1 (d.reg E.SPRAY_QUEUE_STEP))
    x.passedCap / 100 * m * c

/-- Take the weights of this tick, once, before its first enqueue changes a queue: they hold for the whole
tick (R211). -/
def Dev.takeWeights (d : Dev) : Dev :=
  if d.routing.weightTick = some d.tick then d
  else
    let ps := ((List.range 2).flatMap (fun b => (List.range 4).flatMap (fun g => d.groupPorts b g))).eraseDups
    let w := ps.foldl (fun (t : Tbl Nat) p => tset t p (d.weight p)) []
    { d with routing := { d.routing with weights := w, weightTick := some d.tick } }

/-- The weight in force of a port in a group; a port no longer UP has none. -/
def Dev.weightNow (d : Dev) (p : Nat) : Nat := if (d.port p).state = .up then tgetD d.routing.weights p 0 else 0

/-- The sum of a group's weights. -/
def Dev.groupWeight (d : Dev) (b g : Nat) : Nat := ((d.groupPorts b g).map d.weightNow).sum

/-- The key of a spray accumulator. -/
def accKey (s g p : Nat) : Nat := (s * 4 + g) * 256 + p

/-- The port with the largest accumulator, lowest number on a tie. (DEDUCED, log entry 55). -/
def bestAcc (acc : Tbl Int) (s g : Nat) (ps : List Nat) : Option Nat :=
  ps.foldl (fun (b : Option Nat) p =>
    match b with
    | none => some p
    | some q => if tgetD acc (accKey s g q) 0 < tgetD acc (accKey s g p) 0 then some p else some q) none

/-- One choice of an S-die's selector for a group (R212) among the ports that may carry the cell (R355): the accumulators run
over the whole group. (DEDUCED, log entry 55). -/
def Dev.spray (d : Dev) (s b g : Nat) (ok : Nat → Bool) : Option Nat × Dev :=
  let ps := d.groupPorts b g
  let live := ps.filter (fun p => 0 < d.weightNow p)
  let a1 := live.foldl (fun (a : Tbl Int) p => tset a (accKey s g p) (tgetD a (accKey s g p) 0 + (d.weightNow p : Int))) d.routing.acc
  match bestAcc a1 s g (live.filter ok) with
  | none => (none, d)
  | some p =>
    let a2 := tset a1 (accKey s g p) (tgetD a1 (accKey s g p) 0 - (d.groupWeight b g : Int))
    let a3 := (ps.filter (fun q => d.weightNow q = 0)).foldl (fun (a : Tbl Int) q => tset a (accKey s g q) 0) a2
    (some p, { d with routing := { d.routing with acc := a3 } })

/-! ## The choice of output (R208 to R210) -/

/-- What the input stage does with a routed cell. -/
inductive Route where
  | noRoute
  | stale
  | misrouted
  /-- For this switch itself (R202), or its reduction units (R200). -/
  | self
  /-- Out of a physical port, with the DL it leaves with. -/
  | port (p : Nat) (dl : Nat)
  deriving DecidableEq, Repr

/-- The group of a bank that holds a port. -/
def Dev.groupOf (d : Dev) (b p : Nat) : Option Nat := (List.range 4).find? (fun g => (d.groupPorts b g).contains p)

/-- The opposite group. -/
def groupOpp (g : Nat) : Nat := if g % 2 = 0 then g + 1 else g - 1

/-- The group to enter a dimension by (R209): base 0 for X, 2 for Y; code 1 plus, 2 minus, 3 either. -/
def Dev.enterGroup (d : Dev) (b base code : Nat) : Nat :=
  if code = 1 then base else if code = 2 then base + 1
  else if d.groupWeight b base < d.groupWeight b (base + 1) then base + 1 else base

/-- Leave by a group: spray, the dateline check and DL (R201, R210, R212, R355). `cont` when the cell continues in the
ring it arrived on. -/
def Dev.leaveBy (d : Dev) (s b g : Nat) (cont : Bool) (fromPort : Bool) (c : Cell) : Route × Dev :=
  if fromPort && c.dl = 1 && d.crosses b g then (.misrouted, d)
  else
    match d.spray s b g (d.maySend c) with
    | (none, d1) => (.noRoute, d1)
    | (some p, d1) => (.port p (if d.crosses b g then 1 else if cont then c.dl else 0), d1)

/-- Route a cell under the bank of its EPOCH (R208). `x` is the crossbar input it came in on, a fabric port below 128.
(DEDUCED, log entry 53). -/
def Dev.route (d0 : Dev) (s x : Nat) (c : Cell) : Route × Dev :=
  let d := (d0.takeWeights.sramRead 4 (s * 256 + c.epoch) (iniXbar s x)).2
  let arr := if x < 128 then some x else none
  let b := c.epoch
  let form := 9 ≤ c.type
  if d.bank b = .idle then (.stale, d)
  else if !form && addrPlane c.dst != d.reg E.PLAN_PLANE then (.misrouted, d)
  else
    let e := d.routeRack b (if form then c.dstRack else addrRack c.dst)
    let xd := bits e 10 2
    let yd := bits e 8 2
    let g := match arr with
      | some p => d.groupOf b p
      | none => none
    let fp := arr.isSome
    if bits e 15 1 = 0 then (.noRoute, d)
    else
      let enter : Unit → Route × Dev := fun _ =>
        if bits e 14 1 = 1 then
          if form then (.self, d)
          else if addrPort c.dst = 0xFF then (.self, d)
          else
            let r := d.routeLocal b (addrPort c.dst)
            let p := bits r 0 8
            if bits r 15 1 = 0 || (d.port p).state != .up || !d.maySend c p then (.noRoute, d) else (.port p 0, d)
        else if xd != 0 then d.leaveBy s b (d.enterGroup b 0 xd) false fp c
        else if yd != 0 then d.leaveBy s b (d.enterGroup b 2 yd) false fp c
        else (.noRoute, d)
      match g with
      | none => enter ()
      | some gi =>
        if gi < 2 && xd != 0 then d.leaveBy s b (groupOpp gi) true fp c
        else if 2 ≤ gi && yd != 0 then d.leaveBy s b (groupOpp gi) true fp c
        else if 2 ≤ gi && xd != 0 then (.noRoute, d)
        else enter ()

/-- A routing drop: counted, for the open map too where no route was found, with a corrected fault (R201, R209, R214, R531,
R567). -/
def Dev.routeDrop (d : Dev) (s x port : Nat) (key kind : Nat) (c : Cell) : Dev :=
  let d1 := d.countErr key
  (if key = E.NO_ROUTE s then d1.updMap s (fun m => { m with noRoute := m.noRoute + 1 }) else d1).report
    (bark kind accCellRx (iniXbar s x) false port (c.hdr.toNat / 2 ^ 32))

/-- The RPL that answers a request addressed to this switch (R202), with the echo of its CE (R222).
(DEDUCED, log entry 50). -/
def Dev.selfReply (d : Dev) (c : Cell) : Cell :=
  d.stamp ((mkCell (hdrTop tMsg cRPL 0 c.sl 0 0 + c.srcAddr * 2 ^ 42 + c.dst * 2 ^ 22 + c.mseq * 2 ^ 6) [0xFF]).setFld 83 1 c.ce)

/-- The bridge, where a cell passes from an S-die to a unit behind a port of the other (R22, R315). -/
def bridgeTo (s t : Nat) : List Nat := if s = t then [] else [16]

/-! ## Admission of internal inputs (R166, R180, R187, R190) -/

/-- An internal input may take a slot of STA for a VC: it is below its limit, and a rebuild has threaded a slot. -/
def Dev.staRoom (d : Dev) (s input vc : Nat) : Bool :=
  let k := (d.kennel s).walk d.tick
  k.staHeld input vc < d.staLimit input && !(k.rebuild.isSome && k.free = [])

/-- A cell as it enters the fabric at an internal input: stamped then, but for one that came over the bridge, which was stamped
where it entered (R213, R215). -/
def Dev.entering (d : Dev) (w : WaitCell) : Cell := if w.input = 132 then w.cell else d.stamp w.cell

/-- Enqueue a cell of an internal input, its outputs found now (R166): whether it left the input. One for which no room is
there leaves the selectors as they were. -/
def Dev.place (d : Dev) (s : Nat) (w : WaitCell) : Bool × Dev :=
  let c := d.entering w
  let put : Dev → List Nat → Bool → Cell → Bool × Dev := fun a dest multi c1 =>
    match a.allocate s .sta w.input c.sl with
    | (some i, b) => (true, b.enqueue s i w.input c.vc dest multi c1)
    | (none, b) => (false, { b with routing := d.routing })
  let drop : Dev → Nat → Nat → Bool × Dev := fun a key kind => (true, a.routeDrop s w.input 0xFF key kind c)
  if !d.staRoom s w.input c.vc then (false, d)
  else
    match w.way with
    | .ports multi => put d w.dest multi c
    | .ring g =>
      match d.takeWeights.spray s d.ingressEpoch g (d.maySend c) with
      | (none, d1) => drop d1 (E.NO_ROUTE s) 0x0302
      | (some p, d1) => put d1 [p] false (c.setFld 88 1 (if d.crosses d.ingressEpoch g then 1 else 0))
    | .table =>
      match d.route s w.input c with
      | (.noRoute, d1) => drop d1 (E.NO_ROUTE s) 0x0302
      | (.stale, d1) => drop d1 (E.STALE_EPOCH s) 0x0303
      | (.misrouted, d1) => drop d1 (E.MISROUTED s) 0x0301
      | (.self, d1) =>
        let links := bridgeTo s 0 ++ [17]
        (true, if d1.arrives links then (d1.cross links).emit (.internal d.tick 0 133 c) else d1.cross links)
      | (.port p dl, d1) =>
        match put d1 [p] false (c.setFld 88 1 dl) with
        | (true, d2) => (true, d2.count (E.ROUTED s))
        | r => r

/-- Hold a cell back at its input. -/
def Dev.holdBack (d : Dev) (s : Nat) (w : WaitCell) : Dev :=
  let k := d.kennel s
  d.setKennel s { k with waiting := k.waiting ++ [w] }

/-- Two cells of one input and VC: the input emits them in order. -/
def WaitCell.sameLine (a b : WaitCell) : Bool := a.input = b.input && a.cell.vc = b.cell.vc

/-- The package link that a cell takes to an internal input (R22, R164): a compute link or the host link; a reduction unit
needs none, and a cell has paid for the bridge where it left. -/
def inLink (s x : Nat) : List Nat :=
  if 128 ≤ x ∧ x < 132 then [4 * s + (x - 128)] else if x = 133 then [17] else []

/-- No credit goes back to the host link while KEEPALIVE is being entered, so its requests wait (R616). -/
def Dev.hostStopped (d : Dev) (w : WaitCell) : Bool := d.power.sleep = .entering && w.input = 133 && w.cell.type = tMsg

/-- A cell that an internal input emits: enqueued, or held back behind those of its VC (R180, R190). -/
def Dev.takeIn (d0 : Dev) (s : Nat) (w : WaitCell) : Dev :=
  let d := d0.cross (inLink s w.input)
  if !d0.arrives (inLink s w.input) then d
  else if (d.kennel s).waiting.any w.sameLine || d.hostStopped w then d.holdBack s w
  else
    match d.place s w with
    | (true, d1) => d1
    | (false, d1) => d1.holdBack s w

/-- The heads of the lines of waiting cells. -/
def waitHeads (ws : List WaitCell) : List WaitCell :=
  ws.foldl (fun acc w => if acc.any w.sameLine then acc else acc ++ [w]) []

/-- The waiting cell that an S-die serves next: the highest SL, then the lowest crossbar port (R187), of the lines that are
not stopped. -/
def nextWaiting (ws stopped : List WaitCell) : Option WaitCell :=
  ((waitHeads ws).filter (fun w => !stopped.any w.sameLine)).foldl (fun (b : Option WaitCell) w =>
    match b with
    | none => some w
    | some q => if (3 - w.cell.sl) * 256 + w.input < (3 - q.cell.sl) * 256 + q.input then some w else some q) none

/-- Serve waiting cells until every line is empty or stopped. -/
def Dev.serveWaiting (d : Dev) (s : Nat) (stopped : List WaitCell) (fuel : Nat) : Dev :=
  match fuel with
  | 0 => d
  | n + 1 =>
    match nextWaiting (d.kennel s).waiting stopped with
    | none => d
    | some w =>
      if d.hostStopped w then d.serveWaiting s (w :: stopped) n
      else match d.place s w with
      | (true, d1) =>
        let k := d1.kennel s
        (d1.setKennel s { k with waiting := k.waiting.erase w }).serveWaiting s stopped n
      | (false, d1) => d1.serveWaiting s (w :: stopped) n

/-- Let waiting cells of internal inputs in, as far as their limits allow (R180, R187). -/
def Dev.admitWaiting (d : Dev) (s : Nat) : Dev := d.serveWaiting s [] (2 * (d.kennel s).waiting.length)

/-- Send a cell that a unit inside the package emits, by table (R200, R213). `s`, `x`: its crossbar input. -/
def Dev.emitRouted (d : Dev) (s x : Nat) (c : Cell) : Dev := d.takeIn s ⟨x, .table, [], d.stamp c⟩

/-- Send a cell out of chosen physical ports, not by table: multicast when there are several (R168, R173), and to none that may
not carry it (R144, R146). -/
def Dev.emitPorts (d : Dev) (s x : Nat) (c0 : Cell) (ports : List Nat) : Dev :=
  let c := d.stamp c0
  let ps := ports.filter (d.maySend c)
  if ps = [] then d else d.takeIn s ⟨x, .ports (1 < ps.length), ps, c⟩

/-! ## The host bridge (R227, R491) -/

/-- One record held by the bridge, of which `kept` are those before it: it is sent as a FWD request once its stream
has room (R227) and no record before it of its message waits (R491), and a request without a route is answered at once.
(DEDUCED, log entry 60). -/
def Dev.bridgeOne (z : List BridgeRec × Dev) (r : BridgeRec) : List BridgeRec × Dev :=
  let d := z.2
  let key := streamKey r.dest
  if r.mseq.isSome || d.reg E.E2E_WINDOW ≤ d.streamOut key || z.1.any (fun k => k.mseq.isNone && k.qp = r.qp && k.msg = r.msg) then (z.1 ++ [r], d)
  else
    let m := tgetD d.routing.mseq key 0
    let c := d.stamp (d.bridgeCell r m)
    let sent : Dev → List BridgeRec × Dev := fun a =>
      let b := { a with routing := { a.routing with mseq := tset a.routing.mseq key ((m + 1) % 65536),
                                                    requests := a.routing.requests ++ [E2eReq.mk r.dest m c a.tick 0] } }
      (z.1 ++ [{ r with mseq := some m }], (b.setLeash (b.leash r.dest)).count E.BRIDGE_SENT)
    match d.route 0 133 c with
    | (.noRoute, d1) => (z.1, (d1.routeDrop 0 133 0xFF (E.NO_ROUTE 0) 0x0302 c).bridgeAnswer r r.dest 2 0 [])
    | (.self, d1) => (z.1, ((d1.count E.BRIDGE_SENT).count (E.SELF_REQUESTS 0)).bridgeAnswer r r.dest 0 0 [0xFF])
    | _ => sent (d.emitRouted 0 133 c)

/-- Send what the bridge holds, in order, as far as the windows allow. (DEDUCED, log entry 60). -/
def Dev.bridgePump (d : Dev) : Dev :=
  let z := d.bridge.foldl Dev.bridgeOne ([], d)
  { z.2 with bridge := z.1 }

/-- The record of an outstanding request leaves the bridge, and its reply goes to the host. -/
def Dev.bridgeEnd (d : Dev) (rq : E2eReq) (from_ status len : Nat) (payload : List Byte) : Dev :=
  let hit := fun (r : BridgeRec) => decide (r.mseq = some rq.mseq ∧ streamKey r.dest = streamKey rq.dest)
  let d1 := { d with routing := { d.routing with requests := d.routing.requests.filter (· != rq) } }
  match d.bridge.find? hit with
  | none => d1
  | some r => (({ d1 with bridge := d.bridge.filter (fun x => !hit x) }).bridgeAnswer r from_ status len payload).bridgePump

/-- An RPL reaches the bridge: it answers its request, or is discarded (R202, R222, R227). -/
def Dev.bridgeTake (d : Dev) (c : Cell) : Dev :=
  match d.routing.requests.find? (fun r => streamKey r.dest = streamKey c.srcAddr && r.mseq = c.mseq) with
  | none => d
  | some rq => ((if c.ce = 1 || c.ece = 1 then d.leashDown rq.dest else d).bridgeEnd rq c.srcAddr 0 c.len c.payload)

/-- E2E_TIMEOUT (R227): the request is sent again, or fails to the host once its resends have gone unanswered. A resend that
finds no route is dropped and counts as one. (DEDUCED, log entry 62). -/
def execE2eTimeout (dest : BitVec 20) (seq : BitVec 16) (s : State) : Host.Outcome State Fault Refusal :=
  run s fun d =>
    match d.routing.requests.find? (fun r => r.dest = dest.toNat && r.mseq = seq.toNat) with
    | none => d
    | some rq =>
      if d.tick < rq.sentAt + d.reg E.E2E_TIMEOUT_TICKS then d
      else if d.reg E.E2E_RETRIES ≤ rq.resends then d.bridgeEnd rq rq.dest 1 0 []
      else
        let again := { d with routing := { d.routing with requests := d.routing.requests.map (fun r =>
          if r = rq then { r with resends := r.resends + 1, sentAt := d.tick } else r) } }
        again.emitRouted 0 133 rq.cell

/-- The destination of a collective cell whose context is bound: its reduction unit, on whichever S-die it is (R315). -/
def Dev.unitDest (d : Dev) (c : Cell) : Option Nat :=
  (if tData ≤ c.type then d.bound c.pack c.cseq else none).map (fun n => innerDest (unitSdie (unitOf n c.chunk)) (unitX (unitOf n c.chunk)))

/-- The input stage for a cell a fabric port accepted (R166, R202, R208). One for a reduction unit or the host bridge waits in a
queue for that output (R165); one for the contexts' control or an engine passes through a slot in this step (R184, R185).
(DEDUCED, log entry 44). -/
def Dev.inputStage (d : Dev) (p : Nat) (c : Cell) : Dev :=
  let s := sdieOf p
  let x := p % 128
  let back := fun (a : Dev) => a.returnCredit p c.vc (c.sh = 1)
  let pass := fun (a : Dev) (f : Dev → Dev) =>
    match a.passIn p c with
    | (true, b) => f b
    | (false, b) => b
  let deliver := fun (a : Dev) => a.emit (.deliver d.tick (portFin p) c)
  let toUnit := fun (a : Dev) =>
    match a.unitDest c with
    | some u => a.letIn p c c [u]
    | none => pass a deliver
  if 9 ≤ c.type && c.level = 0 then toUnit d
  else if c.type = tCtrl && c.op = 0x20 then pass d deliver
  else
    match d.route s p c with
    | (.noRoute, d1) => back (d1.routeDrop s x p (E.NO_ROUTE s) 0x0302 c)
    | (.stale, d1) => back (d1.routeDrop s x p (E.STALE_EPOCH s) 0x0303 c)
    | (.misrouted, d1) => back (d1.routeDrop s x p (E.MISROUTED s) 0x0301 c)
    | (.self, d1) =>
      if c.type = tMsg && (c.cls = cREQ || c.cls = cFWD) then
        pass d1 (fun a =>
          let b := (a.count (E.SELF_REQUESTS s)).cross (bridgeTo s 0)
          if a.arrives (bridgeTo s 0) then b.emitRouted 0 133 (a.selfReply c) else b)
      else if c.type = tMsg then d1.letIn p c c [innerDest 0 133]
      else if 9 ≤ c.type then toUnit d1
      else pass d1 deliver
    | (.port q dl, d1) => (d1.count (E.ROUTED s)).letIn p c (c.setFld 88 1 dl) [q]

/-! ## Commands -/

/-- EPOCH_FLIP: the flip tick is reached (R214). (DEDUCED, log entry 3). -/
def bareEpochFlip (s : State) : Host.Outcome State Fault Refusal :=
  run s fun d =>
    match d.routing.flipTick with
    | none => d
    | some t =>
      if d.tick < t then d
      else
        let live := d.ingressEpoch
        let d1 := (d.setBank live .draining).setBank (1 - live) .live
        ({ d1 with routing := { d1.routing with flipTick := none, stuckFrom := some t } }).setReg E.LAST_FLIP_TICK t

/-- A bank retires to IDLE (R214). -/
def Dev.retire (d : Dev) (b : Nat) : Dev := d.setBank b .idle

/-- BANK_RETIRE is refused (R231). -/
def Dev.refuseRetire (d : Dev) (b : Nat) : Option Status :=
  if d.bank b = .draining && d.drainCount b = 0 then none else some .stateConflict

/-- DRAIN_STUCK (R214): once per flip, uncorrected-contained, counted on the S-dies that hold such cells.
(DEDUCED, log entry 54). -/
def execDrainStuck (bank : Fin 2) (s : State) : Host.Outcome State Fault Refusal :=
  run s fun d =>
    match d.routing.stuckFrom with
    | none => d
    | some t =>
      if d.bank bank.val = .draining && t + d.drainBound ≤ d.tick && 0 < d.drainCount bank.val then
        let d1 := { d with routing := { d.routing with stuckFrom := none } }
        (d1.countErr (E.DRAIN_STUCK 0)).report (bark 0x0304 accNone iniNone false bank.val (d.drainCount bank.val))
      else d

/-- FLIP_TICK is refused (R215). -/
def Dev.refuseFlip (d : Dev) (t : Nat) : Option Status :=
  if t = 0 then none
  else if t < d.tick + 64 then some .invalidValue
  else if d.routing.flipTick.isSome then some .stateConflict
  else if d.bank (1 - d.ingressEpoch) != .idle then some .stateConflict
  else none

/-- FLIP_TICK is written (R215). -/
def Dev.writeFlip (d : Dev) (t : Nat) : Dev :=
  { d with routing := { d.routing with flipTick := if t = 0 then none else some t } }

/-- A write to a bank's table is refused (R207). Reserved bits are non-zero: R14. -/
def Dev.refuseTable (d : Dev) (b : Nat) (d1 : Dev) : Option Status :=
  let es := List.range 256
  let ringBytes := (List.range 4).any (fun g => 1 < beNat (slice (d1.ringGroup b g) 32 1))
  let locRes := es.any (fun n => bits (d1.routeLocal b n) 8 7 != 0) || d1.routeLocal b 255 != 0
  let rackRes := es.any (fun n => bits (d1.routeRack b n) 12 2 != 0 || bits (d1.routeRack b n) 0 8 != 0)
  let gp := (List.range 4).flatMap (fun g => d1.groupPorts b g)
  let inGroup := gp != [] && es.any (fun n => bits (d1.routeLocal b n) 15 1 = 1 && gp.contains (bits (d1.routeLocal b n) 0 8))
  let localDir := es.any (fun n => bits (d1.routeRack b n) 14 1 = 1 && bits (d1.routeRack b n) 8 4 != 0)
  if ringBytes || locRes || rackRes || gp.length != gp.eraseDups.length || inGroup || localDir then some .invalidValue
  else if d.bank b != .idle then some .stateConflict
  else none

end Sys2Proof.Machine
end

