-- ==== Sys2Proof/Machine/Span.lean ====
section
/-! DEFINITION. Packs and the geometry of collectives across racks: members, ranks, homes, arms, roles
(R277 to R281, R346 to R355), and the parts of a chain descriptor that they need (R419, R420). -/

namespace Sys2Proof.Machine

/-! ## Chain descriptors (R419, R420) -/

/-- A step record of a descriptor. -/
def chainStep (desc : List Byte) (i : Nat) : List Byte := slice desc (64 + 64 * i) 64

/-- A field of a stored structure, least significant byte first (R12). -/
def leField (bs : List Byte) (a n : Nat) : Nat := leNat (slice bs a n)

/-- CHAIN_ID. -/
def chainIdOf (desc : List Byte) : Nat := leField desc 0 4
/-- NSTEPS. -/
def chainN (desc : List Byte) : Nat := leField desc 4 1
/-- OP of a step. -/
def stepOp (desc : List Byte) (i : Nat) : Nat := leField (chainStep desc i) 0 1
/-- FLAGS of a step. -/
def stepFlags (desc : List Byte) (i : Nat) : Nat := leField (chainStep desc i) 1 1
/-- The OPs of a chain's steps. -/
def chainOps (desc : List Byte) : List Nat := (List.range (chainN desc)).map (stepOp desc)

/-- The operators of R420. -/
def oCLIP : Nat := 1
/-- R420. -/
def oMOMENTUM : Nat := 2
/-- R420. -/
def oADAMW : Nat := 3
/-- R420. -/
def oKFAC : Nat := 4
/-- R420. -/
def oQUANT : Nat := 5
/-- R420. -/
def oLOWRANK : Nat := 6
/-- R420. -/
def oTOPK : Nat := 7
/-- R420. -/
def oEXPERT : Nat := 8
/-- R420. -/
def oPROGRAM : Nat := 9
/-- R420. -/
def oSOURCE : Nat := 10

/-- A chain's roles (R421). -/
inductive ChainRole where
  | gradient | group | source | route | combine
  deriving DecidableEq, Repr

/-- The role a chain's steps give it; none where they break R421. -/
def chainRole (desc : List Byte) : Option ChainRole :=
  let ops := chainOps desc
  match ops with
  | [] => none
  | [10] => some .source
  | [7] => some .route
  | [8] => some .combine
  | _ =>
    if ops = [oCLIP] && bits (stepFlags desc 0) 0 1 = 1 then some .group
    else
      let body := if ops.head? = some oLOWRANK then ops.drop 1 else ops
      let body' := if body.getLast? = some oQUANT then body.dropLast else body
      let clipsOk := (List.range (chainN desc)).all (fun i => stepOp desc i != oCLIP || bits (stepFlags desc i) 0 1 = 0)
      if body'.all (fun o => [oCLIP, oMOMENTUM, oADAMW, oKFAC, oPROGRAM].contains o) && clipsOk &&
          (body'.filter (fun o => o = oMOMENTUM || o = oADAMW)).length ≤ 1 then some .gradient
      else none

/-- STATE_ADDR. -/
def chState (desc : List Byte) : Nat := leField desc 32 8

/-- The C-die that holds a chain's state (R470). -/
def chainDie (desc : List Byte) : Nat := tierStack (chState desc) / 2

/-- The slot that holds a chain identity in state LOADED. -/
def Dev.chainSlotOf (d : Dev) (id : Nat) : Option Nat :=
  ((d.chains.find? (fun e => e.2.desc != [] && chainIdOf e.2.desc = id))).map (·.1)

/-- The descriptor of a loaded chain; empty when none is loaded. -/
def Dev.chainDesc (d : Dev) (id : Nat) : List Byte :=
  match d.chainSlotOf id with
  | some s => (tgetD d.chains s {}).desc
  | none => []

/-- The role of the chain a record names. -/
def Dev.roleOf (d : Dev) (r : CollRec) : Option ChainRole := if r.fused = 0 then none else chainRole (d.chainDesc r.fused)

/-- The loaded image of a program (R471, R473). -/
def Dev.progImage (d : Dev) (id : Nat) : List Byte :=
  ((d.programs.find? (fun e => e.2.loaded != [] && leField e.2.loaded 0 4 = id)).map (·.2.loaded)).getD []

/-- NSTATE of a loaded program. -/
def Dev.progNState (d : Dev) (id : Nat) : Nat := leField (d.progImage id) 5 1

/-- A chain with state: one of its steps has fields in the slots (R427, R445, R458). -/
def Dev.stateful (d : Dev) (desc : List Byte) : Bool :=
  (List.range (chainN desc)).any (fun i =>
    let o := stepOp desc i
    o = oMOMENTUM || o = oADAMW || o = oKFAC || o = oQUANT || (o = oPROGRAM && d.progNState (leField (chainStep desc i) 8 4) != 0))

/-- The parameters of a TOPK_ROUTE step (R420). -/
structure RouteParams where
  experts : Nat
  ksel : Nat
  dchunks : Nat
  cap : Nat
  router : Nat
  mapAddr : Nat
  all : Bool
  deriving DecidableEq, Repr

/-- The router's parameters of a ROUTE chain. -/
def routeParams (desc : List Byte) : RouteParams :=
  let s := chainStep desc 0
  { experts := leField s 8 2, ksel := leField s 10 1, dchunks := leField s 11 1, cap := leField s 12 2, router := leField s 16 8,
    mapAddr := leField s 24 8, all := bits (leField s 1 1) 0 1 = 1 }

/-- The router's parameters that a record's chain uses: its own for EXPERT_DISPATCH, its dispatch chain's for
EXPERT_COMBINE (R420, R444). -/
def Dev.routeOf (d : Dev) (r : CollRec) : RouteParams :=
  let desc := d.chainDesc r.fused
  if r.collType = 8 then routeParams (d.chainDesc (leField (chainStep desc 0) 8 4)) else routeParams desc

/-- The identity of the ROUTE chain behind a record. -/
def Dev.routeChainOf (d : Dev) (r : CollRec) : Nat :=
  if r.collType = 8 then leField (chainStep (d.chainDesc r.fused) 0) 8 4 else r.fused

/-! ## Members and ranks (R280, R348) -/

/-- MEMBERS of a pack as a mask. -/
def Dev.membersMask (d : Dev) (p : Nat) : Nat := leNat (d.blob (E.MEMBERS p))

/-- Ports of a mask, lowest first. -/
def portsOf (m : Nat) : List Nat := allPorts.filter (maskHas m)

/-- The racks that take part and their member counts, by position (R346, R348). -/
structure Layout where
  own : Nat
  /-- (n, MCOUNT) by ascending n. -/
  racks : List (Nat × Nat)
  nx : Nat
  ny : Nat
  members : List Nat
  spanning : Bool
  deriving DecidableEq, Repr

/-- A hierarchy record's racks (R346). -/
def hierRacks (rec : List Byte) : List (Nat × Nat) :=
  let xs := beNat (slice rec 0 2)
  let ys := beNat (slice rec 2 2)
  ((List.range 256).filter (fun n => maskHas xs (n / 16) && maskHas ys (n % 16))).map (fun n => (n, beNat (slice rec (16 + n) 1)))

/-- The layout of a pack with members `m` and HIERARCHY `h`. -/
def Dev.layoutOf (d : Dev) (m h : Nat) : Layout :=
  let ports := portsOf m
  let own := d.reg E.PLAN_RACK
  { own := own, racks := if h = 0 then [(own, ports.length)] else hierRacks (d.blob (E.HIER_RECORD h)),
    nx := d.reg E.PLAN_NX, ny := d.reg E.PLAN_NY, members := ports, spanning := h != 0 }

/-- The layout of an ACTIVE pack. -/
def Dev.layout (d : Dev) (p : Nat) : Layout :=
  match tget d.packs p with
  | some k => d.layoutOf k.members k.hier
  | none => d.layoutOf (d.membersMask p) (d.reg (E.HIERARCHY p))

/-- R, the number of racks. -/
def Layout.count (y : Layout) : Nat := y.racks.length

/-- M, the number of ranks. -/
def Layout.ranks (y : Layout) : Nat := (y.racks.map (·.2)).sum

/-- Ranks in the racks of lower position than a rack. -/
def Layout.base (y : Layout) (rack : Nat) : Nat := ((y.racks.filter (fun e => e.1 < rack)).map (·.2)).sum

/-- The rank of a local member (R280, R348). -/
def Layout.rankOf (y : Layout) (port : Nat) : Nat := y.base y.own + (y.members.filter (· < port)).length

/-- The rack of a rank. -/
def Layout.rackOfRank (y : Layout) (r : Nat) : Nat :=
  ((y.racks.find? (fun e => y.base e.1 ≤ r && r < y.base e.1 + e.2)).map (·.1)).getD y.own

/-- The local member of a rank, when it lies in this rack. -/
def Layout.portOfRank (y : Layout) (r : Nat) : Option Nat := y.members.find? (fun p => y.rankOf p = r)

/-- The rack at a position. -/
def Layout.at (y : Layout) (i : Nat) : Nat := ((y.racks[i % max 1 y.count]?).map (·.1)).getD y.own

/-! ## Records (R281 to R285) -/

/-- NCHUNK (R283). -/
def CollRec.nchunk (r : CollRec) : Nat := (r.count + eChunk r.elem - 1) / eChunk r.elem

/-- The elements of a chunk (R283). -/
def CollRec.chunkCount (r : CollRec) (c : Nat) : Nat :=
  if c + 1 < r.nchunk then eChunk r.elem else r.count - (r.nchunk - 1) * eChunk r.elem

/-- The collective types of R281. -/
def kALLREDUCE : Nat := 1
/-- R281. -/
def kREDSCAT : Nat := 2
/-- R281. -/
def kGATHER : Nat := 3
/-- R281. -/
def kBCAST : Nat := 4
/-- R281. -/
def kREDUCE : Nat := 5
/-- R281. -/
def kDISPATCH : Nat := 7
/-- R281. -/
def kCOMBINE : Nat := 8

/-- The operators of R282. -/
def pNONE : Nat := 0
/-- R282. -/
def pSUM : Nat := 1
/-- R282. -/
def pMAX : Nat := 2
/-- R282. -/
def pMIN : Nat := 3
/-- R282. -/
def pBAND : Nat := 4
/-- R282. -/
def pBOR : Nat := 5
/-- R282. -/
def pBXOR : Nat := 6
/-- R282. -/
def pWSUM : Nat := 7

/-- The operator is one of the bitwise ones. -/
def opBitwise (o : Nat) : Bool := o = pBAND || o = pBOR || o = pBXOR

/-- The operator sums. -/
def opSums (o : Nat) : Bool := o = pSUM || o = pWSUM || o = pNONE

/-! ## Homes (R349) and arms (R350) -/

/-- The rank whose token or slot an expert chunk belongs to (R441, R443, R444). -/
def Dev.expertOwner (d : Dev) (y : Layout) (r : CollRec) (c : Nat) : Nat :=
  if r.collType = kDISPATCH then c / max 1 r.shard
  else
    let q := d.routeOf r
    c / max 1 q.dchunks / max 1 q.cap % max 1 y.ranks

/-- The rank that hosts the expert of a global slot (R443, R444). -/
def Dev.expertHost (d : Dev) (y : Layout) (r : CollRec) (slot : Nat) : Nat :=
  let q := d.routeOf r
  let e := slot / max 1 q.cap / max 1 y.ranks
  ((d.routes.find? (fun x => x.chain = d.routeChainOf r && x.step = r.step && x.tensor = r.tensor)).map
    (fun x => x.map.getD e 0)).getD (leNat (memRead d.mem (q.mapAddr + 2 * e) 2))

/-- The home rack of a chunk (R349). -/
def Dev.home (d : Dev) (y : Layout) (r : CollRec) (c : Nat) : Nat :=
  if r.collType = kALLREDUCE then y.at (c + r.tensor)
  else if r.collType = kREDSCAT || r.collType = kGATHER then y.rackOfRank (c / max 1 r.shard)
  else if r.collType = kBCAST || r.collType = kREDUCE then y.rackOfRank r.root
  else y.rackOfRank (d.expertOwner y r c)

/-- The coordinator's rack (R349). -/
def CollRec.coordinator (r : CollRec) (y : Layout) : Nat := y.at (if r.heel then r.step else r.tensor)

/-- Whether a coordinate lies in the plus arm about a point (R350). -/
def inPlus (n x h : Nat) : Bool := x != h && (x + n - h % n) % n ≤ n / 2

/-- The distance from the point along the coordinate's arm. -/
def armDist (n x h : Nat) : Nat := if inPlus n x h then (x + n - h % n) % n else (h + n - x % n) % n

/-- X coordinates that take part, and Y coordinates. -/
def Layout.xs (y : Layout) : List Nat := (y.racks.map (fun e => e.1 / 16)).eraseDups
/-- Y coordinates that take part. -/
def Layout.ys (y : Layout) : List Nat := (y.racks.map (fun e => e.1 % 16)).eraseDups

/-- The coordinates of one arm about a point, nearest first. -/
def armList (n : Nat) (cs : List Nat) (h : Nat) (plus : Bool) : List Nat :=
  sortBy (fun a b => armDist n a h ≤ armDist n b h) (cs.filter (fun x => x != h && inPlus n x h = plus))

/-- The element before another in a list, or a default. -/
def beforeIn (l : List Nat) (x dflt : Nat) : Nat :=
  match l with
  | [] => dflt
  | a :: r => if a = x then dflt else beforeIn r x a

/-- The element after another in a list. -/
def afterIn (l : List Nat) (x : Nat) : Option Nat :=
  match l with
  | [] => none
  | a :: r => if a = x then r.head? else afterIn r x

/-- A ring neighbour of this switch for a point: LEVEL, rack, and the ring group of the ports that lead to it
(R206, R352): X_PLUS 0, X_MINUS 1, Y_PLUS 2, Y_MINUS 3. -/
structure Hop where
  level : Nat
  rack : Nat
  group : Nat
  deriving DecidableEq, Repr

/-- The sender key of an upstream: 256 and the ring group its cells arrive on (R354). -/
def upKey (h : Hop) : Nat := 256 + h.group

/-- The target of this switch toward a point, none at the point itself (R350, R351). -/
def Layout.target (y : Layout) (h : Nat) : Option Hop :=
  let x := y.own / 16
  let v := y.own % 16
  let hx := h / 16
  let hy := h % 16
  if x != hx then
    let plus := inPlus y.nx x hx
    some ⟨1, beforeIn (armList y.nx y.xs hx plus) x hx * 16 + v, if plus then 1 else 0⟩
  else if v != hy then
    let plus := inPlus y.ny v hy
    some ⟨2, hx * 16 + beforeIn (armList y.ny y.ys hy plus) v hy, if plus then 3 else 2⟩
  else none

/-- The upstreams of this switch for a point, which are also the next racks on the way down (R350, R351, R364).
(DEDUCED, log entry 81). -/
def Layout.upstreams (y : Layout) (h : Nat) : List Hop :=
  let x := y.own / 16
  let v := y.own % 16
  let hx := h / 16
  let hy := h % 16
  let xl := fun p => armList y.nx y.xs hx p
  let yl := fun p => armList y.ny y.ys hy p
  let xhop := fun (o : Option Nat) g => match o with
    | some a => [Hop.mk 1 (a * 16 + v) g]
    | none => []
  let yhop := fun (o : Option Nat) g => match o with
    | some a => [Hop.mk 2 (hx * 16 + a) g]
    | none => []
  if x != hx then
    let plus := inPlus y.nx x hx
    xhop (afterIn (xl plus) x) (if plus then 0 else 1)
  else
    xhop (xl true).head? 0 ++ xhop (xl false).head? 1 ++
    (if v != hy then
      let plus := inPlus y.ny v hy
      yhop (afterIn (yl plus) v) (if plus then 2 else 3)
     else yhop (yl true).head? 2 ++ yhop (yl false).head? 3)

/-- Whether a rack lies at or beyond a neighbour as seen from here about a point (R351). -/
def Layout.beyond (y : Layout) (h : Nat) (n : Hop) (rack : Nat) : Bool :=
  let hx := h / 16
  let hy := h % 16
  if n.level = 1 then
    rack % 16 = y.own % 16 && rack / 16 != hx && inPlus y.nx (rack / 16) hx = inPlus y.nx (n.rack / 16) hx &&
      armDist y.nx (n.rack / 16) hx ≤ armDist y.nx (rack / 16) hx
  else
    rack % 16 != hy && inPlus y.ny (rack % 16) hy = inPlus y.ny (n.rack % 16) hy &&
      armDist y.ny (n.rack % 16) hy ≤ armDist y.ny (rack % 16) hy

/-! ## Contributors and receivers (R281, R351, R364) -/

/-- The key of the compute tier as a contributor (R436, R451). -/
def tierKey : Nat := 260

/-- The racks in which contributors of a chunk lie. -/
def Dev.contribRacks (d : Dev) (y : Layout) (r : CollRec) (c : Nat) : List Nat :=
  if r.collType = kALLREDUCE || r.collType = kREDSCAT || r.collType = kREDUCE then y.racks.map (·.1)
  else if r.collType = kCOMBINE then [y.rackOfRank (d.expertHost y r (c / max 1 (d.routeOf r).dchunks))]
  else [d.home y r c]

/-- The rank that alone contributes a chunk; none when every rank does (R281, R441, R444). -/
def Dev.soleRank (d : Dev) (y : Layout) (r : CollRec) (c : Nat) : Option Nat :=
  if r.collType = kGATHER || r.collType = kDISPATCH then some (c / max 1 r.shard)
  else if r.collType = kBCAST then some r.root
  else if r.collType = kCOMBINE then some (d.expertHost y r (c / max 1 (d.routeOf r).dchunks))
  else none

/-- The local members that contribute a chunk (R281, R351). -/
def Dev.localContribs (d : Dev) (y : Layout) (r : CollRec) (c : Nat) : List Nat :=
  if d.roleOf r = some .source then []
  else
    match d.soleRank y r c with
    | some k => (y.portOfRank k).toList
    | none => y.members

/-- The LOWRANK step of a chain (R440): RANK and PROJ_ADDR. -/
def lowRank (desc : List Byte) : Option (Nat × Nat) :=
  if chainOps desc != [] && stepOp desc 0 = oLOWRANK then some (leField (chainStep desc 0) 8 1, leField (chainStep desc 0) 16 8)
  else none

/-- The LOWRANK step of the chain a record names. -/
def Dev.lowOf (d : Dev) (r : CollRec) : Option (Nat × Nat) := if r.fused = 0 then none else lowRank (d.chainDesc r.fused)

/-- Chunks in a block of 4,096 elements. -/
def CollRec.blockChunks (r : CollRec) : Nat := max 1 (4096 / eChunk r.elem)

/-- The upstreams that send a partial of a chunk (R351): under LOWRANK only a block's first chunk has one (R440). -/
def Dev.upContribs (d : Dev) (y : Layout) (r : CollRec) (c : Nat) : List Hop :=
  if !y.spanning || d.roleOf r = some .source || ((d.lowOf r).isSome && c % r.blockChunks != 0) then []
  else
    let h := d.home y r c
    let cr := d.contribRacks y r c
    (y.upstreams h).filter (fun n => cr.any (y.beyond h n))

/-- Whether the compute tier contributes a chunk here: the term of an EXCHANGE in each rack (R436), and a SOURCE chain
at the home (R451). -/
def Dev.tierContribs (d : Dev) (y : Layout) (r : CollRec) (c : Nat) : Bool :=
  match d.roleOf r with
  | some .group => r.collType = kALLREDUCE
  | some .source => d.home y r c = y.own
  | _ => false

/-- Every sender whose contribution completes a chunk here (R300, R351). -/
def Dev.contributors (d : Dev) (y : Layout) (r : CollRec) (c : Nat) : List Nat :=
  d.localContribs y r c ++ (d.upContribs y r c).map upKey ++ (if d.tierContribs y r c then [tierKey] else [])

/-- Whether this switch takes part in a chunk on the way up. -/
def Dev.takesPart (d : Dev) (y : Layout) (r : CollRec) (c : Nat) : Bool := d.contributors y r c != []

/-- The ranks that receive a result chunk; none for every rank (R281). -/
def Dev.receiverRank (d : Dev) (y : Layout) (r : CollRec) (c : Nat) : Option Nat :=
  if r.collType = kREDSCAT then some (c / max 1 r.shard)
  else if r.collType = kREDUCE then some r.root
  else if r.collType = kDISPATCH then some (d.expertHost y r (c / max 1 (d.routeOf r).dchunks))
  else if r.collType = kCOMBINE then some (c / max 1 r.shard)
  else none

/-- Result chunks of an expert collective, by index (R443, R444); others have one for each chunk. -/
def Dev.resultCount (d : Dev) (y : Layout) (r : CollRec) : Nat :=
  let q := d.routeOf r
  if r.collType = kDISPATCH then q.experts * y.ranks * q.cap * q.dchunks
  else if r.collType = kCOMBINE then y.ranks * r.shard
  else r.nchunk

/-- The elements of a result chunk: those of a dispatched token are full (R441, R443). -/
def CollRec.resultElems (r : CollRec) (c : Nat) : Nat := if r.collType = kDISPATCH then eChunk eBF16 else r.chunkCount c

/-- The local members that receive a result chunk. -/
def Dev.receivers (d : Dev) (y : Layout) (r : CollRec) (c : Nat) : List Nat :=
  match d.receiverRank y r c with
  | some k => (y.portOfRank k).toList
  | none => y.members

/-- The home of a result chunk: for EXPERT_DISPATCH the slot's rank (R349, R443). -/
def Dev.resultHome (d : Dev) (y : Layout) (r : CollRec) (c : Nat) : Nat :=
  if r.collType = kDISPATCH then
    let q := d.routeOf r
    y.rackOfRank (c / max 1 q.dchunks / max 1 q.cap % max 1 y.ranks)
  else if r.collType = kCOMBINE then y.rackOfRank (c / max 1 r.shard)
  else d.home y r c

/-- The racks that hold receivers of a result chunk. -/
def Dev.receiverRacks (d : Dev) (y : Layout) (r : CollRec) (c : Nat) : List Nat :=
  match d.receiverRank y r c with
  | some k => [y.rackOfRank k]
  | none => y.racks.map (·.1)

/-- The neighbours a result chunk goes on to from here (R364). -/
def Dev.downHops (d : Dev) (y : Layout) (r : CollRec) (c : Nat) : List Hop :=
  if !y.spanning then []
  else
    let h := d.resultHome y r c
    let rr := d.receiverRacks y r c
    (y.upstreams h).filter (fun n => rr.any (y.beyond h n))

/-- Chunks that between them have every home and every path of a record (R349). -/
def Dev.sampleChunks (d : Dev) (y : Layout) (r : CollRec) : List Nat :=
  if r.collType = kALLREDUCE then List.range (min r.nchunk y.count)
  else if r.collType = kBCAST || r.collType = kREDUCE then (if r.nchunk = 0 then [] else [0])
  else if r.collType = kCOMBINE then
    let q := d.routeOf r
    (List.range (q.experts * y.ranks)).map (fun i => i * q.cap * q.dchunks)
  else (List.range ((r.nchunk + r.shard - 1) / max 1 r.shard)).map (· * r.shard)

/-- Every neighbour of which this switch is a target (R350): each sends it a START (R356), by sender key. -/
def Dev.startsFrom (d : Dev) (y : Layout) (r : CollRec) : List Nat :=
  if !y.spanning then [] else ((d.sampleChunks y r).flatMap (fun c => (y.upstreams (d.home y r c)).map upKey)).eraseDups

/-- Every target of this switch (R350): it owes each a START (R356). -/
def Dev.startsTo (d : Dev) (y : Layout) (r : CollRec) : List Hop :=
  if !y.spanning then [] else ((d.sampleChunks y r).flatMap (fun c => (y.target (d.home y r c)).toList)).eraseDups

/-- Ports of a ring group that may carry a chain cell (R355). -/
def Dev.ringPorts (d : Dev) (g : Nat) (c : Option Cell) : List Nat :=
  (d.groupPorts d.ingressEpoch g).filter (fun p =>
    (d.port p).state = .up && d.peerKind p != 3 && c.all (fun x => d.maySend x p))

end Sys2Proof.Machine
end

