-- ==== Sys2Proof/Machine/Contexts.lean ====
section
/-! DEFINITION. Contexts: the window, refusals, completions, failures, the NaN trap, frames and the health statistics
(R270 to R274, R289 to R294, R302 to R306, R316, R330, R338, R345, R366, R367, R452). Bindings raise whistles (R414). -/

namespace Sys2Proof.Machine

/-! ## Whistle counters and bindings (R409, R414) -/

/-- A whistle. -/
def Dev.whistle (d : Dev) (w : Nat) : Whistle := tgetD d.whistles w {}

/-- Replace a whistle. -/
def Dev.setWhistle (d : Dev) (w : Nat) (x : Whistle) : Dev := { d with whistles := tset d.whistles w x }

/-- The die where an increment starts: none of R414's sources lies on the M-tile. -/
inductive Origin where
  | sdie (s : Nat)
  | cdie (c : Nat)
  deriving DecidableEq, Repr

/-- The package links that an increment message takes to whistle `w` (R30). -/
def Origin.links (o : Origin) (w : Nat) : List Nat :=
  match o with
  | .sdie s => if s = w / 4096 then [] else [16]
  | .cdie c => [4 * (w / 4096) + c]

/-- Add to a whistle's counter, by a message from the die of the event (R30); an overflow sticks, spends the whistle and is
reported (R409). -/
def Dev.addWhistle (d0 : Dev) (o : Origin) (w n : Nat) : Dev :=
  let d := d0.cross (o.links w)
  let x := d.whistle w
  if !d0.arrives (o.links w) then d
  else if x.count + n < 2 ^ 32 then d.setWhistle w { x with count := x.count + n }
  else
    let d1 := d.setWhistle w { x with count := 2 ^ 32 - 1, state := if x.state = .disarmed then .disarmed else .spent }
    (d1.countErr E.WHISTLE_OVERFLOWS).report (bark 0x0711 accNone iniNone false 0 w)

/-- The sources of bindings (R414). -/
def bCHUNK : Nat := 1
/-- R414. -/
def bCOLL : Nat := 2
/-- R414. -/
def bHEEL : Nat := 3
/-- R414. -/
def bDMA : Nat := 4
/-- R414. -/
def bOP : Nat := 5

/-- The valid bindings of a source and selector (R414). -/
def Dev.bindingsOf (d : Dev) (source sel : Nat) : List Nat :=
  ((chunksOf 8 (d.blob E.BINDINGS) 257).map leNat).filter (fun b =>
    bits b 63 1 = 1 && bits b 60 3 = source &&
    (if source ≤ 3 then bits b 32 10 = sel else bits b 32 28 = sel))

/-- Raise an event of a die to the bindings (R30, R414): the increments of one event to one whistle are one sum (R409). -/
def Dev.bindEvent (d : Dev) (o : Origin) (source sel chunk : Nat) : Dev :=
  let adds := (d.bindingsOf source sel).map (fun b => (bits b 19 13 + chunk / 2 ^ bits b 14 5, bits b 0 14))
  let missed := (adds.filter (fun a => 8191 < a.1)).length
  (((adds.filter (fun a => a.1 < 8192)).map (·.1)).eraseDups).foldl (fun x w =>
    x.addWhistle o w ((adds.filter (fun a => a.1 = w)).map (·.2)).sum) (d.countErrN E.BINDING_MISSES missed)

/-! ## Access -/

/-- Replace a context. -/
def Dev.setCtx (d : Dev) (n : Nat) (x : Ctx) : Dev := { d with ctxs := tset d.ctxs n x }

/-- Change a context. -/
def Dev.updCtx (d : Dev) (n : Nat) (f : Ctx → Ctx) : Dev := d.setCtx n (f (d.ctx n))

/-- Contexts in COLLECT of a pack. -/
def Dev.openContexts (d : Dev) (p : Nat) : Nat := (d.ctxs.filter (fun e => e.2.pack = p && e.2.state = .collect)).length

/-- The start of a window position: 0 in the window, 1 ahead, 2 behind (R290). -/
def PackSt.position (k : PackSt) (s : Nat) : Nat :=
  let dd := (s + 65536 - k.frontier) % 65536
  if dd < k.contexts.length then 0 else if dd < 32768 then 1 else 2

/-- A logical port's MEMBER value in this rack (R305). -/
def Dev.memberVal (d : Dev) (port : Nat) : Nat := d.reg E.PLAN_RACK * 256 + port

/-- The MEMBER value of a sender: a local member, or an upstream switch with port 0xFF (R356). -/
def Dev.senderMember (d : Dev) (y : Layout) (r : CollRec) (k : Nat) : Nat :=
  if k < 256 then d.memberVal k
  else
    match ((d.sampleChunks y r).flatMap (fun c => y.upstreams (d.home y r c))).find? (fun h => upKey h = k) with
    | some h => h.rack * 256 + 0xFF
    | none => 0xFFFF

/-! ## Health (R452) -/

/-- A square rounded by RNE to a multiple of 2^−149, at 2^128 or more an infinity (R435, R452). -/
def squareExact (a : Int) : Exact :=
  let k := roundMag 0 0 (a.natAbs * a.natAbs) unit149 0
  if 2 ^ 277 ≤ k then ⟨.posinf, 0⟩ else ⟨.finite, k⟩

/-- The types whose conversions the statistics cover (R452). -/
def healthType (t : Nat) : Bool := 4 ≤ t && t ≤ 9

/-- The square of an exact value as it enters a sum (R435, R452). -/
def squareOf (x : Exact) : Exact := if x.isNan then ⟨.nan, 0⟩ else if x.isInf then ⟨.posinf, 0⟩ else squareExact x.a

/-- Note converted elements: pairs of the value and what it became (R452). An infinity enters a sum as POSINF, as in R435 step 1.
(DEDUCED, log entry 197). -/
def Health.note (h : Health) (t : Nat) (ps : List (Exact × Exact)) (sats proms : Nat) : Health :=
  if !healthType t then h
  else
    { h with elements := h.elements + ps.length, saturated := h.saturated + sats, promoted := h.promoted + proms,
             errSq := ps.foldl (fun a z => a.add (squareOf (z.1.sub z.2))) h.errSq,
             sigSq := ps.foldl (fun a z => a.add (squareOf z.1)) h.sigSq }

/-- The 48 bytes of HEALTH (R452); a count that is too large for its field sticks (R554). -/
def Health.bytes (h : Health) : List Byte :=
  let count := fun (n v : Nat) => leBytes n (min v (256 ^ n - 1))
  count 5 h.elements ++ [0, 0, 0] ++ count 4 h.promoted ++ count 4 h.saturated ++ count 4 h.efAbsent ++
  count 4 h.nans ++ count 4 h.dropped ++ count 4 h.sqOver ++ leBytes 4 (rn h.errSq.val) ++ leBytes 4 (rn h.sigSq.val) ++
  count 4 h.ranges ++ count 4 h.kfac

/-- The part of one run's statistics that another adds. -/
def Health.minus (a b : Health) : Health :=
  { elements := a.elements - b.elements, promoted := a.promoted - b.promoted, saturated := a.saturated - b.saturated,
    efAbsent := a.efAbsent - b.efAbsent, nans := a.nans - b.nans, dropped := a.dropped - b.dropped, sqOver := a.sqOver - b.sqOver,
    errSq := ⟨a.errSq.cls, a.errSq.a - b.errSq.a⟩, sigSq := ⟨a.sigSq.cls, a.sigSq.a - b.sigSq.a⟩, ranges := a.ranges - b.ranges,
    kfac := a.kfac - b.kfac }

/-! ## The NaN trap (R270 to R274) -/

/-- The order of NaNs of one tick (R274). -/
def NanTrap.order (t : NanTrap) : Nat :=
  (((t.source * 65536 + t.pack) * 65536 + t.cseq) * 2 ^ 24 + t.chunk) * 2 ^ 40 + t.element

/-- The bark of a trap record (R525, R526, R531). -/
def NanTrap.msg (t : NanTrap) (halt : Bool) : BarkMsg :=
  bark 0x0B01 accCompute (if t.source < 16 then iniUnit (t.chunk % 16) else iniCore (t.source - 16) 0) false
    (if t.pack = 0xFFFF then 0 else collPos t.pack t.cseq t.chunk) t.element (if halt then .contained else .corrected)

/-- Of the NaNs that one tick samples, the record keeps the first in the order of R274. -/
def nanFirst (due : Nat) (t : NanTrap) (halt : Bool) (ini : Nat) (as : List Arrival) : List Arrival :=
  match as with
  | [] => [⟨due, .nan t halt ini⟩]
  | a :: r =>
    match a.what with
    | .nan h _ _ => if a.due = due then (if t.order < h.order then ⟨due, .nan t halt ini⟩ :: r else a :: r) else a :: nanFirst due t halt ini r
    | _ => a :: nanFirst due t halt ini r

/-- A NaN consumed (kind 1) or produced (kind 2): counted, and on its way to the trap (R31, R270, R274). `ini` names the
agent for the bark. -/
def Dev.nanEvent (d : Dev) (t0 : NanTrap) (halt : Bool) (ini : Nat) : Dev :=
  let due := d.sampledAt
  ({ d.count E.NAN_EVENTS with arrivals := nanFirst due { t0 with tick := due } halt ini d.arrivals }).drew

/-- A NaN is sampled: trapped once per arming, with source 0x04 and the bark (R270, R273, R539). -/
def Dev.trapNan (d : Dev) (t : NanTrap) (halt : Bool) (ini : Nat) : Dev :=
  if d.nanTrap.isSome then d
  else
    let d1 := ({ d with nanTrap := some t }).raiseInt 0x04
    { d1 with sentry := { d1.sentry with reports := d1.sentry.reports ++ [Report.mk d1.tick { t.msg halt with initiator := BitVec.ofNat 16 ini }] } }

/-- The interrupt controller samples one event (R31). -/
def Dev.takeArrival (d : Dev) (a : Arrival) : Dev :=
  match a.what with
  | .link p => d.markLink p
  | .source s => d.raiseInt s
  | .nan t halt ini => d.trapNan t halt ini

/-- The events that the present tick samples (R31). -/
def Dev.takeArrivals (d : Dev) : Dev :=
  (d.arrivals.filter (fun a => a.due ≤ d.tick)).foldl (fun z a => z.takeArrival a)
    { d with arrivals := d.arrivals.filter (fun a => d.tick < a.due) }

/-- The 32 bytes of the trap record (R273). -/
def NanTrap.bytes (t : NanTrap) : List Byte :=
  beBytes 8 t.tick ++ beBytes 2 t.pack ++ beBytes 2 t.cseq ++ beBytes 3 t.chunk ++ [0] ++ beBytes 5 t.element ++
  beBytes 1 t.kind ++ beBytes 1 t.source ++ beBytes 1 t.ty ++ beBytes 4 t.oper ++ [0, 0, 0, 0]

/-- A NaN of a context's chunk at a reduction unit: it counts in the context's statistics too (R452). -/
def Dev.ctxNan (d : Dev) (n c j kind : Nat) : Dev :=
  let x := d.ctx n
  let r := x.rc
  let u := unitOf n c
  let t : NanTrap := { tick := 0, pack := x.pack, cseq := x.cseq, chunk := c, element := c * eChunk r.elem + j, kind := kind,
                       source := unitSdie u, ty := r.elem, oper := 0 }
  let cs := match tget x.chunks c with
    | some z => tset x.chunks c { z with nans := z.nans + 1 }
    | none => x.chunks
  (d.updCtx n (fun y => { y with chunks := cs, health := { y.health with nans := y.health.nans + 1 } })).nanEvent t x.latch.halt (iniUnit u)

/-! ## Refusals (R292 to R294) -/

/-- COLL_NAK (R293). -/
def Dev.nakCell (d : Dev) (dst code pack cseq front : Nat) : Cell :=
  mkCtl tCtrl dst (d.ownAddr 0xFF) 0x30 0
    ([BitVec.ofNat 8 code, 0] ++ beBytes 2 pack ++ beBytes 2 cseq ++ beBytes 2 front ++ beBytes 8 d.tick)

/-- A pack's FRONTIER; an IDLE pack keeps its last one until the next ACTIVATE sets it (R278, R279, R312).
(DEDUCED, log entry 67). -/
def Dev.packFront (d : Dev) (p : Nat) : Nat := ((tget d.packs p).map (·.frontier)).getD (tgetD d.frontLeft p 0)

/-- Refuse a START or HEEL with a code (R292, R293): to the arrival port of an endpoint, or to the sending switch
(R356). -/
def Dev.sendNak (d : Dev) (src : Src) (upRack : Option Nat) (code pack cseq : Nat) : Dev :=
  let front := d.packFront pack
  let d1 := if code = 1 then d.count (E.BUSY_NAKS pack) else d
  match src, upRack with
  | .fabric _, some rack => d1.emitRouted 0 136 (d.nakCell (fabAddr (rack / 16) (rack % 16) (d.reg E.PLAN_PLANE) 0xFF) code pack cseq front)
  | .fabric p, none => d1.emitPorts (sdieOf p.val) 136 (d.nakCell (d.ownAddr (d.logical p.val)) code pack cseq front) [p.val]
  | .internal _ _, _ => d1

/-! ## Completions (R305, R366, R367) -/

/-- COLL_DONE's payload (R305). -/
def doneBytes (pack cseq status field member step tick : Nat) : List Byte :=
  padTo 64 (beBytes 2 pack ++ beBytes 2 cseq ++ beBytes 1 status ++ beBytes 1 field ++ beBytes 2 member ++ beBytes 6 step ++
    [0, 0] ++ beBytes 8 tick)

/-- The COLL_DONE of a context (R305). -/
def Dev.doneCell (d : Dev) (x : Ctx) (dst status field member step : Nat) : Cell :=
  mkCtl tCtrl dst (d.ownAddr 0xFF) 0x31 0 (doneBytes x.pack x.cseq status field member step d.tick)

/-- Physical ports of logical members. -/
def Dev.physicals (d : Dev) (ms : List Nat) : List Nat := ms.map d.physical

/-- Send a CTRL cell to a neighbouring switch's address with port 0xFF, by table (R366, R370).
(DEDUCED, log entry 50). -/
def Dev.toSwitch (d : Dev) (u rack : Nat) (mk : Nat → Cell) : Dev :=
  d.emitRouted (unitSdie u) (unitX u) (mk (fabAddr (rack / 16) (rack % 16) (d.reg E.PLAN_PLANE) 0xFF))

/-- A context's neighbours in the coordinator's arms (R366, R367). -/
def coordNeighbours (y : Layout) (r : CollRec) : List Nat :=
  if y.spanning then (y.upstreams (r.coordinator y)).map (·.rack) ++ ((y.target (r.coordinator y)).map (·.rack)).toList else []

/-- Byte 3 of the start record (R284): MODES of a ledger record (R501). -/
def CollRec.modes (r : CollRec) : Nat :=
  (if r.compact then 1 else 0) + r.upper * 2 + r.rounding * 8 + (if r.dup then 32 else 0) + (if r.heel then 0 else 64)

/-- The COLLECTIVE record of a context (R502). -/
def Dev.collectiveRecord (n : Nat) (x : Ctx) : LedgerRec :=
  let r := x.rc
  { kind := 2, status := x.status, pack := x.pack, cseq := x.cseq, step := r.step, tensor := if r.heel then 0 else r.tensor,
    fused := r.fused, chunk := x.ledgerN, inCheck := x.ledgerIn, resCheck := x.ledgerRes, remainder := x.ledgerRem,
    health := x.health.bytes, outCheck := x.ledgerOut, commit := if r.heel then 0 else x.commitCode, elem := r.elem, op := r.op,
    modes := if x.record.isNone then 0 else r.modes, sdie := unitSdie (unitOf n 0) }

/-- FRONTIER passes terminal contexts, freeing them (R302, R303). -/
def Dev.advance (d : Dev) (p fuel : Nat) : Dev :=
  match fuel, tget d.packs p with
  | f + 1, some k =>
    match d.bound p k.frontier with
    | some n =>
      if (d.ctx n).state = .collect then d
      else
        let d1 := d.setCtx n { pack := p }
        ({ d1 with packs := tset d1.packs p { k with frontier := (k.frontier + 1) % 65536 } }).advance p f
    | none => d
  | _, _ => d

/-- Where the stash of a chain keeps the values of local chunk ℓ, and its tag (R427). -/
def stashVals (desc : List Byte) (l : Nat) : Nat := leField desc 48 8 + 4 * eChunk (leField desc 7 1) * l
/-- R427. -/
def stashTagAt (desc : List Byte) (l : Nat) : Nat :=
  leField desc 48 8 + 4 * eChunk (leField desc 7 1) * leField desc 24 4 + 16 * l

/-- Write the tag of a stash place: STEP and whether a chunk is in it (R427). -/
def Dev.stashTag (d : Dev) (desc : List Byte) (l step st : Nat) : Dev :=
  d.writeFrom (iniCore (chainDie desc) 0) (stashTagAt desc l) (leBytes 6 step ++ leBytes 1 st ++ List.replicate 9 0)

/-- Chunks leave a chain's stash (R304, R449): those that a test picks. -/
def Dev.dropStashed (d : Dev) (slot : Nat) (pick : Stashed → Bool) : Dev :=
  let c := tgetD d.chains slot {}
  let gone := c.stash.filter pick
  if gone = [] then d
  else
    let d1 := { d with chains := tset d.chains slot { c with stash := c.stash.filter (fun z => !pick z) } }
    gone.foldl (fun a z => if z.wait = .block then a else a.stashTag c.desc z.loc z.step 0) d1

/-- A chunk at a chain belongs to an open context's collective. -/
def Stashed.ofCtx (z : Stashed) (n : Nat) (x : Ctx) : Bool := z.prod.isNone && z.ctx = n && z.pack = x.pack && z.cseq = x.cseq

/-- A context's chunks leave every stash (R304, R449). -/
def Dev.dropStash (d : Dev) (n : Nat) : Dev :=
  let x := d.ctx n
  (d.chains.map (·.1)).foldl (fun a i => a.dropStashed i (fun z => z.ofCtx n x)) d

/-- A context becomes terminal with a status other than OK (R301, R304, R367): everything it holds is discarded,
COLL_DONE goes to every member and, across racks, to its neighbours but the one the failure came from. `r` is the record
its coordinator follows from, which a START that failed R296 carries without its becoming the context's.
(DEDUCED, log entry 80). -/
def Dev.endCtx (d : Dev) (n : Nat) (mismatch : Bool) (status field member : Nat) (r : Option CollRec) (fromRack : Option Nat) : Dev :=
  let x := d.ctx n
  if x.state != .collect then d
  else
    let y := d.layout x.pack
    let step := ((x.record.map (·.step)).getD 0)
    let x1 := { x with state := if mismatch then .mismatch else .failed, status := status, field := field, member := member,
                       chunks := [], tier := [], atChain := [], down := [], sendLog := [], targets := [], resendAt := none }
    let u := n % 16
    let pay := doneBytes x.pack x.cseq status field member step d.tick
    let d1 := ((d.setCtx n x1).dropStash n).emitPorts (unitSdie u) (unitX u) (d.doneCell x 0 status field member step) (d.physicals y.members)
    let ns := match r with
      | some c => (coordNeighbours y c).filter (fun a => some a != fromRack)
      | none => []
    let d2 := ns.foldl (fun a rack => a.toSwitch u rack (fun dst => d.doneCell x dst status field member step)) d1
    let d3 := ((d2.countErr (E.FAILED x.pack)).setBlob (E.LAST_FAILURE x.pack) pay).ledger (Dev.collectiveRecord n x1)
    let d4 := if mismatch then d3.countErr E.MISMATCHES else d3
    let rc := r.getD x.rc
    let d5 := if !rc.heel && rc.fused != 0 && d.stateful (d.chainDesc rc.fused) && !d4.stepFails.contains rc.step then
      { d4 with stepFails := d4.stepFails ++ [rc.step] } else d4
    d5.advance x.pack 9

/-- A context fails with a status (R304). -/
def Dev.failCtx (d : Dev) (n status member : Nat) : Dev := d.endCtx n false status 0 member (d.ctx n).record none

/-- A context enters MISMATCH (R301): the bark names what caused it (R531). (DEDUCED, log entry 66). -/
def Dev.mismatch (d : Dev) (n field member ini chunk : Nat) : Dev :=
  let x := d.ctx n
  if x.state != .collect then d
  else
    (d.endCtx n true 1 field member x.record none).report
      (bark 0x0501 accCellRx ini false (collPos x.pack x.cseq chunk) (field * 65536 + member))

/-- INITIATOR of a cell's arrival (R531). -/
def srcIni (s : Src) : Nat :=
  match s with
  | .fabric p => iniPort p.val
  | .internal d x => iniXbar d.val x.val

/-- A context of a collective enters DONE with OK (R302, R366). -/
def Dev.completeCtx (d : Dev) (n : Nat) : Dev :=
  let x := d.ctx n
  let y := d.layout x.pack
  let r := x.rc
  let u := n % 16
  let x1 := { x with state := .done, status := 0, chunks := [], tier := [], atChain := [], down := [], sendLog := [], targets := [], resendAt := none }
  let d1 := (d.setCtx n x1).emitPorts (unitSdie u) (unitX u) (d.doneCell x 0 0 0 0xFFFF r.step) (d.physicals y.members)
  let downs := if y.spanning then (y.upstreams (r.coordinator y)).map (·.rack) else []
  let d2 := downs.foldl (fun a rack => a.toSwitch u rack (fun dst => d.doneCell x dst 0 0 0xFFFF r.step)) d1
  (((d2.count (E.COMPLETED_OK x.pack)).ledger (Dev.collectiveRecord n x1)).bindEvent (.sdie (unitSdie (unitOf n 0))) bCOLL x.pack 0).advance x.pack 9

/-- A heel's context enters DONE (R310): no COLL_DONE. Its RELEASE_TICK is remembered. -/
def Dev.completeHeel (d : Dev) (n tick : Nat) : Dev :=
  let x := d.ctx n
  let x1 := { x with state := .done, status := 0, releaseTick := some tick }
  let d1 := { d.setCtx n x1 with heels := d.heels ++ [HeelRel.mk n x.pack tick x.rc.kind x.rc.step] }
  ((d1.count (E.COMPLETED_OK x.pack)).ledger (Dev.collectiveRecord n x1)).advance x.pack 9

/-! ## Check failures (R330, R345) -/

/-- A check of a chunk fails: recorded, counted, reported, and the context fails with RESIDUE_FAIL (R330). -/
def Dev.checkFail (d : Dev) (n c kind member expected observed pos : Nat) (inj : Bool) : Dev :=
  let x := d.ctx n
  let u := unitOf n c
  let due := d.tick + (if Config.freeSecondTick d.draws then 2 else 1)
  let rec40 := beBytes 8 due ++ beBytes 2 x.pack ++ beBytes 2 x.cseq ++ beBytes 3 c ++ beBytes 1 u ++ beBytes 1 kind ++
    beBytes 1 x.rc.op ++ beBytes 2 member ++ beBytes 8 expected ++ beBytes 8 observed ++ beBytes 2 pos ++ [0, 0]
  let d1 := ((d.setBlob E.CHECK_FAIL_LAST rec40).countErr E.CHECK_FAILS).countErr (E.UNIT_CHECK_FAILS u)
  (d1.report (bark (0x0600 + kind) accCheck (iniUnit u) inj (collPos x.pack x.cseq c) observed)).failCtx n 7 0xFFFF

/-! ## Frames (R316, R317, R338) -/

/-- Accumulator frames of a chunk (R317). -/
def accFrames (t : Nat) : Nat := (eChunk t + 1023) / 1024

/-- Whether a chunk's state holds frames. -/
def ChunkState.framed (s : ChunkState) : Bool := s = .opened || s = .restore || s = .check || s = .emit

/-- Contributors that hold a provisional accumulator. -/
def Chunk.provisional (k : Chunk) : Nat := (k.contribs.filter (fun e => !e.2.applied)).length

/-- Frames a chunk holds. -/
def Chunk.frames (k : Chunk) (t : Nat) : Nat :=
  if k.state.framed then accFrames t + 1 + k.provisional * accFrames t else 0

/-- Frames a context holds in a unit (R338). -/
def Ctx.frames (x : Ctx) (n u : Nat) : Nat :=
  let t := x.rc.elem
  ((x.chunks.filter (fun e => unitOf n e.1 = u)).map (fun e => e.2.frames t)).sum +
  ((x.down.filter (fun e => unitOf n e.1 = u)).map (fun e => if e.2.state.framed then accFrames t + 1 else 0)).sum

/-- Frames free in a unit. -/
def Dev.framesFree (d : Dev) (u : Nat) : Nat := 153 - (d.ctxs.map (fun e => e.2.frames e.1 u)).sum

/-- Frames held as provisional accumulators in a unit. -/
def Dev.provFrames (d : Dev) (u : Nat) : Nat :=
  (d.ctxs.map (fun e => ((e.2.chunks.filter (fun k => unitOf e.1 k.1 = u && k.2.state.framed)).map
    (fun k => k.2.provisional * accFrames e.2.rc.elem)).sum)).sum

/-- Whether a unit can grant frames to a context (R338). -/
def Dev.canGrant (d : Dev) (n u need : Nat) : Bool :=
  need ≤ d.framesFree u && (d.ctx n).frames n u + need ≤ d.reg E.FRAME_QUOTA

/-- FRAMES_LOW follows FRAMES_FREE (R344). -/
def Dev.noteFrames (d : Dev) (u : Nat) : Dev :=
  let f := d.framesFree u
  if f < d.reg (E.FRAMES_LOW u) then d.setReg (E.FRAMES_LOW u) f else d

/-! ## The spill region (R339, R363, R499) -/

/-- The records that spill logs and send logs hold (R339, R363), by number. -/
def Dev.spillUsed (d : Dev) : List Nat :=
  d.ctxs.flatMap (fun e => e.2.chunks.flatMap (fun k => k.2.log.map (·.record)) ++ e.2.down.flatMap (fun k => k.2.log.map (·.record)) ++
    e.2.sendLog.map (·.record))

/-- Records in the spill region. -/
def Dev.spillRecords (d : Dev) : Nat := d.spillUsed.length

/-- The tier address of a record of the spill region (R499). -/
def Dev.spillAddr (d : Dev) (i : Nat) : Nat := regionAddr d.spillBase (128 * i)

/-- The 128 bytes of a record: the cell, the INITIATOR of its arrival and the tick (R339). (DESIGN CHOICE, log entry 183). -/
def spillBytes (c : Cell) (ini tick : Nat) : List Byte := padTo 128 (cellBytes c ++ beBytes 2 ini ++ beBytes 8 tick)

/-- A unit writes a cell to the lowest free record, over a compute link (R27, R339). (DESIGN CHOICE, log entry 183). -/
def Dev.putRecord (d : Dev) (u : Nat) (c : Cell) (ini : Nat) : Nat × Dev :=
  let used := d.spillUsed
  let i := ((List.range (used.length + 1)).find? (fun j => !used.contains j)).getD 0
  (i, d.writeFrom (iniUnit u) (d.spillAddr i) (spillBytes c ini d.tick))

/-- A unit reads a record back: the cell and its arrival, none where the memory holds no good copy (R504). -/
def Dev.getRecord (d : Dev) (u i : Nat) : Option (Cell × Nat) × Dev :=
  let (bs, d1) := d.readMem (d.spillAddr i) 128 (iniUnit u)
  (bs.bind (fun b => (parseCell (b.take 80)).map (fun c => (c, beNat (slice b 80 2)))), d1)

/-- Whether the spill region has room for one more record (R339). -/
def Dev.spillRoom (d : Dev) : Bool := (d.spillRecords + 1) * 128 ≤ 8 * perStack (d.reg E.SPILL_REGION_MIB) * mib1 && d.reg E.SPILL_REGION_MIB != 0

end Sys2Proof.Machine
end

