-- ==== Sys2Proof/Machine/Reduce.lean ====
section
/-! DEFINITION. The reduction units: widening, operators, weights, contribution checks, frames, spill and restore
(R297 to R300, R315 to R330, R337 to R341, R354 to R362, R661). -/

namespace Sys2Proof.Machine

/-! ## What a sender's cells hold (R233, R357) -/

/-- The element type of the upper-level format (R284). -/
def upperType (u : Nat) : Nat := if u = 0 then eBF16 else if u = 1 then eE4M3 else if u = 2 then eB4 else eT2

/-- An upstream switch's key. -/
def isUp (k : Nat) : Bool := 256 ≤ k && k < 260

/-- The type of a sender's cells; none for the packed exact form (R357). -/
def wireType (r : CollRec) (k : Nat) : Option Nat :=
  if isUp k && (r.op = pSUM || r.op = pWSUM) then (if r.compact then some (upperType r.upper) else none) else some r.elem

/-- The element count of a sender's contribution to a chunk: a projected partial holds RANK × 64 (R440). -/
def Dev.sentCount (d : Dev) (r : CollRec) (k c : Nat) : Nat :=
  match d.lowOf r with
  | some (rank, _) => if isUp k then rank * 64 else r.chunkCount c
  | none => r.chunkCount c

/-! ## Initial values and applied values (R319, R322 to R324) -/

/-- Bits of an element of a bitwise operator. -/
def bitWidth (t : Nat) : Nat := if t = eINT32 then 32 else 8

/-- The initial accumulator of an operator (R322). -/
def accInit (op t : Nat) : Exact :=
  if op = pMAX then ⟨.neginf, 0⟩ else if op = pMIN then ⟨.posinf, 0⟩
  else if op = pBAND then ⟨.finite, (2 ^ bitWidth t - 1 : Nat)⟩
  else if op = pBOR || op = pBXOR then ⟨.finite, 0⟩
  else Exact.empty

/-- An element's held bits under the bitwise operators and BYTES (R322). -/
def heldBits (t : Nat) (x : Exact) : Nat := if t = eBYTES then x.a.toNat else ofSigned (bitWidth t) (x.a / 2 ^ 149)

/-- The value that an accumulator's residue is taken of (R322). -/
def residueVal (op t : Nat) (x : Exact) : Int :=
  if opBitwise op && t != eBYTES then toSigned (bitWidth t) x.a.toNat * 2 ^ 149 else x.a

/-- COMPACT narrowing of an FP32 value to q significand bits by RNE (R319). -/
def narrow (q : Nat) (x : Exact) : Exact :=
  let n := x.a.natAbs
  let sh : Int := (Nat.log2 n : Int) - q + 1
  if n = 0 || sh ≤ 0 then x
  else
    let m : Int := (roundMag 0 0 n 1 sh * 2 ^ sh.toNat : Nat)
    { x with a := if x.a < 0 then -m else m }

/-- The narrowing that a record asks of a type (R319). -/
def CollRec.narrowed (r : CollRec) (t : Nat) (x : Exact) : Exact :=
  if r.compact && t = eFP32 && r.op = pSUM then narrow 16 x
  else if r.compact && t = eFP32 && r.op = pWSUM then narrow 13 x
  else x

/-- The weight of a contribution: none (1, unweighted), a BF16 number, a misfit whose products are NaNs produced, or an
unfilled slot that is not applied (R323, R444). -/
inductive Weight where
  | none
  | scalar (w : Nat)
  | misfit
  | skip
  deriving DecidableEq, Repr

/-- A WSUM product (R324): the value, and the kind of NaN event it makes, 0 for none. -/
def product (w : Nat) (x : Exact) : Exact × Nat :=
  let e := widen eBF16 w
  let nan : Exact := ⟨.nan, 0⟩
  if x.isNan then (nan, 0)
  else if e.isNan then (nan, 1)
  else if e.isInf || 2 ^ 156 ≤ e.a.natAbs then (nan, 2)
  else if x.isInf then
    (if e.a = 0 then (nan, 2) else (⟨if e.neg = x.neg then .posinf else .neginf, 0⟩, 0))
  else (signedExact (e.neg != x.neg) (roundMag 0 0 (e.a.natAbs * x.a.natAbs) unit149 0), 0)

/-- The value a unit applies for a widened element, with its NaN event (R319, R324). -/
def applied (r : CollRec) (t : Nat) (w : Weight) (x : Exact) : Exact × Nat :=
  let y := r.narrowed t x
  match w with
  | .none | .skip => (y, 0)
  | .misfit => (⟨.nan, 0⟩, if x.isNan then 0 else 2)
  | .scalar v => product v y

/-- One update of an accumulator (R322). -/
def update (op t : Nat) (a x : Exact) : Exact :=
  if op = pMAX then a.max x
  else if op = pMIN then a.min x
  else if op = pBAND then ⟨.finite, ((a.a.toNat &&& heldBits t x : Nat) : Int)⟩
  else if op = pBOR then ⟨.finite, ((a.a.toNat ||| heldBits t x : Nat) : Int)⟩
  else if op = pBXOR then ⟨.finite, ((a.a.toNat ^^^ heldBits t x : Nat) : Int)⟩
  else a.add x

/-- Apply values at rising positions to the accumulators in one walk. `get` is the initial value. -/
def accMerge (op t : Nat) (ini : Exact) (acc : Tbl Exact) (vs : List (Nat × Exact)) (fuel : Nat) : Tbl Exact :=
  match fuel with
  | 0 => acc
  | f + 1 =>
    match vs with
    | [] => acc
    | (j, x) :: vr =>
      match acc with
      | [] => (j, update op t ini x) :: accMerge op t ini [] vr f
      | (i, a) :: ar =>
        if i < j then (i, a) :: accMerge op t ini ar vs f
        else if i = j then accMerge op t ini ((i, update op t a x) :: ar) vr f
        else (j, update op t ini x) :: accMerge op t ini acc vr f

/-! ## Values in cells (R233, R243, R245) -/

/-- The elements of a plain DATA cell, by position. -/
def plainValues (t count cell : Nat) (pay : List Byte) : List (Nat × Exact) :=
  let b := elemBytes t
  (List.range (min (eCell t) (count - cell * eCell t))).map (fun k =>
    let v := beNat (slice pay (k * b) b)
    (cell * eCell t + k, if t = eBYTES then ⟨.finite, v⟩ else widen t v))

/-- PROMOTED of block b of a B4 or T2 DATA cell. -/
def promotedBit (pay : List Byte) (b : Nat) : Bool := maskHas (beNat (slice pay 63 1)) b

/-- The blocks of a DATA cell that the chunk's count reaches. (DEDUCED, log entry 75). -/
def blocksIn (t count cell : Nat) : Nat := min 7 ((count - cell * eCell t + blockLen t - 1) / blockLen t)

/-- The unpromoted elements of a B4 or T2 DATA cell, by position (R243, R246). -/
def blockValues (t count cell : Nat) (pay : List Byte) : List (Nat × Exact) :=
  ((List.range 7).filter (fun b => !promotedBit pay b)).flatMap (fun b =>
    let s := beNat (slice pay (9 * b) 1)
    let cs := elemsCodes t (slice pay (9 * b + 1) 8)
    (cs.zipIdx.map (fun z => (cell * eCell t + blockLen t * b + z.2, blockElem t s z.1))).filter (fun z => z.1 < count))

/-- A slot of a PROMO cell: VALID, HALF, BLOCK, SCALE and its sixteen codes (R245). -/
def promoSlot (pay : List Byte) (s : Nat) : Bool × Nat × Nat × Nat × List Nat :=
  let h := beNat (slice pay (4 + 20 * s) 1)
  (bits h 7 1 = 1, bits h 3 1, bits h 0 3, beNat (slice pay (5 + 20 * s) 1), (slice pay (8 + 20 * s) 16).map (·.toNat))

/-- SUB of a PROMO cell. -/
def promoSub (pay : List Byte) : Nat := bits (beNat (slice pay 0 1)) 0 3

/-- The elements of a PROMO cell, by position (R246). -/
def promoValues (t count cell : Nat) (pay : List Byte) : List (Nat × Exact) :=
  ((List.range 3).map (promoSlot pay)).flatMap (fun (v, half, block, sc, cs) =>
    if v then
      (cs.zipIdx.map (fun z => (cell * eCell t + blockLen t * block + 16 * half + z.2, promoElem sc z.1))).filter (fun z => z.1 < count)
    else [])

/-! ## The arrangement of PROMO cells (R244, R661) -/

/-- Slots per promoted block. -/
def slotsPer (t : Nat) : Nat := if t = eT2 then 2 else 1

/-- The slots that a DATA cell's promoted blocks need: block, half, scale. -/
def neededSlots (t : Nat) (data : List Byte) : List (Nat × Nat × Nat) :=
  ((List.range 7).filter (promotedBit data)).flatMap (fun b =>
    (List.range (slotsPer t)).map (fun h => (b, h, beNat (slice data (9 * b) 1))))

/-- PROMO cells that a DATA cell needs. -/
def neededPromos (t : Nat) (data : List Byte) : Nat := ((neededSlots t data).length + 2) / 3

/-- A PROMO cell breaks the arrangement, as far as one cell and, if it has come, its DATA cell show (R661). -/
def promoBreaks (t : Nat) (data : Option (List Byte)) (pay : List Byte) : Bool :=
  let sub := promoSub pay
  let sl := (List.range 3).map (promoSlot pay)
  let held := (sl.filter (fun z => z.1)).map (fun z => (z.2.2.1, z.2.1, z.2.2.2.1))
  let gap := (sl.zip (sl.drop 1)).any (fun z => !z.1.1 && z.2.1)
  let pos := held.map (fun z => z.1 * 2 + z.2.1)
  let order := (pos.zip (pos.drop 1)).any (fun z => z.2 ≤ z.1)
  !elemBlocks t || (if t = eB4 then 2 else 4) < sub || sl.any (fun z => z.2.2.1 = 7 || (t = eB4 && z.2.1 = 1)) || gap || order ||
  (match data with
   | none => false
   | some dt => neededPromos t dt ≤ sub || held != ((neededSlots t dt).drop (3 * sub)).take 3)

/-! ## Contributions (R297, R326) -/

/-- The key of a PROMO cell's payload in a contributor record. -/
def promoKey (cell sub : Nat) : Nat := 64 + 8 * cell + sub

/-- Every position of a packed contribution is covered (R362). -/
def Contrib.covered (b : Contrib) : Nat := (b.runs.map (·.2)).sum

/-- All DATA and PROMO cells and the CHECK cell of a contribution have come (R297, R661). -/
def Contrib.complete (b : Contrib) (t : Option Nat) (count : Nat) : Bool :=
  b.check.isSome &&
  (match t with
   | none => b.covered = count
   | some ty =>
     (List.range ((count + eCell ty - 1) / eCell ty)).all (fun c =>
       match tget b.cells c with
       | none => false
       | some pay => !elemBlocks ty || (List.range (neededPromos ty pay)).all (fun s => (tget b.cells (promoKey c s)).isSome)))

/-- The values of a stored cell, by its key. -/
def storedValues (t : Option Nat) (count key : Nat) (pay : List Byte) : List (Nat × Exact) :=
  match t with
  | none =>
    match readPacked count pay with
    | some (first, xs) => xs.zipIdx.map (fun z => (first + z.2, z.1))
    | none => []
  | some ty =>
    if elemBlocks ty then
      (if key < 64 then blockValues ty count key pay else promoValues ty count ((key - 64) / 8) pay)
    else plainValues ty count key pay

/-- 37^(j+1) modulo p by squaring (R265). -/
def powMod (b e fuel : Nat) : Nat :=
  match fuel with
  | 0 => 1
  | f + 1 => if e = 0 then 1 else
    let h := powMod (b * b % resP) (e / 2) f
    if e % 2 = 1 then h * b % resP else h

/-- The weight of a position. -/
def weightAt (j : Nat) : Nat := powMod 37 (j + 1) 40

/-- The residue of values at positions (R266). -/
def residueAt (vs : List (Nat × Int)) : Nat := vs.foldl (fun s z => (s + weightAt z.1 * residueA z.2) % resP) 0

/-- The part that bytes at a place give to the CRC-64 of a chunk: the CRC is linear (R269). -/
def crcAt (count at0 : Nat) (bs : List Byte) : Nat := crc64 (bs ++ List.replicate (count - at0 - bs.length) 0)

/-- The part of U or C of values at positions (R326). -/
def sentCheck (t count : Nat) (vs : List (Nat × Exact)) : Nat :=
  if t = eBYTES then
    match vs with
    | [] => 0
    | z :: _ => crcAt count z.1 (vs.map (fun y => BitVec.ofNat 8 y.2.a.toNat))
  else residueAt (vs.map (fun z => (z.1, z.2.a)))

/-- Join two parts of U, C, V or H. -/
def joinCheck (t a b : Nat) : Nat := if t = eBYTES then a ^^^ b else resAdd a b

/-- The change of H by the updates of a cell (R326). -/
def heldChange (op t count : Nat) (ini : Exact) (old new : Tbl Exact) (vs : List (Nat × Exact)) : Nat :=
  if opSums op then 0
  else if t = eBYTES then
    vs.foldl (fun s z =>
      let a := (tgetD old z.1 ini).a.toNat
      let b := (tgetD new z.1 ini).a.toNat
      if a = b then s else s ^^^ crcAt count z.1 [BitVec.ofNat 8 (a ^^^ b)]) 0
  else
    vs.foldl (fun s z =>
      let a := residueVal op t (tgetD old z.1 ini)
      let b := residueVal op t (tgetD new z.1 ini)
      if a = b then s else resAdd s (weightAt z.1 * resSub (residueA b) (residueA a) % resP)) 0

/-- H of a chunk's initial contents (R326). -/
def heldStart (op t count : Nat) : Nat :=
  if opSums op then 0
  else if t = eBYTES then crcAt count 0 (List.replicate count (BitVec.ofNat 8 (accInit op t).a.toNat))
  else residueList (List.replicate count (residueVal op t (accInit op t)))

/-- An empty chunk that has just taken its frames. -/
def openedChunk (r : CollRec) (c : Nat) : Chunk := { h := heldStart r.op r.elem (r.chunkCount c) }

/-- The kept choice of a global slot (R443, R444). -/
def RouteRec.choiceAt (x : RouteRec) (q : RouteParams) (m slot : Nat) : Option Choice :=
  x.choices.find? (fun ch => (ch.expert * m + ch.rank) * q.cap + ch.slot = slot)

/-- The routing record behind a record. -/
def Dev.routeRec (d : Dev) (r : CollRec) : Option RouteRec :=
  d.routes.find? (fun x => x.chain = d.routeChainOf r && x.step = r.step && x.tensor = r.tensor)

/-- The weight of a sender's contribution to a chunk (R323, R444). -/
def Dev.weightOf (d : Dev) (x : Ctx) (k c : Nat) : Weight :=
  let r := x.rc
  if r.op != pWSUM || k = tierKey then .none
  else
    let w := tgetD x.weights k 0
    let routed := bits w 30 2 = 1
    if r.collType = kCOMBINE then
      let y := d.layout x.pack
      if d.home y r c != y.own then .none
      else if !routed then .misfit
      else
        let q := d.routeOf r
        match (d.routeRec r).bind (fun z => z.choiceAt q y.ranks (c / max 1 q.dchunks)) with
        | some ch => .scalar ch.weight
        | none => .skip
    else if bits w 30 2 != 0 then .misfit
    else .scalar (bits w 0 16)

/-! ## Applying values (R318 to R327) -/

/-- Change a chunk of a context. -/
def Dev.updChunk (d : Dev) (n c : Nat) (f : Chunk → Chunk) : Dev :=
  d.updCtx n (fun x => { x with chunks := tset x.chunks c (f (tgetD x.chunks c {})) })

/-- Change a contributor record of a chunk. -/
def Dev.updContrib (d : Dev) (n c k : Nat) (f : Contrib → Contrib) : Dev :=
  d.updChunk n c (fun z => { z with contribs := tset z.contribs k (f (tgetD z.contribs k {})) })

/-- A chunk of a context. -/
def Ctx.chunk (x : Ctx) (c : Nat) : Chunk := tgetD x.chunks c {}

/-- Apply widened values of a sender to the main accumulators (R318 to R326). A projected partial is kept for its
block (R440), and an unfilled slot's contribution is not applied (R444). -/
def Dev.applyValues (d : Dev) (n c k : Nat) (vs : List (Nat × Exact)) : Dev :=
  let x := d.ctx n
  let r := x.rc
  let t := r.elem
  let w := d.weightOf x k c
  if (isUp k && (d.lowOf r).isSome) || w = .skip then d
  else
    let z := x.chunk c
    let ini := accInit r.op t
    let ws := vs.map (fun v => (v.1, applied r ((wireType r k).getD 0) w v.2))
    let prod := ws.filter (fun v => v.2.2 != 0)
    let ap := ws.map (fun v => (v.1, v.2.1))
    let clash := if opSums r.op then ap.filter (fun v => (tgetD z.acc v.1 ini).addMakesNan v.2) else []
    let acc := accMerge r.op t ini z.acc ap (z.acc.length + ap.length + 1)
    let h := joinCheck t z.h (heldChange r.op t (r.chunkCount c) ini z.acc acc ap)
    let v := residueAt (ap.map (fun q => (q.1, q.2.a)))
    let b := tgetD z.contribs k {}
    let d1 := d.updChunk n c (fun y => { y with acc := acc, h := h, contribs := tset y.contribs k { b with v := resAdd b.v v } })
    let d2 := prod.foldl (fun a q => a.ctxNan n c q.1 q.2.2) d1
    clash.foldl (fun a q => a.ctxNan n c q.1 2) d2

/-- Passes of a cell (R320, R321). (DEDUCED, log entry 71). -/
def passesOf (r : CollRec) (t : Option Nat) (pay : List Byte) : Nat :=
  match t with
  | none => max 1 ((bits (beNat (slice pay 0 6)) 11 9 + 20) / 21)
  | some ty => if (r.op = pSUM || r.op = pWSUM) && (ty = eINT32 || (ty = eFP32 && !r.compact)) then 2 else 1

/-- The low 64 bits of an accumulator after the first update that a sender's values make (R322, R345). -/
def Dev.laneValue (d : Dev) (n c k : Nat) (vs : List (Nat × Exact)) : Nat :=
  let x := d.ctx n
  let r := x.rc
  match vs with
  | [] => 0
  | (j, v) :: _ =>
    ofSigned 64 (update r.op r.elem (tgetD (x.chunk c).acc j (accInit r.op r.elem))
      (applied r ((wireType r k).getD 0) (d.weightOf x k c) v).1).a

/-- Compare the lanes on the updates of a sender's values (R326): an injection makes the second lane's value of the first update
the inverse of the first lane's, which fails the chunk (R330, R544). (DESIGN CHOICE, log entry 182). -/
def Dev.laneCheck (d : Dev) (n c k : Nat) (vs : List (Nat × Exact)) : Bool × Dev :=
  if opSums (d.ctx n).rc.op then (true, d)
  else
    let (inj, d1) := d.takeInject 0x06 (unitOf n c)
    let v := d.laneValue n c k vs
    if inj then (false, d1.checkFail n c 4 0xFFFF v (2 ^ 64 - 1 - v) 0 true) else (true, d1)

/-- Count the passes that apply a sender's cell; an unfilled slot's cell takes none (R320, R344, R444). -/
def Dev.notePasses (d : Dev) (n c k : Nat) (pay : List Byte) : Dev :=
  let x := d.ctx n
  if d.weightOf x k c = .skip then d else d.countN (E.PASSES (unitOf n c)) (passesOf x.rc (wireType x.rc k) pay)

/-- Take one DATA, PROMO or packed cell of a contributor into its record: stored, widened, its NaNs consumed, U formed
(R326), and, for a validated sender, applied. -/
def Dev.takeCell (d : Dev) (n c k key : Nat) (run : Option (Nat × Nat)) (pay : List Byte) : Dev :=
  let x := d.ctx n
  let r := x.rc
  let t := wireType r k
  let count := d.sentCount r k c
  let vs := storedValues t count key pay
  let valid := x.validated.contains k
  let u := sentCheck (t.getD 0) count vs
  let d1 := d.updContrib n c k (fun b =>
    { b with cells := tset b.cells key pay, u := joinCheck (t.getD 0) b.u u, applied := valid,
             data := if key < 64 && run.isNone then maskSet b.data key else b.data,
             promo := if 64 ≤ key && run.isNone then maskSet b.promo (key - 64) else b.promo,
             runs := match run with
               | some q => b.runs ++ [q]
               | none => b.runs })
  let d2 := (if isUp k then [] else vs.filter (fun v => v.2.isNan)).foldl (fun a v => a.ctxNan n c v.1 1) d1
  let d3 := d2.notePasses n c k pay
  if valid then d3.applyValues n c k vs else d3

/-! ## Contribution checks and completion (R300, R327, R361) -/

/-- p or more never matches (R263). -/
def checkValue (t v : Nat) : Bool := t = eBYTES || v < resP

/-- The contribution check, once all of it has come (R327, R361). -/
def Dev.checkContrib (d : Dev) (n c k : Nat) : Dev :=
  let x := d.ctx n
  let r := x.rc
  let b := tgetD (x.chunk c).contribs k {}
  let t := wireType r k
  if b.verified || !b.complete t (d.sentCount r k c) then d
  else
    match b.check with
    | none => d
    | some ch =>
      let (inj, d1) := d.takeInject 0x03 (unitOf n c)
      let u := if inj then b.u ^^^ (2 ^ 64 - 1) else b.u
      let ty := t.getD 0
      let ok1 : Bool := u = ch.c0 && checkValue ty ch.c0
      let ok2 : Bool := !isUp k || ty = eBYTES || (ch.c1 < resP && ch.c2 < resP && resAdd ch.c0 ch.c1 = ch.c2)
      if ok1 && ok2 then
        let d2 := d1.updContrib n c k (fun y => { y with verified := true })
        if isUp k then d2.count E.PARTIALS_ACCEPTED else d2
      else d1.checkFail n c 1 (d1.senderMember (d1.layout x.pack) r k) ch.c0 u 0 inj

/-- Every START this context waits for has validated (R300). (DEDUCED, log entry 137). -/
def Dev.allValid (d : Dev) (x : Ctx) : Bool :=
  let y := d.layout x.pack
  y.members.all (fun p => x.validated.contains p) && (d.startsFrom y x.rc).all (fun k => x.validated.contains k)

/-- A chunk becomes complete: its contributors are all applied and verified (R300, R337). -/
def Dev.completeChunk (d : Dev) (n c : Nat) : Dev :=
  let x := d.ctx n
  let z := x.chunk c
  if x.state = .collect && z.state = .opened && (tget x.chunks c).isSome && d.allValid x &&
     (d.contributors (d.layout x.pack) x.rc c).all (fun k =>
       ((tget z.contribs k).map (fun b => b.applied && b.verified)).getD false) then
    d.updChunk n c (fun y => { y with state := .check, completeTick := d.tick })
  else d

/-- A cell that was taken makes progress (R304). (DEDUCED, log entry 70). -/
def Dev.progress (d : Dev) (n : Nat) : Dev := d.updCtx n (fun x => { x with progressTick := d.tick })

/-- A duplicate (R297). (DEDUCED, log entry 69). -/
def Dev.duplicate (d : Dev) : Dev := d.count E.DUPLICATES

/-! ## One cell of a chunk -/

/-- What a cell brings to a chunk. -/
inductive Bring where
  | data (key : Nat) (pay : List Byte)
  | run (first len : Nat) (pay : List Byte)
  | check (ch : Checks)
  deriving DecidableEq, Repr

/-- Whether a cell's bit is set already: a packed run's, when all its positions are covered (R297, R362). -/
def Contrib.has (b : Contrib) (w : Bring) : Bool :=
  match w with
  | .data key _ => (tget b.cells key).isSome
  | .run f l _ => (List.range l).all (fun i => b.runs.any (fun q => q.1 ≤ f + i && f + i < q.1 + q.2))
  | .check _ => b.check.isSome

/-- The DATA cell and PROMO cells of one CELL break the arrangement (R661). (DEDUCED, log entry 86). -/
def Contrib.breaks (b : Contrib) (t : Nat) (cell : Nat) : Bool :=
  elemBlocks t &&
  (List.range 5).any (fun s =>
    match tget b.cells (promoKey cell s) with
    | some pay => promoBreaks t (tget b.cells cell) pay
    | none => false)

/-- The word of a chunk in the context store, as barks name it (R531). (DESIGN CHOICE, log entry 133). -/
def storeWord (n c : Nat) : Nat := unitOf n c * 2 ^ 24 + c

/-- The context store is read for a chunk of a unit (R544). -/
def Dev.storeRead (d : Dev) (n c : Nat) : Bool × Dev := d.sramRead 1 (storeWord n c) (iniUnit (unitOf n c))

/-- A cell enters a chunk that holds frames: duplicates drop, everything else is taken, and the contribution and the
chunk are looked at (R297, R327, R337). -/
def Dev.enterCell (d : Dev) (n c k : Nat) (w : Bring) (ini : Nat) : Dev :=
  let x := d.ctx n
  let r := x.rc
  let b := tgetD (x.chunk c).contribs k {}
  if b.has w then d.duplicate
  else
    let (stored, ds) := match w with
      | .data _ _ | .run _ _ _ => d.storeRead n c
      | .check _ => (true, d)
    let (agree, d0) := match w with
      | .data key pay =>
        if x.validated.contains k then ds.laneCheck n c k (storedValues (wireType r k) (d.sentCount r k c) key pay) else (true, ds)
      | .run _ _ _ | .check _ => (true, ds)
    if !stored then ds.failCtx n 7 0xFFFF
    else if !agree then d0
    else
      let d1 := match w with
        | .data key pay => d0.takeCell n c k key none pay
        | .run f l pay => d0.takeCell n c k (1024 + f) (some (f, l)) pay
        | .check ch => d0.updContrib n c k (fun y => { y with check := some ch, applied := x.validated.contains k })
      let d2 := (d1.noteFrames (unitOf n c)).progress n
      let b2 := tgetD ((d2.ctx n).chunk c).contribs k {}
      let cell := match w with
        | .data key _ => if key < 64 then some key else some ((key - 64) / 8)
        | _ => none
      match cell, wireType r k with
      | some ce, some ty =>
        if b2.breaks ty ce then d2.mismatch n 8 (d2.senderMember (d2.layout x.pack) r k) ini c
        else (d2.checkContrib n c k).completeChunk n c
      | _, _ => (d2.checkContrib n c k).completeChunk n c

/-! ## Frames and the spill log (R338 to R341) -/

/-- LOGGED chunks of a unit, oldest OPEN_TICK first, then the lowest chunk (R340): context, chunk, and whether it is
a result on its way down (R365). -/
def Dev.loggedOf (d : Dev) (u : Nat) : List (Nat × Nat × Bool) :=
  let of := fun (e : Nat × Ctx) (t : Tbl Chunk) (down : Bool) =>
    (t.filter (fun z => z.2.state = .logged && unitOf e.1 z.1 = u)).map (fun z => (e.2.openTick, e.1, z.1, down))
  let all := d.ctxs.flatMap (fun e => of e e.2.chunks false ++ of e e.2.down true)
  (sortBy (fun a b => a.1 < b.1 || (a.1 = b.1 && (a.2.2.1 < b.2.2.1 || (a.2.2.1 = b.2.2.1 && a.2.1 ≤ b.2.1)))) all).map (·.2)

/-- The LOGGED chunk that freed frames go to next in a unit. (DEDUCED, log entry 78). -/
def Dev.nextRestore (d : Dev) (u : Nat) : Option (Nat × Nat × Bool) :=
  (d.loggedOf u).find? (fun q => d.canGrant q.1 u (accFrames (d.ctx q.1).rc.elem + 1))

/-- Frames for a chunk that holds none: LOGGED chunks come first (R340). -/
def Dev.canOpen (d : Dev) (n u need : Nat) : Bool := d.canGrant n u need && (d.nextRestore u).isNone

/-- A context fails with STORE_FULL at a unit. -/
def Dev.storeFull (d : Dev) (n c : Nat) : Dev := (d.countErr (E.STORE_FULLS (unitOf n c))).failCtx n 9 0xFFFF

/-- Log a cell (R339). -/
def Dev.logCell (d : Dev) (n c k : Nat) (cell : Cell) (ini : Nat) : Dev :=
  if d.spillRoom then
    let (i, d1) := d.putRecord (unitOf n c) cell ini
    ((d1.updChunk n c (fun z => { z with state := .logged, log := z.log ++ [⟨k, i⟩] })).count (E.CELLS_LOGGED (unitOf n c))).progress n
  else d.storeFull n c

/-- A cell from a sender for a chunk that still takes cells: frames are granted, or the cell is logged,
discarded or fails the context (R337 to R341). -/
def Dev.placeCell (d : Dev) (n c k : Nat) (w : Bring) (cell : Cell) (ini : Nat) : Dev :=
  let x := d.ctx n
  let r := x.rc
  let u := unitOf n c
  let valid := x.validated.contains k
  let fr := accFrames r.elem
  match tget x.chunks c with
  | none =>
    let need := if valid then fr + 1 else 2 * fr + 1
    if d.canOpen n u need then
      (((d.updCtx n (fun y => { y with chunks := tset y.chunks c (openedChunk r c) })).rewriteWord 1 (storeWord n c)).noteFrames u).enterCell n c k w ini
    else if !valid then d.count E.PROVISIONAL_DROPS
    else if x.latch.noSpill then d.storeFull n c
    else d.logCell n c k cell ini
  | some z =>
    if z.state = .logged then
      (if valid then d.logCell n c k cell ini else d.count E.PROVISIONAL_DROPS)
    else if !valid && (tget z.contribs k).isNone && !d.canGrant n u fr then d.count E.PROVISIONAL_DROPS
    else d.enterCell n c k w ini

/-! ## Layout (R297, R301, R354) -/

/-- A packed run overlaps one received without repeating it (R255, R362). -/
def Contrib.overlaps (b : Contrib) (f l : Nat) : Bool := b.runs.any (fun q => f < q.1 + q.2 && q.1 < f + l)

/-- The mismatch FIELD of a contribution from a rank that is no contributor (R301, R441, R444).
(DEDUCED, log entries 66 and 86). -/
def misplacedField (r : CollRec) (k : Nat) : Nat :=
  if 256 ≤ k then 8
  else if r.collType = kBCAST then 12
  else if r.collType = kCOMBINE then 11
  else 13

/-- What a cell of a sender brings, by the cell alone; none for a packed cell that is malformed (R233, R255). -/
def Dev.bringOf (d : Dev) (r : CollRec) (k : Nat) (c : Cell) : Option Bring :=
  if c.type = tCheck then some (.check ⟨c.pay 0 8, c.pay 8 8, c.pay 16 8, c.pay 24 4, c.pay 28 1⟩)
  else if c.type = tPromo then some (.data (promoKey c.cell (promoSub c.payload)) c.payload)
  else
    match wireType r k with
    | none => (readPacked (d.sentCount r k c.chunk) c.payload).map (fun q => .run q.1 q.2.length c.payload)
    | some _ => some (.data c.cell c.payload)

/-- A cell breaks the chunk layout as far as it shows alone (R297, R661). -/
def Dev.offLayout (d : Dev) (r : CollRec) (k : Nat) (c : Cell) : Bool :=
  let count := d.sentCount r k c.chunk
  if c.type = tCheck then c.pay 24 4 != count
  else
    match wireType r k with
    | none => c.type = tPromo
    | some ty => count ≤ c.cell * eCell ty || (c.type = tPromo && promoBreaks ty none c.payload)

/-- A chunk takes no cells any more: each is a duplicate (R300, R336). -/
def Ctx.past (x : Ctx) (c : Nat) : Bool :=
  x.released.contains c || ((tget x.chunks c).map (fun z => z.state = .check || z.state = .emit || z.state = .released)).getD false

/-- The malformed report of a cell, at the fabric port it arrived on (R123, R255). -/
def Dev.malformedFrom (d : Dev) (ini : Nat) (c : Cell) : Dev := if ini < 256 then d.malformed ini c else d

/-- A contribution's DATA, PROMO or CHECK cell at a bound context in COLLECT (R297 to R301): a cell of a chunk past taking
cells, or whose bit is set, is a duplicate before anything else is judged (R297, R336). (DEDUCED, log entry 69). -/
def Dev.contribute (d : Dev) (n k : Nat) (c : Cell) (ini : Nat) : Dev :=
  let x := d.ctx n
  if x.record.isNone then d.count E.NO_RECORD_DROPS
  else
    let r := x.rc
    let y := d.layout x.pack
    let ch := c.chunk
    let who := d.senderMember y r k
    if r.nchunk ≤ ch then d.mismatch n 8 who ini ch
    else if x.past ch then d.duplicate
    else
      match d.bringOf r k c with
      | none => d.malformedFrom ini c
      | some w =>
        let b := tgetD (x.chunk ch).contribs k {}
        if b.has w then d.duplicate
        else if d.offLayout r k c then d.mismatch n 8 who ini ch
        else if !(d.contributors y r ch).contains k then d.mismatch n (misplacedField r k) who ini ch
        else
          match w with
          | .run f l _ => if b.overlaps f l then d.malformedFrom ini c else d.placeCell n ch k w c ini
          | .data _ _ | .check _ => d.placeCell n ch k w c ini

/-! ## Validation and the merge (R298, R325) -/

/-- Merge a sender's provisional accumulators into the main ones (R298, R325). -/
def Dev.mergeSender (d : Dev) (n k : Nat) : Dev :=
  let x := d.ctx n
  let r := x.rc
  let cs := (x.chunks.filter (fun z => ((tget z.2.contribs k).map (fun b => !b.applied)).getD false)).map (·.1)
  cs.foldl (fun a c =>
    if (a.ctx n).state != .collect then a
    else
      let b := tgetD ((a.ctx n).chunk c).contribs k {}
      let a1 := a.updContrib n c k (fun q => { q with applied := true })
      let a2 := b.cells.foldl (fun z e =>
        if (z.ctx n).state != .collect then z
        else
          let vs := storedValues (wireType r k) (z.sentCount r k c) e.1 e.2
          let (ok, z1) := z.laneCheck n c k vs
          if ok then (z1.notePasses n c k e.2).applyValues n c k vs else z1) a1
      a2.completeChunk n c) d

/-- Look at every open chunk again: the last START may complete them (R300). -/
def Dev.completeAll (d : Dev) (n : Nat) : Dev := ((d.ctx n).chunks.map (·.1)).foldl (fun a c => a.completeChunk n c) d

/-! ## Restore (R340) -/

/-- The replay of a log: each record is read back, and goes the way of a live cell; one that cannot be read fails the context
(R340, R504). -/
def Dev.replayLog (d : Dev) (n c : Nat) (log : List LogRec) : Dev :=
  log.foldl (fun a l =>
    if (a.ctx n).state != .collect then a
    else
      match a.getRecord (unitOf n c) l.record with
      | (some (cell, ini), a1) => a1.contribute n l.sender cell ini
      | (none, a1) => a1.failCtx n 7 0xFFFF) d

end Sys2Proof.Machine
end

