-- ==== Sys2Proof/Machine/Release.lean ====
section
/-! DEFINITION. Release: the checks, rounding, result cells, partials and relays
(R331 to R336, R356 to R365, R439, R440, R502, R520). -/

namespace Sys2Proof.Machine

/-! ## Rounding a chunk (R247, R258, R262) -/

/-- What a conversion draws on (R261, R271). -/
structure ConvEnv where
  seed : Nat
  step : Nat
  tensor : Nat
  mode : Nat
  strict : Bool
  shiftB4 : Nat
  shiftT2 : Nat
  deriving DecidableEq, Repr

/-- The environment of a context's conversions. -/
def Ctx.env (x : Ctx) : ConvEnv :=
  ⟨x.latch.seed, x.rc.step, x.rc.tensor, x.rc.rounding, x.latch.strict, x.latch.shiftB4, x.latch.shiftT2⟩

/-- The random bits of an element; they act under SR alone (R259). -/
def ConvEnv.random (e : ConvEnv) (index purpose : Nat) : Nat :=
  if e.mode = 2 then randomBits e.seed e.step e.tensor index purpose else 0

/-- A converted chunk: the delivered values, the bits of each element, the cells as (TYPE, CELL, payload), and what the
conversion counts. -/
structure Rounded where
  ys : List Exact := []
  codes : List Nat := []
  cells : List (Nat × Nat × List Byte) := []
  sats : Nat := 0
  proms : Nat := 0
  /-- Positions at which the conversion produced a NaN (R239). -/
  nans : List Nat := []
  /-- Element 0's bits and their width, which an injection of RES_DUP inverts in the second rounding (R520). -/
  lead : Nat × Nat := (0, 8)
  deriving DecidableEq, Repr

/-- Element 0 of a chunk of blocks, and its width. -/
def leadOf (t : Nat) : List Block → Nat × Nat
  | [] => (0, 8)
  | b :: _ => if b.promoted then (b.e4m3.headD 0, 8) else (b.codes.headD 0, if t = eB4 then 4 else 2)

/-- DATA cells of plain elements (R233). -/
def plainCells (t : Nat) (codes : List Nat) : List (Nat × Nat × List Byte) :=
  ((chunksOf (eCell t) codes (codes.length + 1)).zipIdx).map (fun z => (tData, z.2, z.1.flatMap (beBytes (elemBytes t))))

/-- DATA and PROMO cells of blocks (R243 to R245). -/
def blockCells (t : Nat) (bl : List Block) : List (Nat × Nat × List Byte) :=
  ((chunksOf 7 bl (bl.length + 1)).zipIdx).flatMap (fun z =>
    (tData, z.2, blocksPayload t z.1) :: (promoPayloads t z.1).map (fun p => (tPromo, z.2, p)))

/-- Convert the values of a chunk whose first element has index `base` (R247, R258). -/
def roundValues (e : ConvEnv) (t purpose base : Nat) (xs : List Exact) : Rounded :=
  if elemBlocks t then
    let n := blockLen t
    let bl := ((chunksOf n xs (xs.length + 1)).zipIdx).map (fun z =>
      encodeBlock t e.mode (if t = eB4 then e.shiftB4 else e.shiftT2) e.strict z.1
        ((List.range z.1.length).map (fun i => e.random (base + z.2 * n + i) purpose)))
    let ys := bl.flatMap (Block.values t)
    { ys := ys, lead := leadOf t bl, codes := bl.flatMap (fun b => b.scale :: (if b.promoted then b.e4m3 else b.codes)), cells := blockCells t bl,
      sats := (bl.map (·.sats)).sum, proms := (bl.filter (·.promoted)).length,
      nans := (((xs.zip ys).zipIdx).filter (fun z => !z.1.1.isNan && z.1.2.isNan)).map (·.2) }
  else
    let cv := xs.zipIdx.map (fun z => convert t e.mode (e.random (base + z.2) purpose) e.strict z.1)
    let codes := cv.map (·.bits)
    { ys := codes.map (widen t), codes := codes, lead := (codes.headD 0, 8 * elemBytes t), cells := plainCells t codes, sats := (cv.filter (·.sat)).length,
      nans := (cv.zipIdx.filter (fun z => z.1.nan)).map (·.2) }

/-- The element values of a chunk's accumulators: S. -/
def Ctx.sums (x : Ctx) (c : Nat) : List Exact :=
  let r := x.rc
  let z := x.chunk c
  let ini := accInit r.op r.elem
  let all := (List.range (r.chunkCount c)).foldl (fun (acc : List Exact × Tbl Exact) j =>
    match acc.2 with
    | (i, v) :: rest => if i = j then (v :: acc.1, rest) else (ini :: acc.1, acc.2)
    | [] => (ini :: acc.1, [])) ([], z.acc)
  all.1.reverse.map (fun v => if opBitwise r.op && r.elem != eBYTES then ⟨.finite, residueVal r.op r.elem v⟩ else v)

/-- The bytes of a BYTES chunk. -/
def sumBytes (s : List Exact) : List Byte := s.map (fun v => BitVec.ofNat 8 v.a.toNat)

/-- The residue of S, or its CRC-64 for BYTES (R328). (DEDUCED, log entry 73). -/
def sumCheck (t : Nat) (s : List Exact) : Nat := if t = eBYTES then crc64 (sumBytes s) else residueList (s.map (·.a))

/-- Differences S − fin(Y) (R329). -/
def remainders (s ys : List Exact) : List Int := (s.zip ys).map (fun z => z.1.a - z.2.fin)

/-- A chunk with one contributor under an operator other than WSUM returns its B4 or T2 blocks as contributed (R281,
R332). -/
def Dev.asContributed (d : Dev) (x : Ctx) (c : Nat) : Option Contrib :=
  let r := x.rc
  match d.contributors (d.layout x.pack) r c with
  | [k] => if elemBlocks r.elem && r.op != pWSUM && k < 256 then tget (x.chunk c).contribs k else none
  | _ => none

/-- The first `n` elements of `w` bits in some bytes, the rest zero. -/
def firstElems (w n : Nat) (bs : List Byte) : List Byte :=
  bs.zipIdx.map (fun z =>
    let keep := min 8 (w * n - 8 * z.2)
    BitVec.ofNat 8 (z.1.toNat / 2 ^ (8 - keep) * 2 ^ (8 - keep)))

/-- A contributed DATA cell of blocks as it leaves again: its scale bytes, PROMOTED bits and element codes, with all else
zero (R243, R332). `n` elements of the chunk lie in it. -/
def sendData (t n : Nat) (p : List Byte) : List Byte :=
  let len := blockLen t
  let blocks := (List.range 7).map (fun b => min len (n - b * len))
  let marks := beNat (slice p 63 1)
  let out := (blocks.zipIdx).flatMap (fun z =>
    if z.1 = 0 then List.replicate 9 0
    else slice p (9 * z.2) 1 ++ (if maskHas marks z.2 then List.replicate 8 0 else firstElems (64 / len) z.1 (slice p (9 * z.2 + 1) 8)))
  out ++ [BitVec.ofNat 8 (((List.range 7).filter (fun b => maskHas marks b && blocks.getD b 0 != 0)).map (2 ^ ·)).sum]

/-- A contributed PROMO cell as it leaves again: SUB, and of its VALID slots the half, block, scale and E4M3 codes (R245,
R332). -/
def sendPromo (t n : Nat) (p : List Byte) : List Byte :=
  [BitVec.ofNat 8 (beNat (slice p 0 1) % 8), 0, 0, 0] ++ (List.range 3).flatMap (fun s =>
    let h := beNat (slice p (4 + 20 * s) 1)
    let start := h % 8 * blockLen t + 16 * bits h 3 1
    if bits h 7 1 = 0 then List.replicate 20 0
    else [BitVec.ofNat 8 (0x80 + h % 16)] ++ slice p (5 + 20 * s) 1 ++ [0, 0] ++ firstElems 8 (n - start) (slice p (8 + 20 * s) 16))

/-- The stored cells of a contribution in order of CELL, each DATA cell before its PROMO cells. -/
def Contrib.asCells (b : Contrib) (t count : Nat) : List (Nat × Nat × List Byte) :=
  (List.range ((count + eCell t - 1) / eCell t)).flatMap (fun c =>
    let n := min (eCell t) (count - c * eCell t)
    ((tget b.cells c).toList.map (fun p => (tData, c, sendData t n p))) ++
    (List.range 5).flatMap (fun s => (tget b.cells (promoKey c s)).toList.map (fun p => (tPromo, c, sendPromo t n p))))

/-- Element 0 of contributed blocks, and its width: a promoted block 0 leads the first PROMO cell (R244). -/
def Contrib.lead (b : Contrib) (t : Nat) : Nat × Nat :=
  let w := blockLen t
  if maskHas (beNat (slice ((tget b.cells 0).getD []) 63 1)) 0 then
    (beNat (slice ((tget b.cells (promoKey 0 0)).getD []) 8 1), 8)
  else (beNat (slice ((tget b.cells 0).getD []) 1 1) / 2 ^ (8 - 64 / w), 64 / w)

/-- The rounded result of a chunk on the direct route (R331, R332). -/
def Dev.resultOf (d : Dev) (x : Ctx) (c : Nat) (s : List Exact) : Rounded :=
  let r := x.rc
  if r.elem = eBYTES then { ys := s, codes := s.map (·.a.toNat), lead := ((s.map (·.a.toNat)).headD 0, 8), cells := plainCells eBYTES (s.map (·.a.toNat)) }
  else
    match d.asContributed x c with
    | some b => { ys := s, lead := b.lead r.elem, cells := b.asCells r.elem (r.chunkCount c) }
    | none => roundValues x.env r.elem 0x01 (c * eChunk r.elem) s

/-! ## The checks (R328, R329, R334) -/

/-- The XOR of the CHECK0 values of a chunk's contributors. (DEDUCED, log entry 139). -/
def Chunk.checkXor (z : Chunk) : Nat :=
  (z.contribs.filter (fun e => e.2.applied)).foldl (fun a e => a ^^^ ((e.2.check.map (·.c0)).getD 0)) 0

/-- What the sum check compares S with: ΣV, H, or the XOR of the contributors' CHECK0 (R328).
(DEDUCED, log entry 139). -/
def Dev.inputCheck (d : Dev) (x : Ctx) (c : Nat) : Nat :=
  let r := x.rc
  let z := x.chunk c
  let cs := z.contribs.filter (fun e => e.2.applied)
  if r.elem = eBYTES && (r.op = pNONE || r.op = pBXOR) then z.checkXor
  else if opSums r.op then
    (cs.filter (fun e => !(isUp e.1 && (d.lowOf r).isSome))).foldl (fun a e => resAdd a e.2.v) 0
  else z.h

/-- A difference of the two runs of a conversion under RESIDUE+DUP: element 0 by an injection (R334, R520, R544).
(DEDUCED, log entry 72). -/
def Dev.dupCheck (d : Dev) (n c : Nat) (rd : Rounded) : Bool × Dev :=
  if (d.ctx n).rc.dup then
    let (inj, d1) := d.takeInject 0x07 (unitOf n c)
    if inj then
      (false, d1.checkFail n c 5 0xFFFF rd.lead.1 (rd.lead.1 ^^^ (2 ^ rd.lead.2 - 1)) 0 true)
    else (true, d1)
  else (true, d)

/-- The sum check (R328). -/
def Dev.sumOk (d : Dev) (n c : Nat) (s : List Exact) : Bool × Dev :=
  let x := d.ctx n
  let t := x.rc.elem
  let (inj, d1) := d.takeInject 0x04 (unitOf n c)
  let got := sumCheck t s
  let obs := if inj then got ^^^ (2 ^ 64 - 1) else got
  let want := d.inputCheck x c
  let hOk := !(t = eBYTES && x.rc.op = pBXOR) || (x.chunk c).h = got
  if obs = want && hOk then (true, d1) else (false, d1.checkFail n c 2 0xFFFF want obs 0 inj)

/-- The rounding or conversion check (R329, R360): residue(fin(Y)) + residue(D) against residue(S). -/
def Dev.roundOk (d : Dev) (n c : Nat) (s : List Exact) (ys : List Exact) : Bool × Dev :=
  let t := (d.ctx n).rc.elem
  let (inj, d1) := d.takeInject 0x05 (unitOf n c)
  if t = eBYTES then (if inj then (false, d1.checkFail n c 3 0xFFFF (sumCheck t s) (sumCheck t s ^^^ (2 ^ 64 - 1)) 0 true) else (true, d1))
  else
    let want := residueList (s.map (·.a))
    let got := resAdd (residueList (ys.map (·.fin))) (residueList (remainders s ys))
    let obs := if inj then got ^^^ (2 ^ 64 - 1) else got
    if obs = want then (true, d1) else (false, d1.checkFail n c 3 0xFFFF want obs 0 inj)

/-- Note a conversion in the statistics, with the NaNs it produced (R270, R452). -/
def Dev.noteConv (d : Dev) (n c t : Nat) (s : List Exact) (rd : Rounded) : Dev :=
  let d1 := d.updCtx n (fun x => { x with health := x.health.note t (s.zip rd.ys) rd.sats rd.proms })
  rd.nans.foldl (fun a j => a.ctxNan n c j 2) d1

/-- Under HALT a chunk with a NaN is not released (R336). -/
def Ctx.halts (x : Ctx) (s : List Exact) (rd : Rounded) : Bool := x.latch.halt && (s.any (·.isNan) || rd.nans != [])

/-! ## Sending (R332, R352, R355, R363, R364) -/

/-- Place a chain cell in a ring group (R352, R355); none when no port remains. -/
def Dev.emitRing (d : Dev) (u : Nat) (h : Hop) (c : Cell) : Option Dev :=
  if d.ringPorts h.group (some c) = [] then none
  else some (d.takeIn (unitSdie u) ⟨unitX u, .ring h.group, [], d.stamp c⟩)

/-- Place a chain cell, or fail the context with PATH_LOST (R355). -/
def Dev.sendRing (d : Dev) (n u : Nat) (h : Hop) (c : Cell) : Dev :=
  if (d.ctx n).state != .collect then d
  else
    match d.emitRing u h c with
    | some d1 => d1
    | none => d.failCtx n 11 0xFFFF

/-- The payload of a CHECK cell (R130). -/
def checkPayload (c0 c1 c2 count kind : Nat) : List Byte :=
  padTo 64 (beBytes 8 c0 ++ beBytes 8 c1 ++ beBytes 8 c2 ++ beBytes 4 count ++ beBytes 1 kind)

/-- Emit result cells of a chunk to the local receivers and the next racks on the way down (R332, R364).
(DEDUCED, log entry 76). -/
def Dev.emitResult (d : Dev) (n c : Nat) (cells : List (Nat × Nat × List Byte)) : Dev :=
  let x := d.ctx n
  let r := x.rc
  let y := d.layout x.pack
  let u := unitOf n c
  let ports := d.physicals (d.receivers y r c)
  let hops := d.downHops y r c
  cells.foldl (fun a q =>
    let mk := fun level rack => mkColl q.1 cCDN 0 0 0 x.pack q.2.1 x.cseq c level rack q.2.2
    let a1 := if ports = [] then a else a.emitPorts (unitSdie u) (unitX u) (mk 0 0) ports
    hops.foldl (fun b h => b.sendRing n u h (mk h.level h.rack)) a1) d

/-- The CHECK cell of a result as emitted, with an injected inversion of CHECK1 (R332, R544). -/
def Dev.resultCheckCell (d : Dev) (n c c0 c1 c2 count kind : Nat) : (Nat × Nat × List Byte) × Dev :=
  let (inj, d1) := d.takeInject 0x0E (unitOf n c)
  ((tCheck, 0, checkPayload c0 (if inj then c1 ^^^ (2 ^ 64 - 1) else c1) c2 count kind), d1)

/-! ## The CHUNK record (R501, R502) -/

/-- Write the CHUNK record of a chunk released as home, and add it to its context's sums. -/
def Dev.writeChunkRecord (d : Dev) (n c : Nat) (h : Health) (inCheck resCheck rmd out commit : Nat) : Dev :=
  let x := d.ctx n
  let r := x.rc
  let join := joinCheck r.elem
  let d1 := d.updCtx n (fun y => { y with ledgerIn := join y.ledgerIn inCheck, ledgerRes := join y.ledgerRes resCheck,
                                          ledgerRem := join y.ledgerRem rmd, ledgerOut := join y.ledgerOut out,
                                          ledgerN := y.ledgerN + 1, commitCode := commit })
  d1.ledger { kind := 1, pack := x.pack, cseq := x.cseq, step := r.step, tensor := r.tensor, fused := r.fused, chunk := c,
              inCheck := inCheck, resCheck := resCheck, remainder := rmd, health := h.bytes, outCheck := out, commit := commit,
              elem := r.elem, op := r.op, modes := r.modes, sdie := unitSdie (unitOf n c) }

/-- The CHUNK record on the direct route. `h0` is the context's statistics before the release.
(DEDUCED, log entry 90). -/
def Dev.chunkRecord (d : Dev) (n c : Nat) (h0 : Health) (nans inCheck resCheck rmd out commit : Nat) : Dev :=
  d.writeChunkRecord n c { (d.ctx n).health.minus h0 with nans := nans } inCheck resCheck rmd out commit

/-- A chunk reaches RELEASED: its frames are free, it is counted and its bindings are raised (R337, R414). -/
def Dev.releaseDone (d : Dev) (n c : Nat) : Dev :=
  let x := d.ctx n
  if x.state != .collect then d
  else
    ((d.setCtx n { x with chunks := terase x.chunks c, released := x.released ++ [c], progressTick := d.tick }).count
      (E.CHUNKS_RELEASED (unitOf n c))).bindEvent (.sdie (unitSdie (unitOf n c))) bCHUNK x.pack c

/-! ## Low-rank projection (R440) -/

/-- FP16 values of a block's local sums, rounded by RNE (R440). -/
def fp16Of (s : List Exact) : List Nat := s.map (fun v => (convert eFP16 0 0 false v).bits)

/-- The exact sum of products of FP16 pairs (R382). -/
def exactDot (ps : List (Exact × Exact)) : Exact :=
  ps.foldl (fun (acc : Exact) z =>
    let a := z.1
    let b := z.2
    let neg := a.neg != b.neg
    let p : Exact :=
      if a.isNan || b.isNan then ⟨.nan, 0⟩
      else if a.isInf || b.isInf then
        (if (a.isFin && a.a = 0) || (b.isFin && b.a = 0) then ⟨.nan, 0⟩ else ⟨if neg then .neginf else .posinf, 0⟩)
      else signedExact neg (a.a.natAbs * b.a.natAbs / 2 ^ 149)
    acc.add p) Exact.empty

/-- A dot product forms a NaN from operands that hold none (R270). -/
def dotMakesNan (ps : List (Exact × Exact)) : Bool := (exactDot ps).isNan && ps.all (fun z => !z.1.isNan && !z.2.isNan)

/-- The FP16 values of a block's matrix P, 64 rows of RANK (R440). -/
def Dev.lowMatrix (d : Dev) (rank addr : Nat) : List Exact :=
  ((chunksOf 2 (memRead d.mem addr (128 * rank)) (64 * rank + 1)).map leNat).map (widen eFP16)

/-- The operand pairs of the elements of Rl = Pᵀ · Gh, row by row: Gh is 64 × 64, Rl RANK × 64 (R440). -/
def projectPairs (rank : Nat) (p : List Exact) (gh : List Nat) : List (List (Exact × Exact)) :=
  let gv := gh.map (widen eFP16)
  let gcols := (List.range 64).map (fun j => (List.range 64).map (fun i => gv.getD (i * 64 + j) Exact.zero))
  (List.range rank).flatMap (fun a =>
    let col := (List.range 64).map (fun i => p.getD (i * rank + a) Exact.zero)
    gcols.map (fun g => col.zip g))

/-- The operand pairs of the elements of P · fp16(R), row by row (R440). -/
def backPairs (rank : Nat) (p v : List Exact) : List (List (Exact × Exact)) :=
  let rf := (fp16Of v).map (widen eFP16)
  (List.range 64).flatMap (fun i => (List.range 64).map (fun j =>
    (List.range rank).map (fun a => (p.getD (i * rank + a) Exact.zero, rf.getD (a * 64 + j) Exact.zero))))

/-- The elements at which a product forms a NaN, each once. -/
def formedNans (ps : List (List (Exact × Exact))) : List (Nat × Nat) := (ps.zipIdx.filter (fun q => dotMakesNan q.1)).map (fun q => (q.2, 1))

/-- The NaNs that a block's projection consumes: those of Gh, and those of P, counted at the block's first element (R270).
(DEDUCED, log entry 91). -/
def projectUsed (p : List Exact) (gh : List Nat) : List (Nat × Nat) :=
  let np := (p.filter (·.isNan)).length
  (gh.zipIdx.filter (fun q => (widen eFP16 q.1).isNan)).map (fun q => (q.2, 1)) ++ (if np = 0 then [] else [(0, np)])

/-- Chunks of the block that holds a chunk (R440). -/
def CollRec.blockOf (r : CollRec) (c : Nat) : List Nat :=
  let k := r.blockChunks
  (List.range k).map (fun i => c / k * k + i)

/-- The projected partial of each upstream of a chunk (R440). -/
def Dev.upsOf (d : Dev) (x : Ctx) (c : Nat) : List (List Exact) :=
  match d.lowOf x.rc with
  | none => []
  | some (rank, _) =>
    ((x.chunk c).contribs.filter (fun e => isUp e.1)).map (fun e =>
      let vs := e.2.cells.flatMap (fun q => storedValues none (rank * 64) q.1 q.2)
      (List.range (rank * 64)).map (fun i => ((vs.find? (fun v => v.1 = i)).map (·.2)).getD Exact.empty))

/-! ## Release at the home (R331 to R335) -/

/-- The result of the direct route leaves (R332). -/
def Dev.releaseDirect (d : Dev) (n c : Nat) : Dev :=
  let x := d.ctx n
  let r := x.rc
  let s := x.sums c
  let rd := d.resultOf x c s
  let fresh := (d.asContributed x c).isNone && r.elem != eBYTES
  let d1 := if fresh then d.noteConv n c r.elem s rd else d
  let (ok1, d2) := d1.dupCheck n c rd
  if !ok1 then d2
  else if x.halts s rd then d2.failCtx n 8 0xFFFF
  else
    let (ok2, d3) := d2.sumOk n c s
    if !ok2 then d3
    else
      let (ok3, d4) := d3.roundOk n c s rd.ys
      if !ok3 then d4
      else
        let bytes := r.elem = eBYTES
        let rs := sumCheck r.elem s
        let rem := if bytes then 0 else residueList (remainders s rd.ys)
        let inp := d.inputCheck x c
        let d5 := d4.chunkRecord n c x.health ((d4.ctx n).chunk c).nans (if bytes then ((d4.ctx n).chunk c).checkXor else inp) rs rem 0 0
        let (ck, d6) := d5.resultCheckCell n c rs rem (if bytes then 0 else inp) (r.chunkCount c) (if bytes then 2 else 1)
        (d6.emitResult n c (rd.cells ++ [ck])).releaseDone n c

/-- The compute link between the S-die of a chunk's unit and the C-die of its chain (R23, R335). -/
def Dev.tierLink (d : Dev) (n c : Nat) : Nat := 4 * unitSdie (unitOf n c) + chainDie (d.chainDesc (d.ctx n).rc.fused)

/-- A chunk leaves its unit over the compute link: its frames are free, and the tier holds it (R23, R335, R337). -/
def Dev.toTier (d : Dev) (n c : Nat) (t : TierChunk) : Dev :=
  if (d.ctx n).state != .collect then d
  else
    let d1 := (d.pkgTransfer (d.tierLink n c)).releaseDone n c
    if d.linkDown (d.tierLink n c) then d1 else d1.updCtx n (fun x => { x with tier := tset x.tier c t })

/-- A chunk of a chain's output returns over the compute link and is emitted with its CHECK cell, whose residue is `k`
(R23, R335, R431). -/
def Dev.tierResult (d : Dev) (n c k count : Nat) (cells : List (Nat × Nat × List Byte)) : Dev :=
  let d1 := d.pkgTransfer (d.tierLink n c)
  if d.linkDown (d.tierLink n c) then d1
  else
    let (ck, d2) := d1.resultCheckCell n c k 0 k count 1
    d2.emitResult n c (cells ++ [ck])

/-- On the fused route the checks pass before anything leaves over the compute link (R335); the chunk then waits there
for the chain. (DEDUCED, log entry 90). -/
def Dev.releaseFused (d : Dev) (n c : Nat) : Dev :=
  let x := d.ctx n
  let r := x.rc
  let s := x.sums c
  let rounded := leField (d.chainDesc r.fused) 5 1 = 1
  let rd : Rounded := if rounded then d.resultOf x c s else {}
  let d1 := if rounded && (d.asContributed x c).isNone then d.noteConv n c r.elem s rd else d
  let (ok1, d2) := if rounded then d1.dupCheck n c rd else (true, d1)
  if !ok1 then d2
  else if x.halts s rd then d2.failCtx n 8 0xFFFF
  else
    let (ok2, d3) := d2.sumOk n c s
    if !ok2 then d3
    else
      let (ok3, d4) := if rounded then d3.roundOk n c s rd.ys else (true, d3)
      if !ok3 then d4
      else
        let y := d4.ctx n
        d4.toTier n c { s := if rounded then rd.ys else s, ups := d4.upsOf x c, inp := d4.inputCheck x c, res := sumCheck r.elem s,
                        rmd := if rounded then residueList (remainders s rd.ys) else 0,
                        base := { y.health.minus x.health with nans := (y.chunk c).nans } }

/-! ## Partials going up (R356 to R363) -/

/-- Keep a chain cell in the send log; a full region fails the context (R363). -/
def Dev.logSend (d : Dev) (n : Nat) (h : Hop) (c : Nat) (cell : Cell) : Dev :=
  if (d.ctx n).state != .collect then d
  else if d.spillRoom then
    let (i, d1) := d.putRecord (unitOf n c) cell (iniUnit (unitOf n c))
    d1.updCtx n (fun x => { x with sendLog := x.sendLog ++ [⟨h.level, h.rack, h.group, c, i⟩] })
  else d.storeFull n c

/-- The resend timer of a context starts (R363). -/
def Dev.startResend (d : Dev) (n : Nat) : Dev :=
  d.updCtx n (fun x => { x with resendInt := d.reg E.SPAN_RESEND_TICKS, resendAt := some (d.tick + d.reg E.SPAN_RESEND_TICKS) })

/-- The resend timer restarts at its present interval: a cell came back from a target's direction (R363). -/
def Dev.cameBack (d : Dev) (n : Nat) : Dev :=
  d.updCtx n (fun x => { x with resendAt := x.resendAt.map (fun _ => d.tick + x.resendInt) })

/-- Send the cells of a partial to its target. -/
def Dev.sendUp (d : Dev) (n c : Nat) (h : Hop) (cells : List (Nat × Nat × List Byte)) : Dev :=
  let x := d.ctx n
  let u := unitOf n c
  let busy := x.targets.any (fun t => t.group = h.group && t.level = h.level && t.busyAt.isSome)
  let d1 := cells.foldl (fun a q =>
    let cell := mkColl q.1 cCUP 3 0 0 x.pack q.2.1 x.cseq c h.level h.rack q.2.2
    let a1 := a.logSend n h c cell
    if busy then a1 else a1.sendRing n u h cell) d
  if (d1.ctx n).state = .collect then
    (if (d1.ctx n).resendAt.isSome then d1 else d1.startResend n).count E.PARTIALS_SENT
  else d1

/-- The EF_TABLE entry that covers a record: its COUNT and its offset in the residual region (R359, R377). -/
def Dev.efEntry (d : Dev) (r : CollRec) : Option (Nat × Nat) :=
  ((chunksOf 16 (d.blob E.EF_TABLE) 257).find? (fun e => beNat (slice e 0 4) = r.tensor && r.count ≤ beNat (slice e 4 5))).map
    (fun e => (beNat (slice e 4 5), beNat (slice e 12 4) * mib1))

/-- An entry covers the record. -/
def Dev.efCovers (d : Dev) (r : CollRec) : Bool := (d.efEntry r).isSome

/-- Where the tag of a (level, parity) slot of an entry stands in the residual region. (DESIGN CHOICE, log entry 135). -/
def efTagAt (off level parity : Nat) : Nat := off + 8 * (2 * (level - 1) + parity)

/-- Where an element of a slot stands: 256 bytes of tags, then 4 bytes an element, slot by slot. (DESIGN CHOICE, log entry 135). -/
def efElemAt (off count level parity index : Nat) : Nat := off + 256 + 4 * ((2 * (level - 1) + parity) * count + index)

/-- The residuals of `n` elements from `base` as a unit reads them from HBM4 (R27, R359), as FP32 bits: zeros where the tag is not
that of the step before; none where a word is uncorrectable. -/
def Dev.residuals (d : Dev) (r : CollRec) (level base n ini : Nat) : Option (List Nat) × Dev :=
  let zeros := List.replicate n 0
  match d.efEntry r with
  | none => (some zeros, d)
  | some (count, off) =>
    let par := (r.step + 1) % 2
    match d.regionRead d.generalTop (efTagAt off level par) 8 ini with
    | (none, d1) => (none, d1)
    | (some t, d1) =>
      if r.step = 0 || leNat t != r.step then (some zeros, d1)
      else
        match d1.regionRead d1.generalTop (efElemAt off count level par base) (4 * n) ini with
        | (none, d2) => (none, d2)
        | (some bs, d2) => (some ((chunksOf 4 bs (n + 1)).map leNat), d2)

/-- The residual X − Q rounded to FP32, saturated to the largest finite value of its sign (R359, R439): classes subtract as they add
(R252), so that of an infinity is the largest finite value and that of a NaN is NaN. (DEDUCED, log entry 74). -/
def residualBits (x q : Exact) : Nat :=
  let e := x.sub q
  let cv := convert eFP32 0 0 false e
  if e.isNan then canonNan eFP32
  else if cv.bits % 2 ^ 31 = 0x7F800000 then (if bits cv.bits 31 1 = 1 then 0xFF7FFFFF else 0x7F7FFFFF)
  else cv.bits

/-- Write residuals to HBM4 and tag their slot with the step, as the step after it (R27, R359). -/
def Dev.writeResiduals (d : Dev) (r : CollRec) (level base : Nat) (es : List Nat) (ini : Nat) : Dev :=
  match d.efEntry r with
  | none => d
  | some (count, off) =>
    let par := r.step % 2
    (d.regionWrite d.generalTop (efTagAt off level par) (leBytes 8 (r.step + 1)) ini).regionWrite d.generalTop
      (efElemAt off count level par base) (es.flatMap (leBytes 4)) ini

/-- Packed cells as cells to send. -/
def packedCells (s : List Exact) : List (Nat × Nat × List Byte) := (packCells 0 s (s.length + 1)).map (fun p => (tData, 0, p))

/-- The partial of a chunk leaves for its target, after the sum check (R335, R357 to R360, R440).
(DEDUCED, log entry 140). -/
def Dev.releasePartial (dd : Dev) (n c : Nat) (h : Hop) : Dev :=
  let ini := iniUnit (unitOf n c)
  let rr := (dd.ctx n).rc
  let mine : Bool := (rr.op = pSUM || rr.op = pWSUM) && rr.compact && (dd.lowOf rr).isNone
  let (got, d) := if mine then dd.residuals rr h.level (c * eChunk rr.elem) (rr.chunkCount c) ini else (some [], dd)
  let x := d.ctx n
  let r := x.rc
  let s := x.sums c
  let inp := d.inputCheck x c
  let count := r.chunkCount c
  if got.isNone then d.failCtx n 7 0xFFFF
  else if mine then
    let t := upperType r.upper
    let base := c * eChunk r.elem
    let res := got.getD []
    let xs := (s.zip res).map (fun z => z.1.add (widen eFP32 z.2))
    let rd := roundValues x.env t 0x02 base xs
    let absent := !d.efCovers r
    let d1 := d.noteConv n c t xs rd
    let d2 := if absent then (d1.count E.EF_ABSENT).updCtx n (fun y => { y with health := { y.health with efAbsent := y.health.efAbsent + 1 } }) else d1
    let (ok1, d3) := d2.dupCheck n c rd
    if !ok1 then d3
    else if x.halts xs rd then d3.failCtx n 8 0xFFFF
    else
      let (ok2, d4) := d3.sumOk n c s
      if !ok2 then d4
      else
        let (ok3, d5) := d4.roundOk n c xs rd.ys
        if !ok3 then d5
        else
          let d6 := if absent then d5 else d5.writeResiduals r h.level base ((xs.zip rd.ys).map (fun z => residualBits z.1 z.2)) ini
          let c1 := resSub (residueList (remainders xs rd.ys)) (residueList (res.map (fun v => (widen eFP32 v).a)))
          let ck := (tCheck, 0, checkPayload (residueList (rd.ys.map (·.fin))) c1 inp count 1)
          (d6.sendUp n c h (rd.cells ++ [ck])).releaseDone n c
  else if x.halts s {} then d.failCtx n 8 0xFFFF
  else
    let (ok2, d1) := d.sumOk n c s
    if !ok2 then d1
    else
      match d.lowOf r with
      | some _ =>
        d1.toTier n c { s := s, ups := d1.upsOf x c, inp := inp, res := sumCheck r.elem s }
      | none =>
        let rs := sumCheck r.elem s
        if r.elem = eBYTES then
          (d1.sendUp n c h (plainCells eBYTES (s.map (·.a.toNat)) ++ [(tCheck, 0, checkPayload rs 0 0 count 2)])).releaseDone n c
        else if r.op = pSUM || r.op = pWSUM then
          (d1.sendUp n c h (packedCells s ++ [(tCheck, 0, checkPayload rs 0 inp count 1)])).releaseDone n c
        else
          let rd := roundValues x.env r.elem 0x02 (c * eChunk r.elem) s
          let k := residueList (rd.ys.map (·.fin))
          ((d1.noteConv n c r.elem s rd).sendUp n c h (rd.cells ++ [(tCheck, 0, checkPayload k 0 inp count 1)])).releaseDone n c

/-! ## Results coming down (R365) -/

/-- The element type of result cells: a chain's OUT_TYPE, or the record's own type (R431). -/
def Dev.resultType (d : Dev) (r : CollRec) : Nat :=
  match d.roleOf r with
  | none | some .group => r.elem
  | some .route => eBF16
  | _ => leField (d.chainDesc r.fused) 6 1

/-- The cells of a relayed chunk as they came, in order of CELL, each DATA cell before its PROMO cells (R365). -/
def Contrib.asStored (b : Contrib) : List (Nat × Nat × List Byte) :=
  (List.range 64).flatMap (fun c =>
    (tget b.cells c).toList.map (fun p => (tData, c, p)) ++
    (List.range 5).flatMap (fun s => (tget b.cells (promoKey c s)).toList.map (fun p => (tPromo, c, p))))

/-- A relayed chunk passes its check and is emitted unchanged, or fails the context (R365). -/
def Dev.relayChunk (d0 : Dev) (n c : Nat) : Dev :=
  let (stored, d) := d0.storeRead n c
  let x := d.ctx n
  let r := x.rc
  let y := d.layout x.pack
  let z := tgetD x.down c {}
  let b := tgetD z.contribs 0 {}
  let t := d.resultType r
  let count := r.resultElems c
  let ch := b.check.getD ⟨0, 0, 0, 0, 0⟩
  let vs := b.cells.flatMap (fun e => storedValues (some t) count e.1 e.2)
  let member := ((y.target (d.resultHome y r c)).map (fun h => h.rack * 256 + 0xFF)).getD 0xFFFF
  let got := if t = eBYTES then b.u else residueAt (vs.map (fun v => (v.1, v.2.fin)))
  let ok := if t = eBYTES then got = ch.c0
    else ch.c0 < resP && ch.c1 < resP && ch.c2 < resP && got = resSub ch.c0 ch.c1 && ch.c0 = ch.c2
  if !stored then d.failCtx n 7 0xFFFF
  else if !ok then d.checkFail n c 1 member ch.c0 got 0 false
  else
    let (ck, d2) := d.resultCheckCell n c ch.c0 ch.c1 ch.c2 ch.count ch.kind
    let cells := b.asStored ++ [ck]
    let d1 := d2.emitResult n c cells
    if (d1.ctx n).state != .collect then d1
    else
      ((((d1.updCtx n (fun q => { q with down := terase q.down c, relayed := q.relayed ++ [c], progressTick := d.tick })).count
        E.CHUNKS_RELAYED).count (E.CHUNKS_RELEASED (unitOf n c))).bindEvent (.sdie (unitSdie (unitOf n c))) bCHUNK x.pack c)

/-- A result cell enters a relay's frames (R365, R337). -/
def Dev.takeDown (d : Dev) (n c : Nat) (w : Bring) (ini : Nat) : Dev :=
  let x := d.ctx n
  let t := d.resultType x.rc
  let count := x.rc.resultElems c
  let z := tgetD x.down c {}
  let b := tgetD z.contribs 0 {}
  if b.has w then d.duplicate
  else
    let b1 := match w with
      | .data key pay =>
        let vs := storedValues (some t) count key pay
        { b with cells := tset b.cells key pay, applied := true, data := if key < 64 then maskSet b.data key else b.data,
                 promo := if 64 ≤ key then maskSet b.promo (key - 64) else b.promo, u := joinCheck t b.u (sentCheck t count vs) }
      | .run _ _ _ => b
      | .check ch => { b with check := some ch, applied := true }
    let cell := match w with
      | .data key _ => if key < 64 then key else (key - 64) / 8
      | _ => 64
    let member := (((d.layout x.pack).target (d.resultHome (d.layout x.pack) x.rc c)).map (fun h => h.rack * 256 + 0xFF)).getD 0xFFFF
    if b1.breaks t cell then d.mismatch n 8 member ini c
    else
      let full := b1.complete (some t) count && z.state = .opened
      let z1 := { z with contribs := tset z.contribs 0 b1, state := if full then .check else z.state,
                         completeTick := if full then d.tick else z.completeTick }
      (d.setCtx n { x with down := tset x.down c z1 }).progress n

/-- Log a result cell (R339, R365). -/
def Dev.logDown (d : Dev) (n c : Nat) (cell : Cell) (ini : Nat) : Dev :=
  if d.spillRoom then
    let (i, d1) := d.putRecord (unitOf n c) cell ini
    ((d1.updCtx n (fun y => { y with down := tset y.down c { tgetD y.down c {} with
        state := .logged, log := (tgetD y.down c {}).log ++ [⟨0, i⟩] } })).count (E.CELLS_LOGGED (unitOf n c))).progress n
  else d.storeFull n c

/-- A result cell that arrives from a rack nearer the home (R365): frames, the log, or STORE_FULL. -/
def Dev.placeDown (d : Dev) (n c : Nat) (w : Bring) (cell : Cell) (ini : Nat) : Dev :=
  let x := d.ctx n
  let u := unitOf n c
  match tget x.down c with
  | none =>
    if d.canOpen n u (accFrames x.rc.elem + 1) then
      (((d.updCtx n (fun y => { y with down := tset y.down c {} })).rewriteWord 1 (storeWord n c)).noteFrames u).takeDown n c w ini
    else if x.latch.noSpill then d.storeFull n c
    else d.logDown n c cell ini
  | some z =>
    if z.state = .logged then d.logDown n c cell ini
    else d.takeDown n c w ini

/-- What a result cell brings. -/
def downBring (c : Cell) : Bring :=
  if c.type = tCheck then .check ⟨c.pay 0 8, c.pay 8 8, c.pay 16 8, c.pay 24 4, c.pay 28 1⟩
  else .data (if c.type = tPromo then promoKey c.cell (promoSub c.payload) else c.cell) c.payload

/-- A result cell breaks the chunk layout as far as it shows alone (R297, R661). -/
def Dev.downBreaks (d : Dev) (r : CollRec) (c : Cell) : Bool :=
  let count := r.resultElems c.chunk
  let t := d.resultType r
  if c.type = tCheck then c.pay 24 4 != count
  else count ≤ c.cell * eCell t || (c.type = tPromo && promoBreaks t none c.payload)

/-- A relayed chunk is past taking cells, or holds this one: the cell is a duplicate before anything else is judged (R297, R336). -/
def Ctx.downHas (x : Ctx) (c : Nat) (w : Bring) : Bool :=
  x.relayed.contains c ||
  (match tget x.down c with
   | none => false
   | some z => z.state = .check || (tgetD z.contribs 0 {}).has w)

/-- A result cell at a bound context in COLLECT (R354, R365). `g` is the ring group it arrived on.
(DEDUCED, log entry 76). -/
def Dev.relayCell (d : Dev) (n : Nat) (g : Nat) (c : Cell) (ini : Nat) : Dev :=
  let x := d.ctx n
  let r := x.rc
  let y := d.layout x.pack
  if x.record.isNone then d.count E.NO_RECORD_DROPS
  else if d.resultCount y r ≤ c.chunk then d.mismatch n 8 0xFFFF ini c.chunk
  else if x.downHas c.chunk (downBring c) then (d.cameBack n).duplicate
  else
    match y.target (d.resultHome y r c.chunk) with
    | none => d.mismatch n 8 0xFFFF ini c.chunk
    | some h =>
      let member := h.rack * 256 + 0xFF
      if h.group != g || h.level != c.level || d.downBreaks r c then d.mismatch n 8 member ini c.chunk
      else (d.cameBack n).placeDown n c.chunk (downBring c) c ini

/-! ## Restore (R340) -/

/-- CHUNK_RESTORE_START: frames go to the LOGGED chunk that comes first in its unit, and its replay starts (R337,
R340). (DEDUCED, log entry 78). -/
def execChunkRestoreStart (ctx : CtxNo) (chunk : BitVec 20) (s : State) : Host.Outcome State Fault Refusal :=
  run s fun d =>
    let n := ctx.val
    let c := chunk.toNat
    let u := unitOf n c
    if d.switchStill then d
    else if d.nextRestore u = some (n, c, false) then
      let r := (d.ctx n).rc
      ((d.updChunk n c (fun z => { openedChunk r c with state := .restore, log := z.log })).rewriteWord 1 (storeWord n c)).noteFrames u
    else if d.nextRestore u = some (n, c, true) then
      ((d.updCtx n (fun x => { x with down := tset x.down c { tgetD x.down c {} with state := .restore } })).rewriteWord 1 (storeWord n c)).noteFrames u
    else d

/-- A relayed chunk that has all its cells enters CHECK. -/
def Dev.completeDown (d : Dev) (n c : Nat) : Dev :=
  let x := d.ctx n
  match tget x.down c with
  | some z =>
    if z.state = .opened && (tgetD z.contribs 0 {}).complete (some (d.resultType x.rc)) (x.rc.resultElems c) then
      d.setCtx n { x with down := tset x.down c { z with state := .check, completeTick := d.tick } }
    else d
  | none => d

/-- The replay of a relayed chunk's log. -/
def Dev.replayDown (d : Dev) (n c : Nat) (log : List LogRec) : Dev :=
  log.foldl (fun a l =>
    if (a.ctx n).state != .collect then a
    else
      match a.getRecord (unitOf n c) l.record with
      | (none, a1) => a1.failCtx n 7 0xFFFF
      | (some (cell, ini), a1) =>
        if a1.downBreaks (a1.ctx n).rc cell then a1 else a1.takeDown n c (downBring cell) ini) d

/-- CHUNK_RESTORE_END: the records have been replayed, and they are freed (R337, R340). -/
def execChunkRestoreEnd (ctx : CtxNo) (chunk : BitVec 20) (s : State) : Host.Outcome State Fault Refusal :=
  run s fun d =>
    let n := ctx.val
    let c := chunk.toNat
    let restoring := fun (z : Option Chunk) => (z.map (fun q => q.state == .restore)).getD false
    if d.switchStill then d
    else if restoring (tget (d.ctx n).chunks c) then
      let z := (d.ctx n).chunk c
      let d1 := (d.updChunk n c (fun y => { y with log := [] })).replayLog n c z.log
      if (d1.ctx n).state = .collect then
        ((d1.updChunk n c (fun y => { y with state := .opened })).count (E.CHUNKS_RESTORED (unitOf n c))).completeChunk n c
      else d1
    else if restoring (tget (d.ctx n).down c) then
      let z := tgetD (d.ctx n).down c {}
      let d0 := d.updCtx n (fun x => { x with down := tset x.down c { z with log := [], state := .opened } })
      let d1 := d0.replayDown n c z.log
      if (d1.ctx n).state = .collect then (d1.completeDown n c).count (E.CHUNKS_RESTORED (unitOf n c)) else d1
    else d

/-! ## RELEASE_CHECK_DONE (R331) -/

/-- Ticks of the release pipeline: 192 S-die cycles, or 256 under RESIDUE+DUP on the direct route, are 2.4 and 3.2
ticks, so the least whole tick at which it can have finished is 2, or 3, after completion (R331, R334).
(DEDUCED, log entry 138). -/
def releaseTicks (r : CollRec) : Nat := if r.dup && r.fused = 0 then 3 else 2

/-- Ticks after completion at which a chunk's release or failure is due. The comparison of RESIDUE+DUP ends by cycle 128,
1.6 ticks, so a chunk that it fails stops after 1 (R334). (DEDUCED, log entry 138; DESIGN CHOICE, log entry 157). -/
def Dev.releaseWait (d : Dev) (n c : Nat) : Nat :=
  let r := (d.ctx n).rc
  if r.dup && r.fused = 0 && (d.takeInject 0x07 (unitOf n c)).1 then 1 else releaseTicks r

/-- A chunk in CHECK has finished the pipeline: released, sent up, or handed to the tier (R331, R335).
(DEDUCED, log entry 72). -/
def Dev.releaseChunk (d : Dev) (n c : Nat) : Dev :=
  let x := d.ctx n
  let r := x.rc
  let y := d.layout x.pack
  let (ok, d1) := d.storeRead n c
  if !ok then d1.failCtx n 7 0xFFFF
  else
    match (if y.spanning then y.target (d.home y r c) else none) with
    | some h => d1.releasePartial n c h
    | none =>
      match d.roleOf r with
      | none | some .group => d1.releaseDirect n c
      | some _ => d1.releaseFused n c

end Sys2Proof.Machine
end

