-- ==== Sys2Proof/Machine/Slots.lean ====
section
/-! DEFINITION. Chain headers, slot headers and what a record needs of a chain
(R419, R421, R422, R427, R428, R441, R444, R445). -/

namespace Sys2Proof.Machine

/-! ## Header fields (R419) -/

/-- INPUT. -/
def chInput (desc : List Byte) : Nat := leField desc 5 1
/-- OUT_TYPE; 0 for NONE. -/
def chOut (desc : List Byte) : Nat := leField desc 6 1
/-- GRAD_TYPE. -/
def chGrad (desc : List Byte) : Nat := leField desc 7 1
/-- TENSOR. -/
def chTensor (desc : List Byte) : Nat := leField desc 8 4
/-- INPUT_SCALE. -/
def chScale (desc : List Byte) : Nat := leField desc 12 4
/-- ELEMENTS. -/
def chElements (desc : List Byte) : Nat := leField desc 16 5
/-- HOMED_CHUNKS. -/
def chHomed (desc : List Byte) : Nat := leField desc 24 4
/-- STATE_BYTES. -/
def chStateBytes (desc : List Byte) : Nat := leField desc 40 8
/-- STASH_ADDR. -/
def chStash (desc : List Byte) : Nat := leField desc 48 8
/-- STASH_BYTES. -/
def chStashBytes (desc : List Byte) : Nat := leField desc 56 8

/-! ## Slot headers (R428) -/

/-- EMPTY. -/
def stEMPTY : Nat := 0
/-- WRITING. -/
def stWRITING : Nat := 1
/-- PREPARED. -/
def stPREPARED : Nat := 2
/-- COMMITTED. -/
def stCOMMITTED : Nat := 3
/-- ROLLED_BACK. -/
def stROLLED : Nat := 4

/-- TAG and state of slot i. (DEDUCED, log entry 19). -/
def Dev.slotHead (d : Dev) (desc : List Byte) (i : Nat) : Nat × Nat :=
  let h := memRead d.mem (chState desc + 64 * i) 8
  (leField h 0 6, leField h 6 1)

/-- Write the header of slot i. (DEDUCED, log entry 19). -/
def Dev.setSlotHead (d : Dev) (desc : List Byte) (i tag st : Nat) : Dev :=
  d.writeMem (chState desc + 64 * i) (leBytes 6 tag ++ leBytes 1 st ++ List.replicate 57 0)

/-- A chain slot. -/
def Dev.chain (d : Dev) (i : Nat) : ChainSlot := tgetD d.chains i {}

/-- Replace a chain slot. -/
def Dev.setChain (d : Dev) (i : Nat) (x : ChainSlot) : Dev := { d with chains := tset d.chains i x }

/-- The slot rule admits a step (R445). -/
def Dev.admitsStep (d : Dev) (slot s : Nat) : Bool :=
  let c := d.chain slot
  let h := d.slotHead c.desc ((s + 1) % 2)
  c.committed + 1 = s || (c.committed + 2 = s && h.1 = s - 1 && h.2 = stPREPARED)

/-! ## Check 5 of R296 (R421, R422, R441, R444) -/

/-- A chain holds a step. -/
def chainHas (desc : List Byte) (o : Nat) : Bool := (chainOps desc).contains o

/-- The record's type and fields match the role (R421, R441, R444). -/
def Dev.roleFits (d : Dev) (y : Layout) (r : CollRec) (desc : List Byte) (role : ChainRole) : Bool :=
  match role with
  | .gradient => (r.collType = kALLREDUCE || r.collType = kREDSCAT || r.collType = kREDUCE) && r.tensor = chTensor desc
  | .group =>
    r.elem = eINT32 && r.count = 22 && ((r.collType = kALLREDUCE && r.op = pSUM) || r.collType = kBCAST)
  | .source => (r.collType = kALLREDUCE && r.op = pSUM) || r.collType = kGATHER
  | .route =>
    let q := routeParams desc
    r.collType = kDISPATCH && r.elem = eBF16 && r.shard % max 1 q.dchunks = 0 &&
      q.experts * y.ranks * q.cap * q.dchunks ≤ 2 ^ 20 &&
      (List.range q.experts).all (fun e => leNat (memRead d.mem (q.mapAddr + 2 * e) 2) < y.ranks)
  | .combine =>
    let q := d.routeOf r
    r.collType = kCOMBINE && r.count = q.experts * y.ranks * q.cap * q.dchunks * eChunk r.elem && (d.routeRec r).isSome

/-- The number of chunks of a record that this switch homes. -/
def Dev.homedCount (d : Dev) (y : Layout) (r : CollRec) : Nat :=
  ((List.range r.nchunk).filter (fun c => d.home y r c = y.own)).length

/-- A chain is loaded for a record (R422, R521). -/
def Dev.chainFor (d : Dev) (y : Layout) (r : CollRec) : Bool :=
  match d.chainSlotOf r.fused with
  | none => false
  | some slot =>
    let desc := (d.chain slot).desc
    match chainRole desc with
    | none => false
    | some role =>
      let big := chainHas desc oKFAC || chainHas desc oLOWRANK
      d.roleFits y r desc role && r.elem = chGrad desc && r.count = chElements desc &&
        d.homedCount y r ≤ chHomed desc &&
        (!big || (r.collType = kREDSCAT && r.shard % (max 1 (4096 / eChunk r.elem)) = 0)) &&
        !(chainHas desc oLOWRANK && r.compact) &&
        (!d.stateful desc || d.admitsStep slot r.step)

end Sys2Proof.Machine
end

