-- ==== Sys2Proof/Machine/Collect.lean ====
section
/-! DEFINITION. Collectives: matching at ingress, opening and validation, heels, completion, failure across racks and
time transfer (R278, R279, R284 to R314, R347, R356, R363, R366 to R374, R436, R448). -/

namespace Sys2Proof.Machine

/-! ## The sequence window (R290 to R292) -/

/-- Entries that a context latches when it is allocated (R271, R339). (DEDUCED, log entry 115). -/
def Dev.latchNow (d : Dev) : Latch :=
  { shiftB4 := d.reg E.PROMOTE_SHIFT_B4, shiftT2 := d.reg E.PROMOTE_SHIFT_T2, strict := d.reg E.E4M3_OVERFLOW = 1,
    halt := d.reg E.NAN_POLICY = 1, seed := beNat (d.blob E.JOB_SEED), noSpill := d.reg E.SPILL_POLICY = 1 }

/-- Bind a pair in the window to a free context of its pack (R290). (DESIGN CHOICE, log entry 65). -/
def Dev.bindPair (d : Dev) (p s : Nat) : Option (Nat × Dev) :=
  match d.bound p s with
  | some n => some (n, d)
  | none =>
    match (((tget d.packs p).map (·.contexts)).getD []).find? (fun n => (d.ctx n).state = .free) with
    | none => none
    | some n =>
      let x : Ctx := { pack := p, cseq := s, state := .collect, openTick := d.tick, progressTick := d.tick, latch := d.latchNow }
      some (n, (d.setCtx n x).count (E.OPENED p))

/-- What the checks of R292 answer for a cell: 0, or the code of R294. -/
def Dev.pairCode (d : Dev) (p s : Nat) (memberOk : Bool) : Nat :=
  match tget d.packs p with
  | none => 2
  | some k =>
    if !memberOk then 3
    else if k.position s = 2 then 4
    else if k.position s = 1 then 1
    else 0

/-- The counter of a discarded cell other than START and HEEL (R292). -/
def dropKey (code : Nat) : Nat :=
  if code = 2 then E.INACTIVE_DROPS else if code = 3 then E.FOREIGN_DROPS else if code = 4 then E.STALE_DROPS else E.WINDOW_DROPS

/-- The sender key of a cell from a neighbour switch: the ring group of its arrival port; 261 for none. -/
def Dev.ringKey (d : Dev) (p b : Nat) : Nat := ((d.groupOf b p).map (256 + ·)).getD 261

/-- The sender key of a cell: a logical port, or LEVEL and the ring group of arrival (R354); 261 where the level is not that of
the group's ring, from which no upstream sends. -/
def Dev.senderKey (d : Dev) (src : Src) (level : Nat) (b : Nat) : Nat :=
  match src with
  | .fabric p =>
    if level = 0 then d.logical p.val
    else
      let k := d.ringKey p.val b
      if level = (k - 256) / 2 + 1 then k else 261
  | .internal _ _ => tierKey

/-- The rack whose switch sent a table-routed cell: SRC names it, whichever way round the ring it came (R209, R356, R370). -/
def Dev.arrivedFrom (d : Dev) (src : Src) (c : Cell) : Option Nat :=
  match src with
  | .fabric p => if d.peerKind p.val = 2 then some (addrRack c.srcAddr) else none
  | .internal _ _ => none

/-- A sender is a local member of a pack. -/
def Dev.isMember (d : Dev) (p k : Nat) : Bool := ((tget d.packs p).map (fun x => maskHas x.members k)).getD false

/-! ## The start record (R284, R285) -/

/-- The payload of the START that this switch sends its targets (R356). -/
def upStart (r : CollRec) : List Byte :=
  let w := if r.op = pWSUM then (if r.collType = kCOMBINE then 2 ^ 30 else 0x3F80) else 0
  padTo 64 (beBytes 1 r.collType ++ beBytes 1 r.elem ++ beBytes 1 r.op ++ beBytes 1 r.modes ++ beBytes 5 r.count ++
    beBytes 6 r.step ++ beBytes 4 r.tensor ++ beBytes 4 r.fused ++ beBytes 1 r.root ++ beBytes 3 r.shard ++ beBytes 4 w)

/-- The record in a HEEL's payload (R309). -/
def heelRecord (c : Cell) : CollRec := { heel := true, collType := 6, step := c.pay 4 6, kind := c.pay 10 1 }

/-- The lowest field code in which two records differ (R285); 0 where they match. -/
def firstDiffers (a b : CollRec) : Nat :=
  if a.heel != b.heel then 1
  else if a.collType != b.collType then 1
  else if a.elem != b.elem then 2
  else if a.op != b.op then 3
  else if a.compact != b.compact then 4
  else if a.upper != b.upper then 5
  else if a.rounding != b.rounding then 6
  else if a.dup != b.dup then 7
  else if a.count != b.count then 8
  else if a.step != b.step then 9
  else if a.tensor != b.tensor then 10
  else if a.fused != b.fused then 11
  else if a.root != b.root then 12
  else if a.shard != b.shard then 13
  else if a.kind != b.kind then 14
  else 0

/-- An operator R282 does not allow for the collective or element type. The types named beside NONE take NONE alone
(DEDUCED). -/
def opRefused (r : CollRec) : Bool :=
  if r.collType = kGATHER || r.collType = kBCAST || r.collType = kDISPATCH then r.op != pNONE
  else if r.op = pNONE then true
  else if r.collType = kCOMBINE && r.op != pWSUM then true
  else if opBitwise r.op then !(r.elem = eINT8 || r.elem = eINT32 || r.elem = eBYTES)
  else r.elem = eBYTES

/-- Check 1 of R296. `registered` is the START's bit. (DEDUCED, log entry 85). -/
def badRecord (r : CollRec) (registered : Bool) (m : Nat) : Bool :=
  r.collType = 0 || 8 < r.collType || !elemKnown r.elem || 7 < r.op || r.rounding = 3 ||
  r.collType = 6 || !registered || r.count = 0 || 2 ^ 20 < r.nchunk || opRefused r || (!r.compact && r.upper != 0) ||
  (if r.collType = kBCAST || r.collType = kREDUCE then m ≤ r.root else r.root != 0) ||
  (if r.collType = kREDSCAT || r.collType = kGATHER || r.collType = kDISPATCH || r.collType = kCOMBINE then r.shard = 0 else r.shard != 0) ||
  ((r.collType = kREDSCAT || r.collType = kGATHER) && m < (r.nchunk + r.shard - 1) / max 1 r.shard) ||
  (r.collType = kDISPATCH && r.nchunk != m * r.shard) ||
  ((r.collType = kDISPATCH || r.collType = kCOMBINE) && r.fused = 0)

/-- Check 2 of R296 (R358, R521). (DEDUCED, log entry 85). -/
def modeRefused (r : CollRec) (spanning : Bool) : Bool :=
  spanning && r.compact &&
  ((r.upper = 0 && (r.elem = eE4M3 || r.elem = eE5M2 || r.elem = eINT8 || elemBlocks r.elem)) ||
   (r.upper = 1 && elemBlocks r.elem) || (r.upper = 2 && r.elem = eT2))

/-- The ring groups of the dimensions that a hierarchy spans (R375). -/
def Layout.spanGroups (y : Layout) : List Nat :=
  if y.spanning then (if 1 < y.xs.length then [0, 1] else []) ++ (if 1 < y.ys.length then [2, 3] else []) else []

/-- Check 3 of R296: the first member whose port is in OFF, DETECT, ABSENT or QUARANTINE. -/
def Dev.absentMember (d : Dev) (y : Layout) : Option Nat :=
  y.members.find? (fun m =>
    let st := (d.port (d.physical m)).state
    st = .off || st = .detect || st = .absent || st = .quarantine)

/-- Checks 1 to 5 of R296: the status, and MEMBER of COLL_DONE; none where all pass. (DEDUCED, log entry 84). -/
def Dev.startRefused (d : Dev) (y : Layout) (r : CollRec) (registered : Bool) : Option (Nat × Nat) :=
  let weak := y.members.find? (fun m => d.reg (E.FABRIC_LEVEL (d.physical m)) = 2)
  let ring := (y.spanGroups.flatMap (fun g => d.groupPorts d.ingressEpoch g)).find? (fun p =>
    (d.port p).state = .up && d.reg (E.FABRIC_LEVEL p) = 2)
  if badRecord r registered y.ranks then some (2, 0xFFFF)
  else if modeRefused r y.spanning then some (3, 0xFFFF)
  else
    match d.absentMember y with
    | some m => some (4, d.memberVal m)
    | none =>
      match (if needsFL3 r false then weak else none) with
      | some m => some (5, d.memberVal m)
      | none =>
        match (if needsFL3 r true then ring else none) with
        | some p => some (5, d.memberVal (d.logical p))
        | none => if r.fused != 0 && !d.chainFor y r then some (6, 0xFFFF) else none

/-! ## Opening (R296, R298, R356, R422, R436) -/

/-- The START cell for a target (R352, R356). -/
def upStartCell (x : Ctx) (t : Hop) : Cell := mkColl tStart cCUP 3 0 0 x.pack 0 x.cseq 0 t.level t.rack (upStart x.rc)

/-- Send STARTs to every target of the record (R356). (DEDUCED, log entry 137). -/
def Dev.sendStarts (d : Dev) (n : Nat) : Dev :=
  let x := d.ctx n
  let y := d.layout x.pack
  (d.startsTo y x.rc).foldl (fun a h =>
    let a1 := (a.updCtx n (fun z => { z with targets := z.targets ++ [SpanTarget.mk h.level h.rack h.group none 0] })).startResend n
    a1.sendRing n (n % 16) h (upStartCell x h)) d

/-- The router opens its record and reads the map (R422, R443): the last four pairs of a chain are kept. None where a word of the map
is uncorrectable (R504).
(DEDUCED, log entry 141). -/
def Dev.openRoute (d0 : Dev) (r : CollRec) : Option Dev :=
  let q := d0.routeOf r
  let (bs, d) := d0.readMem q.mapAddr (2 * q.experts) (d0.freeCore (chainDie (d0.chainDesc r.fused)))
  bs.map fun bs =>
  let map := (chunksOf 2 bs (q.experts + 1)).map leNat
  let others := d.routes.filter (fun z => !(z.chain = r.fused && z.step = r.step && z.tensor = r.tensor))
  let mine := others.filter (fun z => z.chain = r.fused)
  let kept := others.filter (fun z => z.chain != r.fused) ++ mine.drop (mine.length - 3)
  { d with routes := kept ++ [{ chain := r.fused, step := r.step, tensor := r.tensor, map := map }] }

/-- The key of a clip group's accumulator (R435). -/
def normKey (group step : Nat) : Nat := group * 2 + step % 2

/-- NA[GROUP, STEP mod 2], NEGZERO where its tag is another step (R435). -/
def Dev.norm (d : Dev) (group step : Nat) : Exact :=
  match tget d.norms (normKey group step) with
  | some z => if z.tag = step then z.val else Exact.empty
  | none => Exact.empty

/-- The 22 limbs of a switch's term (R436). -/
def limbs (v : Exact) : List Nat :=
  (List.range 20).map (fun i => bits v.a.natAbs (16 * i) 16) ++ [if v.cls = .posinf then 1 else 0, if v.cls = .nan then 1 else 0]

/-- The switch's own contribution to an EXCHANGE (R436), as cells of the compute tier. (DEDUCED, log entry 77). -/
def Dev.addTerm (d : Dev) (n : Nat) : Dev :=
  let x := d.ctx n
  let r := x.rc
  let s0 := chainStep (d.chainDesc r.fused) 0
  let ls := limbs (d.norm (leField s0 8 1) r.step)
  let k := residueList (ls.map (fun v => Int.ofNat v * 2 ^ 149))
  let cells := plainCells eINT32 ls ++ [(tCheck, 0, checkPayload k 0 0 22 1)]
  let d0 := d.updCtx n (fun z => { z with validated := z.validated ++ [tierKey] })
  cells.foldl (fun a q =>
    if (a.ctx n).state = .collect then
      a.contribute n tierKey (mkColl q.1 cCUP 0 0 0 x.pack q.2.1 x.cseq 0 0 0 q.2.2) (iniUnit (unitOf n 0))
    else a) d0

/-- A START validates its sender: weights are kept and its provisional accumulators merge (R298). -/
def Dev.validate (d : Dev) (n k weight : Nat) : Dev :=
  let d1 := d.updCtx n (fun x => { x with validated := x.validated ++ [k], weights := tset x.weights k weight, progressTick := d.tick })
  (d1.mergeSender n k).completeAll n

/-- The ring groups a context of a spanning pack needs: its chunks' and the coordinator's arms (R368). -/
def Dev.groupsNeeded (d : Dev) (x : Ctx) : List Nat :=
  let y := d.layout x.pack
  let r := x.rc
  if !y.spanning || x.record.isNone then []
  else
    let hs := y.upstreams (r.coordinator y) ++ (y.target (r.coordinator y)).toList ++ d.startsTo y r ++
      (d.sampleChunks y r).flatMap (fun c => d.upContribs y r c ++ d.downHops y r c)
    (hs.map (·.group)).eraseDups

/-- A ring group that a context needs has no port left that may carry its cells (R355, R368). -/
def Dev.pathLost (d : Dev) (x : Ctx) : Bool :=
  let weak := needsFL3 x.rc true
  (d.groupsNeeded x).any (fun g => (d.ringPorts g none).all (fun p => weak && d.reg (E.FABRIC_LEVEL p) = 2))

/-- The record is set (R296): targets hear of it, the router opens, and the tier adds its term. A context whose path has no port
fails at once (R368). (DEDUCED, log entries 77 and 83). -/
def Dev.setRecord (d : Dev) (n : Nat) (r : CollRec) : Dev :=
  let d1 := d.updCtx n (fun x => { x with record := some r })
  let d2 := if r.collType = kDISPATCH then d1.openRoute r else some d1
  match d2 with
  | none => d1.failCtx n 7 0xFFFF
  | some d2 =>
  let d3 := let a := d2.sendStarts n
    if (a.ctx n).state = .collect && a.pathLost (a.ctx n) then a.failCtx n 11 0xFFFF else a
  if d3.roleOf r = some .group && r.collType = kALLREDUCE && (d3.ctx n).state = .collect then d3.addTerm n else d3

/-- A cell from a chain neighbour counts as progress, a duplicate too (R367). -/
def Dev.heard (d : Dev) (n k : Nat) : Dev := if isUp k then d.progress n else d

/-- A START that passed R292 reaches its context (R296, R301, R302). (DEDUCED, log entry 84). -/
def Dev.startAt (d : Dev) (n k : Nat) (c : Cell) (ini : Nat) : Dev :=
  let x := d.ctx n
  let y := d.layout x.pack
  let r := startRecord c
  let w := c.pay 27 4
  if x.state != .collect then d.count E.STALE_DROPS
  else
    match x.record with
    | none =>
      match d.startRefused y r (bits (c.pay 3 1) 6 1 = 1) with
      | some (st, m) => d.endCtx n false st 0 m (some r) none
      | none => (d.setRecord n r).validate n k w
    | some h =>
      let f := firstDiffers h r
      if f != 0 then d.mismatch n f (d.senderMember y h k) ini 0
      else if x.validated.contains k then (d.heard n k).duplicate
      else d.validate n k w

/-! ## Heels (R309, R310, R370, R448) -/

/-- HEEL_RELEASE's payload (R309). -/
def heelPayload (pack cseq step kind tick : Nat) : List Byte :=
  padTo 64 (beBytes 2 pack ++ beBytes 2 cseq ++ beBytes 6 step ++ beBytes 1 kind ++ List.replicate 5 0 ++ beBytes 8 tick)

/-- Every HEEL a context waits for has come. -/
def Dev.heelsIn (d : Dev) (x : Ctx) : Bool :=
  let y := d.layout x.pack
  y.members.all (fun m => x.validated.contains m) &&
  (!y.spanning || (y.upstreams (x.rc.coordinator y)).all (fun h => x.validated.contains (upKey h)))

/-- Contexts of a step that name a chain with state, still in COLLECT, or chunks of the step that wait at any chain (R448). -/
def Dev.stepBusy (d : Dev) (s : Nat) : Bool :=
  d.ctxs.any (fun e => e.2.state = .collect && !e.2.rc.heel && e.2.record.isSome && e.2.rc.step = s && e.2.rc.fused != 0 &&
    d.stateful (d.chainDesc e.2.rc.fused)) ||
  d.chains.any (fun e => e.2.stash.any (fun z => z.step = s))

/-- A COMMIT record of a chain (R450, R501). (DEDUCED, log entry 97). -/
def commitRecord (step chainId code : Nat) : LedgerRec := { kind := 3, step := step, fused := chainId, commit := code }

/-- Change the slots of loaded chains tagged with a step whose state is one of a list, and write a record for each
(R448 to R450). -/
def Dev.moveSlots (d : Dev) (s : Nat) (froms : List Nat) (dst : Nat) : Dev :=
  d.chains.foldl (fun a e =>
    if e.2.desc = [] || !a.stateful e.2.desc then a
    else
      (List.range 2).foldl (fun b i =>
        let h := b.slotHead e.2.desc i
        if h.1 = s && froms.contains h.2 then
          let b1 := b.setSlotHead e.2.desc i s dst
          let b2 := if dst = stCOMMITTED then b1.setChain e.1 { b1.chain e.1 with committed := s } else b1
          b2.ledger (commitRecord s (chainIdOf e.2.desc) (if dst = stPREPARED then 3 else if dst = stCOMMITTED then 4 else 5))
        else b) a) d

/-- The switch prepares for a COMMIT heel, if it can now (R448). -/
def Dev.tryPrepare (d : Dev) (n : Nat) : Dev :=
  let x := d.ctx n
  let s := x.rc.step
  if x.rc.kind != 1 || x.commitCode = 3 then d
  else if d.stepFails.contains s then d.failCtx n 12 0xFFFF
  else if d.stepBusy s then d
  else (d.moveSlots s [stWRITING] stPREPARED).updCtx n (fun z => { z with commitCode := 3 })

/-- A heel whose HEELs are all in, and which has prepared, is released at the coordinator or sent on toward it (R310,
R370). -/
def Dev.heelOn (d : Dev) (n : Nat) : Dev :=
  let x := d.ctx n
  let r := x.rc
  let y := d.layout x.pack
  if x.state != .collect || !d.heelsIn x || (r.kind = 1 && x.commitCode != 3) || x.doneSent then d
  else
    let u := n % 16
    match (if y.spanning then y.target (r.coordinator y) else none) with
    | some h =>
      (d.updCtx n (fun z => { z with doneSent := true })).toSwitch u h.rack
        (fun dst => mkCtl tCtrl dst (d.ownAddr 0xFF) 0x10 0 (heelPayload x.pack x.cseq r.step r.kind d.tick))
    | none =>
      let t := d.tick + d.reg E.HEEL_LEAD_TICKS + (if y.spanning then d.reg E.SPAN_LEAD_TICKS else 0)
      let mk := fun dst => mkCtl tCtrl dst (d.ownAddr 0xFF) 0x11 0 (heelPayload x.pack x.cseq r.step r.kind t)
      let d1 := d.emitPorts (unitSdie u) (unitX u) (mk 0) (d.physicals y.members)
      let ups := if y.spanning then (y.upstreams (r.coordinator y)).map (·.rack) else []
      (ups.foldl (fun a rack => a.toSwitch u rack mk) d1).completeHeel n t

/-- A HEEL that passed R292 reaches its context (R296, R302, R310). Of the checks of R296, the third is the one that a heel can
fail. `who` names its sender as MEMBER does (R356). -/
def Dev.heelAt (d : Dev) (n k who : Nat) (c : Cell) (ini : Nat) : Dev :=
  let x := d.ctx n
  let r := heelRecord c
  if x.state != .collect then d.count E.STALE_DROPS
  else
    let first := x.record.isNone
    let h := x.record.getD r
    let f := firstDiffers h r
    let absent := if first then d.absentMember (d.layout x.pack) else none
    if absent.isSome then d.endCtx n false 4 0 (d.memberVal (absent.getD 0)) (some r) none
    else if f != 0 then d.mismatch n f who ini 0
    else if x.validated.contains k then (d.heard n k).duplicate
    else
      let d1 := d.updCtx n (fun z => { z with record := some h, validated := z.validated ++ [k], progressTick := d.tick })
      let d2 := if first then d1.tryPrepare n else d1
      d2.heelOn n

/-! ## Ingress (R289 to R293, R299, R302) -/

/-- The nearest rack that takes part in the direction of a ring group: the sender of what arrives on it (R350, R354). -/
def Layout.nearest (y : Layout) (g : Nat) : Option Nat :=
  let x := y.own / 16
  let v := y.own % 16
  let dist := fun n => if g = 0 then (n / 16 + y.nx - x % max 1 y.nx) % max 1 y.nx else if g = 1 then (x + y.nx - n / 16 % max 1 y.nx) % max 1 y.nx
    else if g = 2 then (n % 16 + y.ny - v % max 1 y.ny) % max 1 y.ny else (v + y.ny - n % 16 % max 1 y.ny) % max 1 y.ny
  let cs := (y.racks.map (·.1)).filter (fun n => n != y.own && (if g < 2 then n % 16 = v else n / 16 = x))
  (sortBy (fun a b => dist a ≤ dist b) cs).head?

/-- The rack a refused LEVEL 1 or 2 START came from (R354, R356). -/
def Dev.sentFrom (d : Dev) (pack : Nat) (src : Src) (b : Nat) : Option Nat :=
  match src with
  | .fabric p => ((d.groupOf b p.val).bind (d.layout pack).nearest).orElse (fun _ => some (d.peer p.val 19 1))
  | .internal _ _ => none

/-- A START enters (R292, R296). -/
def Dev.startIn (d : Dev) (src : Src) (c : Cell) : Dev :=
  let k := d.senderKey src c.level c.epoch
  let code := d.pairCode c.pack c.cseq (c.level != 0 || d.isMember c.pack k)
  if code != 0 then d.sendNak src (if c.level = 0 then none else d.sentFrom c.pack src c.epoch) code c.pack c.cseq
  else
    match d.bindPair c.pack c.cseq with
    | some (n, d1) => d1.startAt n k c (srcIni src)
    | none => d

/-- The sender key of an upstream rack of a heel in the coordinator's arms; 261 for another (R370). -/
def Dev.heelKey (d : Dev) (pack rack : Nat) (r : CollRec) : Nat :=
  let y := d.layout pack
  (((y.upstreams (r.coordinator y)).find? (fun h => h.rack = rack)).map upKey).getD 261

/-- A HEEL enters (R292, R310): a neighbouring TX1's is not checked for membership. -/
def Dev.heelIn (d : Dev) (src : Src) (c : Cell) : Dev :=
  let pack := bits (c.pay 0 2) 0 10
  let cseq := c.pay 2 2
  let nb := match src with
    | .fabric p => d.peerKind p.val = 2
    | .internal _ _ => false
  let k := if nb then d.heelKey pack (addrRack c.srcAddr) (heelRecord c) else d.senderKey src 0 d.ingressEpoch
  let code := d.pairCode pack cseq (nb || d.isMember pack k)
  if code != 0 then d.sendNak src (if nb then d.arrivedFrom src c else none) code pack cseq
  else
    match d.bindPair pack cseq with
    | some (n, d1) => d1.heelAt n k (if nb then addrRack c.srcAddr * 256 + 0xFF else d.memberVal k) c (srcIni src)
    | none => d

/-- A DATA, PROMO or CHECK cell enters (R292, R299, R354). -/
def Dev.dataIn (d : Dev) (src : Src) (c : Cell) : Dev :=
  let down := c.cls = cCDN
  if down && c.level = 0 then d.malformedFrom (srcIni src) c
  else
    let k := d.senderKey src c.level c.epoch
    let code := d.pairCode c.pack c.cseq (c.level != 0 || d.isMember c.pack k)
    if code != 0 then d.count (dropKey code)
    else
      match d.bindPair c.pack c.cseq with
      | none => d
      | some (n, d1) =>
        if (d1.ctx n).state != .collect then d1.count E.STALE_DROPS
        else
          let d2 := if down then d1.relayCell n (k - 256) c (srcIni src) else d1.contribute n k c (srcIni src)
          if c.level = 0 then d2 else d2.updCtx n (fun x => if x.state = .collect then { x with progressTick := d.tick } else x)

/-- Whether a collective cell waits for a wake: while the switch domain has no clock or a compute domain is off, when the
TX1 opens no context, and behind the cells that wait already (R33, R614, R617). (DEDUCED, log entry 68). -/
def Dev.waitsWake (d : Dev) : Bool := d.domainGated .switch || d.computeOff || d.heldCells != []

/-- A collective cell that reaches the reduction units (R289). -/
def Dev.collCell (d : Dev) (src : Src) (c : Cell) : Dev :=
  if d.domainOff .switch then d
  else if d.waitsWake then { d with heldCells := d.heldCells ++ [HeldCell.mk src c] }
  else if c.type = tStart then d.startIn src c
  else if c.type = tCtrl then (if c.op = 0x10 then d.heelIn src c else d)
  else if tData ≤ c.type && c.type ≤ tCheck then d.dataIn src c
  else d

/-- START_CELL (R296). -/
def execStartCell (src : Src) (c : Cell) (s : State) : Host.Outcome State Fault Refusal :=
  run s fun d => if c.type = tStart then d.collCell src c else d

/-- DATA_CELL (R297). -/
def execDataCell (src : Src) (c : Cell) (s : State) : Host.Outcome State Fault Refusal :=
  run s fun d => if c.type = tData then d.collCell src c else d

/-- PROMO_CELL (R661). -/
def execPromoCell (src : Src) (c : Cell) (s : State) : Host.Outcome State Fault Refusal :=
  run s fun d => if c.type = tPromo then d.collCell src c else d

/-- CHECK_CELL (R327). -/
def execCheckCell (src : Src) (c : Cell) (s : State) : Host.Outcome State Fault Refusal :=
  run s fun d => if c.type = tCheck then d.collCell src c else d

/-- HEEL (R310). -/
def execHeel (src : Src) (c : Cell) (s : State) : Host.Outcome State Fault Refusal :=
  run s fun d => if c.type = tCtrl && c.op = 0x10 then d.collCell src c else d

/-- COMMIT_PREPARE (R448): the contexts and chunks a COMMIT heel waited for have finished. -/
def execCommitPrepare (ctx : CtxNo) (s : State) : Host.Outcome State Fault Refusal :=
  run s fun d =>
    let n := ctx.val
    let x := d.ctx n
    if x.state = .collect && x.rc.heel && x.rc.kind = 1 && x.commitCode != 3 then (d.tryPrepare n).heelOn n else d

/-! ## HEEL_RELEASE across racks (R370) -/

/-- The open context of a pair. -/
def Dev.openPair (d : Dev) (pack cseq : Nat) : Option Nat :=
  (d.bound pack cseq).bind (fun n => if (d.ctx n).state = .collect then some n else none)

/-- A HEEL_RELEASE from the target toward the coordinator. -/
def Dev.heelRelease (d : Dev) (src : Src) (c : Cell) : Dev :=
  match d.openPair (bits (c.pay 0 2) 0 10) (c.pay 2 2) with
  | none => d
  | some n =>
    let x := d.ctx n
    let y := d.layout x.pack
    let r := x.rc
    match y.target (r.coordinator y) with
    | none => d
    | some h =>
      if !r.heel || !y.spanning || d.arrivedFrom src c != some h.rack then d
      else
        let t := c.pay 16 8
        let u := n % 16
        let mk := fun dst => mkCtl tCtrl dst (d.ownAddr 0xFF) 0x11 0 c.payload
        let d1 := d.emitPorts (unitSdie u) (unitX u) (mk 0) (d.physicals y.members)
        let d2 := ((y.upstreams (r.coordinator y)).map (·.rack)).foldl (fun a rack => a.toSwitch u rack mk) d1
        (if t ≤ d.tick then d2.countErr E.HEEL_LATE_RELAYS else d2).completeHeel n t

/-- HEEL_RELEASE (R370). -/
def execHeelRelease (src : Src) (c : Cell) (s : State) : Host.Outcome State Fault Refusal :=
  run s fun d => if c.type = tCtrl && c.op = 0x11 && !d.domainOff .switch then d.heelRelease src c else d

/-! ## Time limits, completion and failure (R304, R366 to R368) -/

/-- A result chunk comes through here on its way from another home. -/
def Dev.relayDue (d : Dev) (y : Layout) (r : CollRec) (c : Nat) : Bool :=
  y.spanning && d.resultHome y r c != y.own && (d.receivers y r c != [] || d.downHops y r c != [])

/-- A chunk has passed, or waits at, the ACCUMULATE step of a clip group (R438). -/
def clipPassed (desc : List Byte) (z : Stashed) (group : Nat) : Bool :=
  (List.range z.next).any (fun i => stepOp desc i = oCLIP && leField (chainStep desc i) 8 1 = group)

/-- Chunks of a clip group and step that are not finished (R438). -/
def Dev.clipWaits (d : Dev) (r : CollRec) : Bool :=
  let s0 := chainStep (d.chainDesc r.fused) 0
  let plane := bits (leField s0 1 1) 1 1 = 1
  d.roleOf r = some .group && (r.collType = kBCAST || plane) &&
  d.chains.any (fun e => e.2.stash.any (fun z => z.step = r.step && clipPassed e.2.desc z (leField s0 8 1)))

/-- This switch's own part of a collective is complete (R302, R366, R438): no target that is busy still lacks cells. -/
def Dev.partDone (d : Dev) (x : Ctx) : Bool :=
  let y := d.layout x.pack
  let r := x.rc
  (List.range r.nchunk).all (fun c => !d.takesPart y r c || x.released.contains c) &&
  (d.resultType r = 0 || (List.range (d.resultCount y r)).all (fun c =>
    (!d.relayDue y r c || x.relayed.contains c) &&
    (!(r.collType = kDISPATCH || r.collType = kCOMBINE) || d.resultHome y r c != y.own || x.emitted.contains c))) &&
  x.tier = [] && x.atChain = [] && !d.clipWaits r && x.targets.all (fun t => t.busyAt.isNone)

/-- COLL_DONE OK has come from every upstream in the coordinator's arms. -/
def Dev.armsDone (d : Dev) (x : Ctx) : Bool :=
  let y := d.layout x.pack
  !y.spanning || (y.upstreams (x.rc.coordinator y)).all (fun h => x.doneFrom.contains h.rack)

/-- The condition of R366 holds at a context: its own part, and that of each upstream. -/
def Dev.armsOver (d : Dev) (n : Nat) : Bool :=
  let x := d.ctx n
  x.state = .collect && x.record.isSome && !x.rc.heel && !x.doneSent && d.allValid x && d.partDone x && d.armsDone x

/-- The target of a context toward its coordinator; none within a rack and at the coordinator. -/
def Dev.coordTarget (d : Dev) (x : Ctx) : Option Hop :=
  let y := d.layout x.pack
  if y.spanning then y.target (x.rc.coordinator y) else none

/-- CONTEXT_COMPLETE (R302, R366): within the rack and at the coordinator the context enters DONE; elsewhere COLL_DONE OK
goes to the target. -/
def execContextComplete (ctx : CtxNo) (s : State) : Host.Outcome State Fault Refusal :=
  run s fun d =>
    let n := ctx.val
    let x := d.ctx n
    if d.armsOver n then
      match d.coordTarget x with
      | some h =>
        (d.updCtx n (fun z => { z with doneSent := true })).toSwitch (n % 16) h.rack
          (fun dst => d.doneCell x dst 0 0 0xFFFF x.rc.step)
      | none => d.completeCtx n
    else d

/-- A failure that comes from outside a context's chunks: a context that meets its completion condition completes with OK
(R304). -/
def Dev.failLast (d : Dev) (n status member : Nat) : Dev :=
  if d.armsOver n && (d.coordTarget (d.ctx n)).isNone then d.completeCtx n else d.failCtx n status member

/-- CTX_IDLE_TIMEOUT (R304). (DEDUCED, log entry 70). -/
def execCtxIdleTimeout (ctx : CtxNo) (s : State) : Host.Outcome State Fault Refusal :=
  run s fun d =>
    let x := d.ctx ctx.val
    if x.state = .collect && x.progressTick + d.reg E.CTX_IDLE_TICKS ≤ d.tick then d.failLast ctx.val 13 0xFFFF else d

/-- The status of a context whose START a neighbour refuses otherwise than with CONTEXT_BUSY: R295 says that the
collective fails, and gives no status, so it is one of those a switch sends (R306), left free.
(DEDUCED, log entry 79). -/
def Dev.refusedStatus (d : Dev) : Nat := 1 + Config.freeChoice d.draws % 13

/-- The STATUS and FIELD that a neighbour's failure ends a context with (R367): the neighbour's. A reserved code is never sent on
(R19): one that R285 or R306 lists, left free, takes its place. (DEDUCED, log entry 79). -/
def Dev.failedFrom (d : Dev) (status field : Nat) : (Nat × Nat) × Dev :=
  if status ≤ 13 && field ≤ 14 then ((status, field), d)
  else
    let st := if status ≤ 13 then status else d.refusedStatus
    let f := if field ≤ 14 then field else if st = 1 then 1 + Config.freeChoice (d.draws + 1) % 14 else 0
    ((st, f), d.drew.drew)

/-- A COLL_DONE from a neighbour switch (R366, R367). (DEDUCED, log entry 80). -/
def Dev.collDone (d : Dev) (src : Src) (c : Cell) : Dev :=
  match d.openPair (bits (c.pay 0 2) 0 10) (c.pay 2 2) with
  | none => d
  | some n =>
    let x := d.ctx n
    let y := d.layout x.pack
    match d.arrivedFrom src c with
    | none => d
    | some rack =>
      let ups := (y.upstreams (x.rc.coordinator y)).map (·.rack)
      let tgt := (y.target (x.rc.coordinator y)).map (·.rack)
      if !y.spanning || !(ups.contains rack || tgt = some rack) then d
      else if c.pay 4 1 = 0 then
        if tgt = some rack then d.completeCtx n
        else d.updCtx n (fun z => { z with doneFrom := if z.doneFrom.contains rack then z.doneFrom else z.doneFrom ++ [rack],
                                           progressTick := d.tick })
      else
        let z := d.failedFrom (c.pay 4 1) (c.pay 5 1)
        z.2.endCtx n false z.1.1 z.1.2 (c.pay 6 2) x.record (some rack)

/-- COLL_DONE (R367). (DEDUCED, log entry 79). -/
def execCollDone (src : Src) (c : Cell) (s : State) : Host.Outcome State Fault Refusal :=
  run s fun d => if c.type = tCtrl && c.op = 0x31 && !d.domainOff .switch then d.collDone src c else d

/-! ## Retries across racks (R295, R356, R363) -/

/-- COLL_NAK (R356): CONTEXT_BUSY schedules a retry, and any other code fails the collective (R295).
(DEDUCED, log entry 79). -/
def execCollNak (src : Src) (c : Cell) (s : State) : Host.Outcome State Fault Refusal :=
  run s fun d =>
    if c.type != tCtrl || c.op != 0x30 || d.domainOff .switch then d
    else
      match d.openPair (bits (c.pay 2 2) 0 10) (c.pay 4 2) with
      | none => d
      | some n =>
        let x := d.ctx n
        match d.arrivedFrom src c with
        | none => d
        | some rack =>
          if !x.targets.any (fun t => t.rack = rack) then d
          else if c.pay 0 1 = 1 then
            (d.cameBack n).updCtx n (fun z => { z with progressTick := d.tick, targets := z.targets.map (fun t =>
              if t.rack = rack then
                let w := if t.busyInt = 0 then d.reg E.BUSY_RETRY_TICKS else min (2 * t.busyInt) (d.reg E.BUSY_RETRY_MAX)
                { t with busyAt := some (d.tick + w), busyInt := w }
              else t) })
          else d.drew.failCtx n d.refusedStatus 0xFFFF

/-- Send a START and the logged cells that `keep` picks to one target again. -/
def Dev.resendTo (d : Dev) (n : Nat) (t : SpanTarget) (keep : SendRec → Bool) : Dev :=
  let x := d.ctx n
  let h : Hop := ⟨t.level, t.rack, t.group⟩
  let d1 := d.sendRing n (n % 16) h (upStartCell x h)
  (x.sendLog.filter (fun e => e.level = t.level && e.rack = t.rack && keep e)).foldl
    (fun a e =>
      match a.getRecord (unitOf n e.chunk) e.record with
      | (some (cell, _), a1) => a1.sendRing n (unitOf n e.chunk) h cell
      | (none, a1) => a1.failCtx n 7 0xFFFF) d1

/-- The result of a chunk has come back (R363). Under the expert types which results a chunk goes into is known at the chunk's
home alone (R443, R444), so there all that are due have come back or none has. (DEDUCED, log entry 79). -/
def Dev.resultBack (d : Dev) (x : Ctx) (c : Nat) : Bool :=
  let y := d.layout x.pack
  let r := x.rc
  if r.collType = kDISPATCH || r.collType = kCOMBINE then
    let due := (List.range (d.resultCount y r)).filter (d.relayDue y r)
    due != [] && due.all x.relayed.contains
  else x.relayed.contains c

/-- BUSY_RETRY (R295): the START and every cell sent so far go again. -/
def execBusyRetry (ctx : CtxNo) (s : State) : Host.Outcome State Fault Refusal :=
  run s fun d =>
    let n := ctx.val
    let x := d.ctx n
    if x.state != .collect then d
    else
      match x.targets.find? (fun t => (t.busyAt.map (fun a => decide (a ≤ d.tick))).getD false) with
      | none => d
      | some t =>
        let d1 := d.updCtx n (fun z => { z with targets := z.targets.map (fun q => if q.rack = t.rack then { q with busyAt := none } else q) })
        d1.resendTo n t (fun _ => true)

/-- SPAN_RESEND (R363). -/
def execSpanResend (ctx : CtxNo) (s : State) : Host.Outcome State Fault Refusal :=
  run s fun d =>
    let n := ctx.val
    let x := d.ctx n
    match x.resendAt with
    | none => d
    | some t =>
      if x.state != .collect || d.tick < t then d
      else
        let w := min (2 * x.resendInt) (d.reg E.SPAN_RESEND_MAX)
        let d1 := (d.updCtx n (fun z => { z with resendInt := w, resendAt := some (d.tick + w) })).count E.PARTIAL_RESENDS
        (x.targets.filter (fun q => q.busyAt.isNone)).foldl (fun a q => a.resendTo n q (fun e => !d.resultBack x e.chunk)) d1

/-! ## Loss of ports (R304, R368) -/

/-- A port went from UP to DETECT, OFF or ABSENT. (DEDUCED, log entry 83). -/
def portLost (a b : PortState) : Bool := (a = .up || a = .recover) && (b = .detect || b = .off || b = .absent)

/-- A ring group has lost a port for a chain cell (R355, R368). -/
def Dev.groupCut (d was : Dev) : Bool := (List.range 4).any (fun g => (was.ringPorts g none).any (fun p => !(d.ringPorts g none).contains p))

/-- What the loss of ports since `was` does to open contexts: MEMBER_LOST, then PATH_LOST (R304, R368).
(DEDUCED, log entry 83). -/
def Dev.settle (d : Dev) (was : Dev) : Dev :=
  let gone := allPorts.filter (fun p => portLost (was.port p).state (d.port p).state)
  if d.ctxs = [] || (gone = [] && !d.groupCut was) then d
  else
    let d1 := gone.foldl (fun a p =>
      let m := a.logical p
      ((a.ctxs.filter (fun e => e.2.state = .collect && a.isMember e.2.pack m)).map (·.1)).foldl
        (fun b n => b.failLast n 10 (b.memberVal m)) a) d
    ((d1.ctxs.filter (fun e => e.2.state = .collect && d1.pathLost e.2)).map (·.1)).foldl
      (fun b n => b.failLast n 11 0xFFFF) d1

/-- An outcome with the loss of ports carried to the contexts. -/
def settled (s : State) (o : Host.Outcome State Fault Refusal) : Host.Outcome State Fault Refusal :=
  match o with
  | .next t => .next (t.onDev (fun d => d.settle s.toDev))
  | x => x

/-! ## Packs (R277 to R279, R347) -/

/-- A hierarchy record that ACTIVATE refuses (R347). (DEDUCED, log entry 146). -/
def Dev.hierRefused (d : Dev) (members h : Nat) : Bool :=
  if h = 0 then false
  else if 255 < h then true
  else
    let rec272 := d.blob (E.HIER_RECORD h)
    let xs := beNat (slice rec272 0 2)
    let ys := beNat (slice rec272 2 2)
    let nx := d.reg E.PLAN_NX
    let ny := d.reg E.PLAN_NY
    let own := d.reg E.PLAN_RACK
    let inSet := fun n => maskHas xs (n / 16) && maskHas ys (n % 16)
    let mc := fun n => beNat (slice rec272 (16 + n) 1)
    xs = 0 || ys = 0 || 2 ^ nx ≤ xs || 2 ^ ny ≤ ys || !inSet own ||
    (List.range 256).any (fun n => if inSet n then mc n = 0 || 224 < mc n else mc n != 0) ||
    mc own != (portsOf members).length

/-- Contexts reserved by ACTIVE packs. -/
def Dev.reserved (d : Dev) : Nat := (d.packs.map (fun e => e.2.contexts.length)).sum

/-- ACTIVATE is refused (R278, R631). (DEDUCED, log entry 146). -/
def Dev.refuseActivate (d : Dev) (p : Nat) : Option Status :=
  let m := d.membersMask p
  if (tget d.packs p).isSome || m = 0 || (portsOf m).any (fun q => planKind (d.planEntry q) != 1) ||
      4096 < d.reserved + d.reg (E.RESERVE p) || d.hierRefused m (d.reg (E.HIERARCHY p)) then some .stateConflict
  else none

/-- ACTIVATE (R278): the lowest free context numbers are bound to the pack. (DESIGN CHOICE, log entry 65). -/
def Dev.activate (d : Dev) (p : Nat) : Dev :=
  let taken := d.packs.flatMap (fun e => e.2.contexts)
  let ns := ((List.range 4096).filter (fun n => !taken.contains n)).take (d.reg (E.RESERVE p))
  let d1 := { d with packs := tset d.packs p ⟨ns, d.reg (E.FIRST_CSEQ p), d.membersMask p, d.reg (E.HIERARCHY p)⟩ }
  ns.foldl (fun a n => a.setCtx n { pack := p }) d1

/-- DEACTIVATE is refused (R279). -/
def Dev.refuseDeactivate (d : Dev) (p : Nat) : Option Status :=
  if (tget d.packs p).isNone || d.openContexts p != 0 then some .stateConflict else none

/-- DEACTIVATE (R279). (DEDUCED, log entry 67). -/
def Dev.deactivate (d : Dev) (p : Nat) : Dev :=
  let ns := ((tget d.packs p).map (·.contexts)).getD []
  { d with packs := terase d.packs p, frontLeft := tset d.frontLeft p (d.packFront p), ctxs := ns.foldl (fun t n => terase t n) d.ctxs }

/-- ABORT of a pack (R279). -/
def Dev.abortPack (d : Dev) (p : Nat) : Dev :=
  ((d.ctxs.filter (fun e => e.2.pack = p && e.2.state = .collect)).map (·.1)).foldl (fun a n => a.failLast n 12 0xFFFF) d

/-! ## Time transfer (R373, R374) -/

/-- A fine time in a tick: the 1/256 fraction is measured at the serialiser, and is free (R374).
(DEDUCED, log entry 82). -/
def Dev.fineTime (d : Dev) : Nat := d.tick * 256 + Config.freeChoice d.draws % 256

/-- TIME_XFER's payload (R373). -/
def timePayload (kind seq t1 t2 t3 root : Nat) : List Byte :=
  padTo 64 (beBytes 1 kind ++ [0] ++ beBytes 2 seq ++ beBytes 8 t1 ++ beBytes 8 t2 ++ beBytes 8 t3 ++ beBytes 8 root)

/-- TIME_OFFSET (R374): 0 at the root. -/
def Dev.timeOffset (d : Dev) : Int := if d.flag E.TIME_ROOT then 0 else d.time.offset

/-- TIME_ALIGNED (R374): each of the last eight samples lies within the tolerance in force. -/
def Dev.timeAligned (d : Dev) : Bool :=
  let tol : Int := d.reg E.TIME_ALIGN_TOL
  d.time.samples.length = 8 && d.time.samples.all (fun v => -tol ≤ v && v ≤ tol)

/-- TIME_XFER_SEND (R373). -/
def execTimeXferSend (s : State) : Host.Outcome State Fault Refusal :=
  run s fun d =>
    let p := d.reg E.TIME_PARENT_PORT
    let due := (d.time.lastSent.map (fun t => decide (t + d.reg E.TIME_PERIOD_TICKS ≤ d.tick))).getD true
    if p = 0xFF || (d.port p).state != .up || d.peerKind p != 2 || !due then d
    else
      let t1 := d.fineTime
      let q := (d.time.seq + 1) % 65536
      ({ d.drew with time := { d.time with seq := q, t1 := some t1, lastSent := some d.tick } }).emitPorts 0 133
        (mkCtl tCtrl (d.peerAddr p) (d.ownAddr 0xFF) 0x40 0 (timePayload 1 q t1 0 0 0)) [p]

/-- TIME_XFER_REQUEST (R373). -/
def execTimeXferRequest (p : Port) (c : Cell) (t2 t3 : BitVec 64) (s : State) : Host.Outcome State Fault Refusal :=
  run s fun d =>
    if c.type != tCtrl || c.op != 0x40 || c.pay 0 1 != 1 || (d.port p.val).state != .up then d
    else
      d.emitPorts 0 133 (mkCtl tCtrl (d.peerAddr p.val) (d.ownAddr 0xFF) 0x40 0
        (timePayload 2 (c.pay 2 2) (c.pay 4 8) t2.toNat t3.toNat (ofSigned 64 d.timeOffset))) [p.val]

/-- The mean of samples, rounded toward zero (R374). -/
def meanOf (l : List Int) : Int :=
  let s := l.sum
  let n : Int := max 1 l.length
  if s < 0 then -((-s) / n) else s / n

/-- TIME_XFER_ANSWER (R374). (DEDUCED, log entry 82). -/
def execTimeXferAnswer (p : Port) (c : Cell) (t4 : BitVec 64) (s : State) : Host.Outcome State Fault Refusal :=
  run s fun d =>
    let t1 := c.pay 4 8
    if c.type != tCtrl || c.op != 0x40 || c.pay 0 1 != 2 || c.pay 2 2 != d.time.seq || d.time.t1 != some t1 ||
        d.reg E.TIME_PARENT_PORT != p.val then d
    else
      let a : Int := (c.pay 12 8 : Int) - t1
      let b : Int := (t4.toNat : Int) - c.pay 20 8
      let theta := (a - b) / 2 - toSigned 32 (d.reg E.TIME_ASYM)
      let delta := (a + b) / 2
      let sample := toSigned 64 (c.pay 28 8) - theta
      let ss := (sample :: d.time.samples).take 8
      { d with time := { d.time with t1 := none, samples := ss, offset := meanOf ss, delay := delta } }

end Sys2Proof.Machine
end

