-- ==== Sys2Proof/Machine/Link.lean ====
section
/-! DEFINITION. The link layer: reception in order, acknowledgement, replay, credits, training, the port
states, sleep and wake of a port (R115 to R163). -/

namespace Sys2Proof.Machine

/-! ## LINK cells (R126, R135) -/

/-- The states in which a port exchanges LINK cells: from the end of LANES on, asleep, and in QUARANTINE (R135, R155, R158). -/
def PortSt.linked (x : PortSt) : Bool :=
  match x.state with
  | .up | .keepalive | .quarantine => true
  | .lanes | .recover => x.lanesEndSent
  | .off | .detect | .absent | .ident => false

/-- LINK_SEND: 64 acceptances, 4 ticks after the first unacknowledged one, or 64 ticks (R135). -/
def execLinkSend (p : Port) (s : State) : Host.Outcome State Fault Refusal :=
  run s fun d =>
    let x := d.port p.val
    let first : Bool := match x.firstUnacked with
      | some t => decide (t + 4 ≤ d.tick)
      | none => false
    if x.linked && (64 ≤ x.sinceLink || first || x.lastLink + 64 ≤ d.tick) then d.sendLink p.val
    else d

/-! ## Reception (R118, R122, R123, R133, R134, R141, R145, R146) -/

/-- A cell that the link's level or partner does not permit (R144 to R146). A START for this switch is not among them: it is
refused with FEATURE_LEVEL. -/
def Dev.levelForbids (d : Dev) (p : Nat) (c : Cell) : Bool :=
  let lv := d.reg (E.FABRIC_LEVEL p)
  (lv = 2 && (d.fl3Only c && !(c.type = tStart && d.ownStart c) || c.type = tCtrl && c.op = 0x01)) ||
  (d.peerKind p = 3 && (9 ≤ c.type || c.type = tCtrl && !localOp c.op))

/-- A C-form cell that its partner's kind does not permit: LEVEL 1 and 2 come from another TX1 only, LEVEL 0 from an
endpoint on CUP only (R353). -/
def Dev.formForbids (d : Dev) (p : Nat) (c : Cell) : Bool :=
  9 ≤ c.type && (if c.level = 0 then d.peerKind p != 1 || c.cls != cCUP else 2 < c.level || d.peerKind p != 2)

/-- A SNAP COMMAND received by the TX1 is malformed (R565); an endpoint's cell has DL 0 and, of CTRL opcodes, one of
those of R131. -/
def snapCommand (c : Cell) : Bool := c.type = tCtrl && c.op = 0x20 && c.pay 0 1 = 1

/-- The credits that arrived on a counter, and whether one was there (R139, R141). -/
def PortSt.hasCredit (x : PortSt) (c : Cell) : Bool :=
  let i := creditSlot c.vc (c.sh = 1)
  x.rx.used.getD i 0 < x.rx.grant.getD i 0

/-- Count a cell against its credit. -/
def PortSt.useCredit (x : PortSt) (c : Cell) : PortSt :=
  { x with rx := { x.rx with used := bumpAt x.rx.used (creditSlot c.vc (c.sh = 1)) 1 } }

/-- Whether a port's partner makes cells that this switch stamps (R213). -/
def Dev.stampsFrom (d : Dev) (p : Nat) : Bool := d.peerKind p = 1 || d.peerKind p = 3

/-- A sequenced cell accepted in order (R133): sampled, checked, and passed on over the lane link (R23), which a link-local cell
does not take (R32). (DEDUCED, log entries 43 and 44). -/
def Dev.acceptCell (d0 : Dev) (p : Nat) (l : Lane) (c : Cell) : Dev :=
  let seen := d0.sampleCell p false false l c
  let links := if c.linkLocal then [] else [8 + p / 32]
  let d := seen.cross links
  let credit := c.takesCredit
  let bad := c.malformedForm || d.levelForbids p c || d.formForbids p c || snapCommand c
  if !seen.arrives links then d
  else if credit && !bad && !(d.port p).hasCredit c then
    (d.countErr (E.CREDIT_VIOLATIONS p)).report (bark 0x0202 accCellRx (iniPort p) false p (c.hdr.toNat / 2 ^ 32))
  else
    let d1 := if credit then d.updPort p (fun x => x.useCredit c) else d
    if bad then
      let d2 := d1.malformed p c
      if credit then d2.returnCredit p c.vc (c.sh = 1) else d2
    else if c.linkLocal then d1.emit (.deliver d.tick (portFin p) c)
    else
      let d2 := (if c.starts then d1.wakeStart p else d1.wake wkCELL).worked
      let c1 := if d.stampsFrom p then d.stamp c else c
      if expiredAt d.tick c1 then
        (d2.countExpired (sdieOf p)).returnCredit p c.vc (c.sh = 1)
      else d2.inputStage p c1

/-- Deliver held cells while the expected one is there (R133). -/
def Dev.deliverHeld (d : Dev) (p : Nat) (fuel : Nat) : Dev :=
  match fuel with
  | 0 => d
  | n + 1 =>
    let x := d.port p
    match x.held.find? (fun h => h.lseq = x.rxNext) with
    | none => d
    | some h =>
      let d1 := d.setPort p { x with held := x.held.filter (fun k => k.lseq != h.lseq), rxNext := (x.rxNext + 1) % 16384, gapOpen := false, sinceLink := x.sinceLink + 1, firstUnacked := some (x.firstUnacked.getD d.tick) }
      (d1.acceptCell p h.lane h.cell).deliverHeld p n

/-- Whether cells that come on a lane are taken: it is in striping, lane 0 at its low rate, or a lane that has left striping
and whose partner's PARK has not come (R133, R138). (DEDUCED, log entry 178). -/
def PortSt.carries (x : PortSt) (l : Lane) : Bool :=
  (x.lane l).state = .active || (l = 0 && (x.lane l).state = .keepalive) || (x.lane l).trailing

/-- A cell that passed its CRC (R118, R133). -/
def Dev.receive (d0 : Dev) (p : Nat) (l : Lane) (c : Cell) : Dev :=
  let d := if (d0.port p).checkLane = l then d0.updPort p (fun x => { x with lastGood := d0.tick }) else d0
  let x := d.port p
  if !c.sequenced then
    let d1 := if c.type = tNull || c.type = tPark then d.setPort p (x.show l c.lseq) else d
    if c.malformedForm then d1.malformed p c
    else if c.type = tNull then d1.gapCheck p
    else d1.emit (.deliver d.tick (portFin p) c)
  else
    let off := (c.lseq + 16384 - x.rxNext) % 16384
    let x1 := x.show l c.lseq
    if 256 ≤ off || x.held.any (fun h => h.lseq = c.lseq) then (d.setPort p x1).gapCheck p
    else
      ((d.setPort p { x1 with held := x1.held ++ [{ lseq := c.lseq, lane := l, cell := c }] }).deliverHeld p 256).gapCheck p

/-- A cell other than a good TRAIN cell on a lane breaks its runs of TRAIN cells: detection's on lane 0, the miswire watch's on
the others (R90, R148). -/
def PortSt.breakRun (x : PortSt) (l : Lane) : PortSt :=
  if l = 0 then { x with trainRun := 0 } else x.setLane l { x.lane l with miswireRun := 0 }

/-- CELL_RECEIVE (R118, R133, R134). The cells of a codeword that an injection makes uncorrectable are discarded (R75, R110), and
the loop FAR sends back what its lane receives (R109). (DEDUCED, log entries 44 and 174; DESIGN CHOICE, log entry 159). -/
def execCellReceive (p : Port) (l : Lane) (bytes : List Byte) (s : State) : Host.Outcome State Fault Refusal :=
  run s fun d =>
    let x := d.port p.val
    if x.state = .off then d.farLoop p.val l bytes
    else if (x.lane l).injecting 3 && 0 < (x.lane l).codewords then d
    else
      let (inj, d1) := (d.farLoop p.val l bytes).takeInject 0x01 p.val
      match (if inj then none else parseCell bytes) with
      | none => (d1.updPort p.val (fun y => y.breakRun l)).countErr (E.CRC_ERRORS p.val)
      | some c =>
        let d2 := if c.type = tTrain then d1 else d1.updPort p.val (fun y => y.breakRun l)
        if x.carries l then d2.receive p.val l c else d2

/-- PARK_CELL: the marker shows the next LSEQ, and its lane is counted no more under R134 (R138). -/
def execParkCell (p : Port) (l : Lane) (c : Cell) (s : State) : Host.Outcome State Fault Refusal :=
  run s fun d =>
    let x := d.port p.val
    if c.type = tPark then
      (d.setPort p.val (let y := x.show l c.lseq
        y.setLane l { y.lane l with parkSeen := (y.lane l).state = .active, trailing := false })).gapCheck p.val
    else d

/-! ## Replay (R136, R137) -/

/-- The replay timeout of a port's class (R137). -/
def Dev.replayTimeout (d : Dev) (p : Nat) : Nat :=
  if d.isModule p then d.reg E.REPLAY_TIMEOUT_MODULE else d.reg E.REPLAY_TIMEOUT_RACK

/-- The kept cells that a resend sends: every one, but in QUARANTINE only those that may go out there (R137, R155).
(DESIGN CHOICE, log entry 195). -/
def PortSt.resent (x : PortSt) : List Kept :=
  if x.state = .quarantine then x.kept.filter (fun k => k.cell.quarantined) else x.kept

/-- A resend start: the kept cells go out again in LSEQ order, one in RPY over the lane link of its S-die (R23); REPLAY_LIMIT
starts without progress take the port to RECOVER (R137, R154). -/
def Dev.replay (d : Dev) (p : Nat) : Dev :=
  let x := d.port p
  let n := x.resends + 1
  let d1 := (d.setPort p { x with resends := n, kept := x.kept.map (fun k => { k with sentAt := d.tick }) }).count (E.REPLAYS p)
  let d2 := (d1.countN (E.REPLAY_CELLS p) x.resent.length)
  let d3 := x.resent.foldl (fun a k =>
    let l := a.pickLane p
    let links := if k.slot.isSome then [8 + p / 32] else []
    let b := a.cross links
    if a.arrives links then (b.drew.sampleCell p true true l k.cell).sendCell p l k.cell else b) d2
  if x.state = .up && d.reg E.REPLAY_LIMIT ≤ n then (d3.countErr (E.RECOVERS p)).toLanes p true else d3

/-- REPLAY_TIMEOUT (R137). -/
def bareReplayTimeout (p : Port) (s : State) : Host.Outcome State Fault Refusal :=
  run s fun d =>
    let x := d.port p.val
    match x.kept with
    | k :: _ =>
      if (x.state = .up || x.state = .keepalive || x.state = .quarantine) && k.sentAt + d.replayTimeout p.val ≤ d.tick then d.replay p.val
      else d
    | [] => d

/-- Release kept cells before an ACK (R137, R183). -/
def Dev.ackTo (d : Dev) (p a : Nat) : Dev :=
  let x := d.port p
  let gone := x.kept.takeWhile (fun k =>
    let v := (a + 16384 - k.lseq) % 16384
    0 < v && v ≤ 8192)
  let s := sdieOf p
  let d1 := gone.foldl (fun b k =>
    match k.slot with
    | some i => b.release s (slotPtr s i) (256 + p % 128)
    | none => b) d
  if gone = [] then d1
  else (d1.updPort p (fun y => { y with kept := y.kept.drop gone.length, resends := 0 })).drainTxq p

/-- The credits that the kept cells have used, counted on the grants of a partner that counts from zero again (R139, R140). -/
def PortSt.keptCredits (x : PortSt) : List Nat :=
  (List.range 13).map (fun i => (x.kept.filter (fun k => k.cell.takesCredit && creditSlot k.cell.vc (k.cell.sh = 1) = i)).length)

/-- The ACK, the grants and the NAK_COUNT of a LINK cell: kept cells go, grants stand, and a new count of gaps starts a resend
(R137, R139). -/
def Dev.takeLink (d : Dev) (p : Nat) (c : Cell) : Dev :=
  let g := (List.range 13).map (fun i => c.pay (4 + 2 * i) 2)
  let n := c.pay 2 2
  let old := (d.port p).peerNak
  let d1 := ((d.updPort p (fun y => { y with tx := { y.tx with grant := g } })).ackTo p (c.pay 0 2 / 4)).updPort p (fun y => { y with peerNak := n })
  if n != old then d1.replay p else d1

/-- The partner's first LINK cell after LANES takes the port to UP (R153, R154): its grants open, the cells kept from before
count against them, and what it has not accepted goes out again from its ACK. (DEDUCED, log entry 42). -/
def Dev.firstLink (d : Dev) (p : Nat) (c : Cell) : Dev :=
  let g := (List.range 13).map (fun i => c.pay (4 + 2 * i) 2)
  let d1 := ((d.toUp p).ackTo p (c.pay 0 2 / 4)).updPort p (fun y =>
    { y with tx := ⟨g, y.keptCredits⟩, peerNak := c.pay 2 2 })
  if (d1.port p).kept = [] then d1 else d1.replay p

/-- LINK_CELL (R137, R139, R153): the first after LANES takes LANES or RECOVER to UP. -/
def bareLinkCell (p : Port) (c : Cell) (s : State) : Host.Outcome State Fault Refusal :=
  run s fun d =>
    let x := d.port p.val
    if !x.linked then d
    else if x.state = .lanes || x.state = .recover then d.firstLink p.val c
    else d.takeLink p.val c

/-! ## Loss, timeouts and the written state changes (R153, R154) -/

/-- Loss of a port at its time limit: 192 ticks without a good cell on the check lane (R154). -/
def barePortLossTimeout (p : Port) (s : State) : Host.Outcome State Fault Refusal :=
  run s fun d => if (d.port p.val).lastGood + 192 ≤ d.tick then d.portLoss p.val else d

/-- A port may leave OFF: enabled, out of reset, tick locked (R154, R606, R620). (DEDUCED, log entry 40). -/
def Dev.mayLeaveOff (d : Dev) (p : Nat) : Bool :=
  d.flag (E.PORT_ENABLE p) && d.power.bootStage = 3 && d.power.tickLocked && !d.power.off && !d.power.fastOff && !d.power.resetLow

/-- PORT_ENABLE is written (R154). -/
def Dev.writeEnable (d : Dev) (p v : Nat) : Dev :=
  let d1 := d.setReg (E.PORT_ENABLE p) v
  if v = 0 then (if (d1.port p).state = .off then d1 else d1.toOff p)
  else if (d1.port p).state = .off && d1.mayLeaveOff p then d1.toDetect p
  else d1

/-- RETRAIN is written (R154): a port that may not leave OFF stays there. (DEDUCED, log entry 40). -/
def Dev.retrain (d : Dev) (p : Nat) : Dev :=
  if (d.port p).state = .off && !d.mayLeaveOff p then d else d.toDetect p

/-- PORT_ABSENT (R154, R637). -/
def execPortAbsent (p : Port) (s : State) : Host.Outcome State Fault Refusal :=
  run s fun d =>
    let x := d.port p.val
    if x.state = .detect && x.since + d.reg E.ABSENT_TICKS ≤ d.tick && planKind (d.planEntry (d.logical p.val)) != 0 then
      ({ (d.updPort p.val (fun y => { y with state := .absent })) with
         discovery := tset d.discovery p.val { outcome := 2, tick := d.tick } }).linkEvent p.val
    else d

/-! ## Training (R147 to R153) -/

/-- A receiver is trained: it holds lock with margin at or above MARGIN_LOW (R152). -/
def Dev.trained (d : Dev) (y : LaneSt) : Bool := !y.lol && 0 < y.windows && d.reg E.MARGIN_LOW ≤ y.margin

/-- The tap request of a receiver that is not yet trained: which change it asks for is the receiver's to find, so a free value
with an action; a receiver with a stored set for the rate asks for none while its margin holds (R151, R152).
(DESIGN CHOICE, log entry 173). -/
def Dev.tapRequest (d : Dev) (y : LaneSt) : Nat :=
  let v := Config.freeChoice d.draws % 256
  let stored := if y.rate = 2 then y.set200.isSome else y.set100.isSome
  if d.trained y || (stored && (y.windows = 0 || d.reg E.MARGIN_LOW ≤ y.margin)) then 0
  else
    let w := if bits v 4 2 = 0 then v + 16 else v
    if bits w 4 2 = 3 then w else w - w % 16

/-- The payload of a TRAIN cell a port sends on a lane (R151). -/
def Dev.trainPayload (d : Dev) (p : Nat) (l : Lane) (phase : Nat) : List Byte :=
  let y := d.lane p l
  let req := if phase = 2 then d.tapRequest y else 0
  beBytes 1 l.val ++ beBytes 1 phase ++ beBytes 1 req ++ beBytes 1 (y.tapStatus + (if y.rxReady then 1 else 0)) ++ beBytes 16 d.mfg.serial

/-- Send training frames on a lane: a lane in TEST sends its pattern or loop instead (R103, R109). -/
def Dev.sendTrain (d : Dev) (p : Nat) (l : Lane) (phase n : Nat) : Dev :=
  if d.txIdle p l || (d.lane p l).state = .test then d
  else (d.emitLive (.train d.tick (portFin p) l n (mkLinkCell tTrain 0 (d.trainPayload p l phase)))).drew

/-- A lane is ready in both directions (R152, R153). -/
def LaneSt.bothReady (x : LaneSt) : Bool := x.state = .train && x.rxReady && x.peerReady

/-- LANES ends (R153): ready lanes join striping, the others enter FAILED with a link state change; FEC and cells
start with a LINK cell. Without lane 0 the port returns to DETECT. -/
def Dev.endLanes (d : Dev) (p : Nat) : Dev :=
  let x := d.port p
  if !x.lane0.bothReady then (d.toDetect p).linkEvent p
  else
    let lost := lanes4.any (fun l => (x.lane l).state = .train && !(x.lane l).bothReady)
    let d1 := lanes4.foldl (fun a l => if (x.lane l).bothReady then a.sendTrain p l 3 64 else a) d
    let d2 := d1.updPort p (fun y => y.mapLanes (fun _ z =>
      if z.bothReady then { z.join z.rate with goodSince := none } else if z.state = .train then z.fail else z))
    let d3 := if lost then d2.linkEvent p else d2
    (d3.openLink p).sendLink p

/-- The end of LANES at its time limit, and of RECOVER, which falls to DETECT (R153, R154). A port that has ended LANES waits for
the partner's first LINK cell. -/
def bareLanesTimeout (p : Port) (s : State) : Host.Outcome State Fault Refusal :=
  run s fun d =>
    let x := d.port p.val
    if x.since + d.reg E.LANES_TIMEOUT_TICKS ≤ d.tick then
      (if x.state = .recover then (d.toDetect p.val).linkEvent p.val
       else if x.state = .lanes && !x.lanesEndSent then d.endLanes p.val else d)
    else d

/-- The end of LANES on a stall: lane 0 and another lane ready, 25,000 ticks without progress (R153). -/
def bareLanesStall (p : Port) (s : State) : Host.Outcome State Fault Refusal :=
  run s fun d =>
    let x := d.port p.val
    if (x.state = .lanes || x.state = .recover) && !x.lanesEndSent && x.progress + 25000 ≤ d.tick && x.lane0.bothReady &&
        [x.lane1, x.lane2, x.lane3].any LaneSt.bothReady then d.endLanes p.val
    else d

/-- Set bit `n` of a port's polarity report to `on` (R88). -/
def Dev.notePolarity (d : Dev) (p n : Nat) (on : Bool) : Dev :=
  let m := d.reg (E.RX_POLARITY p)
  d.setReg (E.RX_POLARITY p) (if on then maskSet m n else maskClear m n)

/-- Note that a logical lane arrives on a physical one (R89, R112). -/
def Dev.noteMap (d : Dev) (p logical physical : Nat) : Dev :=
  let m := d.reg (E.LANE_MAP p)
  d.setReg (E.LANE_MAP p) (m - bits m (2 * logical) 2 * 4 ^ logical + physical * 4 ^ logical)

/-- A tap request acted on (R151): the status bits of the answer, after those of the last one. The spec gives the taps no
range, so a request is never at a limit; a preset and a step both answer UPDATED, and a hold names the tap last acted on. -/
def tapAnswer (old req : Nat) : Nat := if bits req 4 2 = 0 then bits old 6 2 * 64 else bits req 6 2 * 64 + 16

/-- The transmit taps after a request: c(−2), c(−1), c(0), c(+1) in steps, a preset as its number (R151).
(DESIGN CHOICE, log entry 38). -/
def tapApply (taps : List Int) (req : Nat) : List Int :=
  let t := if taps = [] then [0, 0, 0, 0] else taps
  let i := bits req 6 2
  let a := bits req 4 2
  if a = 1 then t.set i (t.getD i 0 + 1) else if a = 2 then t.set i (t.getD i 0 - 1)
  else if a = 3 then t.set i (bits req 0 4 : Nat) else t

/-- A TRAIN cell in DETECT or ABSENT (R90, R148): on physical lanes 1 to 3 it counts for the miswire watch.
(DEDUCED, log entry 164). -/
def Dev.trainDetect (d : Dev) (p : Nat) (l : Lane) (inverted : Bool) : Dev :=
  if l = 0 then
    let d1 := (d.updPort p (fun x => { x with trainRun := x.trainRun + 1, lastGood := d.tick })).notePolarity p 0 inverted
    d1.detectCheck p
  else if (d.lane p 0).los then
    let d1 := d.updLane p l (fun y => { y with miswireRun := y.miswireRun + 1 })
    if 8 ≤ (d1.lane p l).miswireRun && !d1.flag (E.LANE0_MISWIRED p) then (d1.setReg (E.LANE0_MISWIRED p) 1).linkEvent p else d1
  else d

/-- The lanes in training whose TRAIN cells carry another SERIAL than lane 0's (R152). -/
def PortSt.foreign (x : PortSt) : List Lane :=
  ([1, 2, 3] : List Lane).filter (fun l =>
    (x.lane l).state = .train && x.lane0.trainSerial.isSome && (x.lane l).trainSerial.isSome && (x.lane l).trainSerial != x.lane0.trainSerial)

/-- A lane after one training frame: the partner's report, its SERIAL, and the tap request acted on (R151, R152). -/
def Dev.takeFrame (d : Dev) (y : LaneSt) (c : Cell) : LaneSt :=
  { y with peerReady := c.pay 3 1 % 2 = 1, rxReady := d.trained y, endSeen := y.endSeen || c.pay 1 1 = 3,
           trainSerial := some (c.pay 4 16), tapStatus := tapAnswer y.tapStatus (c.pay 2 1), txTaps := tapApply y.txTaps (c.pay 2 1) }

/-- A training frame in LANES or RECOVER (R88, R89, R151 to R153). A change of either report or of a transmit tap is progress.
(DESIGN CHOICE, log entry 169). -/
def Dev.trainLanes (d : Dev) (p : Nat) (phys : Lane) (c : Cell) (inverted : Bool) : Dev :=
  let l : Lane := Fin.ofNat 4 (c.pay 0 1)
  let x := d.port p
  let y := x.lane l
  if y.state != .train || (phys = 0) != (l = 0) then d
  else
    let y1 := d.takeFrame y c
    let moved := y1.peerReady != y.peerReady || y1.rxReady != y.rxReady || y1.txTaps != y.txTaps
    let d1 := ((d.setPort p { x.setLane l y1 with progress := if moved then d.tick else x.progress, lastGood := if l = 0 then d.tick else x.lastGood }).notePolarity p phys.val inverted).noteMap p l.val phys.val
    let bad := (d1.port p).foreign
    let d2 := if bad = [] then d1 else (d1.updPort p (fun z => bad.foldl (fun a k => a.setLane k (a.lane k).fail) z)).linkEvent p
    if !x.lanesEndSent && lanes4.all (fun k => ((d2.port p).lane k).bothReady) then d2.endLanes p else d2

/-- TRAIN_CELL (R148, R151). The loop FAR sends it back (R109). -/
def execTrainCell (p : Port) (l : Lane) (c : Cell) (inverted : Bool) (s : State) : Host.Outcome State Fault Refusal :=
  run s fun d0 =>
    let d := d0.farLoop p.val l (cellBytes c)
    match (d.port p.val).state with
    | .detect | .absent => d.trainDetect p.val l inverted
    | .lanes | .recover => d.trainLanes p.val l c inverted
    | _ => d

/-! ## IDENT (R127, R148 to R150, R632, R639) -/

/-- The payload of this port's IDENT (R127, R632). -/
def Dev.identPayload (d : Dev) (p verdict : Nat) : List Byte :=
  beBytes 16 d.mfg.serial ++ [0x02] ++ beBytes 1 ownLevels ++ beBytes 1 (d.reg E.PLAN_PLANE) ++ beBytes 1 (d.reg E.PLAN_RACK) ++
    beBytes 1 p ++ beBytes 2 d.fwCompatNow ++ beBytes 1 (d.reg (E.MAX_RATE p)) ++ [0x02] ++ beBytes 1 verdict ++ [0x01]

/-- Send a WAKE cell (R129). -/
def Dev.sendWake (d : Dev) (p kind reason : Nat) : Dev :=
  d.sendSeq p (mkCtl tWake (d.peerAddr p) (d.ownAddr 0xFF) 0 0 (beBytes 1 kind ++ beBytes 1 reason ++ beBytes 8 d.tick))

/-- Entry to KEEPALIVE is abandoned after PORT_SLEEP went out: WAKE REQUEST on every other port that has it
pending (R616). -/
def Dev.unsleepPorts (d : Dev) (but : Nat) : Dev :=
  (allPorts.filter (fun q => q != but && (d.port q).sleepSent && (d.port q).state = .up)).foldl
    (fun a q => (a.updPort q (fun x => { x with sleepTs := none, sleepSent := false })).sendWake q 1 3) d

/-- A port completes IDENT, which is a wake source (R614); an entry to KEEPALIVE that has sent PORT_SLEEP cancels those sleeps
(R616). -/
def Dev.wakeIdent (d : Dev) : Dev :=
  let d1 := d.wake wkIDENT
  if d.power.sleep = .entering && d.power.sleepTs.isSome then d1.unsleepPorts 256 else d1

/-- Both verdicts settle the port (R150): QUARANTINE on either, or LANES 512 ticks after ACCEPT is both sent and
received. Completing IDENT is a wake source (R614). The port's own QUARANTINE is told by no IDENT cell, since it takes effect
at once (R155). (DESIGN CHOICE, log entry 194). -/
def Dev.identCheck (d : Dev) (p : Nat) : Dev :=
  let x := d.port p
  if x.state != .ident || x.verdict = 0 then d
  else if x.verdict = 2 || x.peerVerdict = 2 then d.toQuarantine p
  else if x.peerVerdict = 1 && x.acceptSent && x.bothAccept.isNone then
    ((d.setPort p { x with bothAccept := some d.tick }).moduleLanes p ((d.setReg (E.FABRIC_LEVEL p) (d.linkLevel p)).linkRate p)).wakeIdent
  else d

/-- One IDENT with the port's own verdict (R148, R150). -/
def Dev.sendIdent (d : Dev) (p : Nat) : Dev :=
  let x := d.port p
  let d1 := d.setPort p { x with identSent := some d.tick, acceptSent := x.acceptSent || x.verdict = 1 }
  (d1.sendCell p 0 (mkLinkCell tIdent 0 (d.identPayload p x.verdict))).identCheck p

/-- IDENT_SEND: every 16 ticks in IDENT (R148). -/
def execIdentSend (p : Port) (s : State) : Host.Outcome State Fault Refusal :=
  run s fun d =>
    let x := d.port p.val
    let due : Bool := match x.identSent with
      | some t => decide (t + 16 ≤ d.tick)
      | none => true
    if x.state = .ident && due then d.sendIdent p.val else d

/-- IDENT_CELL (R149, R150, R639). -/
def execIdentCell (p : Port) (c : Cell) (s : State) : Host.Outcome State Fault Refusal :=
  run s fun d =>
    let x := d.port p.val
    let v := c.pay 25 1
    let take := fun (a : Dev) =>
      ((a.setBlob (E.PEER_IDENT p.val) c.payload).updPort p.val (fun y =>
        { y with lastIdent := a.tick, firstIdent := some (y.firstIdent.getD a.tick), peerVerdict := v, lastGood := a.tick })).identCheck p.val
    if x.state = .ident then take d
    else if x.state = .quarantine then (if v = 0 then take (d.toIdent p.val) else d.setBlob (E.PEER_IDENT p.val) c.payload)
    else d

/-- IDENT_TIMEOUT (R150). -/
def execIdentTimeout (p : Port) (s : State) : Host.Outcome State Fault Refusal :=
  run s fun d =>
    let x := d.port p.val
    if x.state = .ident && x.lastIdent + d.reg E.IDENT_TIMEOUT_TICKS ≤ d.tick then d.toDetect p.val else d

/-- LANES_START: 512 ticks after both ACCEPTs, with the module's data paths up; it waits while the TX1 wakes
(R150, R614). -/
def execLanesStart (p : Port) (s : State) : Host.Outcome State Fault Refusal :=
  run s fun d =>
    let x := d.port p.val
    match x.bothAccept with
    | none => d
    | some t =>
      if x.state = .ident && t + 512 ≤ d.tick && d.moduleReady p.val && !d.domainOff .lanes then d.toLanes p.val false else d

/-! ## KEEP, sleep and wake of a port (R128, R129, R155 to R160) -/

/-- KEEP_CELL: a foreign SERIAL or PORT sends the port to IDENT (R154). -/
def bareKeepCell (p : Port) (c : Cell) (s : State) : Host.Outcome State Fault Refusal :=
  run s fun d =>
    match (d.port p.val).state with
    | .up | .keepalive | .quarantine =>
      if c.pay 0 16 != d.peerSerial p.val || c.pay 16 1 != d.peer p.val 20 1 then (d.toIdent p.val).linkEvent p.val else d
    | _ => d

/-- KEEP_SEND: in KEEPALIVE and QUARANTINE (R155, R158). -/
def execKeepSend (p : Port) (s : State) : Host.Outcome State Fault Refusal :=
  run s fun d =>
    let x := d.port p.val
    if x.state = .keepalive || x.state = .quarantine then
      let st := if x.state = .keepalive then 1 else 2
      let pay := beBytes 16 d.mfg.serial ++ beBytes 1 p.val ++ beBytes 1 st ++ beBytes 8 d.tick
      (d.setPort p.val { x with keepSent := d.tick }).sendSeq p.val (mkCtl tKeep (d.peerAddr p.val) (d.ownAddr 0xFF) 0 0 pay)
    else d

/-- Send PORT_SLEEP for a switch tick; the later of two stands (R157). -/
def Dev.sleepPort (d : Dev) (p ts : Nat) : Dev :=
  (d.updPort p (fun x => { x with sleepTs := some (max ts (x.sleepTs.getD 0)), sleepSent := true })).sendLocal p 0x04 (beBytes 8 ts)

/-- PORT_SLEEP_SEND (R157). -/
def execPortSleepSend (p : Port) (ts : BitVec 64) (s : State) : Host.Outcome State Fault Refusal :=
  run s fun d =>
    let x := d.port p.val
    if x.state = .up && x.handover.isNone && d.tick + 256 ≤ ts.toNat then d.sleepPort p.val ts.toNat else d

/-- PORT_SLEEP received (R157). -/
def execPortSleep (p : Port) (c : Cell) (s : State) : Host.Outcome State Fault Refusal :=
  run s fun d =>
    let x := d.port p.val
    if x.state = .up then d.setPort p.val { x with sleepTs := some (max (c.pay 0 8) (x.sleepTs.getD 0)) } else d

/-- PORT_SLEEP_TS: the sleep's tick is reached (R154). -/
def barePortSleepTs (p : Port) (s : State) : Host.Outcome State Fault Refusal :=
  run s fun d =>
    let x := d.port p.val
    match x.sleepTs with
    | none => d
    | some t =>
      if x.state = .up && t ≤ d.tick then
        let parks := ([1, 2, 3] : List Lane).filter (fun l => (x.lane l).state = .active)
        (parks.foldl (fun a l => a.sendPark p.val l) d).toKeepalive p.val
      else d

/-- WAKE_REQUEST (R159, R160, R614): the ACK carries no reason, 0. (DESIGN CHOICE, log entry 184). -/
def execWakeRequest (p : Port) (c : Cell) (s : State) : Host.Outcome State Fault Refusal :=
  run s fun d =>
    let x := d.port p.val
    if c.pay 0 1 != 1 then d
    else if x.state = .up && x.sleepTs.isSome then
      let entering := d.power.sleep = .entering
      let d1 := (d.setPort p.val { x with sleepTs := none, sleepSent := false }).wake wkWAKECELL
      (if entering then d1.unsleepPorts p.val else d1).sendWake p.val 2 0
    else if x.state = .keepalive then
      ((d.setPort p.val { x with wakeReqRcvd := some (x.wakeReqRcvd.getD d.tick) }).wake wkWAKECELL).sendWake p.val 2 0
    else d

/-- WAKE_REQUEST_SEND: traffic, a collective start among it, waits for a sleeping port (R129, R159, R169). -/
def execWakeRequestSend (p : Port) (s : State) : Host.Outcome State Fault Refusal :=
  run s fun d =>
    let x := d.port p.val
    if x.state = .keepalive && !x.wakeReqSent && d.queuedTo p.val then
      (d.setPort p.val { x with wakeReqSent := true }).sendWake p.val 1 (if d.startQueuedTo p.val then 2 else 1)
    else d

/-- WAKE_ACK (R159). -/
def execWakeAck (p : Port) (c : Cell) (s : State) : Host.Outcome State Fault Refusal :=
  run s fun d =>
    let x := d.port p.val
    if x.state = .keepalive && c.pay 0 1 = 2 then d.setPort p.val { x with wakeAckRcvd := true } else d

/-- READY has been both sent and received from this tick on (R159). -/
def PortSt.noteReady (x : PortSt) (now : Nat) : PortSt :=
  if x.wakeReadySent && x.wakeReadyRcvd then { x with wakeBoth := some (x.wakeBoth.getD now) } else x

/-- WAKE_READY_SEND: once the lanes can train (R159, R617); in a wake from KEEPALIVE this shows that the S-dies run. READY carries no reason, 0. (DESIGN CHOICE, log entry 184). -/
def execWakeReadySend (p : Port) (s : State) : Host.Outcome State Fault Refusal :=
  run s fun d =>
    let x := d.port p.val
    let d := if x.wakeReadySent || !(x.wakeReqSent || x.wakeReqRcvd.isSome) then d else d.switchBack
    if x.state = .keepalive && !x.wakeReadySent && (x.wakeReqSent || x.wakeReqRcvd.isSome) && !d.domainOff .lanes then
      (d.setPort p.val (({ x with wakeReadySent := true } : PortSt).noteReady d.tick)).sendWake p.val 3 0
    else d

/-- WAKE_READY (R159). -/
def execWakeReady (p : Port) (c : Cell) (s : State) : Host.Outcome State Fault Refusal :=
  run s fun d =>
    let x := d.port p.val
    if x.state = .keepalive && c.pay 0 1 = 3 then d.setPort p.val (({ x with wakeReadyRcvd := true } : PortSt).noteReady d.tick) else d

/-- WAKE_LANES_START: 256 ticks after READY is both sent and received (R159). -/
def execWakeLanesStart (p : Port) (s : State) : Host.Outcome State Fault Refusal :=
  run s fun d =>
    let x := d.port p.val
    match x.wakeBoth with
    | none => d
    | some t => if x.state = .keepalive && t + 256 ≤ d.tick then d.toLanes p.val false else d

/-! ## What a port does at every tick (R93, R110, R132, R147, R151) -/

/-- The lanes whose idle slots carry NULL: those in striping, and lane 0 at its low rate past detection (R132, R155). -/
def PortSt.nullLanes (x : PortSt) : List Lane :=
  match x.state with
  | .ident | .keepalive | .quarantine => [0]
  | .up | .lanes | .recover => x.striping
  | .off | .detect | .absent => []

/-- What a port sends in the slots of one tick that no other cell takes: TRAIN cells in DETECT, training frames in LANES, NULL on
the lanes that carry cells. One record stands for a lane's idle slots of the tick. (DESIGN CHOICE, log entry 172). -/
def Dev.fillPort (d : Dev) (p : Nat) : Dev :=
  let x := d.port p
  match x.state with
  | .off => d
  | .detect | .absent => d.sendTrain p 0 1 1
  | _ =>
    let trains := lanes4.filter (fun l => (x.lane l).state = .train)
    let d1 := trains.foldl (fun a l => (a.updLane p l (fun y => { y with rxReady := a.trained y })).sendTrain p l 2 1) d
    x.nullLanes.foldl (fun a l => a.sendCell p l (mkLinkCell tNull x.txLseq [])) d1

/-- One tick of a port: its injections run, a request that is due goes out, and its idle slots are filled. -/
def Dev.tickPort (d : Dev) (p : Nat) : Dev :=
  ((lanes4.foldl (fun a l => a.injectTick p l) d).sendRequest p).fillPort p

/-- One tick of every port. -/
def Dev.tickPorts (d : Dev) : Dev := (d.ports.map (·.1)).foldl (fun a p => a.tickPort p) d

end Sys2Proof.Machine
end

