-- ==== Sys2Proof/Machine/Losses.lean ====
section
/-! DEFINITION. The commands that can take a port out of UP or RECOVER, or a ring group's ports from it, with what the loss
does to open contexts (R85, R105, R153, R154, R214, R304, R368). -/

namespace Sys2Proof.Machine

/-- LOS (R85, R154). -/
def execLos (p : Port) (l : Lane) (on : Bool) (s : State) : Host.Outcome State Fault Refusal := settled s (bareLos p l on s)

/-- LOL (R85, R154). -/
def execLol (p : Port) (l : Lane) (on : Bool) (s : State) : Host.Outcome State Fault Refusal := settled s (bareLol p l on s)

/-- MODULE_PRESENCE (R105, R650). -/
def execModulePresence (site : Fin 32) (present : Bool) (advert : ModuleAdvert) (s : State) : Host.Outcome State Fault Refusal :=
  settled s (bareModulePresence site present advert s)

/-- PORT_LOSS_TIMEOUT (R154). -/
def execPortLossTimeout (p : Port) (s : State) : Host.Outcome State Fault Refusal := settled s (barePortLossTimeout p s)

/-- LANES_TIMEOUT (R153, R154). -/
def execLanesTimeout (p : Port) (s : State) : Host.Outcome State Fault Refusal := settled s (bareLanesTimeout p s)

/-- LANES_STALL (R153). -/
def execLanesStall (p : Port) (s : State) : Host.Outcome State Fault Refusal := settled s (bareLanesStall p s)

/-- REPLAY_TIMEOUT (R137, R154). -/
def execReplayTimeout (p : Port) (s : State) : Host.Outcome State Fault Refusal := settled s (bareReplayTimeout p s)

/-- LINK_CELL (R137, R139, R153). -/
def execLinkCell (p : Port) (c : Cell) (s : State) : Host.Outcome State Fault Refusal := settled s (bareLinkCell p c s)

/-- KEEP_CELL (R154). -/
def execKeepCell (p : Port) (c : Cell) (s : State) : Host.Outcome State Fault Refusal := settled s (bareKeepCell p c s)

/-- PORT_SLEEP_TS (R154). -/
def execPortSleepTs (p : Port) (s : State) : Host.Outcome State Fault Refusal := settled s (barePortSleepTs p s)

/-- EPOCH_FLIP (R214). -/
def execEpochFlip (s : State) : Host.Outcome State Fault Refusal := settled s (bareEpochFlip s)

end Sys2Proof.Machine
end

