-- ==== Sys2Proof/Machine/Discovery.lean ====
section
/-! DEFINITION. Discovery: the plan, the comparison of identities, swaps, quarantine and release (R625 to R642). -/

namespace Sys2Proof.Machine

/-! ## The comparison (R633) -/

/-- The FW_COMPAT window of a NODE_KIND lets a number in; a kind without a window lets every number in (R633, R641). -/
def Dev.compatFits (d : Dev) (kind compat : Nat) : Bool :=
  if kind = 0 || 3 < kind then true
  else
    let w := d.reg (E.COMPAT_EP + (kind - 1))
    bits w 16 16 ≤ compat && compat ≤ bits w 0 16

/-- The tests of fits() that fail for the identity last received on a port against a plan entry, as bits [0] to [4] of
DIFFER (R633, R642). -/
def Dev.unfit (d : Dev) (p : Nat) (plan : List Byte) : Nat :=
  let ser := beNat (slice plan 0 16)
  (if ser != 0 && d.peerSerial p != ser then 1 else 0) +
  (if planKind plan = 0 || d.peerKind p != planKind plan then 2 else 0) +
  (if d.peer p 18 1 % 16 != d.reg E.PLAN_PLANE then 4 else 0) +
  (if d.peer p 19 1 != beNat (slice plan 18 1) then 8 else 0) +
  (if d.peer p 20 1 != beNat (slice plan 19 1) then 16 else 0)

/-- fits(id, P) for the identity last received on a port (R633). -/
def Dev.fits (d : Dev) (p : Nat) (plan : List Byte) : Bool := d.unfit p plan = 0

/-- DIFFER of a port against the plan of its logical number (R642). -/
def Dev.differ (d : Dev) (p : Nat) : Nat :=
  d.unfit p (d.planEntry (d.logical p)) +
  (if (d.peerLevels p &&& ownLevels) = 0 then 32 else 0) +
  (if d.compatFits (d.peerKind p) (d.peer p 21 2) then 0 else 64)

/-- An outcome is recorded (R636, R642): DIFFER is zero for MATCH and SWAP_ACCEPTED. -/
def Dev.outcome (d : Dev) (p code other : Nat) : Dev :=
  let r : Discovery := { outcome := code, other := other, differ := if code = 1 || code = 6 then 0 else d.differ p, tick := d.tick }
  { d with discovery := tset d.discovery p r }

/-- A port takes a verdict: 1 ACCEPT, 2 QUARANTINE (R149, R150). -/
def Dev.setVerdict (d : Dev) (p v : Nat) : Dev := (d.updPort p (fun x => { x with verdict := v })).identCheck p

/-- An outcome with a verdict of QUARANTINE (R635). -/
def Dev.rejectPort (d : Dev) (p code other : Nat) : Dev := (d.outcome p code other).setVerdict p 2

/-- Exchanging or restoring the logical number of a port would redirect traffic (R634). -/
def Dev.remapHeld (d : Dev) (p : Nat) : Bool :=
  d.packs.any (fun e => maskHas e.2.members (d.logical p)) ||
  (List.range 2).any (fun b => d.bank b != .idle &&
    allPorts.any (fun n => bits (d.routeLocal b n) 15 1 = 1 && bits (d.routeLocal b n) 0 8 = p))

/-- Exchange LOGICAL(a) and LOGICAL(b). -/
def Dev.exchange (d : Dev) (a b : Nat) : Dev :=
  let la := d.logical a
  let lb := d.logical b
  let put := fun (t : Tbl Nat) (p n : Nat) => if p = n then terase t p else tset t p n
  { d with routing := { d.routing with logical := put (put d.routing.logical a lb) b la } }

/-- The swap rule on a port under comparison and a port that holds the other's identity (R634). A b in QUARANTINE is released
first: it sends IDENT with VERDICT pending, which reopens its partner (R638, R639), and then takes ACCEPT.
(DEDUCED, log entry 199). -/
def Dev.swapRule (d : Dev) (a b : Nat) : Dev :=
  if d.reg E.SWAP_POLICY = 1 && !d.remapHeld a && !d.remapHeld b then
    let d1 := d.exchange a b
    let d2 := if (d1.port b).state = .quarantine then (d1.toIdent b).sendIdent b else d1
    (((d2.outcome a 6 b).outcome b 6 a).setVerdict b 1).setVerdict a 1
  else
    let d1 := d.outcome b 7 a
    let d2 := if (d1.port b).state = .ident then d1.setVerdict b 2 else d1
    d2.rejectPort a 7 b

/-- A port holds an IDENT received since it last entered IDENT, in IDENT or QUARANTINE (R633). -/
def Dev.holdsIdent (d : Dev) (p : Nat) : Bool :=
  ((d.port p).state = .ident || (d.port p).state = .quarantine) && (d.port p).firstIdent.isSome

/-- The comparison of one port (R633). (DEDUCED, log entry 64). -/
def Dev.compare (d : Dev) (a : Nat) : Dev :=
  let plan := d.planEntry (d.logical a)
  if (d.peerLevels a &&& ownLevels) = 0 then d.rejectPort a 9 0xFF
  else if !d.compatFits (d.peerKind a) (d.peer a 21 2) then d.rejectPort a 8 0xFF
  else if d.fits a plan then (d.outcome a 1 0xFF).setVerdict a 1
  else
    match allPorts.find? (fun b => b != a && d.fits a (d.planEntry (d.logical b))) with
    | some b => if d.holdsIdent b && d.fits b plan then d.swapRule a b else d.rejectPort a 5 b
    | none => d.rejectPort a (if planKind plan = 0 then 3 else 4) 0xFF

/-- Whether a port waits for its comparison. (DEDUCED, log entry 64). -/
def Dev.awaitsVerdict (d : Dev) (p : Nat) : Bool :=
  (d.port p).state = .ident && (d.port p).verdict = 0 && (d.port p).firstIdent.isSome

/-- DISCOVERY_COMPARE (R633): ports are compared in the order of IDENT arrival, ascending within a tick. -/
def execDiscoveryCompare (p : Port) (s : State) : Host.Outcome State Fault Refusal :=
  run s fun d =>
    let t := (d.port p.val).firstIdent.getD 0
    let before := fun (q : Nat) => decide ((d.port q).firstIdent.getD 0 < t) || ((d.port q).firstIdent.getD 0 = t && q < p.val)
    if d.awaitsVerdict p.val && !allPorts.any (fun q => d.awaitsVerdict q && before q) then d.compare p.val else d

/-! ## Writes of the plan, release and remap (R627 to R630, R637, R638, R640) -/

/-- A port is past IDENT with a link it may not lose to a plan change (R627). -/
def Dev.linkOpen (d : Dev) (p : Nat) : Bool :=
  match (d.port p).state with
  | .lanes | .up | .recover | .keepalive => true
  | _ => false

/-- A write of a switch-wide plan entry is refused (R627); the bound of the rack and the ring sizes is one of the pairs of
R659. -/
def Dev.refusePlan (d : Dev) : Option Status := if allPorts.any d.linkOpen || d.packs != [] then some .stateConflict else none

/-- A write of PLAN_NEIGHBOUR is refused (R14, R628, R629). -/
def Dev.refuseNeighbour (d : Dev) (n : Nat) (v : List Byte) : Option Status :=
  let cls := beNat (slice v 17 1)
  if 3 < planKind v || 1 < cls || beNat (slice v 20 4) != 0 then some .invalidValue
  else if planReach v = planReach (d.planEntry n) then none
  else (d.setBlob (E.PLAN_NEIGHBOUR n) v).refuseClass (d.physical n) cls

/-- PLAN_NEIGHBOUR is written: CLASS carries to the port's ELEC_CLASS, and a neighbour now expected may be overdue
(R629, R637). -/
def Dev.writeNeighbour (d : Dev) (n : Nat) (v : List Byte) : Dev :=
  let p := d.physical n
  let was := planReach (d.planEntry n)
  let d1 := d.setBlob (E.PLAN_NEIGHBOUR n) v
  let d2 := if was = planReach v then d1 else d1.writeClass p (if planReach v then 1 else 0)
  let x := d2.port p
  if x.state = .detect && planKind v != 0 && x.since + d2.reg E.ABSENT_TICKS ≤ d2.tick then
    ({ (d2.updPort p (fun y => { y with state := .absent })) with
       discovery := tset d2.discovery p { outcome := 2, tick := d2.tick } }).linkEvent p
  else d2

/-- RELEASE is refused (R638). -/
def Dev.refuseRelease (d : Dev) (p : Nat) : Option Status :=
  if (d.port p).state = .quarantine then none else some .stateConflict

/-- The ports whose logical number differs from their own. -/
def Dev.remapped (d : Dev) : List Nat := allPorts.filter (fun p => d.logical p != p)

/-- REMAP_CLEAR is refused (R640). -/
def Dev.refuseRemap (d : Dev) : Option Status :=
  if d.remapped.any d.remapHeld then some .stateConflict else none

/-- REMAP_CLEAR is written (R640). -/
def Dev.clearRemap (d : Dev) : Dev :=
  let ps := d.remapped
  let d1 := { d with routing := { d.routing with logical := [] } }
  (ps.foldl (fun a p => if (a.port p).state = .off then a else a.toDetect p) d1).settle d

end Sys2Proof.Machine
end

