-- ==== Sys2Proof/Machine/HostPort.lean ====
section
/-! DEFINITION. The host port and its queue pairs as responder and requester: windows, doorbells, the ledger window,
the bridge, acknowledgements and responses (R478 to R491). -/

namespace Sys2Proof.Machine

/-! ## Windows (R488) -/

/-- The open window of an rkey. -/
def Dev.windowOf (d : Dev) (rkey : Nat) : Option Nat :=
  (List.range 16).find? (fun w => d.reg (E.WIN_ACCESS w) != 0 && d.reg (E.WIN_RKEY w) = rkey)

/-- A window allows a range: for reading or for writing, by its kind, inside its length, and in what R500 lets it name. -/
def Dev.windowAllows (d : Dev) (w : Nat) (writing : Bool) (va n : Nat) : Bool :=
  let kind := d.reg (E.WIN_ACCESS w)
  va + n ≤ d.reg (E.WIN_LENGTH w) &&
  (if kind = 5 then !writing && va + n ≤ d.ledgerCapacity * 128
   else if kind = 4 then writing && n = 8 && va % 8 = 0 && va / 8 < 64
   else (if writing then kind = 2 || kind = 3 else kind = 1 || kind = 3) && d.generalHbm (d.reg (E.WIN_BASE w) + va) n)

/-- Read `n` bytes of the ledger region from byte `o` on, by stretches inside one 4 KiB page (R499).
(DEDUCED, log entry 111). -/
def Dev.readLedger (d : Dev) (o n ini fuel : Nat) : Option (List Byte) × Dev :=
  match fuel with
  | 0 => (some [], d)
  | f + 1 =>
    if n = 0 then (some [], d)
    else
      let k := min n (4096 - o % 4096)
      match d.readMem (regionAddr d.ledgerBase o) k ini with
      | (none, d1) => (none, d1)
      | (some bs, d1) =>
        match d1.readLedger (o + k) (n - k) ini f with
        | (none, d2) => (none, d2)
        | (some more, d2) => (some (bs ++ more), d2)

/-- Read a range of a window. (DEDUCED, log entry 104). -/
def Dev.readWindow (d : Dev) (w va n ini : Nat) : Option (List Byte) × Dev :=
  if d.reg (E.WIN_ACCESS w) = 5 then d.readLedger va n ini (n / 4096 + 2) else d.readMem (d.reg (E.WIN_BASE w) + va) n ini

/-! ## CONSUMED (R496) -/

/-- The fill level of a channel. -/
def Dev.fill (d : Dev) (n : Nat) : Nat := d.reg (E.PRODUCED n) - d.reg (E.CONSUMED n)

/-- Note the tick in which a paused channel's fill level has fallen to PACE_LOW (R496). (DEDUCED, log entry 110). -/
def Dev.notePace (d : Dev) (n : Nat) : Dev :=
  let c := d.chan n
  if c.state = .paused && c.lowAt.isNone && d.fill n ≤ d.reg (E.PACE_LOW n) then d.setChan n { c with lowAt := some d.tick } else d

/-- CONSUMED is refused (R496). (DEDUCED, log entry 106). -/
def Dev.refuseConsumed (d : Dev) (n v : Nat) : Option Status := if d.reg (E.PRODUCED n) < v then some .invalidValue else none

/-- CONSUMED is written (R496). (DEDUCED, log entry 106). -/
def Dev.writeConsumed (d : Dev) (n v : Nat) : Dev := (d.setReg (E.CONSUMED n) v).notePace n

/-! ## As responder (R484 to R491) -/

/-- The next PSN is expected, and a message may have ended. -/
def Dev.took (d : Dev) (q npkts : Nat) (ended : Bool) : Dev :=
  let x := d.qp q
  d.setQp q { x with rqPsn := (x.rqPsn + npkts) % 2 ^ 24, msn := if ended then (x.msn + 1) % 2 ^ 24 else x.msn, gapNak := false }

/-- A NAK, and the queue pair enters ERROR. (DEDUCED, log entry 104). -/
def Dev.nakError (d : Dev) (q psn syn : Nat) : Dev := (d.sendAck q psn syn).qpError q psn

/-- An acknowledgement where the request asks for one. -/
def Dev.ackIf (d : Dev) (m : RoceMsg) : Dev := if m.ackReq then d.sendAck m.qp.val m.psn.toNat synACK else d

/-- A packet fits its message's order: First or Only opens one, Middle and Last continue one of the same kind.
(DEDUCED, log entry 105). -/
def fitsMessage (x : Qp) (kind : Nat) (m : RoceMsg) : Bool :=
  match x.rx with
  | none => m.first
  | some r => !m.first && r.kind = kind

/-- A bridge record (R490): reserved bits are not looked at (R13). -/
def bridgeRec (q msg : Nat) (b : List Byte) : BridgeRec :=
  { qp := q, msg := msg, dest := beNat (slice b 0 3) % 2 ^ 20, len := beNat (slice b 3 1) % 64, sl := beNat (slice b 4 1) % 4,
    tag := beNat (slice b 6 2), payload := slice b 8 64 }

/-- A SEND packet in its turn (R490, R491). (DEDUCED, log entry 105). -/
def Dev.takeSend (d : Dev) (m : RoceMsg) : Dev :=
  let q := m.qp.val
  let x := d.qp q
  let bad := fun (a : Dev) => a.nakError q m.psn.toNat synINVALID
  if d.reg (E.QP_KIND q) != 1 || !fitsMessage x 0 m then bad d
  else
    let data := (match x.rx with
      | some r => r.data
      | none => []) ++ m.payload
    if !m.last then
      if m.payload.length != d.pathMtu then bad d
      else ((d.setQp q { x with rx := some { kind := 0, data := data } }).took q 1 false).ackIf m
    else if data.length % 72 != 0 || d.pathMtu < m.payload.length then bad d
    else
      let n := data.length / 72
      if 4096 < d.bridge.length + n then (d.count E.BRIDGE_RNR).sendAck q m.psn.toNat synRNR
      else
        let recs := (chunksOf 72 data (n + 1)).map (bridgeRec q x.msn)
        let d1 := { d.setQp q { x with rx := none } with bridge := d.bridge ++ recs }
        ((d1.took q 1 true).ackIf m).bridgePump

/-- An RDMA WRITE packet in its turn (R488, R489). -/
def Dev.takeWrite (d : Dev) (m : RoceMsg) : Dev :=
  let q := m.qp.val
  let x := d.qp q
  let bad := fun (a : Dev) => a.nakError q m.psn.toNat synINVALID
  let denied := fun (a : Dev) => a.nakError q m.psn.toNat synACCESS
  if !fitsMessage x 1 m then bad d
  else
    let rx := match x.rx with
      | some r => r
      | none => { kind := 1, rkey := m.rkey.toNat, va := m.va.toNat, len := m.dmaLen.toNat }
    let n := m.payload.length
    if (if m.last then rx.taken + n != rx.len || d.pathMtu < n else n != d.pathMtu || rx.len < rx.taken + n) then bad d
    else
      match d.windowOf rx.rkey with
      | none => denied d
      | some w =>
        if !d.windowAllows w true rx.va rx.len then denied d
        else
          let d1 :=
            if d.reg (E.WIN_ACCESS w) = 4 then
              let v := beNat m.payload
              if (d.refuseConsumed (rx.va / 8) v).isNone then d.writeConsumed (rx.va / 8) v else d
            else if n = 0 then d
            else d.writeFrom (iniQp q) (d.reg (E.WIN_BASE w) + rx.va + rx.taken) m.payload
          let d2 := d1.setQp q { d1.qp q with rx := if m.last then none else some { rx with taken := rx.taken + n } }
          (d2.took q 1 m.last).ackIf m

/-- The response packets to an RDMA READ (R484). -/
def Dev.sendResponses (d : Dev) (q psn : Nat) (data : List Byte) : Dev :=
  let ps := if data = [] then [[]] else chunksOf d.pathMtu data (data.length + 1)
  (ps.zipIdx).foldl (fun (a : Dev) (z : List Byte × Nat) =>
    let first : Bool := z.2 = 0
    let last : Bool := z.2 + 1 = ps.length
    let op := if first && last then 0x10 else if first then 0x0D else if last then 0x0F else 0x0E
    let pad := padLen z.1.length
    let aeth := if op = 0x0E then [] else beBytes 1 synACK ++ beBytes 3 (a.qp q).msn
    a.hostSend q (bth op pad (a.reg (E.REMOTE_QPN q)) ((psn + z.2) % 2 ^ 24) false ++ aeth ++ z.1 ++ List.replicate pad 0)) d

/-- An RDMA READ request: in its turn, or asked for again (R488). -/
def Dev.takeRead (d : Dev) (m : RoceMsg) (again : Bool) : Dev :=
  let q := m.qp.val
  let n := m.dmaLen.toNat
  match d.windowOf m.rkey.toNat with
  | none => d.nakError q m.psn.toNat synACCESS
  | some w =>
    if !d.windowAllows w false m.va.toNat n then d.nakError q m.psn.toNat synACCESS
    else
      match d.readWindow w m.va.toNat n (iniQp q) with
      | (none, d1) => d1.nakError q m.psn.toNat synOPERATION
      | (some bs, d1) =>
        let d2 := if again then d1 else d1.took q (max 1 ((n + d1.pathMtu - 1) / d1.pathMtu)) true
        d2.sendResponses q m.psn.toNat bs

/-- A request packet at its queue pair, by PSN (R485, R486): in its turn it acts; one already taken is answered again; a
gap is refused once. Kinds: 0 SEND, 1 WRITE, 2 READ request. -/
def Dev.respond (d : Dev) (kind : Nat) (m : RoceMsg) : Dev :=
  let q := m.qp.val
  let x := d.qp q
  let ahead := psnAhead m.psn.toNat x.rqPsn
  if ahead = 0 then
    if m.invalid then d.nakError q m.psn.toNat synINVALID
    else if kind = 0 then d.takeSend m
    else if kind = 1 then d.takeWrite m
    else if x.rx.isSome then d.nakError q m.psn.toNat synINVALID
    else d.takeRead m false
  else if 2 ^ 23 ≤ ahead then
    if kind = 2 then d.takeRead m true else d.sendAck q ((x.rqPsn + 2 ^ 24 - 1) % 2 ^ 24) synACK
  else if x.gapNak then d
  else (d.setQp q { x with gapNak := true }).sendAck q x.rqPsn synSEQ

/-! ## As requester (R486, R487) -/

/-- Bytes that a channel's FROM_HOST descriptor has asked for (R492, R497). -/
def Dev.dmaTake (d : Dev) (n : Nat) (bs : List Byte) : Dev :=
  let c := d.chan n
  if c.state = .running && c.started then
    ((d.cross [17, n / 16]).writeFrom (iniDma n) (leNat (slice c.desc 24 8) + c.got.length) bs).setChan n { c with got := c.got ++ bs }
  else d

/-- A READ response: the next one of the oldest RDMA READ request; it acknowledges what went before (R486). -/
def Dev.takeResponse (d : Dev) (m : RoceMsg) : Dev :=
  let q := m.qp.val
  let x := d.qp q
  match x.sent.dropWhile (fun r => r.op != 0x0C) with
  | [] => d
  | r :: rest =>
    if m.psn.toNat != r.psn then d
    else
      let bs := m.payload.take r.dmaLen
      let n := bs.length
      let left := if r.npkts ≤ 1 then rest
        else { r with psn := (r.psn + 1) % 2 ^ 24, npkts := r.npkts - 1, va := r.va + n, dmaLen := r.dmaLen - n } :: rest
      let d1 := d.setQp q { x with sent := left, retries := 0, rnrRetries := 0, sentAt := d.tick }
      let d2 := match r.use with
        | .dma ch => d1.dmaTake ch bs
        | .bridge | .interrupt _ | .dropped => d1
      d2.pump q

/-- An ACK, NAK or RNR NAK (R486). -/
def Dev.takeAck (d : Dev) (m : RoceMsg) : Dev :=
  let q := m.qp.val
  let psn := m.psn.toNat
  let before := (psn + 2 ^ 24 - 1) % 2 ^ 24
  let syn := m.syndrome.toNat
  if (d.qp q).sent = [] then d
  else if bits syn 5 2 = 0 then (d.acked q psn).pump q
  else if bits syn 5 2 = 1 then
    let d1 := d.acked q before
    let x := d1.qp q
    let limit := d1.reg (E.RNR_RETRY q)
    if limit != 7 && limit ≤ x.rnrRetries then d1.qpError q psn
    else (d1.setQp q { x with rnrRetries := x.rnrRetries + 1 }).resendAll q
  else if bits syn 5 2 = 3 then
    let d1 := d.acked q before
    if syn = synSEQ then d1.retry q else d1.qpError q psn
  else d

/-! ## Arrival -/

/-- A packet's effect once its domains run. Kinds: 0 SEND, 1 WRITE, 2 READ request, 3 READ response, 4 acknowledgement. -/
def Dev.hostPacket (d : Dev) (kind : Nat) (m : RoceMsg) : Dev :=
  if (d.qp m.qp.val).state != 1 then d.count E.HOST_DROPS
  else if kind ≤ 2 then d.respond kind m
  else if kind = 3 then d.takeResponse m
  else d.takeAck m

/-- A packet's effect reads or writes memory of the compute tier: a WRITE that a window other than the DOORBELL allows, a
READ that a window allows, or the response to a DMA channel's READ (R480, R614). (DEDUCED, log entry 107). -/
def Dev.needsTier (d : Dev) (kind : Nat) (m : RoceMsg) : Bool :=
  let rx := ((d.qp m.qp.val).rx.map (fun r => (r.rkey, r.va, r.len))).getD (m.rkey.toNat, m.va.toNat, m.dmaLen.toNat)
  if kind = 1 then (d.windowOf rx.1).any (fun w => d.reg (E.WIN_ACCESS w) != 4 && d.windowAllows w true rx.2.1 rx.2.2)
  else if kind = 2 then (d.windowOf m.rkey.toNat).any (fun w => d.windowAllows w false m.va.toNat m.dmaLen.toNat)
  else kind = 3

/-- A packet held before, that one of the same side of the same queue pair must follow (R489). -/
def HeldPkt.before (h : HeldPkt) (kind q : Nat) : Bool :=
  match h with
  | .frame k m | .packet k m => m.qp.val = q && decide (k ≤ 2) = decide (kind ≤ 2)
  | .cnp _ | .raw _ => false

/-- A packet must wait: the C-dies that its effect needs do not run, or a packet that it must follow already waits (R480,
R489, R613, R614). (DEDUCED, log entry 107). -/
def Dev.hostWaits (d : Dev) (kind : Nat) (m : RoceMsg) : Bool :=
  d.needsTier kind m && (d.computeOff || d.computeGated) || d.heldPkts.any (fun h => h.before kind m.qp.val)

/-- Hold what arrived, and wake (R480, R614). -/
def Dev.holdPkt (d : Dev) (h : HeldPkt) : Dev := { d.wake wkHOST with heldPkts := d.heldPkts ++ [h] }

/-- A CNP for a packet marked CE, at most once every 1,250 ticks (R487). -/
def Dev.cnpFor (d : Dev) (m : RoceMsg) : Dev :=
  let q := m.qp.val
  let x := d.qp q
  let ok : Bool := match x.lastCnpSent with
    | some t => decide (t + 1250 ≤ d.tick)
    | none => true
  if m.ecn && ok then
    ((d.setQp q { x with lastCnpSent := some d.tick }).hostSend q
      (bth 0x81 0 (d.reg (E.REMOTE_QPN q)) 0 false ++ List.replicate 16 0)).count E.CNP_SENT
  else d

/-- A RoCE packet is processed (R481, R483, R486): the ICRC, the queue pair, then its effect, held while the C-dies wake.
(DEDUCED, log entry 107). -/
def Dev.hostLook (d : Dev) (kind : Nat) (m : RoceMsg) : Dev :=
  if !m.icrcOk then d.countErr E.ICRC_ERRORS
  else if (d.qp m.qp.val).state != 1 then d.count E.HOST_DROPS
  else
    let d1 := (d.count E.HOST_FRAMES).cnpFor m
    if d1.hostWaits kind m then d1.holdPkt (.packet kind m) else d1.hostPacket kind m

/-- What a frame that arrives becomes, where the port is up: held while the host domain's clock stands, before anything is
processed (R480). -/
def Dev.hostTake (d : Dev) (h : HeldPkt) (act : Dev → Dev) : Dev :=
  if !d.hostUp then d else if d.domainGated .host then d.holdPkt h else act d

/-- A RoCE packet arrives (R480, R486). -/
def Dev.hostArrive (d : Dev) (kind : Nat) (m : RoceMsg) : Dev := d.hostTake (.frame kind m) (fun a => a.hostLook kind m)

/-- A CNP is processed (R487): the rate halves, down to 8, at most once every 1,250 ticks, and every CNP begins a new
period without one. -/
def Dev.takeCnp (d : Dev) (q : Nat) : Dev :=
  let x := d.qp q
  if x.state != 1 then d.count E.HOST_DROPS
  else
    let ok : Bool := match x.lastCnp with
      | some t => decide (t + 1250 ≤ d.tick)
      | none => true
    let y := { x with lastRise := d.tick }
    (d.count E.HOST_FRAMES).setQp q (if ok then { y with rate := max 8 (x.rate / 2), lastCnp := some d.tick } else y)

/-! ## Commands -/

/-- SEND_MESSAGE (R490, R491). -/
def execSendMessage (m : RoceMsg) (s : State) : Host.Outcome State Fault Refusal := run s fun d => d.hostArrive 0 m

/-- RDMA_WRITE (R488, R489). -/
def execRdmaWrite (m : RoceMsg) (s : State) : Host.Outcome State Fault Refusal := run s fun d => d.hostArrive 1 m

/-- RDMA_READ_REQUEST (R488). -/
def execRdmaReadRequest (m : RoceMsg) (s : State) : Host.Outcome State Fault Refusal := run s fun d => d.hostArrive 2 m

/-- RDMA_READ_RESPONSE (R486). -/
def execRdmaReadResponse (m : RoceMsg) (s : State) : Host.Outcome State Fault Refusal := run s fun d => d.hostArrive 3 m

/-- ACKNOWLEDGE (R486). -/
def execAcknowledge (m : RoceMsg) (s : State) : Host.Outcome State Fault Refusal := run s fun d => d.hostArrive 4 m

/-- CNP (R480, R487). -/
def execCnp (qp : QpNo) (s : State) : Host.Outcome State Fault Refusal :=
  run s fun d => d.hostTake (.cnp qp.val) (fun a => a.takeCnp qp.val)

/-- QP_RATE_RISE (R487). -/
def execQpRateRise (qp : QpNo) (s : State) : Host.Outcome State Fault Refusal :=
  run s fun d =>
    let x := d.qp qp.val
    if d.tick < x.lastRise + 1375 then d else d.setQp qp.val { x with rate := min 256 (x.rate + 16), lastRise := d.tick }

/-- QP_RETRY_TIMEOUT (R486). (DEDUCED, log entry 62). -/
def execQpRetryTimeout (qp : QpNo) (s : State) : Host.Outcome State Fault Refusal :=
  run s fun d =>
    let x := d.qp qp.val
    if x.state != 1 || x.sent = [] || d.tick < x.sentAt + d.reg (E.RETRY_TICKS qp.val) then d else d.retry qp.val

/-- A write of QP_STATE is refused (R505). -/
def Dev.refuseQpState (d : Dev) (q v : Nat) : Option Status :=
  if 1 < v then some .invalidValue
  else if v = 1 && (d.qp q).state != 0 then some .stateConflict
  else none

/-- RESET or RTS is written to QP_STATE (R485): what the queue pair served fails at a reset (R497). -/
def Dev.writeQpState (d : Dev) (q v : Nat) : Dev :=
  if v = 1 then d.setQp q { state := 1, sqPsn := d.reg (E.SQ_PSN q), rqPsn := d.reg (E.RQ_PSN q), lastRise := d.tick }
  else ((d.setQp q {}).dropRecords q).failUsers (d.qpUses q)

/-- HOST_AUTONEG (R478, R479): the highest PHY both ends advertise, where the host domain has power and the port is
down. `trained` says whether link training ended well. -/
def execHostAutoneg (partner : List HostMode) (trained : Bool) (s : State) : Host.Outcome State Fault Refusal :=
  run s fun d =>
    if d.domainOff .host || d.fenced || d.reg E.HOST_MODE != 0 then d
    else
      let h := d.hostPort
      let both := d.reg E.HOST_MAX_MODE != 2 && !h.only400
      if both && partner.contains .cr4x800 then
        if trained then { d.setReg E.HOST_MODE 1 with hostPort := { h with fails800 := 0 } }
        else { d with hostPort := { h with fails800 := h.fails800 + 1, only400 := 2 ≤ h.fails800 } }
      else if partner.contains .cr4x400 && trained then d.setReg E.HOST_MODE 2
      else d

/-! ## Frames that are dropped (R478, R481, R483) -/

/-- The IPv6 link-local address with the modified EUI-64 identifier of a MAC address (R66). -/
def linkLocal (mac : Nat) : List Byte :=
  let m := beBytes 6 mac
  [0xFE, 0x80, 0, 0, 0, 0, 0, 0] ++ (m.take 1).map (fun b => b ^^^ 0x02) ++ (m.drop 1).take 2 ++ [0xFF, 0xFE] ++ m.drop 3

/-- An address that the TX1 holds on a path (R66, R481). -/
def Dev.holdsAddr (d : Dev) (path : Path) (a : BitVec 128) : Bool :=
  let v := beBytes 16 a.toNat
  match path with
  | .t1s => v = linkLocal d.mfg.t1sMac
  | .host => v = linkLocal d.mfg.hostMac || (a != 0 && v = d.blob E.HOST_IPV6)

/-- A frame's destination MAC address is the host port's, or, for a neighbour solicitation, the multicast one of the address
it asks for (R481, R66). (PRESUMED, log entry 102). -/
def Dev.forHostMac (d : Dev) (f : List Byte) (solicits : Bool) : Bool :=
  slice f 0 6 = beBytes 6 d.mfg.hostMac || (solicits && slice f 0 6 = [0x33, 0x33, 0xFF] ++ slice f 75 3)

/-- Whether the TX1 serves a frame: an untagged Ethernet II frame of at most 4,200 bytes to the port's MAC address that
carries, to an address the port
holds, RoCE v2 to a queue pair in RTS or the dictionary while INBAND_ENABLE is true, or a neighbour solicitation for such an
address. The IPv6, UDP and ICMPv6 layouts are those of their standards. (PRESUMED, log entry 102). -/
def Dev.servesFrame (d : Dev) (f : List Byte) : Bool :=
  let at8 := fun a n => beNat (slice f a n)
  let qpn := at8 67 3
  f.length ≤ 4200 && at8 12 2 = 0x86DD && d.forHostMac f (at8 20 1 = 58) &&
  let mine := fun a => d.holdsAddr .host (BitVec.ofNat 128 (at8 a 16))
  ((at8 20 1 = 17 && mine 38 && at8 56 2 = 4791 && 0x100 ≤ qpn && qpn < 0x140 && (d.qp (qpn - 0x100)).state = 1) ||
   (at8 20 1 = 17 && mine 38 && at8 56 2 = 29420 && d.flag E.INBAND_ENABLE) ||
   (at8 20 1 = 58 && at8 54 1 = 135 && mine 62))

/-- A frame that the TX1 does not serve is dropped and counted (R481, R483). -/
def Dev.dropFrame (d : Dev) (bytes : List Byte) : Dev := if d.servesFrame bytes then d else d.count E.HOST_DROPS

/-- HOST_DROPS (R480, R481, R483). -/
def execHostDrops (bytes : List Byte) (s : State) : Host.Outcome State Fault Refusal :=
  run s fun d => d.hostTake (.raw bytes) (fun a => a.dropFrame bytes)

/-! ## The end of a wake (R480) -/

/-- What was held acts. -/
def Dev.actHeld (d : Dev) (h : HeldPkt) : Dev :=
  match h with
  | .frame k m => d.hostLook k m
  | .packet k m => d.hostPacket k m
  | .cnp q => d.takeCnp q
  | .raw bytes => d.dropFrame bytes

/-- What was held during a wake acts, in order (R480). -/
def Dev.releaseHeldPkts (d : Dev) : Dev := d.heldPkts.foldl Dev.actHeld { d with heldPkts := [] }

end Sys2Proof.Machine
end

