-- ==== Sys2Proof/Machine/Dma.lean ====
section
/-! DEFINITION. The DMA channels and the scrubber (R492 to R498, R504). -/

namespace Sys2Proof.Machine

/-! ## Descriptors (R492) -/

/-- COUNT. -/
def ddCount (c : List Byte) : Bool := bits (leNat (slice c 1 1)) 0 1 = 1
/-- CHECK. -/
def ddCheck (c : List Byte) : Bool := bits (leNat (slice c 1 1)) 1 1 = 1
/-- RKEY. -/
def ddRkey (c : List Byte) : Nat := leNat (slice c 4 4)
/-- LENGTH. -/
def ddLength (c : List Byte) : Nat := leNat (slice c 8 8)
/-- SRC. -/
def ddSrc (c : List Byte) : Nat := leNat (slice c 16 8)
/-- DST. -/
def ddDst (c : List Byte) : Nat := leNat (slice c 24 8)
/-- NEXT. -/
def ddNext (c : List Byte) : Nat := leNat (slice c 32 8)
/-- EXPECT. -/
def ddExpect (c : List Byte) : Nat := leNat (slice c 40 8)

/-- What a descriptor's fields break (R497, R500): the code and the access. (DEDUCED, log entry 109). -/
def Dev.descError (d : Dev) (c : List Byte) : Option (Nat × Nat) :=
  let op := ddOp c
  let n := ddLength c
  let reserved := bits (leNat (slice c 1 1)) 2 6 != 0 || bits (leNat (slice c 2 1)) 6 2 != 0 || leNat (slice c 3 1) != 0 ||
    leNat (slice c 48 16) != 0 || (op = 1 && ddQp c != 0)
  if reserved || op = 0 || 3 < op || n = 0 || 2 ^ 32 < n || ddNext c % 64 != 0 then some (1, accRead)
  else if op != 3 && !(d.generalRange (ddSrc c) n || d.ledgerRange (ddSrc c) n) then some (2, accRead)
  else if op != 2 && !d.generalRange (ddDst c) n then some (2, accWrite)
  else if op != 1 && (d.qp (ddQp c)).state != 1 then some (3, ddHostAccess c)
  else none

/-! ## Starting (R494 to R496) -/

/-- Start the descriptor a channel holds: TO_HOST reads its bytes and sends them by S-die 0 to the M-tile, FROM_HOST asks for
them, and neither starts on a queue pair that is not in RTS (R497).
(DEDUCED, log entry 109). -/
def Dev.dmaGo (d : Dev) (n : Nat) : Dev :=
  let c := { d.chan n with state := .running, started := true, got := [], lowAt := none }
  let len := ddLength c.desc
  let d1 := if d.reg (E.PACE_HIGH n) = 0 then d.setChan n c
    else (d.setChan n c).setReg (E.PRODUCED n) ((d.reg (E.PRODUCED n) + len) % 2 ^ 64)
  if ddOp c.desc != 1 && (d.qp (ddQp c.desc)).state != 1 then d.dmaFail n 3 (ddHostAccess c.desc)
  else if ddOp c.desc = 2 then
    match d1.readMem (ddSrc c.desc) len (iniDma n) with
    | (none, d2) => d2.dmaFail n 5 accRead
    | (some bs, d2) => ((d2.cross [n / 16, 17]).setChan n { c with got := bs }).postWrite (ddQp c.desc) (.dma n) (ddRkey c.desc) (ddDst c.desc) bs
  else if ddOp c.desc = 3 then d1.postRead (ddQp c.desc) (.dma n) (ddRkey c.desc) (ddSrc c.desc) len
  else d1

/-- Take the descriptor at an address: read it, check it, and start it, or pause (R493, R496, R497). -/
def Dev.dmaTakeDesc (d : Dev) (n addr : Nat) : Dev :=
  let d0 := d.setChan n { d.chan n with state := .running, addr := addr, desc := [], started := false, got := [], lowAt := none }
  if addr % 64 != 0 then d0.dmaFail n 1 accRead
  else if !d0.generalRange addr 64 then d0.dmaFail n 2 accRead
  else
    match d0.readMem addr 64 (iniDma n) with
    | (none, d1) => d1.dmaFail n 5 accRead
    | (some desc, d1) =>
      let d2 := d1.setChan n { d1.chan n with desc := desc }
      match d2.descError desc with
      | some (code, acc) => d2.dmaFail n code acc
      | none =>
        let high := d2.reg (E.PACE_HIGH n)
        if high != 0 && high < d2.fill n + ddLength desc then
          (d2.setChan n { d2.chan n with state := .paused }).notePace n
        else d2.dmaGo n

/-- A chain begins (R495, R498). -/
def Dev.dmaBegin (d : Dev) (n : Nat) (st : DmaStart) : Dev :=
  (d.setChan n { d.chan n with remaining := d.reg (E.EOC_COUNT n), action := st.action }).dmaTakeDesc n st.addr

/-- A start finds the channel busy with a full queue, or in ERROR (R494, R498). -/
def Dev.dmaFull (d : Dev) (n : Nat) : Bool :=
  let c := d.chan n
  c.state = .error || (c.state != .idle && 4 ≤ c.queue.length)

/-- A chain start (R494): at once, or in the queue. -/
def Dev.dmaStart (d : Dev) (n : Nat) (st : DmaStart) : Dev :=
  let c := d.chan n
  if c.state = .idle then d.dmaBegin n st else d.setChan n { c with queue := c.queue ++ [st] }

/-! ## Completion (R495) -/

/-- An end of count. -/
def Dev.endOfCount (d : Dev) (n : Nat) : Dev := ((d.arrive (.source (0x10 + n))).bindEvent (.cdie (n / 16)) bDMA n 0).count (E.EOC_EVENTS n)

/-- A descriptor has completed: the count, the end of count, and what comes next (R493, R495, R498). -/
def Dev.dmaDone (d : Dev) (n : Nat) : Dev :=
  let c := d.chan n
  let r := if ddCount c.desc && 0 < c.remaining then c.remaining - 1 else c.remaining
  let zero : Bool := ddCount c.desc && 0 < c.remaining && r = 0
  let last : Bool := ddNext c.desc = 0
  let d1 := if zero || last then d.endOfCount n else d
  let d2 := d1.setChan n { d1.chan n with remaining := if zero then d1.reg (E.EOC_COUNT n) else r }
  if !last then d2.dmaTakeDesc n (ddNext c.desc)
  else
    let d3 := d2.endAction c.action true
    match (d3.chan n).queue with
    | [] => d3.setChan n {}
    | st :: rest => (d3.setChan n { queue := rest }).dmaBegin n st

/-- The bytes have moved: count them, and compare the CRC-64 (R492, R497). -/
def Dev.dmaMoved (d : Dev) (n : Nat) (bs : List Byte) : Dev :=
  let c := d.chan n
  let d1 := d.countN (E.DMA_BYTES n) bs.length
  if ddCheck c.desc && crc64 bs != ddExpect c.desc then d1.dmaFail n 4 accWrite else d1.dmaDone n

/-- Work of a channel still on its queue pair. -/
def Dev.dmaOnQp (d : Dev) (n : Nat) : Bool :=
  d.qps.any (fun (e : Nat × Qp) => (e.2.sent ++ e.2.queue).any (fun r => r.use = .dma n))

/-! ## Commands -/

/-- DMA_DESC_COMPLETE (R495): a COPY moves its bytes; a transfer on a queue pair has been acknowledged or received whole. -/
def execDmaDescComplete (ch : ChanNo) (s : State) : Host.Outcome State Fault Refusal :=
  run s fun d =>
    let n := ch.val
    let c := d.chan n
    if c.state != .running || !c.started || d.computeOff then d
    else if ddOp c.desc = 1 then
      match d.readMem (ddSrc c.desc) (ddLength c.desc) (iniDma n) with
      | (none, d1) => d1.dmaFail n 5 accRead
      | (some bs, d1) => (d1.writeFrom (iniDma n) (ddDst c.desc) bs).dmaMoved n bs
    else if d.dmaOnQp n || (ddOp c.desc = 3 && c.got.length != ddLength c.desc) then d
    else d.dmaMoved n c.got

/-- DMA_DESC_FAIL (R497): an uncorrectable error met by its read, or its queue pair, fails the descriptor under way. The
other codes come from the descriptor and its bytes, where the descriptor starts or completes. -/
def execDmaDescFail (ch : ChanNo) (code : BitVec 8) (s : State) : Host.Outcome State Fault Refusal :=
  run s fun d =>
    let c := d.chan ch.val
    if c.state != .running && c.state != .paused then d
    else if code = 5 then d.dmaFail ch.val 5 accRead
    else if code = 3 && ddOp c.desc != 1 then d.dmaFail ch.val 3 (ddHostAccess c.desc)
    else d

/-- DMA_RESUME (R496): in a tick after F has fallen to PACE_LOW. (DEDUCED, log entry 110). -/
def execDmaResume (ch : ChanNo) (s : State) : Host.Outcome State Fault Refusal :=
  run s fun d =>
    match (d.chan ch.val).lowAt with
    | none => d
    | some t => if (d.chan ch.val).state = .paused && t < d.tick && !d.computeOff then d.dmaGo ch.val else d

/-- DMA_START is refused (R494). -/
def Dev.refuseDmaStart (d : Dev) (n : Nat) : Option Status := if d.dmaFull n then some .stateConflict else none

/-- DMA_CMD is refused (R506). -/
def refuseDmaCmd (v : Nat) : Option Status := if v = 1 then none else some .invalidValue

/-- DMA_CMD RESET (R498): chain and queue are abandoned with the actions that made them. -/
def Dev.dmaReset (d : Dev) (n : Nat) : Dev :=
  let c := d.chan n
  let gone := (c.action.toList ++ c.queue.filterMap (fun q => q.action))
  let keep := fun (a : Action) => !(a.stage = .running && gone.contains (a.whistle, a.fire))
  let d1 := { d.setChan n {} with qps := d.qps.map (fun (e : Nat × Qp) => (e.1, e.2.forget n)),
                                  actions0 := d.actions0.filter keep, actions1 := d.actions1.filter keep }
  (d1.setReg (E.PRODUCED n) 0).setReg (E.CONSUMED n) 0

/-! ## The scrubber (R504) -/

/-- The last word of a page that keeps a check is read: the page is verified (R503). -/
def Dev.scrubPage (d : Dev) (a : Nat) : Dev := if a % 4096 = 4092 then (d.verifyPage (a - 4092) iniScrub).2 else d

/-- The scrubber's place after an HBM4 word, and a pass counted at the end of the last stack.
(DEDUCED, log entry 112). -/
def Dev.scrubOn (d : Dev) (a : Nat) : Dev :=
  if tierSpace a != 0 then d
  else if tierOffset a + 4 < stackBytes then { d with scrubNext := a + 4 }
  else if tierStack a < 7 then { d with scrubNext := hbmAddr (tierStack a + 1) 0 }
  else { d with scrubNext := 0 }.count E.SCRUB_PASSES

/-- A word is found uncorrectable by the scrubber, and left as read (R504). -/
def Dev.markWord (d : Dev) (a : Nat) : Dev := if d.ueWords.contains a then d else { d with ueWords := d.ueWords ++ [a] }

/-- The scrubber's walk over the SRAMs with no tier address (R504, R526, R527, R531): cell buffer, context store and control
state. SPACE 3 of the row's address stands for them, with the class of R544 in [61:56] and the word in [55:0]; the spec gives
the row no other name for them. (DESIGN CHOICE, log entry 198). -/
def Dev.scrubSram (d : Dev) (a : Nat) (outcome : EccOutcome) : Dev :=
  let cls := bits a 56 6
  let word := bits a 0 56
  let addr := cls * 2 ^ 56 + word
  let there : Bool := cls = 0 && word < 2 * slotCount || cls = 1 && word / 2 ^ 24 < 16 && word % 2 ^ 24 < 2 ^ 20 || cls = 4
  if d.switchStill || !there then d
  else
    match outcome with
    | .clean => (d.sramRead cls word iniScrub).2
    | .corrected syn => d.report (bark 0x0901 accRead iniScrub false addr syn.toNat)
    | .uncorrectable syn =>
      if cls = 4 then d.report (bark 0x0907 accRead iniScrub false addr syn.toNat)
      else (d.markWord (sramMark cls word)).report (bark 0x0903 accRead iniScrub false addr syn.toNat)

/-- SCRUB_READ (R504): a word of HBM4 or an SRAM. (DEDUCED, log entry 112). -/
def execScrubRead (addr : BitVec 64) (outcome : EccOutcome) (s : State) : Host.Outcome State Fault Refusal :=
  run s fun d =>
    let a := addr.toNat / 4 * 4
    if !d.flag E.SCRUB_ENABLE then d
    else if tierSpace a = 3 then d.scrubSram addr.toNat outcome
    else if d.computeOff || d.computeGated || !d.tierExists a 4 then d
    else
      let d1 := match outcome with
        | .clean => (d.readMem a 4 iniScrub).2
        | .corrected syn => d.memError false a iniScrub false syn.toNat
        | .uncorrectable syn => (d.markWord a).memError true a iniScrub false syn.toNat
      (d1.scrubPage a).scrubOn a

end Sys2Proof.Machine
end

