-- ==== Sys2Proof/Machine/Programs.lean ====
section
/-! DEFINITION. Combine programs: the instruction words, what a LOAD refuses, and the run of one element
(R455 to R477). -/

namespace Sys2Proof.Machine

/-! ## Instruction words (R469) -/

/-- OPC [31:26]. -/
def pwOpc (w : Nat) : Nat := bits w 26 6
/-- D [25:22]. -/
def pwD (w : Nat) : Nat := bits w 22 4
/-- A [21:18]. -/
def pwA (w : Nat) : Nat := bits w 18 4
/-- B [17:14]. -/
def pwB (w : Nat) : Nat := bits w 14 4
/-- C [13:10]. -/
def pwC (w : Nat) : Nat := bits w 10 4
/-- K [9:0]. -/
def pwK (w : Nat) : Nat := bits w 0 10

/-- The fields an instruction uses: D, A, B, C, K (R469). None for a reserved code. -/
def pwUses (o : Nat) : Option (Bool × Bool × Bool × Bool × Bool) :=
  if o = 0x00 then some (false, false, false, false, false)
  else if o = 0x01 then some (true, true, false, false, false)
  else if o = 0x02 || o = 0x03 || o = 0x05 then some (true, false, false, false, true)
  else if o = 0x04 then some (false, true, false, false, true)
  else if o = 0x0B || o = 0x0C || o = 0x1C then some (true, true, true, true, false)
  else if (0x0E ≤ o && o ≤ 0x12) || (0x15 ≤ o && o ≤ 0x18) then some (true, true, false, false, false)
  else if (0x08 ≤ o && o ≤ 0x1F) then some (true, true, true, false, false)
  else none

/-- An instruction that a LOAD refuses with BAD_INSTR (R472). -/
def pwBad (w : Nat) : Bool :=
  match pwUses (pwOpc w) with
  | none => true
  | some (d, a, b, c, k) =>
    (!d && pwD w != 0) || (!a && pwA w != 0) || (!b && pwB w != 0) || (!c && pwC w != 0) || (!k && pwK w != 0) ||
    (pwOpc w = 0x05 && (pwK w < 0x10 || 0xFF < pwK w))

/-! ## Images (R471, R472) -/

/-- PROG_ID of an image. -/
def pgId (im : List Byte) : Nat := leField im 0 4
/-- NINSTR. -/
def pgInstrs (im : List Byte) : Nat := leField im 4 1
/-- NSTATE. -/
def pgState (im : List Byte) : Nat := leField im 5 1
/-- NCONST. -/
def pgConsts (im : List Byte) : Nat := leField im 6 1

/-- The instruction words of an image. -/
def pgWords (im : List Byte) : List Nat := (List.range (pgInstrs im)).map (fun i => leField im (8 + 4 * i) 4)

/-- The code with which a LOAD refuses an image, 0 for none; of several the lowest (R472). -/
def Dev.progError (d : Dev) (slot : Nat) (im : List Byte) : Nat :=
  let ws := pgWords im
  let stores := (ws.filter (fun w => pwOpc w = 0x04)).map pwK
  if pgId im = 0 || 2 ^ 28 ≤ pgId im || pgInstrs im = 0 || 64 < pgInstrs im || 8 < pgState im || 12 < pgConsts im ||
      leField im 7 1 != 0 || im.length != 8 + 4 * pgInstrs im then 1
  else if ws.any pwBad then 2
  else if ws.any (fun w => (pwOpc w = 0x02 && pgConsts im ≤ pwK w) || ((pwOpc w = 0x03 || pwOpc w = 0x04) && pgState im ≤ pwK w)) then 3
  else if ws.getLast? != some 0 || (ws.dropLast).any (fun w => pwOpc w = 0) then 4
  else if stores.eraseDups.length != stores.length then 5
  else if d.programs.any (fun e => e.1 != slot && e.2.loaded != [] && pgId e.2.loaded = pgId im) then 6
  else 0

/-! ## Values (R460 to R464) -/

/-- The canonical NaN (R237). -/
def nan32 : Nat := 0x7FC00000

/-- Round to FP32, with whether a NaN was formed from operands of which none is one (R460, R466). -/
def progRound (ops : List Nat) (v : Val) : Nat × Bool :=
  if ops.any isNan32 then (nan32, false)
  else
    let r := rn v
    (r, isNan32 r)

/-- The function results R461 gives as bits, with the same rule. -/
def progFunc (a : Nat) (r : Nat) : Nat × Bool := if isNan32 a then (nan32, false) else (r, isNan32 r)

/-- MIN and MAX (R463). -/
def minMax (max : Bool) (a b : Nat) : Nat × Bool :=
  if isNan32 a || isNan32 b then (nan32, false)
  else if (widen eFP32 a).lt (widen eFP32 b) then (if max then b else a, false) else (if max then a else b, false)

/-- A comparison's mask (R464). −0 equals +0. -/
def cmpMask (o a b : Nat) : Nat :=
  let x := widen eFP32 a
  let y := widen eFP32 b
  let zero := x.isFin && y.isFin && x.a = 0 && y.a = 0
  let eq := zero || a = b
  let lt := !zero && x.lt y
  if x.isNan || y.isNan then 0
  else if (if o = 0x19 then lt else if o = 0x1A then lt || eq else eq) then 0xFFFFFFFF else 0

/-- An instruction that yields a value: its bits, and whether a NaN was produced. `a`, `b`, `c` are the source
registers. -/
def progValue (o a b c : Nat) : Nat × Bool :=
  if o = 0x01 then (a, false)
  else if o = 0x08 then progRound [a, b] ((fv a).add (fv b))
  else if o = 0x09 then progRound [a, b] ((fv a).sub (fv b))
  else if o = 0x0A then progRound [a, b] ((fv a).mul (fv b))
  else if o = 0x0B then progRound [a, b, c] (((fv a).mul (fv b)).add (fv c))
  else if o = 0x0C then progRound [a, b, c] ((fv c).sub ((fv a).mul (fv b)))
  else if o = 0x0D then progRound [a, b] ((fv a).div (fv b))
  else if o = 0x0E then progRound [a] (fv a).sqrt
  else if o = 0x0F then progRound [a] (fv a).rsqrt
  else if o = 0x10 then progFunc a (exp32 a)
  else if o = 0x11 then progFunc a (exp2f32 a)
  else if o = 0x12 then progFunc a (log32 a)
  else if o = 0x13 then minMax false a b
  else if o = 0x14 then minMax true a b
  else if o = 0x15 then progFunc a (a % 2 ^ 31)
  else if o = 0x16 then progFunc a (a ^^^ 2 ^ 31)
  else if o = 0x17 then
    let x := widen eFP32 a
    progFunc a (if x.isFin && x.a = 0 then a else if x.neg then 0xBF800000 else one32)
  else if o = 0x18 then progFunc a (rnb (fv a) * 2 ^ 16)
  else if o = 0x19 || o = 0x1A || o = 0x1B then (cmpMask o a b, false)
  else if o = 0x1C then (if c != 0 then a else b, false)
  else if o = 0x1D then (a &&& b, false)
  else if o = 0x1E then (a ||| b, false)
  else (a ^^^ b, false)

/-! ## The run of one element (R455 to R459, R465, R466) -/

/-- One element's lane. -/
structure Lane64 where
  v : List Nat
  stores : Tbl Nat := []
  consumed : Nat := 0
  produced : Nat := 0
  deriving DecidableEq, Repr

/-- Run one word. `rand` gives the 16 bits of a purpose. -/
def progStep (consts prev : List Nat) (rand : Nat → Nat) (x : Lane64) (w : Nat) : Lane64 :=
  let o := pwOpc w
  let a := x.v.getD (pwA w) 0
  let set := fun r => x.v.set (pwD w) r
  if o = 0x00 then x
  else if o = 0x02 then { x with v := set (consts.getD (pwK w) 0) }
  else if o = 0x03 then
    let f := prev.getD (pwK w) 0
    { x with v := set f, consumed := if isNan32 f then x.consumed + 1 else x.consumed }
  else if o = 0x04 then { x with stores := tset x.stores (pwK w) a }
  else if o = 0x05 then { x with v := set (convRat eFP32 0 0 false false (rand (pwK w)) (2 ^ 16)).bits }
  else
    let (r, p) := progValue o a (x.v.getD (pwB w) 0) (x.v.getD (pwC w) 0)
    { x with v := set r, produced := if p then x.produced + 1 else x.produced }

/-- What an element's step gives: the value passed on, its new fields, and the NaNs consumed and produced. -/
structure ElemOut where
  g : Nat
  fields : List Nat := []
  consumed : Nat := 0
  produced : Nat := 0
  deriving DecidableEq, Repr

/-- Run a program on one element (R456, R459). -/
def progRun (im : List Byte) (consts prev : List Nat) (rand : Nat → Nat) (g : Nat) : ElemOut :=
  let x0 : Lane64 := { v := g :: List.replicate 15 0, consumed := if isNan32 g then 1 else 0 }
  let x := (pgWords im).foldl (progStep consts prev rand) x0
  { g := x.v.headD 0, fields := (List.range (pgState im)).map (fun k => (tget x.stores k).getD (prev.getD k 0)),
    consumed := x.consumed, produced := x.produced }

/-! ## PROG_CMD (R472, R473) -/

/-- A program slot. -/
def Dev.prog (d : Dev) (i : Nat) : ProgSlot := tgetD d.programs i {}

/-- PROG_USERS: loaded chains that name the program of a slot (R477). -/
def Dev.progUsers (d : Dev) (i : Nat) : Nat :=
  let im := (d.prog i).loaded
  if im = [] then 0
  else
    (d.chains.filter (fun e => e.2.desc != [] && (List.range (chainN e.2.desc)).any (fun k =>
      stepOp e.2.desc k = oPROGRAM && leField (chainStep e.2.desc k) 8 4 = pgId im))).length

/-- LOAD of a program slot: refused with INVALID_VALUE, or the image is loaded (R472). A slot in use answers STATE_CONFLICT whatever
its image is, and keeps its program (R473). (DESIGN CHOICE, log entry 186). -/
def Dev.progLoad (d : Dev) (i : Nat) : Option Status × Dev :=
  let x := d.prog i
  if d.progUsers i != 0 then (some .stateConflict, d)
  else
    let e := d.progError i x.image
    let y : ProgSlot := { x with error := e, loaded := if e = 0 then x.image else [] }
    (if e = 0 then none else some .invalidValue, { d with programs := tset d.programs i y })

/-- UNLOAD of a program slot (R473). -/
def Dev.progUnload (d : Dev) (i : Nat) : Option Status × Dev :=
  if d.progUsers i != 0 then (some .stateConflict, d)
  else (none, { d with programs := tset d.programs i { d.prog i with loaded := [] } })

end Sys2Proof.Machine
end

