-- ==== Sys2Proof/Machine/Tiles.lean ====
section
/-! DEFINITION. The accumulators of product tiles and the checks that a tile carries (R381 to R385, R397 to R399). -/

namespace Sys2Proof.Machine

/-! ## Accumulators (R381 to R385) -/

/-- Whether a product of two exact values forms a NaN from none (R382). -/
def mulMakesNan (a b : Exact) : Bool :=
  !a.isNan && !b.isNan && (a.isInf || b.isInf) && ((a.isFin && a.a = 0) || (b.isFin && b.a = 0))

/-- A stored exact state (R385): VALUE counts units of 2^−64. -/
def accExactBytes (x : Exact) : List Byte :=
  [BitVec.ofNat 8 (EClass.code x.cls), 0, 0, 0] ++ leBytes 20 (ofSigned 160 (x.a / 2 ^ 85))

/-- A stored BF16 state (R385): a significand of more than 40 bits (an unrounded product, or a carry out of a rounding) ends in
zeros, so its leading 40 bits hold it. -/
def accBfBytes (x : BfAcc) : List Byte :=
  let n := x.m.natAbs
  let w := if n = 0 then 0 else Nat.log2 n + 1
  let neg := x.cls = .negzero || x.cls = .neginf || x.m < 0
  let ex : Int := if n = 0 then 0 else x.e + w - 1
  [BitVec.ofNat 8 (EClass.code x.cls), if neg then 1 else 0] ++ leBytes 2 (ofSigned 16 ex) ++
    leBytes 5 (if n = 0 then 0 else n * 2 ^ 40 / 2 ^ w) ++ List.replicate 7 0

/-- An output element's accumulator. -/
inductive AccVal where
  | exact (x : Exact)
  | bf (x : BfAcc)
  deriving DecidableEq, Repr

/-- The class of an accumulator. -/
def AccVal.isNan (a : AccVal) : Bool :=
  match a with
  | .exact x => x.isNan
  | .bf x => x.cls = .nan

/-- The value an accumulator converts (R383, R384). -/
def AccVal.val (a : AccVal) : Val :=
  match a with
  | .exact x => x.val
  | .bf x => x.val

/-- The stored form of an accumulator. -/
def AccVal.bytes (a : AccVal) : List Byte :=
  match a with
  | .exact x => accExactBytes x
  | .bf x => accBfBytes x

/-- Bits of BF16 values. -/
def bfBits (x : Exact) : Nat := (convert eBF16 0 0 false x).bits

/-- An element of a product from a row of A, a column of B and a start state: the accumulator and the NaNs it produced
(R382, R384, R385). -/
def dotElem (bf : Bool) (start : Option AccVal) (a b : List Exact) : AccVal × Nat :=
  let ps := a.zip b
  let clean := ps.all (fun z => !z.1.isNan && !z.2.isNan) && !((start.map AccVal.isNan).getD false)
  let made := (ps.filter (fun z => mulMakesNan z.1 z.2)).length
  let r : AccVal :=
    if bf then
      let s := match start with
        | some (.bf x) => some x
        | _ => none
      .bf ((bfDot s (ps.map (fun z => bfProduct (bfBits z.1) (bfBits z.2)))).getD ⟨.negzero, 0, 0⟩)
    else
      let s := match start with
        | some (.exact x) => x
        | _ => Exact.empty
      .exact (s.add (exactDot ps))
  (r, if made != 0 then made else if clean && r.isNan then 1 else 0)

/-- Convert a value to an element of types 0x01 to 0x07 (R258, R260, R383). -/
def convVal (t mode r : Nat) (strict : Bool) (v : Val) : Conv :=
  if t = eINT8 || t = eINT32 then
    match v.cls with
    | .nan => { bits := 0 }
    | .posinf => { bits := (if t = eINT8 then 2 ^ 7 else 2 ^ 31) - 1, sat := true }
    | .neginf => { bits := if t = eINT8 then 2 ^ 7 else 2 ^ 31, sat := true }
    | _ => convInt t mode r (v.n < 0) v.n.natAbs v.d
  else v.round t mode r strict

/-- A value on the grid of exact values, for a block output: a BF16 state finer than 2^−149 keeps its sign and a sticky
unit in its lowest place. -/
def Val.exact (v : Val) : Exact :=
  match v.cls with
  | .finite =>
    let p := v.n.natAbs * unit149
    let k := p / v.d
    signedExact (v.n < 0) (if p % v.d = 0 then k else max 1 k)
  | c => ⟨c, 0⟩

/-! ## The checks of a tile (R397 to R399) -/

/-- One comparison of a tile: the low 64 bits of its reference and of the value computed, and whether it passes (R404). -/
structure TileCheck where
  expected : Nat
  observed : Nat
  passes : Bool
  deriving DecidableEq, Repr

/-- A comparison whose computed value is inverted (R405). -/
def TileCheck.inverted (c : TileCheck) : TileCheck := ⟨c.expected, c.expected ^^^ (2 ^ 64 - 1), false⟩

/-- The sums of equally long lists, place by place. -/
def placeSums (k : Nat) (ls : List (List Int)) : List Int := ls.foldl (List.zipWith (· + ·)) (List.replicate k 0)

/-- A checksum of a tile of an exact pair: the VALUE fields of `as`, summed place by place and multiplied by `b`, against those
of the states `s` that they give, in units of 2^−64 (R382, R397). `start` are the states that they began with. -/
def exactCheck (as : List (List Exact)) (b start s : List Exact) : TileCheck :=
  let units := fun (l : List Exact) => (l.map (fun x => x.a / 2 ^ 85)).sum
  let prods := ((placeSums b.length (as.map (fun r => r.map (·.a)))).zip b).map (fun z => z.1 * z.2.a)
  let ref := prods.sum / 2 ^ 234 + units start
  ⟨ofSigned 64 ref, ofSigned 64 (units s), decide (ref = units s)⟩

/-- A BF16 value as an unrounded state. -/
def bfOf (x : Exact) : BfAcc := if x.isFin then ⟨x.cls, x.a, -149⟩ else ⟨x.cls, 0, 0⟩

/-- A state of an exact pair. -/
def AccVal.toExact (a : AccVal) : Exact :=
  match a with
  | .exact x => x
  | .bf _ => Exact.empty

/-- A BF16 state. -/
def AccVal.toBf (a : AccVal) : BfAcc :=
  match a with
  | .exact x => bfOf x
  | .bf x => x

/-- The binary places that a state's value needs. -/
def AccVal.places (a : AccVal) : Nat :=
  match a with
  | .exact _ => 149
  | .bf x => (-x.e).toNat

/-- A state's VALUE as a whole number of units of 2^−k. -/
def AccVal.scaled (a : AccVal) (k : Nat) : Int :=
  match a with
  | .exact x => x.a * 2 ^ (k - 149)
  | .bf x => x.m * 2 ^ (x.e + k).toNat

/-- The product of two states, unrounded. -/
def BfAcc.mul (x y : BfAcc) : BfAcc :=
  match (x.val.mul y.val).cls with
  | .finite => ⟨.finite, x.m * y.m, x.e + y.e⟩
  | c => ⟨c, 0, 0⟩

/-- A sum in ⊕ arithmetic, in order from the first term (R384). -/
def bfSum (l : List BfAcc) : BfAcc := l.foldl BfAcc.add ⟨.negzero, 0, 0⟩

/-- Round up to a 40-bit significand. -/
def roundUp40 (n : Nat) : Nat :=
  let w := if n = 0 then 0 else Nat.log2 n + 1
  (n + (2 ^ (w - 40) - 1)) / 2 ^ (w - 40) * 2 ^ (w - 40)

/-- The absolute sum beside a BF16 checksum, rounded upward, in units of 2^−298 (R398). -/
def bfAbs (as : List (List Exact)) (b : List Exact) (start : List BfAcc) : Nat :=
  let prods := (as.map (fun r => ((r.zip b).map (fun z => z.1.a.natAbs * z.2.a.natAbs)).sum)).sum
  let starts := start.map (fun x => if -298 ≤ x.e then x.m.natAbs * 2 ^ (x.e + 298).toNat else x.m.natAbs / 2 ^ (-298 - x.e).toNat + 1)
  roundUp40 (prods + starts.sum)

/-- A checksum of a BF16 tile: the same two sums in ⊕, within T = (K + 128) × 2^−39 × Σ |a| × |b| (R398). Where one of them is no
finite value nothing is compared. (DESIGN CHOICE, log entry 196). -/
def bfCheck (k : Nat) (as : List (List Exact)) (b : List Exact) (start s : List BfAcc) : TileCheck :=
  let col := as.foldl (fun (c : List BfAcc) r => List.zipWith BfAcc.add c (r.map bfOf)) (List.replicate b.length ⟨.negzero, 0, 0⟩)
  let ref := bfSum (start ++ (col.zip b).map (fun z => z.1.mul (bfOf z.2)))
  let obs := bfSum s
  let e := min (-298) (min ref.e obs.e)
  let gap := (ref.m * 2 ^ (ref.e - e).toNat - obs.m * 2 ^ (obs.e - e).toNat).natAbs
  let sure := fun (x : BfAcc) => x.cls = .finite || x.cls = .negzero
  let low := fun (x : BfAcc) => leNat ((accBfBytes x).take 8)
  ⟨low ref, low obs, !sure ref || !sure obs || decide (gap * 2 ^ 39 ≤ (k + 128) * bfAbs as b start * 2 ^ (-298 - e).toNat)⟩

/-- A checksum of a tile of either kind. -/
def tileSum (bf : Bool) (k : Nat) (as : List (List Exact)) (b : List Exact) (start s : List AccVal) : TileCheck :=
  if bf then bfCheck k as b (start.map AccVal.toBf) (s.map AccVal.toBf) else exactCheck as b (start.map AccVal.toExact) (s.map AccVal.toExact)

/-- The conversion check of a tile: residue(fin(Y)) + residue(S − fin(Y)) against residue(S) by position in the tile, 64 to a row
(R265, R329, R399). `ss` and `ys` are rows of one unit. -/
def conversionCheck (ss ys : List (List Int)) : TileCheck :=
  let flat := fun (l : List (List Int)) => l.flatMap (fun r => r ++ List.replicate (64 - r.length) 0)
  let s := flat ss
  let y := flat ys
  let want := residueList s
  let got := (residueList y + residueList (List.zipWith (· - ·) s y)) % resP
  ⟨want, got, decide (want = got)⟩

/-- The values of states as integers of one unit, fine enough for all. -/
def scaledStates (ss : List (List AccVal)) : List (List Int) × Nat :=
  let k := (ss.flatten.map AccVal.places).foldl max 149
  (ss.map (fun r => r.map (fun a => a.scaled k)), k)

/-- What a tile's comparisons are: its column sums, its row sums, and its conversion check where it is not stored as ACC. -/
structure TileChecks where
  cols : List TileCheck
  rows : List TileCheck
  conv : List TileCheck
  deriving DecidableEq, Repr

/-- The comparisons of a tile with the rows `a` of A and the columns `b` of B. `ys` are the values of the converted elements in
units of 2^−149, none for a tile stored as ACC. -/
def tileChecks (bf : Bool) (k : Nat) (a b : List (List Exact)) (start s : List (List AccVal)) (ys : Option (List (List Int))) : TileChecks :=
  let colOf := fun (m : List (List AccVal)) (j : Nat) => m.filterMap (fun r => r[j]?)
  { cols := b.zipIdx.map (fun z => tileSum bf k a z.1 (colOf start z.2) (colOf s z.2)),
    rows := a.zipIdx.map (fun z => tileSum bf k b z.1 (start.getD z.2 []) (s.getD z.2 [])),
    conv := match ys with
      | none => []
      | some y =>
        let q := scaledStates s
        [conversionCheck q.1 (y.map (fun r => r.map (· * 2 ^ (q.2 - 149))))] }

/-- The comparisons of one kind of R403. -/
def TileChecks.kind (c : TileChecks) (k : Nat) : List TileCheck := if k = 1 then c.cols else if k = 2 then c.rows else c.conv

/-- The first failed comparison of a tile, with its kind: the lower kind counts (R403). -/
def TileChecks.fail (c : TileChecks) : Option (Nat × TileCheck) :=
  (([1, 2, 3] : List Nat).flatMap (fun k => (c.kind k).map (fun x => (k, x)))).find? (fun x => !x.2.passes)

end Sys2Proof.Machine
end

