-- ==== Sys2Proof/Machine/Tier.lean ====
section
/-! DEFINITION. What operator chains stand on: the state layout, slot access, the stash, compute check failures and
the jobs that chunks become (R401 to R405, R418, R427, R428, R435, R445, R446, R450, R452). -/

namespace Sys2Proof.Machine

/-! ## The state layout (R427, R458) -/

/-- FP32 fields that a step adds to an entry. -/
def Dev.stepFields (d : Dev) (desc : List Byte) (i : Nat) : Nat :=
  let o := stepOp desc i
  if o = oMOMENTUM then 2 else if o = oADAMW then 3 else if o = oQUANT then 1
  else if o = oPROGRAM then d.progNState (leField (chainStep desc i) 8 4) else 0

/-- The fields of an entry before a step's. -/
def Dev.fieldAt (d : Dev) (desc : List Byte) (i : Nat) : Nat := ((List.range i).map (d.stepFields desc)).sum

/-- The fields of an entry. -/
def Dev.entryFields (d : Dev) (desc : List Byte) : Nat := d.fieldAt desc (chainN desc)

/-- Homed elements that the layout has room for. -/
def homedElems (desc : List Byte) : Nat := chHomed desc * eChunk (chGrad desc)

/-- Bytes of a KFAC step in each block: L and R in FP32, Lr and Rr in BF16. -/
def kfacBytes : Nat := 49152

/-- KFAC steps before a step. -/
def kfacBefore (desc : List Byte) (i : Nat) : Nat := ((List.range i).filter (fun k => stepOp desc k = oKFAC)).length

/-- Bytes of the per-element part of a slot. -/
def Dev.entriesBytes (d : Dev) (desc : List Byte) : Nat := homedElems desc * 4 * d.entryFields desc

/-- Bytes of a slot. -/
def Dev.slotBytes (d : Dev) (desc : List Byte) : Nat :=
  d.entriesBytes desc + (homedElems desc + 4095) / 4096 * kfacBytes * kfacBefore desc (chainN desc) + 64

/-- Where slot k starts. -/
def Dev.slotAddr (d : Dev) (desc : List Byte) (k : Nat) : Nat := chState desc + 128 + k * d.slotBytes desc

/-- Where a local chunk's entries start in slot k. -/
def Dev.entryAddr (d : Dev) (desc : List Byte) (k l : Nat) : Nat :=
  d.slotAddr desc k + l * eChunk (chGrad desc) * 4 * d.entryFields desc

/-- Where the matrices of a KFAC step start for a local block in slot k. -/
def Dev.kfacAddr (d : Dev) (desc : List Byte) (k i block : Nat) : Nat :=
  d.slotAddr desc k + d.entriesBytes desc + (block * kfacBefore desc (chainN desc) + kfacBefore desc i) * kfacBytes

/-- Where b1 and b2 stand in slot k. -/
def Dev.scalarAddr (d : Dev) (desc : List Byte) (k : Nat) : Nat := d.slotAddr desc k + d.slotBytes desc - 64

/-- A step that writes state (R446). -/
def Dev.writesState (d : Dev) (desc : List Byte) (i : Nat) : Bool := 0 < d.stepFields desc i || stepOp desc i = oKFAC

/-! ## Reading and writing state (R431, R445, R503, R504) -/

/-- Read state or stash bytes: none where a word is uncorrectable or a page check fails. -/
def Dev.readState (d : Dev) (desc : List Byte) (a n : Nat) : Option (List Byte) × Dev :=
  let ini := d.freeCore (chainDie desc)
  let (ok, d1) := d.verifyPages a n ini
  let (bs, d2) := d1.readMem a n ini
  (if ok then bs else none, d2)

/-- 32-bit words of bytes. -/
def words32 (bs : List Byte) : List Nat := (chunksOf 4 bs (bs.length + 1)).map leNat

/-- 16-bit words of bytes. -/
def words16 (bs : List Byte) : List Nat := (chunksOf 2 bs (bs.length + 1)).map leNat

/-- Bytes of 32-bit words. -/
def bytes32 (ws : List Nat) : List Byte := ws.flatMap (leBytes 4)

/-- Bytes of 16-bit words. -/
def bytes16 (ws : List Nat) : List Byte := ws.flatMap (leBytes 2)

/-- The entries of the first `count` elements of a local chunk in slot k: the fields of each. -/
def Dev.readEntries (d : Dev) (desc : List Byte) (k l count : Nat) : Option (List (List Nat)) × Dev :=
  let f := d.entryFields desc
  match d.readState desc (d.entryAddr desc k l) (count * 4 * f) with
  | (some bs, d1) => (some (chunksOf f (words32 bs) (count + 1)), d1)
  | (none, d1) => (none, d1)

/-- Write a step's fields of a chunk's elements into slot k. -/
def Dev.writeFields (d : Dev) (desc : List Byte) (k l at0 : Nat) (vs : List (List Nat)) : Dev :=
  let f := d.entryFields desc
  let a := d.entryAddr desc k l
  let old := chunksOf f (words32 (memRead d.mem a (vs.length * 4 * f))) (vs.length + 1)
  let new := (old.zip vs).map (fun z => z.1.take at0 ++ z.2 ++ z.1.drop (at0 + z.2.length))
  d.writeMem a (bytes32 new.flatten)

/-- The first write of a step sets TAG and WRITING (R445). -/
def Dev.beginSlot (d : Dev) (desc : List Byte) (s : Nat) : Dev :=
  if d.slotHead desc (s % 2) = (s, stWRITING) then d else d.setSlotHead desc (s % 2) s stWRITING

/-- The writes of a chunk's steps reach its slot, and the slot is tagged by the first (R418, R445). -/
def Dev.flushWrites (d : Dev) (desc : List Byte) (z : Stashed) : Dev :=
  if z.writes = [] then d
  else z.writes.foldl (fun a w =>
    match w with
    | .fields at0 vs => a.writeFields desc (z.step % 2) z.loc at0 vs
    | .bytes addr bs => a.writeMem addr bs) (d.beginSlot desc z.step)

/-- The slot of step s − 1 is COMMITTED (R446). -/
def Dev.prevCommitted (d : Dev) (desc : List Byte) (s : Nat) : Bool :=
  s != 0 && d.slotHead desc ((s + 1) % 2) = (s - 1, stCOMMITTED)

/-! ## Compute check failures (R402 to R405) -/

/-- Take one injection of COMPUTE_INJECT for a comparison of one of some kinds on a C-die (R405). -/
def Dev.takeCompute (d : Dev) (die : Nat) (kinds : List Nat) : Option Nat × Dev :=
  match d.cinject with
  | none => (none, d)
  | some j =>
    if j.cdie = die && kinds.contains j.kind then
      let n := d.reg E.COMPUTE_INJECT_LEFT - 1
      let d1 := d.setReg E.COMPUTE_INJECT_LEFT n
      (some j.kind, if n = 0 then { d1 with cinject := none } else d1)
    else (none, d)

/-- The record of a compute check failure (R404), its count and its bark (R402, R531). `ini` names the agent. -/
def Dev.computeFail (d : Dev) (addr kind die engine r c oper expected observed ini : Nat) (inj : Bool) : Dev :=
  let due := d.tick + (if Config.freeSecondTick d.draws then 2 else 1)
  let rec48 := beBytes 8 due ++ beBytes 8 addr ++ beBytes 1 kind ++ beBytes 1 die ++ beBytes 1 engine ++ [0] ++ beBytes 4 r ++
    beBytes 4 c ++ beBytes 4 oper ++ beBytes 8 expected ++ beBytes 8 observed
  ((d.setBlob E.COMPUTE_CHECK_LAST rec48).countErr E.COMPUTE_CHECK_FAILS).report
    (bark (0x0700 + kind) (if kind ≤ 4 then accCheck else accCompute) ini inj addr (r * 2 ^ 32 + c))

/-- What a failing job or tile had written is taken back (R402, R418). (DEDUCED, log entry 92). -/
def Dev.unwrite (d d0 : Dev) : Dev := { d with mem := d0.mem, pageChecks := d0.pageChecks, ueWords := d0.ueWords }

/-! ## Jobs: chunks on their way through a chain -/

/-- The context a job belongs to, while it is open. -/
def Dev.jobCtx (d : Dev) (z : Stashed) : Option Nat :=
  let x := d.ctx z.ctx
  if !z.recorded && z.ofCtx z.ctx x && x.state = .collect then some z.ctx else none

/-- Add to the statistics of a job's chunk and its open context (R452). -/
def Dev.jobHealth (d : Dev) (z : Stashed) (f : Health → Health) : Dev × Stashed :=
  (match d.jobCtx z with
   | some n => d.updCtx n (fun x => { x with health := f x.health })
   | none => d, { z with base := f z.base })

/-- A NaN of an element type at an element of a job (R270, R273, R418, R452, R466). (DEDUCED, log entry 91). -/
def Dev.jobNan (d : Dev) (desc : List Byte) (z : Stashed) (j kind ty : Nat) : Dev × Stashed :=
  let (d1, z1) := d.jobHealth z (fun h => { h with nans := h.nans + 1 })
  let t : NanTrap := { tick := 0, pack := if z.prod.isSome then 0xFFFF else z.pack, cseq := if z.prod.isSome then 0 else z.cseq,
                       chunk := z.chunk, element := z.chunk * eChunk (chGrad desc) + j, kind := kind, source := 0x10 + chainDie desc,
                       ty := ty, oper := chainIdOf desc }
  (d1.nanEvent t z.latch.halt (d1.freeCore (chainDie desc)), z1)

/-- Count NaNs of one kind at elements: (element, how many). (DEDUCED, log entry 91). -/
def Dev.jobNans (d : Dev) (desc : List Byte) (z : Stashed) (kind ty : Nat) (js : List (Nat × Nat)) : Dev × Stashed :=
  (js.flatMap (fun q => List.replicate q.2 q.1)).foldl (fun (a : Dev × Stashed) j => a.1.jobNan desc a.2 j kind ty) (d, z)

/-- NaNs at elements of a block, each counted at the job of its chunk (R273). -/
def Dev.blockNans (d : Dev) (desc : List Byte) (zs : List Stashed) (kind ty : Nat) (js : List (Nat × Nat)) : Dev × List Stashed :=
  let e := eChunk (chGrad desc)
  zs.zipIdx.foldl (fun acc q =>
    let (a, z) := acc.1.jobNans desc q.1 kind ty ((js.filter (fun j => j.1 / e = q.2)).map (fun j => (j.1 % e, j.2)))
    (a, acc.2 ++ [z])) (d, [])

/-- What a step does for a chunk of a context, as a job before its chain's first step. -/
def Ctx.job (x : Ctx) (n c : Nat) : Stashed :=
  { ctx := n, pack := x.pack, cseq := x.cseq, step := x.rc.step, tensor := x.rc.tensor, chunk := c, loc := 0, next := 0,
    rounding := x.rc.rounding, dup := x.rc.dup, latch := x.latch, base := (tgetD x.tier c { s := [] }).base }

/-- NaNs at elements of chunks in a row that the tier holds; each counts in its chunk's CHUNK record too (R452, R501). -/
def Dev.tierNans (d : Dev) (n : Nat) (desc : List Byte) (cs : List Nat) (kind ty : Nat) (js : List (Nat × Nat)) : Dev :=
  let (d1, ws) := d.blockNans desc (cs.map ((d.ctx n).job n)) kind ty js
  let note := fun (t : Tbl TierChunk) (w : Stashed) =>
    match tget t w.chunk with
    | some q => tset t w.chunk { q with base := w.base }
    | none => t
  d1.updCtx n (fun y => { y with tier := ws.foldl note y.tier })

/-- A job fails with a status: its context, else the invocation that runs it, else the collective that resumed it,
whose step can then not be prepared (R304, R402, R418, R438). (DEDUCED, log entry 92). -/
def Dev.failJob (d : Dev) (z : Stashed) (status : Nat) (via : Option Nat) : Dev :=
  match d.jobCtx z, z.prod with
  | some n, _ => d.failCtx n status 0xFFFF
  | none, some id =>
    { d with products := d.products.map (fun e => if e.1 = id then (e.1, { e.2 with failed := some (e.2.failed.getD 4) }) else e) }
  | none, none =>
    let d1 := if d.stepFails.contains z.step then d else { d with stepFails := d.stepFails ++ [z.step] }
    match via with
    | some n => d1.failCtx n status 0xFFFF
    | none => d1

/-- What a chain's step compares: the kinds of R403 that its products qualify for, the tiles of the product, and the comparisons of
each kind in each; kind 4 is the second run of a value. -/
structure StepChecks where
  kinds : List Nat := []
  tiles : Nat := 1
  at0 : Nat → Nat → List TileCheck

/-- A step without a product: under DUP a value is run twice (R401). -/
def valueCheck (v : Nat) : StepChecks := { at0 := fun _ _ => [⟨v % 2 ^ 64, v % 2 ^ 64, true⟩] }

/-- The comparisons of a product of a chain: `a` by rows, `b` by columns, converted to `out` by RNE where it is (R397 to R399). -/
def productCheck (bf : Bool) (a b : List (List Exact)) (out : Option Nat) (v : Nat) : StepChecks :=
  { kinds := if out.isSome then [1, 2, 3] else [1, 2], tiles := (b.length + 63) / 64,
    at0 := fun c k =>
      if k = 4 then (valueCheck v).at0 c k
      else
        let cols := (b.drop (64 * c)).take 64
        let vals := a.map (fun r => cols.map (fun q => (dotElem bf none r q).1))
        let ys := out.map (fun t => vals.map (fun r => r.map (fun x => (widen t (convVal t 0 0 false x.val).bits).fin)))
        (tileChecks bf (a.headD []).length a cols [] vals ys).kind k }

/-- Engine cycles of a chain's products are counted, second runs too (R401, R415). -/
def Dev.engineCycles (d : Dev) (dup : Bool) (n : Nat) : Dev := d.countN E.ENGINE_CYCLES (if dup then 2 * n else n)

/-- The comparisons of a chain's step: an armed injection makes one fail (R401, R405). (DESIGN CHOICE, log entry 134). -/
def Dev.jobCheck (d : Dev) (slot : Nat) (z : Stashed) (q : StepChecks) : Bool × Dev :=
  let c := d.chain slot
  let die := chainDie c.desc
  match d.takeCompute die (q.kinds ++ (if z.dup then [4] else [])) with
  | (none, d1) => (true, d1)
  | (some k, d1) =>
    let engine := if q.kinds = [] then 0 else Config.freeChoice d1.draws % (32 * d1.clusters)
    let ini := if q.kinds = [] then d1.freeCore die else iniEngine die engine
    let t := Config.freeChoice (d1.draws + 1) % max 1 q.tiles
    let l := q.at0 t k
    let x := l.getD (Config.freeChoice (d1.draws + 2) % max 1 l.length) ⟨0, 0, true⟩
    let o := if k = 4 then x.observed ^^^ 2 ^ (Config.freeChoice (d1.draws + 3) % 32) else x.inverted.observed
    (false, (d1.computeFail c.addr k die engine 0 t (chainIdOf c.desc) x.expected o ini true).drewN 4)

/-! ## The stash (R427, R435, R446) -/

/-- A stash place is taken. -/
def ChainSlot.placeTaken (c : ChainSlot) (l : Nat) : Bool := c.stash.any (fun z => z.wait != .block && z.loc = l)

/-- Put a job into its chain's stash; none where its place is taken (R435). (DEDUCED, log entry 89). -/
def Dev.putStash (d : Dev) (slot : Nat) (z : Stashed) (w : StashWait) : Option Dev :=
  let c := d.chain slot
  if c.placeTaken z.loc then none
  else
    let d1 := d.setChain slot { c with stash := c.stash ++ [{ z with wait := w, g := [] }] }
    some ((d1.writeFrom (iniCore (chainDie c.desc) 0) (stashVals c.desc z.loc) (bytes32 z.g)).stashTag c.desc z.loc z.step 1)

/-- Take a job out of its chain's stash, with its values as they stand there; none where they cannot be read.
(DEDUCED, log entry 89). -/
def Dev.takeStash (d : Dev) (slot : Nat) (z : Stashed) (count : Nat) : Option Stashed × Dev :=
  let c := d.chain slot
  let d1 := (d.setChain slot { c with stash := c.stash.filter (fun y => y != z) }).stashTag c.desc z.loc z.step 0
  match d1.readState c.desc (stashVals c.desc z.loc) (4 * count) with
  | (some bs, d2) => (some { z with g := words32 bs }, d2)
  | (none, d2) => (none, d2)

/-- The elements of a chain's chunk. -/
def chainCount (desc : List Byte) (c : Nat) : Nat :=
  let e := eChunk (chGrad desc)
  min e (chElements desc - c * e)

/-- The local number of a chunk that this switch homes (R427). -/
def Dev.localChunk (d : Dev) (y : Layout) (r : CollRec) (c : Nat) : Nat :=
  ((List.range c).filter (fun k => d.home y r k = y.own)).length

/-- The index in its record of a local chunk: by the record served last (R427, R476). -/
def Dev.chunkOfLocal (d : Dev) (slot l : Nat) : Option Nat :=
  match (d.chain slot).served with
  | none => none
  | some (p, r) =>
    let y := d.layout p
    ((List.range r.nchunk).filter (fun k => d.home y r k = y.own))[l]?

/-- The environment of a job's conversions (R271, R430). -/
def Stashed.env (z : Stashed) : ConvEnv := ⟨z.latch.seed, z.step, z.tensor, z.rounding, z.latch.strict, z.latch.shiftB4, z.latch.shiftT2⟩

end Sys2Proof.Machine
end

