-- ==== Sys2Proof/Machine/Steps.lean ====
section
/-! DEFINITION. The steps of a GRADIENT chain and the run of a job through them (R429 to R440, R446, R454, R468). -/

namespace Sys2Proof.Machine

/-! ## Elementwise updates (R432, R433) -/

/-- A step's result for an element: NaN operands are consumed, and a NaN formed from none is produced (R270, R418). -/
def elemOut (ops : List Nat) (g : Nat) (fields : List Nat) : ElemOut :=
  let c := (ops.filter isNan32).length
  { g := g, fields := fields, consumed := c, produced := if c = 0 && (g :: fields).any isNan32 then 1 else 0 }

/-- MOMENTUM (R432). -/
def momentumElem (lr mu wd : Nat) (nesterov : Bool) (g : Nat) (f : List Nat) : ElemOut :=
  let th := f.getD 0 0
  let buf := f.getD 1 0
  let b1 := rn (((fv mu).mul (fv buf)).add (fv g))
  let dd := if nesterov then rn ((fv g).add ((fv mu).mul (fv b1))) else b1
  let t1 := rn (((fv th).sub ((fv lr).mul (fv dd))).sub (((fv lr).mul (fv wd)).mul (fv th)))
  elemOut [g, th, buf] t1 [t1, b1]

/-- The parameters of an ADAMW step (R420). -/
structure AdamParams where
  lr : Nat
  beta1 : Nat
  beta2 : Nat
  eps : Nat
  wd : Nat
  bias : Bool
  l2 : Bool
  deriving DecidableEq, Repr

/-- The parameters in an ADAMW step record. -/
def adamParams (s : List Byte) : AdamParams :=
  { lr := leField s 8 4, beta1 := leField s 12 4, beta2 := leField s 16 4, eps := leField s 20 4, wd := leField s 24 4,
    bias := bits (leField s 1 1) 0 1 = 1, l2 := bits (leField s 1 1) 1 1 = 1 }

/-- 1 as an expression. -/
def vOne : Val := Val.ofInt 1

/-- ADAMW (R433). `b1` and `b2` are those of the step. -/
def adamElem (q : AdamParams) (b1 b2 : Nat) (g0 : Nat) (f : List Nat) : ElemOut :=
  let th := f.getD 0 0
  let m := f.getD 1 0
  let v := f.getD 2 0
  let g := if q.l2 then rn ((fv g0).add ((fv q.wd).mul (fv th))) else g0
  let m1 := rn (((fv q.beta1).mul (fv m)).add ((vOne.sub (fv q.beta1)).mul (fv g)))
  let v1 := rn (((fv q.beta2).mul (fv v)).add (((vOne.sub (fv q.beta2)).mul (fv g)).mul (fv g)))
  let c1 := if q.bias then rn (vOne.sub (fv b1)) else one32
  let c2 := if q.bias then rn (vOne.sub (fv b2)) else one32
  let mh := rn ((fv m1).div (fv c1))
  let vh := rn ((fv v1).div (fv c2))
  let s := rn ((fv mh).div (fv (rn ((fv (rn (fv vh).sqrt)).add (fv q.eps)))))
  let t0 := (fv th).sub ((fv q.lr).mul (fv s))
  let t1 := if q.l2 then rn t0 else rn (t0.sub (((fv q.lr).mul (fv q.wd)).mul (fv th)))
  elemOut [g0, th, m, v] t1 [t1, m1, v1]

/-! ## Kronecker factors (R434) -/

/-- A 64 × 64 matrix by rows. -/
abbrev Mat := List (List Nat)

/-- The entry of a matrix. -/
def matGet (a : Mat) (i j : Nat) : Nat := (a.getD i []).getD j 0

/-- Cut 4,096 values into rows. -/
def matOf (l : List Nat) : Mat := chunksOf 64 l 65

/-- Transpose. -/
def matT (a : Mat) : Mat := (List.range 64).map (fun j => a.map (fun r => r.getD j 0))

/-- A BF16 product under R384, converted to a type by RNE. -/
def matMul (out : Nat) (a b : Mat) : Mat :=
  let bt := matT b
  a.map (fun r => bt.map (fun c =>
    match bfDot none ((r.zip c).map (fun z => bfProduct z.1 z.2)) with
    | some s => (s.val.round out 0 0 false).bits
    | none => 0))

/-- A BF16 product of matrices, with the positions at which it forms a NaN from none (R270). -/
def mulBorn (out : Nat) (a b : Mat) : Mat × List (Nat × Nat) :=
  let c := matMul out a b
  let bt := matT b
  let clean := fun (r : List Nat) => r.all (fun v => !(widen eBF16 v).isNan)
  (c, ((List.range 4096).filter (fun k => (widen out (matGet c (k / 64) (k % 64))).isNan && clean (a.getD (k / 64) []) &&
    clean (bt.getD (k % 64) []))).map (fun k => (k, 1)))

/-- An elementwise map with the position. -/
def matMap (f : Nat → Nat → Nat → Nat) (a : Mat) : Mat := (a.zipIdx).map (fun r => (r.1.zipIdx).map (fun z => f r.2 z.2 z.1))

/-- invroot (R434), with the NaNs it forms: none where the previous root is kept. -/
def invRoot (eps iters : Nat) (a0 : Mat) : Option Mat × List (Nat × Nat) :=
  let a := matMap (fun i j v => if i = j then rn ((fv v).add (fv eps)) else rn (fv v)) a0
  let t := rn (((List.range 64).map (fun i => fv (matGet a i i))).foldl Val.add (Val.zeroOf true))
  let tv := fv t
  if tv.isNan || tv.isInf || tv.isZero || tv.neg then
    (none, if tv.isNan && (List.range 64).all (fun i => !isNan32 (matGet a i i)) then [(0, 1)] else [])
  else
    let d0 := rnb (vOne.div (fv (rn (fv (rn tv.sqrt)).sqrt)))
    let x0 : Mat := (List.range 64).map (fun i => (List.range 64).map (fun j => if i = j then d0 else 0))
    let m0 := matMap (fun _ _ v => rnb ((fv v).div tv)) a
    let z := (List.range iters).foldl (fun (z : Mat × Mat × List (Nat × Nat)) _ =>
      let tt := matMap (fun i j v => rnb (((if i = j then Val.ofInt 5 else Val.ofInt 0).sub (bv16 v)).div (Val.ofInt 4))) z.2.1
      let t2 := mulBorn eBF16 tt tt
      let t4 := mulBorn eBF16 t2.1 t2.1
      let x := mulBorn eBF16 z.1 tt
      let m := mulBorn eBF16 t4.1 z.2.1
      (x.1, m.1, z.2.2 ++ x.2 ++ t2.2 ++ t4.2 ++ m.2)) (x0, m0, [])
    (some z.1, z.2.2)

/-- The state of a block: L, R, Lr, Rr. -/
structure KfacState where
  l : Mat
  r : Mat
  lr : Mat
  rr : Mat
  deriving DecidableEq, Repr

/-- The state in a block's bytes (R427). -/
def kfacRead (bs : List Byte) : KfacState :=
  { l := matOf (words32 (slice bs 0 16384)), r := matOf (words32 (slice bs 16384 16384)), lr := matOf (words16 (slice bs 32768 8192)),
    rr := matOf (words16 (slice bs 40960 8192)) }

/-- The bytes of a block's state. -/
def KfacState.bytes (k : KfacState) : List Byte :=
  bytes32 k.l.flatten ++ bytes32 k.r.flatten ++ bytes16 k.lr.flatten ++ bytes16 k.rr.flatten

/-- What KFAC does to a block. -/
structure KfacOut where
  /-- The values passed on. -/
  g : List Nat
  state : KfacState
  /-- How often a root was kept. -/
  skips : Nat
  /-- NaNs formed from none, by position in the block: of FP32 values, and of BF16 values. -/
  born : List (Nat × Nat)
  born16 : List (Nat × Nat)
  /-- Engine cycles of its products, 64 for each (R378). -/
  cycles : Nat
  deriving DecidableEq, Repr

/-- KFAC on a block (R434). -/
def kfacBlock (beta eps interval iters step : Nat) (g : List Nat) (k : KfacState) : KfacOut :=
  let gb := matMap (fun _ _ v => rnb (fv v)) (matOf g)
  let gt := matT gb
  let mix := fun (old new : Mat) => matMap (fun i j v =>
    rn (((fv beta).mul (fv v)).add ((vOne.sub (fv beta)).mul (fv (matGet new i j))))) old
  let mixed := fun (old new out : Mat) => ((List.range 4096).filter (fun i =>
    isNan32 (matGet out (i / 64) (i % 64)) && !isNan32 (matGet old (i / 64) (i % 64)) && !isNan32 (matGet new (i / 64) (i % 64)))).map (fun i => (i, 1))
  let p := mulBorn eFP32 gb gt
  let q := mulBorn eFP32 gt gb
  let l1 := mix k.l p.1
  let r1 := mix k.r q.1
  let due := step % max 1 interval = 0
  let a := if due then invRoot eps iters l1 else (some k.lr, [])
  let b := if due then invRoot eps iters r1 else (some k.rr, [])
  let lr1 := a.1.getD k.lr
  let rr1 := b.1.getD k.rr
  let t := mulBorn eBF16 lr1 gb
  let o := mulBorn eFP32 t.1 rr1
  let roots := if due then (if a.1.isSome then 1 else 0) + (if b.1.isSome then 1 else 0) else 0
  { g := o.1.flatten, state := ⟨l1, r1, lr1, rr1⟩, skips := (if a.1.isNone then 1 else 0) + (if b.1.isNone then 1 else 0),
    born := p.2 ++ q.2 ++ mixed k.l p.1 l1 ++ mixed k.r q.1 r1 ++ o.2, born16 := a.2 ++ b.2 ++ t.2,
    cycles := 64 * (4 + 4 * iters * roots) }

/-- NaNs among a block's FP32 state. -/
def KfacState.nans (k : KfacState) : Nat := ((k.l.flatten ++ k.r.flatten).filter isNan32).length

/-- NaNs among a block's roots. -/
def KfacState.nans16 (k : KfacState) : Nat := ((k.lr.flatten ++ k.rr.flatten).filter (fun v => (widen eBF16 v).isNan)).length

/-- The first product of KFAC, Gb · Gbᵀ, with what its tile compares (R434). -/
def kfacCheck (g : List Nat) (v : Nat) : StepChecks :=
  let gb := (matOf g).map (fun r => r.map (fun x => widen eBF16 (rnb (fv x))))
  productCheck true gb gb (some eFP32) v

/-! ## One step on one chunk -/

/-- What a step does: the status with which it fails, or the job that goes on. -/
abbrev StepRes := Sum (Nat × Dev) (Dev × Stashed)

/-- Note the NaNs of a step and stop under HALT (R418). -/
def Dev.stepNans (d : Dev) (desc : List Byte) (z : Stashed) (os : List ElemOut) : Bool × Dev × Stashed :=
  let cs := (os.zipIdx.filter (fun q => q.1.consumed != 0)).map (fun q => (q.2, q.1.consumed))
  let ps := (os.zipIdx.filter (fun q => q.1.produced != 0)).map (fun q => (q.2, q.1.produced))
  let (d1, z1) := d.jobNans desc z 1 eFP32 cs
  let (d2, z2) := d1.jobNans desc z1 2 eFP32 ps
  (!(z.latch.halt && (cs != [] || ps != [])), d2, z2)

/-- An elementwise step: it reads its fields from the slot of the step before, and writes them into the slot of the step, which they
reach at the chunk's end (R418, R445, R459). `ran` notes that its elements have run. -/
def Dev.elemStep (d : Dev) (slot : Nat) (z : Stashed) (i : Nat) (f : Nat → Nat → List Nat → ElemOut) (ran : Dev → Dev := fun a => a) : StepRes :=
  let desc := (d.chain slot).desc
  let n := d.stepFields desc i
  let at0 := d.fieldAt desc i
  let (es, d1) := if n = 0 then (some (List.replicate z.g.length []), d) else d.readEntries desc ((z.step + 1) % 2) z.loc z.g.length
  match es with
  | none => .inl (7, d1)
  | some es =>
    let os := (z.g.zip es).zipIdx.map (fun q => f q.2 q.1.1 (slice' q.1.2 at0 n))
    let (ok, d2, z2) := (ran d1).stepNans desc z os
    if !ok then .inl (8, d2)
    else
      let g := os.map (·.g)
      let (ok2, d3) := d2.jobCheck slot z2 (valueCheck (g.headD 0))
      if !ok2 then .inl (7, d3)
      else
        .inr (d3, { z2 with g := g, writes := if n = 0 then z2.writes else z2.writes ++ [.fields at0 (os.map (·.fields))] })
where
  /-- Fields of an entry. -/
  slice' (l : List Nat) (a n : Nat) : List Nat := (l.drop a).take n

/-- CLIP_NORM ACCUMULATE's sums (R435): squares into NA[GROUP, STEP mod 2]. -/
def Dev.clipSums (d : Dev) (slot : Nat) (z : Stashed) (i : Nat) : StepRes :=
  let desc := (d.chain slot).desc
  let grp := leField (chainStep desc i) 8 1
  let os := z.g.map (fun g => elemOut [g] g [])
  let (ok, d1, z1) := d.stepNans desc z os
  if !ok then .inl (8, d1)
  else
    let sq := z.g.map (fun g =>
      let x := widen eFP32 g
      if x.isNan then (⟨.nan, 0⟩ : Exact) else if x.isInf then ⟨.posinf, 0⟩ else squareExact x.a)
    let big := (sq.filter (fun x => x.cls = .posinf)).length
    let na := sq.foldl Exact.add (d1.norm grp z.step)
    let d2 := ({ d1 with norms := tset d1.norms (normKey grp z.step) ⟨z.step, na⟩ }).countErrN E.SQUARE_OVERFLOWS big
    let (d3, z3) := d2.jobHealth z1 (fun h => { h with sqOver := h.sqOver + big })
    let (ok2, d4) := d3.jobCheck slot z3 (valueCheck (z.g.headD 0))
    if ok2 then .inr (d4, z3) else .inl (7, d4)

/-- QUANT_EF (R439): the converted chunk goes with the job to the output. -/
def Dev.quantStep (d : Dev) (slot : Nat) (z : Stashed) (i : Nat) : Sum (Nat × Dev) (Dev × Stashed × Rounded) :=
  let desc := (d.chain slot).desc
  let fmt := leField (chainStep desc i) 8 1
  let at0 := d.fieldAt desc i
  match d.readEntries desc ((z.step + 1) % 2) z.loc z.g.length with
  | (none, d1) => .inl (7, d1)
  | (some es, d1) =>
    let tagged := (d1.slotHead desc ((z.step + 1) % 2)).1 + 1 = z.step
    let ee := es.map (fun e => if tagged then e.getD at0 0 else 0)
    let os := (z.g.zip ee).map (fun q =>
      let x := (widen eFP32 q.1).add (widen eFP32 q.2)
      let c := ([q.1, q.2].filter isNan32).length
      ({ g := q.1, consumed := c, produced := if c = 0 && x.isNan then 1 else 0 } : ElemOut))
    let (ok, d2, z2) := d1.stepNans desc z os
    if !ok then .inl (8, d2)
    else
      let xs := (z.g.zip ee).map (fun q => (widen eFP32 q.1).add (widen eFP32 q.2))
      let rd := roundValues z.env fmt 0x04 (z.chunk * eChunk (chGrad desc)) xs
      let (d3, z3) := d2.jobHealth z2 (fun h => h.note fmt (xs.zip rd.ys) rd.sats rd.proms)
      let (d4, z4) := d3.jobNans desc z3 2 fmt (rd.nans.map (fun j => (j, 1)))
      if z.latch.halt && rd.nans != [] then .inl (8, d4)
      else
        let (ok2, d5) := d4.jobCheck slot z4 (valueCheck (rd.codes.headD 0))
        if !ok2 then .inl (7, d5)
        else
          let e1 := (xs.zip rd.ys).map (fun q => [residualBits q.1 q.2])
          .inr (d5, { z4 with writes := z4.writes ++ [.fields at0 e1] }, rd)

/-- The random bits of a RAND instruction (R465, R476). -/
def Stashed.rand (z : Stashed) (base j k : Nat) : Nat := randomBits z.latch.seed z.step z.tensor (base + j) k

/-- PROGRAM (R456, R459, R468, R477, R527): the program slot is control state, and each element run counts, a second run under DUP
and those of a chunk that fails too. -/
def Dev.programStep (d : Dev) (slot : Nat) (z : Stashed) (i base : Nat) : StepRes :=
  let desc := (d.chain slot).desc
  let st := chainStep desc i
  let id := leField st 8 4
  let im := d.progImage id
  let consts := (List.range 12).map (fun k => leField st (16 + 4 * k) 4)
  let n := z.g.length * (if z.dup then 2 else 1)
  let ran := fun (a : Dev) => { a with programs := a.programs.map (fun (e : Nat × ProgSlot) =>
    if e.2.loaded != [] && pgId e.2.loaded = id then (e.1, { e.2 with elements := (e.2.elements + n) % 2 ^ 64 }) else e) }
  match d.sramRead 4 0 (d.freeCore (chainDie desc)) with
  | (false, d1) => .inl (7, d1)
  | (true, d1) => d1.elemStep slot z i (fun j g f => progRun im consts f (z.rand base j) g) ran

/-- ADAMW with its scalars: b1 and b2 of the step are formed from those of the step before, and stored (R433). -/
def Dev.adamStep (d : Dev) (slot : Nat) (z : Stashed) (i : Nat) : StepRes :=
  let desc := (d.chain slot).desc
  let q := adamParams (chainStep desc i)
  match d.readState desc (d.scalarAddr desc ((z.step + 1) % 2)) 8 with
  | (none, d1) => .inl (7, d1)
  | (some bs, d1) =>
    let b1 := rn ((fv (leField bs 0 4)).mul (fv q.beta1))
    let b2 := rn ((fv (leField bs 4 4)).mul (fv q.beta2))
    match d1.elemStep slot z i (fun _ g f => adamElem q b1 b2 g f) with
    | .inl r => .inl r
    | .inr (d2, z2) =>
      .inr (d2, { z2 with writes := z2.writes ++ [.bytes (d2.scalarAddr desc (z.step % 2)) (leBytes 4 b1 ++ leBytes 4 b2)] })

/-! ## The end of a job (R426, R430, R431, R450, R502) -/

/-- The commit code of a chunk that has written its slot (R450). -/
def Dev.writtenCode (d : Dev) (desc : List Byte) : Nat := if d.stateful desc then 2 else 0

/-- A job has finished: the output is converted, state is written, the output is emitted, and OP_DONE is due. `rd` is the chunk as
QUANT_EF has it. Nothing of a chunk that fails is written (R402, R418). (DEDUCED, log entry 96). -/
def Dev.finishJob (d : Dev) (slot : Nat) (z : Stashed) (rd : Option Rounded) (via : Option Nat) : Dev :=
  let c := d.chain slot
  let desc := c.desc
  let out := chOut desc
  let emits := out != 0 && (d.jobCtx z).isSome
  let fresh := emits && rd.isNone
  let xs := z.g.map (widen eFP32)
  let r1 := rd.getD (if fresh then roundValues z.env out 0x03 (z.chunk * eChunk (chGrad desc)) xs else {})
  let (d1, z1) := if fresh then d.jobHealth z (fun h => h.note out (xs.zip r1.ys) r1.sats r1.proms) else (d, z)
  let (d2, z2) := if fresh then d1.jobNans desc z1 2 out (r1.nans.map (fun j => (j, 1))) else (d1, z1)
  if fresh && z.latch.halt && r1.nans != [] then d2.failJob z2 8 via
  else
    let (ok, d3a) := if fresh then d2.jobCheck slot z2 (valueCheck (r1.codes.headD 0)) else (true, d2)
    if !ok then d3a.failJob z2 7 via
    else
      let d3 := d3a.flushWrites desc z2
      let c3 := d3.chain slot
      let d4 := (d3.setChain slot { c3 with finished := c3.finished ++ [z.chunk],
                                            written := if d3.stateful desc then c3.written.filter (fun q => q.1 + 2 != z.step && q != (z.step, z.loc)) ++ [(z.step, z.loc)] else c3.written }).count
        E.INVOCATIONS
      match d4.jobCtx z2 with
      | none => d4
      | some n =>
        let k := residueList (r1.ys.map (·.fin))
        let d5 := d4.writeChunkRecord n z.chunk z2.base z.inp z.res z.rmd (if emits then k else 0) (d4.writtenCode desc)
        let d6 := d5.updCtx n (fun x => { x with atChain := x.atChain.filter (· != z.chunk), progressTick := d.tick })
        if emits then d6.tierResult n z.chunk k z.g.length r1.cells else d6

/-- A chunk has been stashed for phase 2: its CHUNK record is written, and its part in its context is over (R435). -/
def Dev.stashedForClip (d : Dev) (slot : Nat) (z : Stashed) : Dev :=
  match d.jobCtx z with
  | none => d
  | some n =>
    let desc := (d.chain slot).desc
    (d.writeChunkRecord n z.chunk z.base z.inp z.res z.rmd 0 (if d.stateful desc then 1 else 0)).updCtx n
      (fun x => { x with atChain := x.atChain.filter (· != z.chunk), progressTick := d.tick })

/-! ## The run of a job -/

/-- Jobs at a KFAC step, all chunks of one block: the block is worked, and the jobs go on with their parts (R434). -/
def Dev.kfacStep (d : Dev) (slot : Nat) (zs : List Stashed) (i : Nat) : Sum (Nat × Dev) (Dev × List Stashed) :=
  let desc := (d.chain slot).desc
  let z := zs.headD ⟨0, 0, 0, 0, 0, 0, 0, 0, 0, false, {}, .block, none, false, [], 0, 0, 0, {}, []⟩
  let st := chainStep desc i
  let e := eChunk (chGrad desc)
  let block := z.loc * e / 4096
  match d.readState desc (d.kfacAddr desc ((z.step + 1) % 2) i block) kfacBytes with
  | (none, d1) => .inl (7, d1)
  | (some bs, d1) =>
    let k := kfacRead bs
    let g := (zs.map (·.g)).flatten
    let some1 := fun (n : Nat) => if n = 0 then ([] : List (Nat × Nat)) else [(0, n)]
    let w := kfacBlock (leField st 8 4) (leField st 12 4) (leField st 16 4) (leField st 20 1) z.step g k
    let cons := (g.zipIdx.filter (fun q => isNan32 q.1)).map (fun q => (q.2, 1)) ++ some1 k.nans
    let (d2, zs2) := (d1.engineCycles z.dup w.cycles).blockNans desc zs 1 eFP32 cons
    let (d3, zs3) := d2.blockNans desc zs2 1 eBF16 (some1 k.nans16)
    let (d4, zs4) := d3.blockNans desc zs3 2 eFP32 w.born
    let (d5, zs5) := d4.blockNans desc zs4 2 eBF16 w.born16
    let z5 := zs5.headD z
    if z.latch.halt && (cons ++ some1 k.nans16 ++ w.born ++ w.born16 != []) then .inl (8, d5)
    else
      let (d6, z6) := d5.jobHealth z5 (fun h => { h with kfac := h.kfac + w.skips })
      let d7 := d6.countErrN E.KFAC_SKIPS w.skips
      let (ok, d8) := d7.jobCheck slot z6 (kfacCheck g (w.g.headD 0))
      if !ok then .inl (7, d8)
      else
        let z7 := { z6 with writes := z6.writes ++ [.bytes (d8.kfacAddr desc (z.step % 2) i block) w.state.bytes] }
        let parts := chunksOf e w.g (zs.length + 1)
        .inr (d8, ((z7 :: zs5.drop 1).zip parts).map (fun q => { q.1 with g := q.2, next := i + 1 }))

/-- An element of g = P · fp16(R), FP32 by RNE (R440). -/
def lowResult (ps : List (Exact × Exact)) : Nat := (convert eFP32 0 0 false (exactDot ps)).bits

/-- What the products of LOWRANK compare: the sums of Pᵀ · Gh, which is stored as ACC, and the conversion of P · fp16(R) where the
home forms it (R397, R399, R440). -/
def lowCheck (rank : Nat) (p : List Exact) (gh : List Nat) (r : Option (List Exact)) (v : Nat) : StepChecks :=
  let gv := gh.map (widen eFP16)
  let first := productCheck false ((List.range rank).map (fun a => (List.range 64).map (fun i => p.getD (i * rank + a) Exact.zero)))
    ((List.range 64).map (fun j => (List.range 64).map (fun i => gv.getD (i * 64 + j) Exact.zero))) none v
  match r with
  | none => first
  | some x =>
    let rf := (fp16Of x).map (widen eFP16)
    let second := productCheck false ((List.range 64).map (fun i => (List.range rank).map (fun a => p.getD (i * rank + a) Exact.zero)))
      ((List.range 64).map (fun j => (List.range rank).map (fun a => rf.getD (a * 64 + j) Exact.zero))) (some eFP32) v
    { kinds := [1, 2, 3], at0 := fun c k => if k = 3 then second.at0 c k else first.at0 c k }

/-- LOWRANK in an invocation, over the chunks of one block: the block's values are projected and taken back as at the
home (R425, R440). -/
def Dev.lowJobs (d : Dev) (slot : Nat) (zs : List Stashed) (i : Nat) : Sum (Nat × Dev) (Dev × List Stashed) :=
  let desc := (d.chain slot).desc
  let z := zs.headD ⟨0, 0, 0, 0, 0, 0, 0, 0, 0, false, {}, .block, none, false, [], 0, 0, 0, {}, []⟩
  let st := chainStep desc i
  let e := eChunk (chGrad desc)
  let rank := leField st 8 1
  let addr := leField st 16 8 + z.chunk / (4096 / e) * 128 * rank
  match d.readMem addr (128 * rank) (d.freeCore (chainDie desc)) with
  | (none, d1) => .inl (7, d1)
  | (some _, d1) =>
    let gh := fp16Of ((zs.map (·.g)).flatten.map (widen eFP32))
    let p := d1.lowMatrix rank addr
    let pairs := projectPairs rank p gh
    let back := backPairs rank p (pairs.map exactDot)
    let used := projectUsed p gh
    let made := formedNans pairs ++ formedNans back
    let (d2, zs2) := (d1.engineCycles z.dup (64 + rank)).blockNans desc zs 1 eFP16 used
    let (d3, zs3) := d2.blockNans desc zs2 2 eFP32 made
    if z.latch.halt && (used != [] || made != []) then .inl (8, d3)
    else
      let g := back.map lowResult
      let (ok, d4) := d3.jobCheck slot (zs3.headD z) (lowCheck rank p gh (some (pairs.map exactDot)) (g.headD 0))
      if !ok then .inl (7, d4)
      else .inr (d4, (zs3.zip (chunksOf e g (zs.length + 1))).map (fun q => { q.1 with g := q.2, next := i + 1 }))

/-- The jobs of the block of a job that wait at the same step, in order of their chunks. -/
def Dev.blockMates (d : Dev) (slot : Nat) (z : Stashed) (i : Nat) : List Stashed :=
  let c := d.chain slot
  let e := eChunk (chGrad c.desc)
  let mates := c.stash.filter (fun y => y.wait = .block && y.next = i && y.step = z.step && y.prod = z.prod &&
    y.loc * e / 4096 = z.loc * e / 4096)
  sortBy (fun a b => a.loc ≤ b.loc) (mates ++ [z])

/-- Run a job from its next step. `via` is the collective that resumed it. -/
def Dev.runJob (d : Dev) (slot : Nat) (z : Stashed) (via : Option Nat) (fuel : Nat) : Dev :=
  match fuel with
  | 0 => d
  | f + 1 =>
    let desc := (d.chain slot).desc
    let i := z.next
    let o := stepOp desc i
    let fail := fun (st : Nat) (a : Dev) => a.failJob z st via
    let goOn := fun (r : StepRes) =>
      match r with
      | .inl (st, a) => fail st a
      | .inr (a, y) => a.runJob slot { y with next := i + 1 } via f
    let st := chainStep desc i
    if chainN desc ≤ i then d.finishJob slot z none via
    else if d.writesState desc i && !d.prevCommitted desc z.step then
      match d.putStash slot z .commit with
      | some d1 => d1
      | none => fail 9 d
    else if o = oCLIP then
      match d.clipSums slot z i with
      | .inl (s, a) => fail s a
      | .inr (a, y) =>
        match a.putStash slot { y with next := i + 1, recorded := true } .clip with
        | some d1 => d1.stashedForClip slot y
        | none => fail 9 a
    else if o = oMOMENTUM then
      goOn (d.elemStep slot z i (fun _ g x => momentumElem (leField st 8 4) (leField st 12 4) (leField st 16 4) (bits (leField st 1 1) 0 1 = 1) g x))
    else if o = oADAMW then goOn (d.adamStep slot z i)
    else if o = oPROGRAM then
      let base := z.chunk * eChunk (chGrad desc)
      goOn (d.programStep slot z i base)
    else if o = oQUANT then
      match d.quantStep slot z i with
      | .inl (s, a) => fail s a
      | .inr (a, y, rd) => a.finishJob slot { y with next := i + 1 } (some rd) via
    else if o = oKFAC || o = oLOWRANK then
      let mates := d.blockMates slot z i
      if mates.length * eChunk (chGrad desc) < 4096 then
        let c := d.chain slot
        d.setChain slot { c with stash := c.stash ++ [{ z with wait := .block }] }
      else
        let c := d.chain slot
        let d1 := d.setChain slot { c with stash := c.stash.filter (fun y => !mates.contains y) }
        match (if o = oKFAC then d1.kfacStep slot mates i else d1.lowJobs slot mates i) with
        | .inl (s, a) => fail s a
        | .inr (a, ys) => ys.foldl (fun b y => b.runJob slot y via f) a
    else d.runJob slot { z with next := i + 1 } via f

/-- Fuel enough for the steps of any chain. -/
def jobFuel : Nat := 20

/-- Resume a stashed job, its values multiplied by a clipping coefficient where there is one; a NaN that this forms from none is
produced there (R270, R438, R446). -/
def Dev.resumeJob (d : Dev) (slot : Nat) (z : Stashed) (k : Option Nat) (via : Option Nat) : Dev :=
  let desc := (d.chain slot).desc
  match d.takeStash slot z (chainCount desc z.chunk) with
  | (none, d1) => d1.failJob z 7 via
  | (some y, d1) =>
    match k with
    | none => d1.runJob slot y via jobFuel
    | some k =>
      let g := y.g.map (fun g => rn ((fv g).mul (fv k)))
      let made := ((y.g.zip g).zipIdx.filter (fun q => !isNan32 q.1.1 && !isNan32 k && isNan32 q.1.2)).map (fun q => (q.2, 1))
      let (d2, y2) := d1.jobNans desc y 2 eFP32 made
      if y.latch.halt && made != [] then d2.failJob y2 8 via else d2.runJob slot { y2 with g := g } via jobFuel

/-- Jobs of step s + 1 that waited for step s to commit resume (R446). -/
def Dev.resumeCommits (d : Dev) (s : Nat) : Dev :=
  d.chains.foldl (fun a e =>
    if !a.prevCommitted e.2.desc (s + 1) then a
    else
      let zs := sortBy (fun x y : Stashed => x.chunk ≤ y.chunk) (e.2.stash.filter (fun z => z.wait = .commit && z.step = s + 1))
      zs.foldl (fun b z => b.resumeJob e.1 z none none) a) d

end Sys2Proof.Machine
end

