-- ==== Sys2Proof/Machine/Chains.lean ====
section
/-! DEFINITION. Operator chains on chunks of collectives: the gradient, source, route and combine roles, clipping's
second phase, release, and heels' RELEASE_TICK (R310, R331, R335, R426, R430, R436 to R444, R448, R451). -/

namespace Sys2Proof.Machine

/-! ## The gradient role (R430, R440) -/

/-- The job of a chunk that the tier holds. -/
def Dev.takeJob (d : Dev) (n slot c : Nat) (g : List Nat) (next : Nat) : Dev × Stashed :=
  let x := d.ctx n
  let r := x.rc
  let t := tgetD x.tier c { s := [] }
  let d1 := d.updCtx n (fun y => { y with tier := terase y.tier c, atChain := y.atChain ++ [c] })
  (d1.setChain slot { d1.chain slot with served := some (x.pack, r) },
   { ctx := n, pack := x.pack, cseq := x.cseq, step := r.step, tensor := r.tensor, chunk := c,
     loc := d.localChunk (d.layout x.pack) r c, next := next, rounding := r.rounding, dup := r.dup, latch := x.latch, g := g,
     inp := t.inp, res := t.res, rmd := t.rmd, base := t.base })

/-- The input of a chunk: rn(S × INPUT_SCALE) or rn(Y × INPUT_SCALE) (R430). -/
def inputOf (desc : List Byte) (s : List Exact) : List Nat :=
  let k := fv (chScale desc)
  s.map (fun v => rn (v.val.mul k))

/-- The projection of a block under LOWRANK: the exact R, with its NaNs counted; none where P cannot be read (R270, R440). -/
def Dev.lowBlock (d : Dev) (n : Nat) (x : Ctx) (cs : List Nat) (rank addr : Nat) (desc : List Byte) : Option (List Exact) × Dev :=
  let (bs, d1) := d.readMem addr (128 * rank) (d.freeCore (chainDie desc))
  match bs with
  | none => (none, d1)
  | some _ =>
    let ts := cs.map (fun i => tgetD x.tier i { s := [] })
    let gh := fp16Of (ts.flatMap (·.s))
    let p := d1.lowMatrix rank addr
    let pairs := projectPairs rank p gh
    let terms := pairs.map exactDot :: (ts.headD { s := [] }).ups
    let at0 := fun (i : Nat) => terms.map (fun u => u.getD i Exact.empty)
    let made := formedNans pairs ++ (((List.range (rank * 64)).filter (fun i => sumMakesNan (at0 i))).map (fun i => (i, 1)))
    let d2 := ((d1.engineCycles x.rc.dup 64).tierNans n desc cs 1 eFP16 (projectUsed p gh)).tierNans n desc cs 2 eFP32 made
    (some ((List.range (rank * 64)).map (fun i => (at0 i).foldl Exact.add Exact.empty)), d2)

/-- An injected check failure of a product that LOWRANK or the router runs for a context (R402, R405). -/
def Dev.ctxProductCheck (d : Dev) (n slot : Nat) (q : StepChecks) : Bool × Dev := d.jobCheck slot ((d.ctx n).job n 0) q

/-- LOWRANK at a block, all of whose chunks have reached it: a partial goes up, or the home's jobs go on (R440).
(DEDUCED, log entry 93). -/
def Dev.lowStep (d : Dev) (n slot : Nat) (cs : List Nat) (rank proj : Nat) : Dev :=
  let x := d.ctx n
  let r := x.rc
  let y := d.layout x.pack
  let desc := (d.chain slot).desc
  let c0 := cs.headD 0
  let addr := proj + (c0 / r.blockChunks) * 128 * rank
  match d.lowBlock n x cs rank addr desc with
  | (none, d1) => d1.failCtx n 7 0xFFFF
  | (some v, d1) =>
    let p := d1.lowMatrix rank addr
    let gh := fp16Of (cs.flatMap (fun i => (tgetD x.tier i { s := [] }).s))
    if x.latch.halt && v.any (·.isNan) then d1.failCtx n 8 0xFFFF
    else
      match (if y.spanning then y.target (d.home y r c0) else none) with
      | some h =>
        let (ok, d2) := d1.ctxProductCheck n slot (lowCheck rank p gh none 0)
        if !ok then d2.failCtx n 7 0xFFFF
        else
          let k := residueList (v.map (·.a))
          (d2.sendUp n c0 h (packedCells v ++ [(tCheck, 0, checkPayload k 0 k (rank * 64) 1)])).updCtx n
            (fun q => { q with tier := q.tier.filter (fun e => !cs.contains e.1), atChain := q.atChain.filter (fun i => !cs.contains i) })
      | none =>
        let pairs := backPairs rank p v
        let g := pairs.map lowResult
        let (ok, d2) := ((d1.engineCycles r.dup rank).tierNans n desc cs 2 eFP32 (formedNans pairs)).ctxProductCheck n slot (lowCheck rank p gh (some v) (g.headD 0))
        if x.latch.halt && g.any isNan32 then d2.failCtx n 8 0xFFFF
        else if !ok then d2.failCtx n 7 0xFFFF
        else
          (cs.zip (chunksOf (eChunk r.elem) g (cs.length + 1))).foldl (fun a q =>
            let a1 := a.updCtx n (fun w => { w with atChain := w.atChain.filter (· != q.1) })
            let (a2, z) := a1.takeJob n slot q.1 q.2 1
            a2.runJob slot z none jobFuel) d2

/-- A chunk reaches a GRADIENT chain (R430). -/
def Dev.gradientChunk (d : Dev) (n slot c : Nat) : Dev :=
  let x := d.ctx n
  let r := x.rc
  let desc := (d.chain slot).desc
  match tget x.tier c with
  | none => d
  | some t =>
    match lowRank desc with
    | some (rank, proj) =>
      let d1 := d.updCtx n (fun q => { q with atChain := if q.atChain.contains c then q.atChain else q.atChain ++ [c] })
      let cs := r.blockOf c
      if cs.all (fun i => (d1.ctx n).atChain.contains i) then d1.lowStep n slot cs rank proj else d1
    | none =>
      let (d1, z) := d.takeJob n slot c (inputOf desc t.s) 0
      d1.runJob slot z none jobFuel

/-! ## Clipping's second phase (R438) -/

/-- The coefficient of a sum of squares by its limbs, with whether a NaN was consumed (R438).
(DEDUCED, log entry 100). -/
def clipCoeff (limbs : List Int) (clipMax : Nat) : Nat × Bool :=
  if 0 < limbs.getD 21 0 then (nan32, true)
  else if 0 < limbs.getD 20 0 then (0, false)
  else
    let a := ((limbs.take 20).zipIdx.map (fun z => z.1 * 2 ^ (16 * z.2))).sum
    let n := rn (Val.sqrt ⟨.finite, a, unit149⟩)
    let x := widen eFP32 n
    let m := widen eFP32 clipMax
    if !x.isNan && !(m.lt x) then (one32, false) else (rn ((fv clipMax).div (fv n)), false)

/-- The result of APPLY, or of EXCHANGE under SCOPE PLANE, passes this switch: the coefficient is formed, and every
stashed chunk of the group and step runs on (R438). -/
def Dev.clipApply (d : Dev) (n : Nat) (limbs : List Int) : Dev :=
  let x := d.ctx n
  let r := x.rc
  let desc := d.chainDesc r.fused
  let s0 := chainStep desc 0
  let plane := bits (leField s0 1 1) 1 1 = 1
  if !(r.collType = kBCAST || plane) then d
  else
    let (k, nan) := clipCoeff limbs (leField s0 12 4)
    let d1 := d.setReg E.LAST_CLIP_COEFF k
    let t : NanTrap := { tick := 0, pack := x.pack, cseq := x.cseq, chunk := 0, element := 21, kind := 1, source := 0x10 + chainDie desc,
                         ty := eINT32, oper := r.fused }
    let d2 := if nan then (d1.updCtx n (fun y => { y with health := { y.health with nans := y.health.nans + 1 } })).nanEvent t x.latch.halt
      (d1.freeCore (chainDie desc)) else d1
    if nan && x.latch.halt then d2.failCtx n 8 0xFFFF
    else
      d2.chains.foldl (fun a e =>
        let zs := sortBy (fun u v : Stashed => u.chunk ≤ v.chunk) (e.2.stash.filter (fun z => z.wait = .clip && z.step = r.step &&
          leField (chainStep e.2.desc (z.next - 1)) 8 1 = leField s0 8 1))
        zs.foldl (fun b z =>
          if (b.ctx n).state = .collect then b.resumeJob e.1 z (some k) (some n) else b) a) d2

/-- A chunk of a GROUP chain's collective is finished by the chain (R426, R454). -/
def Dev.groupFinished (d : Dev) (n c : Nat) : Dev :=
  match d.chainSlotOf (d.ctx n).rc.fused with
  | none => d
  | some slot =>
    let q := d.chain slot
    (d.setChain slot { q with finished := q.finished ++ [c] }).count E.INVOCATIONS

/-- INT32 values of elements. (DEDUCED, log entry 100). -/
def limbInts (s : List Exact) : List Int := s.map (fun v => v.a / 2 ^ 149)

/-! ## RELEASE_CHECK_DONE (R331, R335, R365, R438) -/

/-- RELEASE_CHECK_DONE: the pipeline of a chunk in CHECK has finished; it is released, sent up, handed to the tier, or
relayed down, or its context fails (R331). -/
def execReleaseCheckDone (ctx : CtxNo) (chunk : BitVec 20) (s : State) : Host.Outcome State Fault Refusal :=
  run s fun d =>
    let n := ctx.val
    let c := chunk.toNat
    let x := d.ctx n
    let r := x.rc
    let due := fun (z : Option Chunk) => (z.map (fun q => q.state == .check && decide (q.completeTick + d.releaseWait n c ≤ d.tick))).getD false
    let group := d.roleOf r = some .group
    if !d.switchStill && due (tget x.chunks c) then
      let sums := if group then limbInts (x.sums c) else []
      let d1 := d.releaseChunk n c
      if group && !(d1.layout x.pack).spanning || group && d1.home (d1.layout x.pack) r c = (d1.layout x.pack).own then
        (if (d1.ctx n).released.contains c then (d1.clipApply n sums).groupFinished n c else d1)
      else d1
    else if !d.switchStill && due (tget x.down c) then
      let b := tgetD (tgetD x.down c {}).contribs 0 {}
      let vs := if group then b.cells.flatMap (fun e => storedValues (some eINT32) (r.chunkCount c) e.1 e.2) else []
      let sums := if group then limbInts ((List.range 22).map (fun j => ((vs.find? (fun v => v.1 = j)).map (·.2)).getD Exact.zero)) else []
      let d1 := d.relayChunk n c
      if group && (d1.ctx n).relayed.contains c then (d1.clipApply n sums).groupFinished n c else d1
    else d

/-! ## The source role (R451) -/

/-- Where θ stands in an entry: field 0 of the first MOMENTUM, ADAMW or PROGRAM step with state.
(DEDUCED, log entry 95). -/
def Dev.thetaAt (d : Dev) (desc : List Byte) : Option Nat :=
  let is := (List.range (chainN desc)).filter (fun i =>
    stepOp desc i = oMOMENTUM || stepOp desc i = oADAMW || (stepOp desc i = oPROGRAM && 0 < d.stepFields desc i))
  is.head?.map (d.fieldAt desc)

/-- The step has written the state of a local chunk, in a slot whose contents hold (R428, R451). Which chunks a step wrote before the
chain was loaded is not known, and all count. (DEDUCED, log entry 95). -/
def Dev.chunkWritten (d : Dev) (slot step l : Nat) : Bool :=
  let c := d.chain slot
  let h := d.slotHead c.desc (step % 2)
  h.1 = step && (h.2 = stPREPARED || h.2 = stCOMMITTED || h.2 = stWRITING) &&
    (c.written.contains (step, l) || (h.2 != stWRITING && !c.written.any (fun q => q.1 = step)))

/-- A chunk of a SOURCE collective at its home: θ is converted and emitted (R451). (DEDUCED, log entry 95). -/
def Dev.sourceChunk (d : Dev) (n slot c : Nat) : Dev :=
  let x := d.ctx n
  let r := x.rc
  let y := d.layout x.pack
  let desc := (d.chain slot).desc
  let src := leField (chainStep desc 0) 8 4
  match d.chainSlotOf src with
  | none => d
  | some ss =>
    let sd := (d.chain ss).desc
    let l := d.localChunk y r c
    if !d.allValid x || d.home y r c != y.own || r.nchunk ≤ c || x.released.contains c || !d.chunkWritten ss r.step l then d
    else
      match d.readEntries sd (r.step % 2) l (r.chunkCount c) with
      | (none, d1) => d1.failCtx n 7 0xFFFF
      | (some es, d1) =>
        let free := fun (j : Nat) => (Config.freeWord (d1.draws + j)).toNat % 2 ^ 32
        let th := es.zipIdx.map (fun e => match d1.thetaAt sd with
          | some at0 => e.1.getD at0 0
          | none => free e.2)
        let xs := th.map (widen eFP32)
        let rd := roundValues x.env (chOut desc) 0x03 (c * eChunk r.elem) xs
        let z := { x.job n c with loc := l }
        let nans := (xs.zipIdx.filter (fun q => q.1.isNan)).map (fun q => (q.2, 1))
        let (d2, z2) := d1.drew.jobNans desc z 1 eFP32 nans
        let (d3, z3) := d2.jobHealth z2 (fun h => h.note (chOut desc) (xs.zip rd.ys) rd.sats rd.proms)
        let (d4, z4) := d3.jobNans desc z3 2 (chOut desc) (rd.nans.map (fun j => (j, 1)))
        if x.latch.halt && (nans != [] || rd.nans != []) then d4.failCtx n 8 0xFFFF
        else
          let (ok, d5) := d4.jobCheck slot z4 (valueCheck (rd.codes.headD 0))
          if !ok then d5.failCtx n 7 0xFFFF
          else
            let k := residueList (rd.ys.map (·.fin))
            let emits := chOut desc != 0
            let d6 := d5.writeChunkRecord n c z4.base 0 0 0 (if emits then k else 0) 0
            let q := d6.chain slot
            let d7 := (d6.setChain slot { q with finished := q.finished ++ [c] }).count E.INVOCATIONS
            (if emits then d7.tierResult n c k (r.chunkCount c) rd.cells else d7).releaseDone n c

/-! ## The router (R441 to R443) -/

/-- The router's choices for a token: (expert, BF16 weight), in the order chosen, with the NaNs it produced (R442).
(DEDUCED, log entry 94). -/
def routeToken (q : RouteParams) (logits : List Nat) : List (Nat × Nat) × Nat :=
  if logits.any isNan32 then ([], 0)
  else
    let before : Nat × Nat → Nat × Nat → Bool := fun a b =>
      let u := widen eFP32 a.2
      let v := widen eFP32 b.2
      let same := (u.isFin && v.isFin && u.a = v.a) || a.2 = b.2
      if same then decide (a.1 ≤ b.1) else v.lt u
    let order := sortBy before (logits.zipIdx.map (fun z => (z.2, z.1)))
    let chosen := order.take q.ksel
    let top := (order.headD (0, 0)).2
    let scope := if q.all then order else chosen
    let us := scope.map (fun e =>
      let z := rn ((fv e.2).sub (fv top))
      (e.1, exp32 z))
    let sum := rn ((us.map (fun u => fv u.2)).foldl Val.add (Val.zeroOf true))
    let made := (us.filter (fun u => isNan32 u.2)).length
    (chosen.map (fun e =>
      let u := ((us.find? (fun w => w.1 = e.1)).map (·.2)).getD 0
      (e.1, rnb ((fv u).div (fv sum)))), made)

/-- The logits of a token: x · W under R384, FP32 by RNE (R442). (DEDUCED, log entry 94). -/
def logitsOf (xs : List Nat) (w : List (List Nat)) : List Nat :=
  w.map (fun row => match bfDot none ((xs.zip row).map (fun z => bfProduct z.1 z.2)) with
    | some s => (s.val.round eFP32 0 0 false).bits
    | none => 0)

/-- The key of a token of a rank. -/
def tokenKey (rank token : Nat) : Nat := rank * 2 ^ 20 + token

/-- Change the routing record of a chain, step and tensor. -/
def Dev.updRoute (d : Dev) (r : CollRec) (f : RouteRec → RouteRec) : Dev :=
  { d with routes := d.routes.map (fun z => if z.chain = d.routeChainOf r && z.step = r.step && z.tensor = r.tensor then f z else z) }

/-- Emit a token's or a filler's chunks to a global slot, and note them (R443). -/
def Dev.emitSlot (d : Dev) (n slot : Nat) (q : RouteParams) (chunks : List (List Nat)) : Dev :=
  chunks.zipIdx.foldl (fun a z =>
    if (a.ctx n).state != .collect then a
    else
      let rc := slot * q.dchunks + z.2
      let k := residueList (z.1.map (fun v => (widen eBF16 v).fin))
      (a.tierResult n rc k z.1.length (plainCells eBF16 z.1)).updCtx n (fun x => { x with emitted := x.emitted ++ [rc] })) d

/-- The chunks of a token are written to the ledger, emitted to its kept slots, and finished (R443, R502). -/
def Dev.finishToken (d : Dev) (n slot : Nat) (q : RouteParams) (cs : List Nat) (slots : List Nat) : Dev :=
  let x := d.ctx n
  let ts := cs.map (fun c => (c, tgetD x.tier c { s := [] }))
  let vals := ts.map (fun t => t.2.s.map (fun v => (convert eBF16 0 0 false v).bits))
  let d1 := ts.foldl (fun a t =>
    let k := residueList (t.2.s.map (·.fin))
    a.writeChunkRecord n t.1 t.2.base t.2.inp t.2.res t.2.rmd (if slots = [] then 0 else k) 0) d
  let d2 := slots.foldl (fun a g => a.emitSlot n g q vals) d1
  if (d2.ctx n).state != .collect then d2
  else
    let ch := d2.chain slot
    let d3 := (d2.setChain slot { ch with finished := ch.finished ++ cs }).countN E.INVOCATIONS cs.length
    d3.updCtx n (fun w => { w with tier := w.tier.filter (fun e => !cs.contains e.1), atChain := w.atChain.filter (fun i => !cs.contains i),
                                   progressTick := d.tick })

/-- Assign the tokens of a rank that are next in order (R443). -/
def Dev.assignTokens (d : Dev) (n slot rank fuel : Nat) : Dev :=
  match fuel with
  | 0 => d
  | f + 1 =>
    let x := d.ctx n
    let r := x.rc
    let y := d.layout x.pack
    let q := d.routeOf r
    match d.routeRec r with
    | none => d
    | some rr =>
      let t := tgetD rr.assigned rank 0
      match tget rr.held (tokenKey rank t) with
      | none => d
      | some chosen =>
        let picks := chosen.map (fun e =>
          let taken := (rr.choices.filter (fun c => c.rank = rank && c.expert = e.1)).length
          (e, taken))
        let kept := picks.filter (fun p => p.2 < q.cap)
        let lost := picks.length - kept.length
        let new := kept.map (fun p => Choice.mk rank t p.1.1 p.2 p.1.2)
        let d1 := d.updRoute r (fun z => { z with choices := z.choices ++ new, held := terase z.held (tokenKey rank t),
                                                  assigned := tset z.assigned rank (t + 1) })
        let d2 := (d1.countN E.DROPPED_CHOICES lost).updCtx n (fun w => { w with health := { w.health with dropped := w.health.dropped + lost } })
        let cs := (List.range q.dchunks).map (fun i => rank * r.shard + t * q.dchunks + i)
        let d3 := d2.finishToken n slot q cs (kept.map (fun p => (p.1.1 * y.ranks + rank) * q.cap + p.2))
        if (d3.ctx n).state != .collect then d3
        else if (t + 1) * q.dchunks = r.shard then
          let all := (rr.choices ++ new).filter (fun c => c.rank = rank)
          let empty := (List.range q.experts).flatMap (fun e => ((List.range q.cap).filter (fun k =>
            !all.any (fun c => c.expert = e && c.slot = k))).map (fun k => (e * y.ranks + rank) * q.cap + k))
          empty.foldl (fun a g => a.emitSlot n g q (List.replicate q.dchunks (List.replicate (eChunk eBF16) 0))) d3
        else d3.assignTokens n slot rank f

/-- A chunk reaches the router: when its token is whole, the token is routed and held for its turn (R442, R443).
(DEDUCED, log entry 93). -/
def Dev.routeChunk (d : Dev) (n slot c : Nat) : Dev :=
  let x := d.ctx n
  let r := x.rc
  let q := d.routeOf r
  if (tget x.tier c).isNone || x.atChain.contains c then d
  else
    let desc := (d.chain slot).desc
    let d1 := d.updCtx n (fun w => { w with atChain := w.atChain ++ [c] })
    let rank := c / max 1 r.shard
    let t := c % max 1 r.shard / max 1 q.dchunks
    let cs := (List.range q.dchunks).map (fun i => rank * r.shard + t * q.dchunks + i)
    if !cs.all (fun i => (d1.ctx n).atChain.contains i) then d1
    else
      let ts := cs.map (fun i => tgetD x.tier i { s := [] })
      let xs := (ts.flatMap (·.s)).map (fun v => (convert eBF16 0 0 false v).bits)
      let dd := q.dchunks * eChunk eBF16
      match d1.readMem q.router (q.experts * 2 * dd) (d1.freeCore (chainDie desc)) with
      | (none, d2) => d2.failCtx n 7 0xFFFF
      | (some bs, d2) =>
        let w := chunksOf dd (words16 bs) (q.experts + 1)
        let logits := logitsOf xs w
        let nan16 := fun (v : Nat) => (widen eBF16 v).isNan
        let used := (xs.zipIdx.filter (fun z => nan16 z.1)).map (·.2)
        let wUsed := ((w.flatten).filter nan16).length
        let (chosen, made) := routeToken q logits
        let produced := made + (if used = [] then ((w.zip logits).filter (fun z => !z.1.any nan16 && isNan32 z.2)).length else 0)
        let d3 := (d2.engineCycles r.dup ((q.experts + 63) / 64 * dd)).tierNans n desc cs 1 eBF16 (used.map (fun j => (j, 1)) ++ (if wUsed = 0 then [] else [(0, wUsed)]))
        let d4 := d3.tierNans n desc cs 2 eFP32 (if produced = 0 then [] else [(0, produced)])
        if x.latch.halt && (used != [] || wUsed + produced != 0) then d4.failCtx n 8 0xFFFF
        else
          let (ok, d5) := d4.ctxProductCheck n slot (productCheck true [xs.map (widen eBF16)] (w.map (fun c => c.map (widen eBF16))) (some eFP32) (logits.headD 0))
          if !ok then d5.failCtx n 7 0xFFFF
          else
            let d6 := d5.updRoute r (fun w => { w with held := tset w.held (tokenKey rank t) chosen })
            d6.assignTokens n slot rank (r.shard + 1)

/-! ## The combine operator (R444) -/

/-- Finish slot chunks of a combine: their CHUNK records, and OP_DONE due for each. -/
def Dev.finishSlots (d : Dev) (n slot : Nat) (cs : List Nat) (out : Nat) : Dev :=
  let x := d.ctx n
  let d1 := cs.foldl (fun a c =>
    let t := tgetD x.tier c { s := [] }
    a.writeChunkRecord n c t.base t.inp t.res t.rmd out 0) d
  let ch := d1.chain slot
  ((d1.setChain slot { ch with finished := ch.finished ++ cs }).countN E.INVOCATIONS cs.length).updCtx n
    (fun w => { w with tier := w.tier.filter (fun e => !cs.contains e.1), atChain := w.atChain.filter (fun i => !cs.contains i),
                       progressTick := d.tick })

/-- Round and emit a token's result chunk (R430, R444). -/
def Dev.emitCombined (d : Dev) (n slot rc : Nat) (s : List Exact) (done : List Nat) : Dev :=
  let x := d.ctx n
  let desc := (d.chain slot).desc
  let e := eChunk x.rc.elem
  let rd := roundValues x.env (chOut desc) 0x03 (rc * e) s
  let z := x.job n rc
  let (d1, z1) := d.jobHealth z (fun h => h.note (chOut desc) (s.zip rd.ys) rd.sats rd.proms)
  let (d2, z2) := d1.jobNans desc z1 2 (chOut desc) (rd.nans.map (fun j => (j, 1)))
  if x.latch.halt && (rd.nans != [] || s.any (·.isNan)) then d2.failCtx n 8 0xFFFF
  else
    let (ok, d3) := d2.jobCheck slot z2 (valueCheck (rd.codes.headD 0))
    if !ok then d3.failCtx n 7 0xFFFF
    else
      let k := residueList (rd.ys.map (·.fin))
      let d4 := if done = [] then d3 else d3.finishSlots n slot done k
      (d4.tierResult n rc k s.length rd.cells).updCtx n (fun w => { w with emitted := w.emitted ++ [rc] })

/-- Tokens of this rack's ranks with no kept choice are delivered as +0 (R444), once. -/
def Dev.emitEmpty (d : Dev) (n slot : Nat) : Dev :=
  let x := d.ctx n
  let r := x.rc
  let y := d.layout x.pack
  let q := d.routeOf r
  match d.routeRec r with
  | none => d
  | some rr =>
    let ranks := (List.range y.ranks).filter (fun k => y.rackOfRank k = y.own)
    let empty := ranks.flatMap (fun k => ((List.range (r.shard / max 1 q.dchunks)).filter (fun t =>
      !rr.choices.any (fun c => c.rank = k && c.token = t))).flatMap (fun t =>
        (List.range q.dchunks).map (fun i => k * r.shard + t * q.dchunks + i)))
    (empty.filter (fun c => !x.emitted.contains c)).foldl (fun a c =>
      if (a.ctx n).state = .collect then a.emitCombined n slot c (List.replicate (eChunk r.elem) Exact.zero) [] else a) d

/-- A slot chunk reaches the combine operator (R444). -/
def Dev.combineChunk (d : Dev) (n slot c : Nat) : Dev :=
  let d0 := d.emitEmpty n slot
  let x := d0.ctx n
  let r := x.rc
  let y := d0.layout x.pack
  let q := d0.routeOf r
  if x.state != .collect || (tget x.tier c).isNone || x.atChain.contains c then d0
  else
    match d0.routeRec r with
    | none => d0.failCtx n 6 0xFFFF
    | some rr =>
      let d1 := d0.updCtx n (fun w => { w with atChain := w.atChain ++ [c] })
      let i := c % max 1 q.dchunks
      match rr.choiceAt q y.ranks (c / max 1 q.dchunks) with
      | none => d1.finishSlots n slot [c] 0
      | some ch =>
        let mine := rr.choices.filter (fun k => k.rank = ch.rank && k.token = ch.token)
        let cs := mine.map (fun k => ((k.expert * y.ranks + k.rank) * q.cap + k.slot) * q.dchunks + i)
        if !cs.all (fun k => (d1.ctx n).atChain.contains k) then d1
        else
          let ts := cs.map (fun k => (tgetD x.tier k { s := [] }).s)
          let desc := (d1.chain slot).desc
          let rc := ch.rank * r.shard + ch.token * q.dchunks + i
          let at0 := fun (j : Nat) => ts.map (fun t => t.getD j Exact.empty)
          let js := List.range (eChunk r.elem)
          let d2 := (cs.zip ts).foldl (fun (a : Dev) u =>
            a.tierNans n desc [u.1] 1 r.elem ((u.2.zipIdx.filter (fun v => v.1.isNan)).map (fun v => (v.2, 1)))) d1
          let (d3, _) := d2.jobNans desc (x.job n rc) 2 eFP32 ((js.filter (fun j => sumMakesNan (at0 j))).map (fun j => (j, 1)))
          d3.emitCombined n slot rc (js.map (fun j => (at0 j).foldl Exact.add Exact.empty)) cs

/-! ## CHAIN_CHUNK and OP_DONE -/

/-- CHAIN_CHUNK: a chunk reaches its chain, and the chain runs on it (R430). -/
def execChainChunk (ctx : CtxNo) (chunk : BitVec 20) (s : State) : Host.Outcome State Fault Refusal :=
  run s fun d =>
    let n := ctx.val
    let c := chunk.toNat
    let x := d.ctx n
    if x.state != .collect || x.record.isNone || x.rc.heel || d.switchStill || d.computeOff || d.computeGated then d
    else
      match d.chainSlotOf x.rc.fused, d.roleOf x.rc with
      | some slot, some .gradient => d.gradientChunk n slot c
      | some slot, some .source => d.sourceChunk n slot c
      | some slot, some .route => d.routeChunk n slot c
      | some slot, some .combine => d.combineChunk n slot c
      | _, _ => d

/-- OP_DONE: a chunk the chain has finished raises its bindings (R414, R426). (DEDUCED, log entry 96). -/
def execOpDone (chain : Fin 256) (chunk : BitVec 20) (s : State) : Host.Outcome State Fault Refusal :=
  run s fun d =>
    let c := d.chain chain.val
    if c.finished.contains chunk.toNat then
      (d.setChain chain.val { c with finished := c.finished.erase chunk.toNat }).bindEvent (.cdie (chainDie c.desc)) bOP (chainIdOf c.desc) chunk.toNat
    else d

/-! ## Commit (R446, R448, R449) -/

/-- Every PREPARED slot of a step commits, and the chunks that waited for it resume (R446, R448).
(DEDUCED, log entry 97). -/
def Dev.commitStep (d : Dev) (s : Nat) : Dev := (d.moveSlots s [stPREPARED] stCOMMITTED).resumeCommits s

/-- HEEL_RELEASE_TICK: the RELEASE_TICK of a released heel is reached (R310, R414, R448). -/
def execHeelReleaseTick (ctx : CtxNo) (s : State) : Host.Outcome State Fault Refusal :=
  run s fun d =>
    match d.heels.find? (fun h => h.ctx = ctx.val && h.tick ≤ d.tick) with
    | none => d
    | some h =>
      let d1 := ({ d with heels := d.heels.erase h }).bindEvent (.sdie (unitSdie (unitOf h.ctx 0))) bHEEL h.pack 0
      if h.kind = 1 then d1.commitStep h.step else d1

end Sys2Proof.Machine
end

