-- ==== Sys2Proof/Machine/Loading.lean ====
section
/-! DEFINITION. LOAD, UNLOAD and INIT of chains, and STEP_CMD (R419 to R424, R427, R429, R449, R454, R474, R475, R503,
R622). -/

namespace Sys2Proof.Machine

/-! ## What a LOAD refuses (R423) -/

/-- FP32 bits that are finite and not negative. −0 is zero, and is not negative. -/
def okNonNeg (b : Nat) : Bool :=
  let x := widen eFP32 b
  x.isFin && (x.a = 0 || !x.neg)

/-- FP32 bits that lie in 0 to 1, 1 excluded. -/
def okFraction (b : Nat) : Bool := okNonNeg b && (widen eFP32 b).a < (unit149 : Int)

/-- FP32 bits that are finite and above 0. -/
def okPositive (b : Nat) : Bool := okNonNeg b && (widen eFP32 b).a != 0

/-- A header that LOAD refuses with BAD_HEADER. (DEDUCED, log entry 98). -/
def badHeader (h : List Byte) : Bool :=
  let id := chainIdOf h
  let sc := widen eFP32 (chScale h)
  id = 0 || 2 ^ 28 ≤ id || chainN h = 0 || 8 < chainN h || 1 < chInput h || 9 < chOut h || !elemKnown (chGrad h) ||
  !sc.isFin || sc.a = 0 || leField h 21 3 != 0 || leField h 28 4 != 0

/-- An arrangement of steps that LOAD refuses with BAD_STEP (R421). -/
def badSteps (desc : List Byte) : Bool :=
  let ops := chainOps desc
  let big := ops.contains oKFAC || ops.contains oLOWRANK
  ops.any (fun o => o = 0 || 10 < o) ||
  (match chainRole desc with
   | none => true
   | some .gradient =>
     (ops.contains oCLIP && chOut desc != 0) ||
     (big && (4096 % eChunk (chGrad desc) != 0 || chElements desc % 4096 != 0)) ||
     (ops.getLast? = some oQUANT && chOut desc != leField (chainStep desc (chainN desc - 1)) 8 1)
   | _ => false)

/-- The constants of a PROGRAM step break R475. -/
def badConsts (st im : List Byte) : Bool :=
  (List.range 12).any (fun i =>
    let c := leField st (16 + 4 * i) 4
    if i < pgConsts im then isNan32 c else c != 0)

/-- A step's parameters are outside R420 or R423. -/
def Dev.badParams (d : Dev) (st : List Byte) : Bool :=
  let o := leField st 0 1
  let f := fun (a : Nat) => leField st a 4
  leField st 2 6 != 0 ||
  (if o = oCLIP then 15 < leField st 8 1 || !okPositive (f 12)
   else if o = oMOMENTUM then !okNonNeg (f 8) || !okFraction (f 12) || !okNonNeg (f 16)
   else if o = oADAMW then !okNonNeg (f 8) || !okFraction (f 12) || !okFraction (f 16) || !okPositive (f 20) || !okNonNeg (f 24)
   else if o = oKFAC then !okFraction (f 8) || !okPositive (f 12) || f 16 = 0 || leField st 20 1 = 0 || 16 < leField st 20 1
   else if o = oQUANT then !(([eE4M3, eB4, eT2] : List Nat).contains (leField st 8 1))
   else if o = oLOWRANK then !(([4, 8, 16, 32] : List Nat).contains (leField st 8 1))
   else if o = oTOPK then
     leField st 8 2 < 2 || 256 < leField st 8 2 || leField st 10 1 = 0 || 8 < leField st 10 1 || leField st 8 2 < leField st 10 1 ||
     leField st 11 1 = 0 || 16 < leField st 11 1 || leField st 12 2 = 0
   else if o = oPROGRAM then
     leField st 1 1 != 0 || leField st 12 4 != 0 ||
     (match d.progImage (f 8) with
      | [] => false
      | im => badConsts st im)
   else false)

/-- A program or chain that a step names is not loaded. -/
def Dev.missingRef (d : Dev) (st : List Byte) : Bool :=
  let o := leField st 0 1
  let id := leField st 8 4
  if o = oPROGRAM then d.progImage id = []
  else if o = oEXPERT || o = oSOURCE then (d.chainSlotOf id).isNone
  else false

/-- The bytes a chain's state region needs: a chain without state has none (R427). -/
def Dev.stateNeed (d : Dev) (desc : List Byte) : Nat := if d.stateful desc then 128 + 2 * d.slotBytes desc else 0

/-- The bytes a chain's stash needs: chains that clip or write state have one (R427, R435, R446). -/
def Dev.stashNeed (d : Dev) (desc : List Byte) : Nat :=
  if d.stateful desc || chainHas desc oCLIP && chainRole desc = some .gradient then homedElems desc * 4 + chHomed desc * 16 else 0

/-- The regions of a chain: state and stash, as address and size. -/
def chainRegions (desc : List Byte) : List (Nat × Nat) :=
  [(chState desc, chStateBytes desc), (chStash desc, chStashBytes desc)].filter (fun r => r.2 != 0)

/-- Two ranges meet. -/
def meets (a b : Nat × Nat) : Bool := a.1 < b.1 + b.2 && b.1 < a.1 + a.2

/-- The regions of the loaded chains but one. -/
def Dev.otherRegions (d : Dev) (slot : Nat) : List (Nat × Nat) :=
  (d.chains.filter (fun e => e.1 != slot && e.2.desc != [])).flatMap (fun e => chainRegions e.2.desc)

/-- The page checks that regions need (R503). -/
def pagesNeeded (rs : List (Nat × Nat)) : Nat := (rs.map (fun r => (pagesOf r.1 r.2).length)).sum

/-- Ranges outside the chain's own regions that a step reads. -/
def stepReads (desc : List Byte) (i : Nat) : List (Nat × Nat) :=
  let st := chainStep desc i
  let o := leField st 0 1
  if o = oLOWRANK then [(leField st 16 8, chElements desc / 4096 * 128 * leField st 8 1)]
  else if o = oTOPK then
    [(leField st 16 8, leField st 8 2 * 2 * (leField st 11 1 * eChunk eBF16)), (leField st 24 8, 2 * leField st 8 2)]
  else []

/-- A LOAD's addresses break R423, R386, R500 or R503. -/
def Dev.badAddrs (d : Dev) (slot : Nat) (desc : List Byte) : Bool :=
  let rs := chainRegions desc
  let others := d.otherRegions slot
  rs.any (fun r => !d.generalHbm r.1 r.2) || rs.any (fun r => others.any (meets r)) ||
  ((List.range (chainN desc)).flatMap (stepReads desc)).any (fun r => !d.generalHbm r.1 r.2) ||
  33554432 < pagesNeeded (rs ++ others)

/-- The code of R423 for a descriptor, 0 where it is accepted; of several the lowest. -/
def Dev.loadError (d : Dev) (slot addr : Nat) (desc : List Byte) : Nat :=
  let sts := (List.range (chainN desc)).map (chainStep desc)
  if badHeader desc || addr % 64 != 0 then 1
  else if badSteps desc then 2
  else if sts.any d.badParams then 3
  else if chStateBytes desc < d.stateNeed desc || chStashBytes desc < d.stashNeed desc then 4
  else if d.chains.any (fun e => e.1 != slot && e.2.desc != [] && chainIdOf e.2.desc = chainIdOf desc) then 5
  else if sts.any d.missingRef then 6
  else if d.badAddrs slot desc then 7
  else 0

/-! ## CHAIN_CMD (R423, R424, R429, R454, R503, R622) -/

/-- Chunks that wait in a chain's stash. -/
def ChainSlot.stashed (c : ChainSlot) : Nat := (c.stash.filter (fun z => z.wait != .block)).length

/-- CHAIN_USERS: contexts in COLLECT that name the chain, and chunks in its stash (R454). -/
def Dev.chainUsers (d : Dev) (slot : Nat) : Nat :=
  let c := d.chain slot
  if c.desc = [] then 0
  else (d.ctxs.filter (fun e => e.2.state = .collect && e.2.rc.fused = chainIdOf c.desc)).length + c.stashed

/-- STASHED_CHUNKS (R454). -/
def Dev.stashedChunks (d : Dev) : Nat := (d.chains.map (fun e => e.2.stashed)).sum

/-- Page checks for a chain's regions start (R503). (DEDUCED, log entry 18). -/
def Dev.startPages (d : Dev) (desc : List Byte) : Dev :=
  let ps := (chainRegions desc).flatMap (fun r => pagesOf r.1 r.2)
  { d with pageChecks := ps.foldl (fun t p => tset t p (pageResidue d.mem p)) d.pageChecks }

/-- Page checks of regions that no chain holds any more end. -/
def Dev.endPages (d : Dev) (desc : List Byte) : Dev :=
  let rs := chainRegions desc
  { d with pageChecks := d.pageChecks.filter (fun e => !rs.any (fun r => meets r (e.1, 4096))) }

/-- A chain slot becomes EMPTY. -/
def Dev.emptyChain (d : Dev) (slot : Nat) : Dev :=
  let c := d.chain slot
  let d1 := d.endPages c.desc
  d1.setChain slot { c with desc := [], stash := [], written := [], finished := [], served := none }

/-- At a LOAD the headers in memory are kept, with WRITING made ROLLED_BACK; COMMITTED_STEP is the higher committed TAG
(R622). -/
def Dev.adoptHeads (d : Dev) (slot : Nat) : Dev :=
  let desc := (d.chain slot).desc
  if !d.stateful desc then d
  else
    let d1 := (List.range 2).foldl (fun a i =>
      let h := a.slotHead desc i
      if h.2 = stWRITING then a.setSlotHead desc i h.1 stROLLED else a) d
    let tags := ((List.range 2).map (d1.slotHead desc)).filter (fun h => h.2 = stCOMMITTED)
    let top := (tags.map (·.1)).foldl max 0
    d1.setChain slot { d1.chain slot with committed := top }

/-- LOAD (R423). (DEDUCED, log entry 98). -/
def Dev.chainLoad (d : Dev) (slot : Nat) : Option Status × Dev :=
  if d.chainUsers slot != 0 then (some .stateConflict, d)
  else
    let c := d.chain slot
    let refuse := fun (a : Dev) (code : Nat) =>
      let b := a.emptyChain slot
      (some Status.invalidValue, b.setChain slot { b.chain slot with error := code })
    if !d.generalRange c.addr 64 then refuse d 7
    else
      let (hd, d1) := d.readMem c.addr 64 (d.freeCore 0)
      match hd with
      | none => refuse d1 7
      | some h =>
        let n := min 8 (chainN h)
        if !badHeader h && !d1.generalRange c.addr (64 + 64 * n) then refuse d1 7
        else
          let (steps, d1) := if badHeader h then (some [], d1) else d1.readMem (c.addr + 64) (64 * n) (d1.freeCore 0)
          match steps with
          | none => refuse d1 7
          | some more =>
            let desc := h ++ more
            let code := d1.loadError slot c.addr desc
            if code != 0 then refuse d1 code
            else
              let d2 := d1.emptyChain slot
              (none, ((d2.setChain slot { d2.chain slot with desc := desc, error := 0 }).startPages desc).adoptHeads slot)

/-- UNLOAD (R424). -/
def Dev.chainUnload (d : Dev) (slot : Nat) : Option Status × Dev :=
  let c := d.chain slot
  let id := chainIdOf c.desc
  let named := c.desc != [] && d.chains.any (fun e => e.1 != slot && e.2.desc != [] && (List.range (chainN e.2.desc)).any (fun i =>
    let st := chainStep e.2.desc i
    (leField st 0 1 = oEXPERT || leField st 0 1 = oSOURCE) && leField st 8 4 = id))
  if d.chainUsers slot != 0 || named then (some .stateConflict, d) else (none, d.emptyChain slot)

/-- The identity as 64 × 64 BF16 bytes. -/
def identity64 : List Byte := bytes16 ((List.range 4096).map (fun k => if k % 65 = 0 then 0x3F80 else 0))

/-- INIT (R429). A chain without state, or an empty slot, has nothing to initialise in memory. -/
def Dev.chainInit (d : Dev) (slot : Nat) : Option Status × Dev :=
  let c := d.chain slot
  let desc := c.desc
  if d.chainUsers slot != 0 then (some .stateConflict, d)
  else
    let s := c.initStep
    let d1 := d.setChain slot { c with committed := s, written := [] }
    if !d.stateful desc then (none, d1)
    else
      let k := s % 2
      let d2 := (d1.setSlotHead desc k s stCOMMITTED).setSlotHead desc (1 - k) 0 stEMPTY
      let d3 := d2.writeMem (d2.scalarAddr desc k) (leBytes 4 one32 ++ leBytes 4 one32)
      let blocks := (homedElems desc + 4095) / 4096
      let ks := (List.range (chainN desc)).filter (fun i => stepOp desc i = oKFAC)
      let d4 := (List.range blocks).foldl (fun a b => ks.foldl (fun x i =>
        x.writeMem (x.kfacAddr desc k i b + 32768) (identity64 ++ identity64)) a) d3
      (none, d4.startPages desc)

/-! ## STEP_CMD (R449) -/

/-- A loaded chain's slot of a step is COMMITTED. (DEDUCED, log entry 99). -/
def Dev.stepCommitted (d : Dev) (s : Nat) : Bool :=
  d.chains.any (fun e => e.2.desc != [] && d.stateful e.2.desc &&
    (List.range 2).any (fun i => d.slotHead e.2.desc i = (s, stCOMMITTED)))

/-- ABORT s (R449): contexts of step s or later that name a chain with state fail, their stash is discarded, NA of
parity s is reset, and every slot of s that is not COMMITTED is rolled back. A COMMIT heel that waits for what failed fails with it
(R448). -/
def Dev.stepAbort (d : Dev) (s : Nat) : Option Status × Dev :=
  if d.stepCommitted s then (some .stateConflict, d)
  else
    let ns := (d.ctxs.filter (fun e => e.2.state = .collect && !e.2.rc.heel && e.2.record.isSome && s ≤ e.2.rc.step &&
      e.2.rc.fused != 0 && d.stateful (d.chainDesc e.2.rc.fused))).map (·.1)
    let d1 := ns.foldl (fun a n => a.failLast n 12 0xFFFF) d
    let d2 := (d1.chains.map (·.1)).foldl (fun a i =>
      if a.stateful (a.chain i).desc then a.dropStashed i (fun z => z.prod.isNone && s ≤ z.step) else a) d1
    let hs := (d2.ctxs.filter (fun e => e.2.state = .collect && e.2.rc.heel && e.2.rc.kind = 1 && s ≤ e.2.rc.step)).map (·.1)
    let d2 := hs.foldl (fun a n => if a.stepFails.contains (a.ctx n).rc.step then a.tryPrepare n else a) d2
    let d3 := { d2 with norms := d2.norms.filter (fun e => e.1 % 2 != s % 2), stepFails := d2.stepFails.filter (· < s) }
    (none, d3.moveSlots s [stWRITING, stPREPARED] stROLLED)

/-- COMMIT s (R449). -/
def Dev.stepCommit (d : Dev) (s : Nat) : Option Status × Dev :=
  if d.stepCommitted s then (some .stateConflict, d) else (none, d.commitStep s)

/-- ROLLBACK s (R449): a failure of the step is over, so the step can run again. -/
def Dev.stepRollback (d : Dev) (s : Nat) : Option Status × Dev :=
  if d.stepCommitted s then (some .stateConflict, d)
  else
    let d1 := d.moveSlots s [stWRITING, stPREPARED] stROLLED
    (none, { d1 with stepFails := d1.stepFails.filter (· != s) })

/-- STEP of a STEP_CMD value, most significant byte first (R454). -/
def stepOfCmd (v : List Byte) : Nat := beNat (slice v 1 6)

/-- The act of a STEP_CMD value; none for a value that R454 does not give. (DEDUCED, log entry 99). -/
def Dev.stepCmd (d : Dev) (v : List Byte) : Option Status × Dev :=
  let s := stepOfCmd v
  if v.length != 8 then (some .badLength, d)
  else if beNat (slice v 7 1) != 0 then (some .invalidValue, d)
  else
    match beNat (slice v 0 1) with
    | 1 => d.stepAbort s
    | 2 => d.stepCommit s
    | 3 => d.stepRollback s
    | _ => (some .invalidValue, d)

end Sys2Proof.Machine
end

