-- ==== Sys2Proof/Machine/Crypto.lean ====
section
/-! DEFINITION. SHA-256, and the verification of RSASSA-PSS signatures with RSA-3072 (R62, R585, R588, R591). The spec
names both algorithms; their steps are those of FIPS 180-4 and RFC 8017. -/

namespace Sys2Proof.Machine

/-! ## SHA-256 -/

/-- A word's rotation right. -/
def rotr (x n : Nat) : Nat := (x >>> n) ||| ((x <<< (32 - n)) % 2 ^ 32)

/-- The primes below 312: FIPS 180-4 takes its constants from the first 64. -/
def shaPrimes : List Nat :=
  (List.range 312).filter (fun n => 2 ≤ n && [2, 3, 5, 7, 11, 13, 17].all (fun d => n = d || n % d != 0))

/-- The largest number with at most `fuel` bits whose `k`-th power is at most `n`, found from its top bit down. -/
def rootFloor (k n fuel : Nat) (r : Nat := 0) : Nat :=
  match fuel with
  | 0 => r
  | f + 1 => rootFloor k n f (if (r + 2 ^ f) ^ k ≤ n then r + 2 ^ f else r)

/-- The first 32 bits of the fraction of a prime's `k`-th root. -/
def rootFraction (k p : Nat) : Nat := rootFloor k (p * 2 ^ (32 * k)) 37 % 2 ^ 32

/-- The round constants: fractions of cube roots. -/
def shaK : List Nat := shaPrimes.map (rootFraction 3)

/-- The initial hash value: fractions of square roots. -/
def shaH : List Nat := (shaPrimes.take 8).map (rootFraction 2)

/-- The message schedule, latest word first, for as many words as the fuel says. -/
def shaSchedule (w : List Nat) (fuel : Nat) : List Nat :=
  match fuel with
  | 0 => w
  | f + 1 =>
    let a := w.getD 14 0
    let b := w.getD 1 0
    let s0 := rotr a 7 ^^^ rotr a 18 ^^^ (a >>> 3)
    let s1 := rotr b 17 ^^^ rotr b 19 ^^^ (b >>> 10)
    shaSchedule ((w.getD 15 0 + s0 + w.getD 6 0 + s1) % 2 ^ 32 :: w) f

/-- The eight working variables. -/
structure Sha where
  a : Nat
  b : Nat
  c : Nat
  d : Nat
  e : Nat
  f : Nat
  g : Nat
  h : Nat
  deriving DecidableEq, Repr

/-- One round. -/
def Sha.round (s : Sha) (kw : Nat × Nat) : Sha :=
  let s1 := rotr s.e 6 ^^^ rotr s.e 11 ^^^ rotr s.e 25
  let ch := (s.e &&& s.f) ^^^ ((s.e ^^^ 0xFFFFFFFF) &&& s.g)
  let t1 := s.h + s1 + ch + kw.1 + kw.2
  let s0 := rotr s.a 2 ^^^ rotr s.a 13 ^^^ rotr s.a 22
  let maj := (s.a &&& s.b) ^^^ (s.a &&& s.c) ^^^ (s.b &&& s.c)
  ⟨(t1 + s0 + maj) % 2 ^ 32, s.a, s.b, s.c, (s.d + t1) % 2 ^ 32, s.e, s.f, s.g⟩

/-- Big-endian words of a byte string, at most `fuel`. -/
def beWords (bs : List Byte) (fuel : Nat) : List Nat :=
  match fuel, bs with
  | 0, _ => []
  | _, [] => []
  | f + 1, bs => beNat (bs.take 4) :: beWords (bs.drop 4) f

/-- One 64-byte block. -/
def shaBlock (h : List Nat) (block : List Byte) : List Nat :=
  let w := (shaSchedule (beWords block 16).reverse 48).reverse
  let g := fun i => h.getD i 0
  let r := (shaK.zip w).foldl Sha.round ⟨g 0, g 1, g 2, g 3, g 4, g 5, g 6, g 7⟩
  (h.zip [r.a, r.b, r.c, r.d, r.e, r.f, r.g, r.h]).map (fun z => (z.1 + z.2) % 2 ^ 32)

/-- The blocks of a padded message, at most `fuel`. -/
def shaBlocks (h : List Nat) (bs : List Byte) (fuel : Nat) : List Nat :=
  match fuel, bs with
  | 0, _ => h
  | _, [] => h
  | f + 1, bs => shaBlocks (shaBlock h (bs.take 64)) (bs.drop 64) f

/-- SHA-256 of a byte string. (PRESUMED, log entry 103). -/
def sha256 (bs : List Byte) : List Byte :=
  let n := bs.length
  let m := bs ++ [0x80] ++ List.replicate ((119 - n % 64) % 64) 0 ++ beBytes 8 (8 * n)
  (shaBlocks shaH m (n / 64 + 2)).flatMap (beBytes 4)

/-! ## RSASSA-PSS (R588) -/

/-- A power modulo a number, by squaring, for exponents below 2^fuel. -/
def modPow (b e n : Nat) (fuel : Nat) : Nat :=
  match fuel with
  | 0 => 1 % n
  | f + 1 =>
    let h := modPow (b * b % n) (e / 2) n f
    if e % 2 = 1 then h * b % n else h

/-- MGF1 with SHA-256: `n` bytes of mask. -/
def mgf1 (seed : List Byte) (n : Nat) : List Byte :=
  ((List.range ((n + 31) / 32)).flatMap (fun i => sha256 (seed ++ beBytes 4 i))).take n

/-- Whether a 384-byte signature of a message verifies under a 3072-bit modulus with exponent 65,537: RSASSA-PSS,
SHA-256, MGF1 with SHA-256, a salt of 32 bytes. (PRESUMED, log entry 103). -/
def pssVerify (modulus : Nat) (msg sig : List Byte) : Bool :=
  let s := beNat sig
  if modulus < 2 ^ 3071 || sig.length != 384 || modulus ≤ s then false
  else
    let em := beBytes 384 (modPow s 65537 modulus 17)
    let masked := em.take 351
    let h := slice em 351 32
    let db0 := (masked.zip (mgf1 h 351)).map (fun z => z.1 ^^^ z.2)
    let db := (db0.take 1).map (fun b => b &&& 0x7F) ++ db0.drop 1
    let salt := db.drop 319
    (em.drop 383 = [0xBC]) && (em.headD 0).toNat < 0x80 && db.take 319 = List.replicate 318 0 ++ [1] &&
    sha256 (List.replicate 8 0 ++ sha256 msg ++ salt) = h

/-- The signature of a message by a 3072-bit modulus and its private exponent, with a 32-byte salt: RSASSA-PSS under the same
parameters. (PRESUMED, log entry 103). -/
def pssSign (modulus priv : Nat) (msg salt : List Byte) : List Byte :=
  let h := sha256 (List.replicate 8 0 ++ sha256 msg ++ salt)
  let db := List.replicate 318 0 ++ [1] ++ salt
  let masked := (db.zip (mgf1 h 351)).map (fun z => z.1 ^^^ z.2)
  let em := (masked.take 1).map (fun b => b &&& 0x7F) ++ masked.drop 1 ++ h ++ [0xBC]
  beBytes 384 (modPow (beNat em) priv modulus 3072)

end Sys2Proof.Machine
end

