-- ==== Sys2Proof/Machine/Otp.lean ====
section
/-! DEFINITION. One-time storage, owner keys, the firmware store, attestation and the test port (R575 to R579,
R585 to R597). -/

namespace Sys2Proof.Machine

/-! ## OTP words and generations (R575 to R579) -/

/-- A word of the OTP array, by offset / 8. -/
def Dev.otpWord (d : Dev) (w : Nat) : Nat := tgetD d.otp w 0

/-- Burn bits of a word: a bit never returns to 0. -/
def Dev.burnBits (d : Dev) (w v : Nat) : Dev := { d with otp := tset d.otp w (d.otpWord w ||| v) }

/-- Bytes of the array. -/
def Dev.otpBytes (d : Dev) (off n : Nat) : List Byte := (List.range (n / 8)).flatMap (fun i => leBytes 8 (d.otpWord (off / 8 + i)))

/-- Offset of a profile generation. -/
def profileOff (p g : Nat) : Nat := 0x8000 + (4 * p + g) * 0x4000

/-- Offset of an owner key record. -/
def keyOff (k g : Nat) : Nat := 0x4040 + (3 * k + g) * 64

/-- The state of a generation: 0 UNUSED, 1 SEALED, 2 SPENT; `spent` is the place of its SPENT byte (R577). It is read from
the array as it stands. (DEDUCED, log entry 117). -/
def genState (bs : List Byte) (spent : Nat) : Nat :=
  if bs.all (· = 0) then 0
  else
    let n := bs.length - 8
    let body := splice (bs.take n) spent [0]
    if bs.getD spent 0 = 0 && leNat (slice bs n 4) = crc32c body && leNat (slice bs (n + 4) 4) = 0x5EA1ED00 then 1 else 2

/-- The seal word of a generation (R577). -/
def sealWord (body : List Byte) : Nat := 0x5EA1ED00 * 2 ^ 32 + crc32c body

/-- The states of a profile's generations. -/
def Dev.profileGens (d : Dev) (p : Nat) : List Nat := (List.range 4).map (fun g => genState (d.otpBytes (profileOff p g) 0x4000) 16)

/-- The states of a key slot's generations. -/
def Dev.keyGens (d : Dev) (k : Nat) : List Nat := (List.range 3).map (fun g => genState (d.otpBytes (keyOff k g) 64) 32)

/-- The active generation: the highest SEALED one (R579). -/
def activeGen (gs : List Nat) : Option Nat := (List.range gs.length).reverse.find? (fun g => gs.getD g 0 = 1)

/-- The next generation to burn: the lowest UNUSED one above every generation that is not UNUSED (R579). -/
def nextGen (gs : List Nat) : Option Nat := (List.range gs.length).find? (fun g => (gs.drop g).all (· = 0))

/-- No UNUSED generation is left (R579). -/
def frozen (gs : List Nat) : Bool := gs.all (· != 0)

/-! ## Burns (R576) -/

/-- The words of a generation to burn, in ascending offset, zero words skipped, the seal last (R576, R577). -/
def genWords (off : Nat) (body : List Byte) : List (Nat × Nat) :=
  let ws := (List.range (body.length / 8)).map (fun i => (off / 8 + i, leNat (slice body (8 * i) 8)))
  (ws ++ [(off / 8 + body.length / 8, sealWord body)]).filter (fun z => z.2 != 0)

/-- A burn begins in the next tick. (DEDUCED, log entry 116). -/
def Dev.startBurn (d : Dev) (k : BurnKind) (ws : List (Nat × Nat)) : Dev :=
  if ws = [] then d else { d with burn := some ⟨k, ws, d.tick + 1⟩, burnState := 1 }

/-- What the end of a burn brings: a new key generation discards the slot's stored modulus (R587). -/
def Dev.burned (d : Dev) (k : BurnKind) : Dev :=
  match k with
  | .key 0 _ => { d with fw := { d.fw with pubkey0 := [] } }
  | .key _ _ => { d with fw := { d.fw with pubkey1 := [] } }
  | .profile _ _ | .rollback | .spent => d

/-- The word under the burner is programmed, and the burn goes on or ends. A warm reset that waits for the word abandons
the rest (R621). -/
def Dev.burnStep (d : Dev) (b : Burn) : Dev :=
  match b.words with
  | [] => { d with burn := none }
  | (w, v) :: rest =>
    let d1 := d.burnBits w v
    if rest = [] then ({ d1 with burn := none, burnState := if b.kind = BurnKind.spent then d.burnState else 2 }).burned b.kind
    else if d.power.resetPending.any (fun r => r.1 = some .warm && r.2 ≤ d.tick) then { d1 with burn := none, burnState := 3 }
    else { d1 with burn := some { b with words := rest, start := d.tick } }

/-- A word cut short or failing its verify keeps some of its new bits. -/
def Dev.burnPart (d : Dev) (b : Burn) : Dev :=
  match b.words with
  | [] => { d with burn := none, burnState := 3 }
  | (w, v) :: _ => { (d.burnBits w (v &&& (Config.freeWord d.draws).toNat)).drew with burn := none, burnState := 3 }

/-- OTP_WORD_BURNED (R576): 18,000 ticks after it began. (DEDUCED, log entry 116). -/
def execOtpWordBurned (ok : Bool) (s : State) : Host.Outcome State Fault Refusal :=
  run s fun d =>
    match d.burn with
    | none => d
    | some b => if d.tick < b.start + 18000 then d else if ok then d.burnStep b else d.burnPart b

/-- The SPENT words that a boot burns first (R578). -/
def Dev.spentWords (d : Dev) : List (Nat × Nat) :=
  let keys := (List.range 2).flatMap (fun k => (List.range 3).filterMap (fun g =>
    let bs := d.otpBytes (keyOff k g) 64
    if genState bs 32 = 2 && bs.getD 32 0 = 0 then some (keyOff k g / 8 + 4, 1) else none))
  let profs := (List.range 4).flatMap (fun p => (List.range 4).filterMap (fun g =>
    let bs := d.otpBytes (profileOff p g) 0x4000
    if genState bs 16 = 2 && bs.getD 16 0 = 0 then some (profileOff p g / 8 + 2, 1) else none))
  keys ++ profs

/-- The SPENT burns of a boot, which begin 2,500 ticks after the reset, where there are any (R578, R620). BURN_STATE keeps
the outcome of the burn that a reset interrupted (R621). -/
def Dev.burnSpent (d : Dev) : Dev :=
  let ws := d.spentWords
  if ws = [] then d else { d with burn := some ⟨.spent, ws, d.tick + 2500⟩ }

/-! ## Profiles (R580 to R582) -/

/-- A profile generation's bytes before its seal (R580). -/
def profileBody (image : List Byte) (layout compat tick : Nat) : List Byte :=
  padTo 0x3FF8 (leBytes 4 image.length ++ leBytes 2 layout ++ leBytes 2 compat ++ leBytes 8 tick ++ List.replicate 8 0 ++ image)

/-- The image of a profile's active generation, and the generation; empty where there is none. -/
def Dev.profileImage (d : Dev) (p : Nat) : List Byte :=
  match activeGen (d.profileGens p) with
  | none => []
  | some g =>
    let bs := d.otpBytes (profileOff p g) 0x4000
    slice bs 24 (min 16352 (leNat (bs.take 4)))

/-! ## Owner keys (R585 to R588) -/

/-- KEY_HASH of a slot's active generation; zeros where there is none. -/
def Dev.keyHash (d : Dev) (k : Nat) : List Byte :=
  match activeGen (d.keyGens k) with
  | none => List.replicate 32 0
  | some g => d.otpBytes (keyOff k g) 32

/-- The stored modulus of a slot. -/
def FwStore.pubkey (f : FwStore) (k : Nat) : List Byte := if k = 0 then f.pubkey0 else f.pubkey1

/-- Some generation of an owner slot is SEALED (R586). -/
def Dev.claimed (d : Dev) : Bool := (d.keyGens 0).contains 1 || (d.keyGens 1).contains 1

/-- KEY_BURN is refused (R579, R586). -/
def Dev.refuseKeyBurn (d : Dev) (k : Nat) : Option Status :=
  if d.burn.isSome || frozen (d.keyGens k) then some .stateConflict else none

/-- KEY_BURN is written: the next generation of the slot begins to burn. -/
def Dev.writeKeyBurn (d : Dev) (k : Nat) (h : List Byte) : Dev :=
  match nextGen (d.keyGens k) with
  | none => d
  | some g => d.startBurn (.key k g) (genWords (keyOff k g) (padTo 56 h))

/-- OWNER_PUBKEY is refused (R587). -/
def Dev.refusePubkey (d : Dev) (k : Nat) (v : List Byte) : Option Status :=
  if (activeGen (d.keyGens k)).isSome && sha256 v = d.keyHash k then none else some .invalidValue

/-- OWNER_PUBKEY is written. -/
def Dev.writePubkey (d : Dev) (k : Nat) (v : List Byte) : Dev :=
  { d with fw := if k = 0 then { d.fw with pubkey0 := v } else { d.fw with pubkey1 := v } }

/-- The moduli that may verify an ANSWER of a scope: a FROZEN slot takes no part (R588). -/
def Dev.scopeKeys (d : Dev) (sc : Scope) : List Nat :=
  match sc with
  | .owner => ((List.range 2).filter (fun k =>
      (activeGen (d.keyGens k)).isSome && !frozen (d.keyGens k) && d.keyHash k != List.replicate 32 0xFF && (d.fw.pubkey k).length = 384 &&
        sha256 (d.fw.pubkey k) = d.keyHash k)).map (fun k => beNat (d.fw.pubkey k))
  | .vendor => if sha256 d.mfg.vendorModulus = d.mfg.vendorKeyHash then [beNat d.mfg.vendorModulus] else []

/-- The scope's code (R61). -/
def Scope.code (s : Scope) : Nat :=
  match s with
  | .owner => 1
  | .vendor => 2

/-- Whether a signature verifies for a scope and nonce (R62, R588). -/
def Dev.answerVerifies (d : Dev) (sc : Scope) (nonce : BitVec 256) (sig : List Byte) : Bool :=
  let m := beBytes 32 nonce.toNat ++ beBytes 16 d.mfg.serial ++ beBytes 1 sc.code
  (d.scopeKeys sc).any (fun n => pssVerify n m sig)

/-! ## Firmware (R590 to R594) -/

/-- Write bytes into a slot at an offset: what is not written stays (R592). -/
def FwStore.write (f : FwStore) (i off : Nat) (v : List Byte) : FwStore :=
  let b := f.slot i
  let w := splice (padTo (max b.length off) b) off v
  if f.factory = some i then { f with patches := (off, v) :: f.patches, verified := false }
  else if i = 0 then { f with slotA := w, verified := false } else { f with slotB := w, verified := false }

/-- Erase a slot: what was installed at manufacture is gone from it too. -/
def FwStore.erase (f : FwStore) (i : Nat) : FwStore :=
  let g := if i = 0 then { f with slotA := [] } else { f with slotB := [] }
  if f.factory = some i then { g with factory := none, patches := [], verified := false } else { g with verified := false }

/-- The slot that is not running. -/
def FwStore.idle (f : FwStore) : Nat := 1 - f.running

/-- SECURITY_VERSION of a header. -/
def fwSecurity (h : List Byte) : Nat := leNat (slice h 10 2)

/-- VERSION of a header, without the zeros that fill it. -/
def fwVersion (h : List Byte) : List Byte := (slice h 12 32).takeWhile (· != 0)

/-- Set bits of a word from bit 0 up without a gap. -/
def gapFree (v fuel : Nat) : Nat :=
  match fuel with
  | 0 => 0
  | f + 1 => if v % 2 = 1 then 1 + gapFree (v / 2) f else 0

/-- ROLLBACK_COUNTER (R593). -/
def Dev.rollback (d : Dev) : Nat := gapFree (d.otpWord (0x4000 / 8)) 64

/-- Bytes of a slot that can be read: those written, or all 8 MiB of the slot made at manufacture (R590). -/
def FwStore.size (f : FwStore) (i : Nat) : Nat := if f.factory = some i then 8388608 else (f.slot i).length

/-- The image's own checks (R591): MAGIC, the signer's key, the signature and the body's hash. -/
def Dev.imageHolds (d : Dev) (i : Nat) : Bool :=
  let b := fun off n => d.fw.bytes i off n
  let len := leNat (b 4 4)
  leNat (b 0 4) = 0x4F564657 && 1 ≤ len && len ≤ 8387712 && 896 + len ≤ d.fw.size i &&
    sha256 (b 128 384) = d.mfg.fwKeyHash && pssVerify (beNat (b 128 384)) (b 0 512) (b 512 384) && sha256 (b 896 len) = b 44 32

/-- A slot's image is valid (R591). Of the image installed at manufacture, while nothing is written over it, the checks of its
own bytes count as met. (DESIGN CHOICE, log entry 10). -/
def Dev.fwValid (d : Dev) (i : Nat) : Bool :=
  (d.fw.factory = some i && d.fw.patches = [] || d.imageHolds i) && (d.rollback = 0 || d.rollback ≤ fwSecurity (d.fw.header i))

/-- FW_STATUS is set. (DEDUCED, log entry 117). -/
def Dev.fwStatus (d : Dev) (v : Nat) : Dev := d.setReg E.FW_STATUS v

/-- The largest slot image: 8 MiB (R590). -/
def fwSlotBytes : Nat := 8388608

/-- FW_DATA is refused (R597). -/
def Dev.refuseFwData (d : Dev) (v : List Byte) : Option Status :=
  if fwSlotBytes < d.reg E.FW_OFFSET + v.length then some .invalidValue else none

/-- FW_DATA is written into the idle slot at FW_OFFSET (R592, R597). -/
def Dev.writeFwData (d : Dev) (v : List Byte) : Dev :=
  let o := d.reg E.FW_OFFSET
  ({ d with fw := d.fw.write d.fw.idle o v }).setReg E.FW_OFFSET (o + v.length)

/-- FW_CMD is refused (R592, R593). (DEDUCED, log entry 118). -/
def Dev.refuseFwCmd (d : Dev) (v : Nat) : Option Status :=
  let f := d.fw
  if v = 0 || 4 < v then some .invalidValue
  else if v = 2 && !f.verified then some .stateConflict
  else if v = 3 && (f.trialSince.isNone || (d.rollback < fwSecurity (f.header f.running) && d.burn.isSome)) then some .stateConflict
  else if v = 4 && f.idle = f.committed && f.trialSince.isSome then some .stateConflict
  else none

/-- The TRIAL mark of the running slot is cleared; one that ACTIVATE has since put on the other slot stays (R592, R594).
(DEDUCED, log entry 117). -/
def FwStore.unmark (f : FwStore) : FwStore :=
  { f with trial := if f.trial = some f.running then none else f.trial, trialSince := none }

/-- VERIFY, ACTIVATE, COMMIT and ERASE (R592, R593). (DEDUCED, log entry 117). -/
def Dev.writeFwCmd (d : Dev) (v : Nat) : Dev :=
  let f := d.fw
  if v = 1 then
    let ok := d.fwValid f.idle
    ({ d with fw := { f with verified := ok } }).fwStatus (if ok then 1 else 2)
  else if v = 2 then ({ d with fw := { f with trial := some f.idle } }).fwStatus 3
  else if v = 3 then
    let d1 := ({ d with fw := { f.unmark with committed := f.running } }).fwStatus 0
    let sv := fwSecurity (f.header f.running)
    if d.rollback < sv then d1.startBurn .rollback [(0x4000 / 8, 2 ^ min 64 sv - 1)] else d1
  else ({ d with fw := f.erase f.idle }).fwStatus 0

/-- TRIAL_EXPIRED (R594): the mark is cleared, and the firmware runs on. (DEDUCED, log entry 117). -/
def execTrialExpired (s : State) : Host.Outcome State Fault Refusal :=
  run s fun d =>
    match d.fw.trialSince with
    | none => d
    | some t =>
      if d.tick < t + d.reg E.FW_TRIAL_TICKS then d
      else ({ d with fw := d.fw.unmark }).fwStatus 4

/-- The boot chooses the slot to run (R594). -/
def Dev.chooseSlot (d : Dev) : Dev :=
  let f := d.fw
  let trialOk : Bool := match f.trial with
    | some i => d.fwValid i
    | none => false
  let other := 1 - f.committed
  if trialOk then
    ({ d with fw := { f with running := f.trial.getD 0, trialSince := some d.tick, verified := false, romOnly := false } }).fwStatus 3
  else if d.fwValid f.committed then
    let d1 := { d with fw := { f with running := f.committed, trialSince := none, verified := false, romOnly := false } }
    d1.fwStatus (if f.trial.isSome then 5 else 0)
  else if d.fwValid other then
    ({ d with fw := { f with running := other, trialSince := none, verified := false, romOnly := false } }).fwStatus 5
  else { d with fw := { f with trialSince := none, verified := false, romOnly := true } }

/-! ## Attestation (R596) -/

/-- Bytes 0 to 255 of a report. -/
def Dev.reportBody (d : Dev) (nonce : List Byte) (profile : Nat) : List Byte :=
  let h := d.fw.header d.fw.running
  let gen := activeGen (d.profileGens profile)
  let phash := match gen with
    | some g => sha256 (splice ((d.otpBytes (profileOff profile g) 0x4000).take 16376) 16 [0])
    | none => List.replicate 32 0
  padTo 256 (nonce ++ beBytes 16 d.mfg.serial ++ [if d.mfg.full then 1 else 2] ++ beBytes 1 d.mfg.stepping ++
    [if d.debugOpen then 1 else 0] ++ beBytes 1 d.rollback ++ beBytes 1 d.fw.running ++
    [if d.fw.trialSince.isSome then 1 else 0] ++ beBytes 2 (fwSecurity h) ++ slice h 44 32 ++ beBytes 1 profile ++
    beBytes 1 (gen.getD 0xFF) ++ phash ++ d.keyHash 0 ++ d.keyHash 1 ++ beBytes 8 d.tick)

/-- The signing engine (R595, R596): RSASSA-PSS under R588's parameters by the identity key, with a salt of its own. -/
def Dev.signed (d : Dev) (body : List Byte) : List Byte :=
  let n := beNat d.mfg.identityModulus
  if n < 2 ^ 3071 then beBytes 384 (Config.freeSignature d.draws).toNat
  else pssSign n d.mfg.identityPrivate body (beBytes 32 (Config.freeSalt d.draws).toNat)

/-- ATTEST_NONCE is written: the report is built and signed (R596). -/
def Dev.attest (d : Dev) (nonce : List Byte) : Dev :=
  let body := d.reportBody nonce (d.reg E.ACTIVE_PROFILE)
  ((d.drew.setBlob E.ATTEST_REPORT (body ++ d.signed body)).count E.ATTESTS)

/-! ## The test port (R589, R652) -/

/-- An instruction stands in the test port: EXTEST drives the package's outputs while it does, and what IDCODE and BYPASS put
between TDI and TDO appears (R589, R652). The boundary register's cells the spec does not list. (DEDUCED, log entry 27). -/
def Dev.tapLoad (d : Dev) (i : TestInstr) : Dev :=
  let d1 := { d with testPort := i }
  let d2 := if (i = .extest) = (d.testPort = .extest) then d1 else d1.emit (.extest d.tick (i = .extest))
  match i with
  | .idcode => d2.emit (.tdo d.tick 32 (Config.idcode ||| 1))
  | .bypass => d2.emit (.tdo d.tick 1 0)
  | .samplePreload | .extest | .other _ => d2

/-- The TX1 leaves reset: EXTEST ends, and acts as BYPASS (R589). (DEDUCED, log entry 27). -/
def Dev.endExtest (d : Dev) : Dev := if d.testPort = .extest then d.tapLoad .bypass else d

/-- TEST_PORT_INSTRUCTION (R589): in FIELD and outside debug access every instruction but the four acts as BYPASS, and EXTEST
takes effect only while the TX1 is held in reset; a TX1 without power ignores all of them (R653). What a further instruction
does once debug is open the spec does not say. (DEDUCED, log entry 27). -/
def execTestPortInstruction (i : TestInstr) (s : State) : Host.Outcome State Fault Refusal :=
  if s.power.off then done s
  else match i with
  | .idcode | .bypass | .samplePreload => run s fun d => d.tapLoad i
  | .extest => run s fun d => d.tapLoad (if d.power.resetLow then .extest else .bypass)
  | .other _ => if s.debugOpen || !s.mfg.field then .fault .debugInstruction else run s fun d => d.tapLoad .bypass

end Sys2Proof.Machine
end

