-- ==== Sys2Proof/Machine/Crossbar.lean ====
section
/-! DEFINITION. The crossbar's cycle: request, grant, accept, transfer (R164 to R174), and expired queue
heads (R219). -/

namespace Sys2Proof.Machine

/-- A queue head's request of one output (R170). -/
structure XReq where
  input : Nat
  output : Nat
  vc : Nat
  slot : Nat
  multi : Bool
  deriving DecidableEq, Repr

/-- Width of a crossbar port, in cells per cycle and direction (R164). -/
def xWidth (x : Nat) : Nat :=
  if x < 128 then 1 else if x < 132 then 16 else if x = 132 then 128 else if x = 133 then 2 else 32

/-! ## Credit of outputs (R140, R165) -/

/-- Dedicated credit a fabric output holds on a VC. -/
def PortSt.dedCredit (x : PortSt) (vc : Nat) : Nat :=
  let v := (x.tx.grant.getD vc 0 + 65536 - x.tx.used.getD vc 0 % 65536) % 65536
  if v ≤ 32768 then v else 0

/-- Shared credit a fabric output holds. -/
def PortSt.sharedCredit (x : PortSt) : Nat := x.dedCredit 12

/-- The unit behind an internal output runs: its C-die for a compute link, the host transport for the host link (R32). -/
def Dev.unitRuns (d : Dev) (o : Nat) : Bool :=
  if o < 132 then d.cdieRuns (o - 128)
  else if o = 133 then !(d.domainOff .host || d.domainGated .host)
  else true

/-- The key of an internal output's credits on a VC. -/
def unitKey (o vc : Nat) : Nat := o * 16 + vc

/-- The credit an output holds for a VC (R140, R165): what the partner grants a fabric output, what room the far STA has for the
bridge (R180), and for another internal output what its unit grants, a free number that is at least 1.
(DEDUCED, log entry 49). -/
def Dev.outCredit (d : Dev) (s o vc : Nat) : Nat :=
  if o < 128 then
    let x := d.port (s * 128 + o)
    if x.state = .up && d.canSend (s * 128 + o) then x.dedCredit vc + (if vc < 8 then x.sharedCredit else 0) else 0
  else if o = 132 then
    let k := d.kennel (1 - s)
    d.staLimit 132 - (k.staHeld 132 vc + (k.waiting.filter (fun w => w.input = 132 && w.cell.vc = vc)).length)
  else Config.unitCredit o vc + 1 - tgetD (d.kennel s).unitUsed (unitKey o vc) 0

/-- A cycle begins: each unit that runs has taken what was moved to it and grants its credits back (R165), and no slot has been
taken as a victim (R187). -/
def Dev.beginCycle (d : Dev) (s : Nat) : Dev :=
  let k := d.kennel s
  d.setKennel s { k with taken := [], unitUsed := k.unitUsed.filter (fun e => !d.unitRuns (e.1 / 16)) }

/-! ## Requests -/

/-- The cell of a slot is not expired at a tick. -/
def Kennel.fresh (k : Kennel) (tick i : Nat) : Bool :=
  match tget k.slots i with
  | some x => (match x.cell with
    | some c => !expiredAt tick c
    | none => false)
  | none => false

/-- Every queue head's requests, by VC, unicast before multicast (R170). -/
def Kennel.requests (k : Kennel) (tick : Nat) : List XReq :=
  let uni := k.queues.filterMap (fun e =>
    match e.2 with
    | i :: _ => if k.fresh tick i then some (XReq.mk (e.1 / 4096) (e.1 / 16 % 256) (e.1 % 16) i false) else none
    | [] => none)
  let mul := k.mqueues.flatMap (fun e =>
    match e.2 with
    | i :: _ => if k.fresh tick i then
        (match tget k.slots i with
         | some x => x.fan.map (fun o => XReq.mk (e.1 / 16) o (e.1 % 16) i true)
         | none => []) else []
    | [] => [])
  uni ++ mul

/-- The position of a port in round-robin order from a pointer. -/
def rrPos (ptr x : Nat) : Nat := (x + 144 - ptr) % 144

/-- The first request in round-robin order of inputs. -/
def firstRR (ptr : Nat) (rs : List XReq) : Option XReq :=
  rs.foldl (fun (b : Option XReq) r =>
    match b with
    | none => some r
    | some q => if rrPos ptr r.input < rrPos ptr q.input then some r else some q) none

/-- The key of a class pointer of an output. -/
def clsKey (o c : Nat) : Nat := o * 8 + c

/-! ## Grants (R170, R171) -/

/-- The weights of R171 in rotation order. -/
def Dev.rotWeights (d : Dev) : List Nat :=
  [d.reg E.WEIGHT_REQ, d.reg E.WEIGHT_RPL, d.reg E.WEIGHT_FWD, d.reg E.WEIGHT_CUP, d.reg E.WEIGHT_CDN]

/-- Pick from a rotation: the class to serve now, moving on past a class served its weight or without a request.
(DEDUCED, log entry 51). -/
def rotPick (has : Nat → Bool) (w : List Nat) (cls served fuel : Nat) : Option (Nat × Nat) :=
  match fuel with
  | 0 => none
  | n + 1 => if has cls && served < w.getD cls 0 then some (cls, served) else rotPick has w ((cls + 1) % 5) 0 n

/-- Grants of one output: CTL first, then the weighted rotation, each within width and credit. `credit` gives what
is left on a VC, and `used` counts the grants made on it. -/
def grantLoop (k : Kennel) (o : Nat) (credit : Nat → Nat) (w : List Nat) (ctl : Nat → Nat) (cls served : Nat)
    (rs got : List XReq) (fuel : Nat) : List XReq :=
  match fuel with
  | 0 => got
  | n + 1 =>
    let open' := rs.filter (fun r => (got.filter (fun g => g.vc = r.vc)).length < credit r.vc)
    let ctls := open'.filter (fun r => r.vc / 2 = 5)
    match firstRR (ctl 5) ctls with
    | some r => grantLoop k o credit w ctl cls served (rs.erase r) (got ++ [r]) n
    | none =>
      match rotPick (fun c => open'.any (fun r => r.vc / 2 = c)) w cls served 6 with
      | none => got
      | some (c, sv) =>
        match firstRR (ctl c) (open'.filter (fun r => r.vc / 2 = c)) with
        | none => got
        | some r => grantLoop k o credit w ctl c (sv + 1) (rs.erase r) (got ++ [r]) n

/-- The grants of one output with `width` left and `acc` accepted so far, each of which has used a credit. -/
def Dev.grants (d : Dev) (s o width : Nat) (acc rs : List XReq) : List XReq :=
  let k := d.kennel s
  let credit := fun vc => d.outCredit s o vc - (acc.filter (fun a => a.output = o && a.vc = vc)).length
  grantLoop k o credit d.rotWeights (fun c => if c = 5 then tgetD k.ctlPtr o 0 else tgetD k.clsPtr (clsKey o c) 0)
    (tgetD k.rotCls o 0) (tgetD k.rotServed o 0) rs [] width

/-! ## Accepts -/

/-- Order grants by output in round-robin order from a pointer. -/
def sortOut (ptr : Nat) (gs : List XReq) : List XReq :=
  sortBy (fun a b => rrPos ptr a.output ≤ rrPos ptr b.output) gs

/-- Accepts of one input: up to its width, a multicast head's several grants using one unit (R170). -/
def acceptLoop (gs : List XReq) (width : Nat) (seen : List Nat) : List XReq :=
  match gs with
  | [] => []
  | g :: r =>
    if g.multi && seen.contains g.slot then g :: acceptLoop r width seen
    else if 0 < width then g :: acceptLoop r (width - 1) (if g.multi then g.slot :: seen else seen)
    else acceptLoop r width seen

/-- Units of width a set of accepts uses. -/
def widthUsed (gs : List XReq) : Nat := ((gs.map (fun g => (g.slot, g.multi))).eraseDups).length

/-! ## One iteration and the pointers -/

/-- The accepts of one iteration, in the order in which their outputs granted them: `acc` are those of the iteration before. -/
def Dev.iterate (d : Dev) (s : Nat) (rs acc : List XReq) : List XReq :=
  let left := rs.filter (fun r => !acc.contains r && (r.multi || !acc.any (fun a => a.slot = r.slot)))
  let outs := (left.map (·.output)).eraseDups
  let gs := outs.flatMap (fun o =>
    d.grants s o (xWidth o - (acc.filter (fun a => a.output = o)).length) acc (left.filter (fun r => r.output = o)))
  let ins := (gs.map (·.input)).eraseDups
  let got := ins.flatMap (fun i =>
    let mine := acc.filter (fun a => a.input = i)
    acceptLoop (sortOut (tgetD (d.kennel s).accPtr i 0) (gs.filter (fun g => g.input = i))) (xWidth i - widthUsed mine) [])
  gs.filter (fun g => got.contains g)

/-- The last of a set of accepts in round-robin order from a pointer. -/
def lastRR (ptr : Nat) (xs : List Nat) : Option Nat :=
  xs.foldl (fun (b : Option Nat) x =>
    match b with
    | none => some x
    | some q => if rrPos ptr q ≤ rrPos ptr x then some x else some q) none

/-- Move one pointer past the last of what was accepted, in round-robin order. -/
def movePtr (t : Tbl Nat) (k : Nat) (xs : List Nat) : Tbl Nat :=
  match lastRR (tgetD t k 0) xs with
  | some x => tset t k ((x + 1) % 144)
  | none => t

/-- Move the pointers past the accepts of iteration 1 (R170). (DEDUCED, log entry 51). -/
def Kennel.movePtrs (k : Kennel) (acc : List XReq) : Kennel :=
  let outs := (acc.map (·.output)).eraseDups
  let ins := (acc.map (·.input)).eraseDups
  let from_ := fun (o c : Nat) => (acc.filter (fun r => r.output = o && r.vc / 2 = c)).map (·.input)
  { k with
    accPtr := ins.foldl (fun t i => movePtr t i ((acc.filter (fun r => r.input = i)).map (·.output))) k.accPtr,
    ctlPtr := outs.foldl (fun t o => movePtr t o (from_ o 5)) k.ctlPtr,
    clsPtr := outs.foldl (fun t o => (List.range 5).foldl (fun u c => movePtr u (clsKey o c) (from_ o c)) t) k.clsPtr }

/-- Move the rotations past the cells served, in the order of their grants (R171). (DEDUCED, log entry 51). -/
def Kennel.moveRot (k : Kennel) (w : List Nat) (acc : List XReq) : Kennel :=
  acc.foldl (fun a r =>
    let c := r.vc / 2
    if c = 5 then a
    else
      let sv := (if tgetD a.rotCls r.output 0 = c then tgetD a.rotServed r.output 0 else 0) + 1
      if w.getD c 0 ≤ sv then { a with rotCls := tset a.rotCls r.output ((c + 1) % 5), rotServed := tset a.rotServed r.output 0 }
      else { a with rotCls := tset a.rotCls r.output c, rotServed := tset a.rotServed r.output sv }) k

/-! ## Transfer (R140, R173, R174, R183) -/

/-- Send a cell on a fabric port with a credit: dedicated first, else shared with SH set (R140).
(DEDUCED, log entry 43). -/
def Dev.sendCredit (d : Dev) (p : Nat) (c : Cell) (slot : Option Nat) : Dev :=
  let x := d.port p
  let ded := 0 < x.dedCredit c.vc
  let i := if ded then c.vc else 12
  let c1 := c.setFld 82 1 (if ded then 0 else 1)
  let d1 := d.setPort p { x with tx := { x.tx with used := bumpAt x.tx.used i 1 } }
  let d2 := d1.updMap (sdieOf p) (fun m => { m with txCells := tset m.txCells p (tgetD m.txCells p 0 + 1) })
  d2.sendNow p c1 slot

/-- A head that transfers in this cycle: its slot, as it was read, and the outputs that accepted it (R174). -/
structure XMove where
  slot : Nat
  held : KSlot
  cell : Cell
  input : Nat
  multi : Bool
  outs : List Nat
  deriving DecidableEq, Repr

/-- Read each head that transfers once, through its slot's ECC (R174, R175). One that does not come back is lost, and its slot
released. -/
def Dev.readHeads (d : Dev) (s : Nat) (acc : List XReq) : List XMove × Dev :=
  ((acc.map (fun r => (r.slot, r.input, r.multi))).eraseDups).foldl (fun (z : List XMove × Dev) q =>
    match z.2.readSlot s q.1 (iniXbar s q.2.1) with
    | (false, a) => (z.1, a.dropSlot s q.1)
    | (true, a) =>
      match tget (a.kennel s).slots q.1 with
      | none => (z.1, a)
      | some x =>
        match x.cell with
        | none => (z.1, a)
        | some c => (z.1 ++ [⟨q.1, x, c, q.2.1, q.2.2, (acc.filter (fun r => r.slot = q.1)).map (·.output)⟩], a)) ([], d)

/-- A copy that goes out on a port whose replay already keeps the first 1024 (R183). -/
def Dev.beyond (d : Dev) (s o : Nat) : Bool := o < 128 && 1024 ≤ (d.port (s * 128 + o)).kept.length

/-- The package link of a crossbar output (R22, R23): lane link, compute link, bridge or host link; a reduction unit has none. -/
def outLink (s o : Nat) : Option Nat :=
  if o < 128 then some (8 + (s * 128 + o) / 32) else if o < 132 then some (4 * s + (o - 128))
  else if o = 132 then some 16 else if o = 133 then some 17 else none

/-- Drive a head's cell to one output. `keep` is the RPY slot that keeps it for a replay. An RPL goes to the host bridge
(R202). A copy is lost with a link that fails past its retries (R23). -/
def Dev.drive (d0 : Dev) (s : Nat) (m : XMove) (o : Nat) (keep : Option Nat) : Dev :=
  let links := (outLink s o).toList
  let d := d0.cross links
  if !d0.arrives links then d
  else if o < 128 then
    let d1 := d.sendCredit (s * 128 + o) m.cell keep
    if m.multi then d1.count (E.MCAST_COPIES (s * 128 + o)) else d1
  else if o = 132 then
    d.holdBack (1 - s) ⟨132, .ports m.multi, m.held.dest.filter (fun q => destSdie q = 1 - s), m.cell⟩
  else
    let k := d.kennel s
    let d1 := (d.setKennel s { k with unitUsed := tset k.unitUsed (unitKey o m.cell.vc) (tgetD k.unitUsed (unitKey o m.cell.vc) 0 + 1) }).emit
      (.internal d.tick (Fin.ofNat 2 s) o m.cell)
    if o = 133 && m.cell.cls = cRPL then d1.bridgeTake m.cell else d1

/-- A head whose every copy is made leaves its input, and its slot is released (R174). -/
def Dev.freeHead (d : Dev) (s : Nat) (m : XMove) : Dev :=
  ((d.setKennel s ((d.kennel s).unqueue m.slot)).leaveInput s m.held).release s (slotPtr s m.slot) m.held.owner

/-- A head's slot after the copies of this cycle: released when COPIES reaches zero, else left with the rest of its fan-out
(R174). A unicast cell that goes beyond the first 1024 of a replay is handed over later in the cycle. -/
def Dev.serveHead (d : Dev) (s : Nat) (m : XMove) : Dev :=
  if m.multi then
    let fan := m.held.fan.filter (fun o => !m.outs.contains o)
    let k := d.kennel s
    if fan = [] then d.freeHead s m
    else d.setKennel s { k with slots := tset k.slots m.slot { m.held with fan := fan, copies := fan.length } }
  else if m.outs.any (d.beyond s) then d
  else d.freeHead s m

/-- A unicast cell's slot passes to the replay side of its output (R183). -/
def Dev.handHead (d : Dev) (s : Nat) (m : XMove) (o : Nat) : Dev :=
  let d1 := (d.setKennel s ((d.kennel s).unqueue m.slot)).leaveInput s m.held
  match d1.handover s (slotPtr s m.slot) m.held.owner (256 + o) .rpy with
  | (true, d2) => d2.drive s m o (some m.slot)
  | (false, d2) => (d2.release s (slotPtr s m.slot) m.held.owner).drive s m o none

/-- A copy of a multicast cell takes an RPY slot of its own (R183). -/
def Dev.copyHead (d : Dev) (s : Nat) (m : XMove) (o : Nat) : Dev :=
  match d.allocate s .rpy (256 + o) m.cell.sl with
  | (some j, d1) =>
    let k := d1.kennel s
    match tget k.slots j with
    | some y => (d1.setKennel s { k with slots := tset k.slots j { y with cell := some m.cell } }).drive s m o (some j)
    | none => d1
  | (none, d1) => d1.drive s m o none

/-- Where an allocation stands in a cycle's order: SL, highest first, then crossbar port, lowest first (R187). -/
def allocOrder (sl x : Nat) : Nat := (3 - sl) * 256 + x

/-- The allocations of a cycle in their order (R187): copies for the replay, given in theirs, and the waiting cells of internal
inputs that are not stopped. -/
def Dev.allocations (d : Dev) (s : Nat) (copies : List (XMove × Nat)) (stopped : List WaitCell) (fuel : Nat) : Dev :=
  match fuel with
  | 0 => d
  | n + 1 =>
    let serve := fun (w : WaitCell) =>
      match d.place s w with
      | (true, d1) =>
        let k := d1.kennel s
        (d1.setKennel s { k with waiting := k.waiting.erase w }).allocations s copies stopped n
      | (false, d1) => d1.allocations s copies (w :: stopped) n
    match copies, nextWaiting (d.kennel s).waiting stopped with
    | [], none => d
    | [], some w => serve w
    | q :: r, none => (d.copyHead s q.1 q.2).allocations s r stopped n
    | q :: r, some w =>
      if allocOrder q.1.cell.sl q.2 ≤ allocOrder w.cell.sl w.input then (d.copyHead s q.1 q.2).allocations s r stopped n
      else serve w

/-- The transfers of a cycle, in the order in which the kennel acts on them (R187): releases, handovers, then allocations. -/
def Dev.transfers (d : Dev) (s : Nat) (acc : List XReq) : Dev :=
  let (ms, d1) := d.readHeads s acc
  let far := ms.flatMap (fun m => (m.outs.filter (d1.beyond s)).map (fun o => (m, o)))
  let d2 := ms.foldl (fun a m => (m.outs.filter (fun o => !d1.beyond s o)).foldl (fun b o => b.drive s m o none) a) d1
  let d3 := ms.foldl (fun a m => a.serveHead s m) d2
  let d4 := (far.filter (fun q => !q.1.multi)).foldl (fun a q => a.handHead s q.1 q.2) d3
  let copies := sortBy (fun a b => allocOrder a.1.cell.sl a.2 ≤ allocOrder b.1.cell.sl b.2) (far.filter (fun q => q.1.multi))
  d4.allocations s copies [] (copies.length + 2 * (d4.kennel s).waiting.length)

/-! ## Expired heads (R172, R219) -/

/-- Drop an expired cell and count it. -/
def Dev.expire (d : Dev) (s i : Nat) : Dev :=
  (d.dropSlot s i).countExpired s

/-- Remove one expired head from every queue (R219). -/
def Dev.expireHeads (d : Dev) (s : Nat) : Dev :=
  let k := d.kennel s
  let heads := (k.queues ++ k.mqueues).filterMap (fun e => e.2.head?)
  (heads.filter (fun i => !k.fresh d.tick i)).foldl (fun a i => a.expire s i) d

/-! ## The cycle -/

/-- One S-die cycle of the crossbar (R170). -/
def Dev.cycle (d0 : Dev) (s : Nat) : Dev :=
  let d := ((d0.beginCycle s).takeWeights).expireHeads s
  let rs := (d.kennel s).requests d.tick
  let a1 := d.iterate s rs []
  let d1 := d.setKennel s (((d.kennel s).movePtrs a1).moveRot d.rotWeights a1)
  let a2 := d1.iterate s rs a1
  let d2 := (d1.setKennel s ((d1.kennel s).moveRot d.rotWeights a2)).transfers s (a1 ++ a2)
  (if rs = [] then d2 else d2.worked).admitWaiting (1 - s)

/-- CROSSBAR_CYCLE (R170): the switch domain must be running. (DEDUCED, log entry 49). -/
def execCrossbarCycle (sd : Sdie) (s : State) : Host.Outcome State Fault Refusal :=
  run s fun d => if d.domainOff .switch || d.domainGated .switch || d.fenced then d else d.cycle sd.val

/-- CELL_EXPIRED: an expired cell at the head of one of an input's queues (R219). -/
def execCellExpired (sd : Sdie) (input : XPort) (ptr : BitVec 32) (s : State) : Host.Outcome State Fault Refusal :=
  run s fun d =>
    let k := d.kennel sd.val
    let i := bits ptr.toNat 7 20
    let head := k.queues.any (fun e => e.1 / 4096 = input.val && e.2.head? = some i) ||
      k.mqueues.any (fun e => e.1 / 16 = input.val && e.2.head? = some i)
    if head && (tget k.slots i).isSome && !k.fresh d.tick i then d.expire sd.val i else d

end Sys2Proof.Machine
end

