-- ==== Sys2Proof/Machine/Faults.lean ====
section
/-! DEFINITION. The sentry's commands and the injections of FAULT_INJECT (R522 to R548). -/

namespace Sys2Proof.Machine

/-- The precedence of R537 among reports of one tick: class, then unit, initiator and kind ascending. -/
def reportRank (r : Report) : Nat :=
  let c := 3 - classCode (kindClass r.msg.kind.toNat r.msg.cls)
  ((c * 256 + r.msg.kind.toNat / 256) * 65536 + r.msg.initiator.toNat) * 65536 + r.msg.kind.toNat

/-- Whether a report comes before another (R31, R537). -/
def reportBefore (a b : Report) : Bool := a.due < b.due || (a.due = b.due && reportRank a ≤ reportRank b)

/-- The report the sentry samples next: the first of those that are due. -/
def Sentry.nextReport (s : Sentry) (now : Nat) : Option Report :=
  (sortBy reportBefore (s.reports.filter (fun r => r.due ≤ now))).head?

/-- BARK (R528): a report of the model's own units that is due, or one from a checker outside the model. -/
def execBark (m : Option BarkMsg) (s : State) : Host.Outcome State Fault Refusal :=
  run s fun d =>
    match m with
    | some b => if kindKnown b.kind.toNat then d.sample b else d
    | none =>
      match d.sentry.nextReport d.tick with
      | none => d
      | some r => ({ d with sentry := { d.sentry with reports := d.sentry.reports.erase r } }).sample r.msg

/-- ESCALATION (R534): an open record reaches its ESCALATE_TICK. -/
def Dev.escalate (d : Dev) (c : FaultClass) : Dev :=
  let r := d.sentry.record c
  let next := match c with
    | .corrected => some FaultClass.contained
    | .contained => some FaultClass.fatal
    | .fatal => none
  match next with
  | none => d
  | some n =>
    if r.isOpen && r.escTick != 0 && r.escTick ≤ d.tick then
      let d1 := d.sample (bark 0x0D01 accNone iniNone false r.firstTick (r.kind * 2 ^ 32 + r.count) n)
      let d2 := { d1 with sentry := d1.sentry.setRecord c { (d1.sentry.record c) with escTick := 0 } }
      (d2.countErr E.ESCALATIONS).raiseInt 0x03
    else d

/-- ESCALATION (R534). -/
def execEscalation (cls : FaultClass) (s : State) : Host.Outcome State Fault Refusal := run s fun d => d.escalate cls

/-- The class a FAULT_ACK names. -/
def classOf (code : Nat) : Option FaultClass :=
  if code = 1 then some .corrected else if code = 2 then some .contained else if code = 3 then some .fatal else none

/-- FAULT_ACK is refused (R535). The faults of the tick have merged before it (R538). -/
def Dev.refuseAck (d : Dev) (v : Nat) : Option Status :=
  match classOf (bits v 56 8) with
  | none => some .invalidValue
  | some c =>
    if bits v 32 24 != 0 then some .invalidValue
    else
      let r := d.sentry.record c
      if r.isOpen && r.count = bits v 0 32 then none else some .stateConflict

/-- FAULT_ACK closes the record (R535). -/
def Dev.writeAck (d : Dev) (v : Nat) : Dev :=
  match classOf (bits v 56 8) with
  | none => d
  | some c => { d with sentry := d.sentry.setRecord c {} }

/-- HKP_WATCHDOG (R543). (DEDUCED, log entry 46). -/
def execHkpWatchdog (s : State) : Host.Outcome State Fault Refusal :=
  run s fun d =>
    let d1 := (d.sample (bark 0x0C02 accNone iniHkp false 0 0)).countErr E.HKP_RESTARTS
    ({ d1 with mgmt := { d1.mgmt with sessions := [], nonces := [], cache := [], handles := [] } }).raiseInt 0x06

/-- The largest target of a checker of FAULT_INJECT; none where the table names no target range (R544). -/
def injectTop (checker : Nat) : Option Nat :=
  if checker = 0x01 then some 255
  else if checker = 0x02 then some 17
  else if checker = 0x08 || checker = 0x09 then some 4
  else if checker = 0x0A || checker = 0x0B then some 7
  else if checker = 0x0C || checker = 0x0D then some 255
  else some 15

/-- FAULT_INJECT is refused (R544). -/
def Dev.refuseFaultInject (d : Dev) (v : Nat) : Option Status :=
  let c := bits v 24 8
  let okTarget : Bool := match injectTop c with
    | some m => decide (bits v 16 8 ≤ m)
    | none => true
  if c = 0 || 0x0E < c || bits v 0 16 = 0 || !okTarget then some .invalidValue
  else if d.reg E.FAULT_INJECT_LEFT != 0 then some .stateConflict
  else none

/-- FAULT_INJECT is written. The page check and the ledger CRC have no target (R544). -/
def Dev.writeFaultInject (d : Dev) (v : Nat) : Dev :=
  let c := bits v 24 8
  let t := if c = 0x0C || c = 0x0D then 0 else bits v 16 8
  { d.setReg E.FAULT_INJECT_LEFT (bits v 0 16) with sentry := { d.sentry with inject := some ⟨c, t⟩ } }

/-- A group with bit [1] of DELIVERY has an enabled source pending (R542). -/
def Dev.alertHolds (d : Dev) : Bool :=
  (List.range 16).any (fun g =>
    bits (d.reg (E.DELIVERY g)) 1 1 = 1 && bits (d.ints.pending &&& d.ints.enable) (16 * g) 16 != 0)

/-- ALERT_N is driven low or released (R649). -/
def Dev.driveAlert (d : Dev) (on : Bool) : Dev :=
  if d.ints.alert = on then d else ({ d with ints := { d.ints with alert := on } }).emit (.pin d.tick 0 (!on))

/-- ALERT_N is released once no such group is left (R542). -/
def Dev.settleAlert (d : Dev) : Dev := if d.ints.alert && !d.alertHolds then d.driveAlert false else d

end Sys2Proof.Machine
end

