-- ==== Sys2Proof/Machine/Telemetry.lean ====
section
/-! DEFINITION. Counter clears, snapshots and header samples (R549 to R574). -/

namespace Sys2Proof.Machine

/-! ## Counters (R550, R555) -/

/-- Entries of type U32 or U64 with access RO that are gauges or values, not counters (R550). -/
def notCounter (i s : Nat) : Bool :=
  let k := i * 256 + s
  (i / 2 = 0x1800 && (s ≤ 6 || s = 8 || s = 0x0E)) ||
  (0x3100 ≤ i && i ≤ 0x31FF && (s = 4 || s = 5 || s = 8)) ||
  (0x4520 ≤ i && i ≤ 0x452F && s = 7) ||
  (0x6100 ≤ i && i ≤ 0x613F && s = 7) ||
  (0x2300 ≤ i && i ≤ 0x23FF && s % 16 = 9) ||
  [E.DRAIN_0, E.DRAIN_1, E.SEND_LOG_RECORDS, E.TIME_DELAY, E.STASHED_CHUNKS, E.LAST_CLIP_COEFF, E.CHAIN_ID, E.PROG_ID,
   E.COMMITTED_STEP, E.GENERAL_TOP, E.LEDGER_NEXT_SEQ, E.LEDGER_CAPACITY, E.LAST_HBM_UE, E.INPUT_MV, E.INPUT_MA,
   E.APPLY_FIRST].contains k

/-- Whether an entry is an event or error counter (R549, R550). -/
def isCounter (i s : Nat) : Bool :=
  match findRow i s with
  | some r => r.acc = .ro && (r.ty = .u32 || r.ty = .u64) && !notCounter i s
  | none => false

/-- COUNTER_CLEAR is refused (R555). -/
def refuseClear (v : Nat) : Option Status :=
  if v = 0 then none
  else if bits v 24 8 != 0 || !isCounter (bits v 8 16) (bits v 0 8) then some .invalidValue
  else none

/-- Every event and error counter clears, with the saturated list (R555). Fires and element runs are counted in their
whistles and program slots. (DEDUCED, log entry 120). -/
def Dev.clearAll (d : Dev) : Dev :=
  { d with whistles := d.whistles.map (fun e => (e.1, { e.2 with cleared := e.2.fires })),
           programs := d.programs.map (fun e => (e.1, { e.2 with elements := 0 })),
           regs := d.regs.filter (fun e => !isCounter (e.1 / 256) (e.1 % 256) && e.1 != E.ANY_SATURATED), tele := { d.tele with satFlags := [], satList := [] } }

/-- The entry or entries that COUNTER_CLEAR names clear. The counters of a whistle or program slot clear in the one
selected. (DEDUCED, log entry 145). -/
def Dev.clearNamed (d : Dev) (v : Nat) : Dev :=
  if v = 0 then d.clearAll
  else if v = E.WHISTLE_FIRES then
    { d with whistles := d.whistles.map (fun e => if e.1 = d.reg E.WHISTLE_SELECT then (e.1, { e.2 with cleared := e.2.fires }) else e) }
  else if v = E.PROG_ELEMENTS then
    { d with programs := d.programs.map (fun e => if e.1 = d.reg E.PROG_SLOT then (e.1, { e.2 with elements := 0 }) else e) }
  else d.clearCounter v

/-- COUNTER_CLEAR is written (R555). (DEDUCED, log entry 120). -/
def Dev.writeClear (d : Dev) (v : Nat) : Dev := d.clearNamed v

/-- SATURATED_LIST (R553). -/
def Telemetry.satBytes (t : Telemetry) : List Byte :=
  t.satList.flatMap (fun r => beBytes 2 (r.key / 256) ++ beBytes 1 (r.key % 256) ++ List.replicate 5 0 ++ beBytes 8 r.tick)

/-! ## Snapshots (R558 to R565) -/

/-- A SNAP_CMD value that cancels: the armed SNAP_ID with TARGET_TICK 0 (R558). -/
def Dev.snapCancels (d : Dev) (v : List Byte) : Bool :=
  match d.tele.arm with
  | some a => beNat (slice v 0 4) = a.id && beNat (slice v 8 8) = 0 && d.tick < a.target
  | none => false

/-- SNAP_CMD is refused (R14, R558). -/
def Dev.refuseSnap (d : Dev) (sh : List ShadowSet) (v : List Byte) : Option Status :=
  let id := beNat (slice v 0 4)
  let t := beNat (slice v 8 8)
  if beNat (slice v 5 3) != 0 || 1 < beNat (slice v 4 1) then some .invalidValue
  else if d.snapCancels v then none
  else if id = 0 || sh.any (fun x => x.id = id) then some .invalidValue
  else if t < d.tick + 64 then some .invalidValue
  else if d.tele.arm.isSome then some .stateConflict
  else none

/-- The ports a SNAP COMMAND goes to (R563). -/
def Dev.snapPorts (d : Dev) : List Nat :=
  allPorts.filter (fun p =>
    let x := d.port p
    (x.state = .up || x.state = .recover) && d.peerKind p = 1 && bits (d.peerCaps p) 0 1 = 1)

/-- The SNAP COMMAND cell for a port (R563). -/
def Dev.snapCell (d : Dev) (p id target : Nat) : Cell :=
  mkCtl tCtrl (d.peerAddr p) (d.ownAddr 0xFF) 0x20 0 ([1, 0, 0, 0] ++ beBytes 4 id ++ beBytes 8 target)

/-- SNAP_CMD is written: arm, or cancel (R558, R565). -/
def Dev.writeSnap (d : Dev) (v : List Byte) : Dev :=
  if d.snapCancels v then { d with tele := { d.tele with arm := none, snapState := 0 } }
  else
    let id := beNat (slice v 0 4)
    let t := beNat (slice v 8 8)
    let ep := beNat (slice v 4 1) % 2 = 1
    { d with tele := { d.tele with arm := some { id := id, target := t, endpoints := ep, armedAt := d.tick }, lastId := id, copied := false, snapState := 1, epTaken := 0, epLate := 0 } }

/-- The tick after the arming write takes effect: the COMMAND cells go out (R563). -/
def Dev.tickSnap (d : Dev) : Dev :=
  match d.tele.arm with
  | none => d
  | some a =>
    if !a.endpoints || a.sent then d
    else
      let d1 := { d with tele := { d.tele with arm := some { a with sent := true } } }
      d1.snapPorts.foldl (fun x p => x.emitPorts 0 133 (x.snapCell p a.id a.target) [p]) d1

/-- Put a shadow set over the empty place or the set taken less recently (R560). -/
def placeShadow (sh : List ShadowSet) (x : ShadowSet) : List ShadowSet :=
  match sh with
  | [a, b] => if a.target ≤ b.target then [x, b] else [a, x]
  | _ => sh ++ [x]

/-- SNAP_COPY: at TARGET_TICK every unit copies its counters and gauges, as they stood at that tick's boundary (R559). -/
def execSnapCopy (s : State) : Host.Outcome State Fault Refusal :=
  match s.tele.arm with
  | none => done s
  | some a =>
    if s.tele.copied || s.tick < a.target then done s
    else
      let d := { s.toDev with tele := { s.tele with copied := true } }
      .next { s with toDev := d, boundary := none,
                     shadows := placeShadow s.shadows { id := a.id, target := a.target, taken := false, image := s.boundary.getD s.toDev } }

/-- SNAP_TAKEN: 4 ticks after TARGET_TICK (R559). -/
def execSnapTaken (s : State) : Host.Outcome State Fault Refusal :=
  match s.tele.arm with
  | none => done s
  | some a =>
    if !s.tele.copied || s.tick < a.target + 4 then done s
    else
      let d := ({ s.toDev with tele := { s.tele with arm := none, copied := false, snapState := 2 } }).count E.SNAPS_TAKEN
      .next { s with toDev := d, shadows := s.shadows.map (fun x => if x.id = a.id then { x with taken := true } else x) }

/-- SNAP_TAKEN_CELL (R565). -/
def execSnapTakenCell (p : Port) (c : Cell) (s : State) : Host.Outcome State Fault Refusal :=
  run s fun d =>
    if c.pay 0 1 = 2 && c.pay 4 4 = d.tele.lastId && d.tele.lastId != 0 then
      let late := c.pay 1 1 = 1
      { d with tele := { d.tele with epTaken := (d.tele.epTaken + 1) % 65536, epLate := if late then maskSet d.tele.epLate p.val else d.tele.epLate } }
    else d

/-- SNAP_HELD (R560). -/
def snapHeld (sh : List ShadowSet) : List Byte :=
  let one := fun (x : Option ShadowSet) => match x with
    | some y => beBytes 4 y.id ++ beBytes 8 y.target
    | none => List.replicate 12 0
  one sh[0]? ++ one sh[1]?

/-! ## Header samples (R571 to R573) -/

/-- SAMPLE_TRANSFER: one queued sample passes to the ring, at most one per 256 ticks (R573). -/
def execSampleTransfer (tile : Fin 8) (s : State) : Host.Outcome State Fault Refusal :=
  run s fun d =>
    match tgetD d.tele.tileQueues tile.val [] with
    | [] => d
    | x :: rest =>
      if d.tick < tgetD d.tele.tileNext tile.val 0 then d
      else
        let full := 2560 ≤ d.tele.ring.length
        let ring := (if full then d.tele.ring.drop 1 else d.tele.ring) ++ [x]
        let d1 := { d with tele := { d.tele with tileQueues := tset d.tele.tileQueues tile.val rest, tileNext := tset d.tele.tileNext tile.val (d.tick + 256), ring := ring } }
        let d2 := d1.count E.SAMPLES_TAKEN
        if full then d2.countErr E.SAMPLES_LOST else d2

/-- A write of a sampling entry sets every count to 0 (R571). -/
def Dev.sampleReset (d : Dev) : Dev := { d with ports := d.ports.map (fun e => (e.1, { e.2 with sampRx := 0, sampTx := 0 })) }

end Sys2Proof.Machine
end

