-- ==== Sys2Proof/Machine/Products.lean ====
section
/-! DEFINITION. Matrix products: descriptors, operands, accumulators, conversions, tiles and their checks
(R378 to R404). -/

namespace Sys2Proof.Machine

/-! ## The descriptor (R390) -/

/-- KIND. -/
def pdKind (b : List Byte) : Nat := leField b 0 1
/-- A_TYPE. -/
def pdA (b : List Byte) : Nat := leField b 1 1
/-- B_TYPE. -/
def pdB (b : List Byte) : Nat := leField b 2 1
/-- OUT_TYPE. -/
def pdOut (b : List Byte) : Nat := leField b 3 1
/-- OUT_TYPE ACC. -/
def tACC : Nat := 0x10
/-- ROUNDING. -/
def pdRound (b : List Byte) : Nat := bits (leField b 4 1) 0 2
/-- ACC_IN. -/
def pdAccIn (b : List Byte) : Bool := bits (leField b 4 1) 2 1 = 1
/-- E4M3_OVF: STRICT. -/
def pdStrict (b : List Byte) : Bool := bits (leField b 4 1) 3 1 = 1
/-- DUP. -/
def pdDup (b : List Byte) : Bool := bits (leField b 4 1) 4 1 = 1
/-- PURPOSE. -/
def pdPurpose (b : List Byte) : Nat := leField b 5 1
/-- CDIE_MASK. -/
def pdMask (b : List Byte) : Nat := bits (leField b 6 1) 0 4
/-- M. -/
def pdM (b : List Byte) : Nat := leField b 8 4
/-- N. -/
def pdN (b : List Byte) : Nat := leField b 12 4
/-- K. -/
def pdK (b : List Byte) : Nat := leField b 16 8
/-- TENSOR. -/
def pdTensor (b : List Byte) : Nat := leField b 24 4
/-- STEP. -/
def pdStep (b : List Byte) : Nat := leField b 28 6
/-- SEED_SEL. -/
def pdSeed (b : List Byte) : Nat := leField b 34 1
/-- A_STRIDE. -/
def pdAStride (b : List Byte) : Nat := leField b 36 4
/-- B_STRIDE. -/
def pdBStride (b : List Byte) : Nat := leField b 40 4
/-- OUT_STRIDE. -/
def pdOStride (b : List Byte) : Nat := leField b 44 4
/-- A_ADDR. -/
def pdAAddr (b : List Byte) : Nat := leField b 48 8
/-- B_ADDR. -/
def pdBAddr (b : List Byte) : Nat := leField b 56 8
/-- ACC_ADDR. -/
def pdAccAddr (b : List Byte) : Nat := leField b 64 8
/-- OUT_ADDR. -/
def pdOutAddr (b : List Byte) : Nat := leField b 72 8

/-- BF16 × BF16 (R378). -/
def pdBf (b : List Byte) : Bool := pdA b = eBF16 && pdB b = eBF16

/-- An accepted operand pair (R378). -/
def pairOk (a b : Nat) : Bool :=
  let ex := fun (t : Nat) => t = eFP16 || t = eE4M3 || t = eE5M2 || elemBlocks t
  (a = eBF16 && b = eBF16) || (a = eINT8 && b = eINT8) || (ex a && ex b)

/-- Bytes of one stored accumulator state (R385). -/
def accBytes (bf : Bool) : Nat := if bf then 16 else 24

/-- A descriptor that R391 refuses whatever memory holds. -/
def badProduct (addr : Nat) (b : List Byte) : Bool :=
  let p := pdPurpose b
  let k := pdK b
  addr % 32 != 0 || bits (leField b 4 1) 5 3 != 0 || bits (leField b 6 1) 4 4 != 0 || leField b 7 1 != 0 || 1 < pdSeed b ||
  leField b 35 1 != 0 || leNat (slice b 80 16) != 0 || pdRound b = 3 || !((1 ≤ pdOut b && pdOut b ≤ 9) || pdOut b = tACC) ||
  p ≤ 2 || (5 ≤ p && p ≤ 0x0F) || !pairOk (pdA b) (pdB b) ||
  pdM b = 0 || 2 ^ 20 < pdM b || pdN b = 0 || 2 ^ 20 < pdN b || 2 ^ 32 < k || (k = 0 && !pdAccIn b) ||
  (pdOut b = tACC && pdAccIn b && pdAccAddr b != pdOutAddr b) ||
  (elemBlocks (pdOut b) && pdN b % blockLen (pdOut b) != 0) ||
  (elemBlocks (pdA b) && k % blockLen (pdA b) != 0) || (elemBlocks (pdB b) && k % blockLen (pdB b) != 0)

/-! ## Operand rows (R246, R389) -/

/-- The least bytes of a row of k elements. -/
def rowBase (t k : Nat) : Nat :=
  if elemBlocks t then
    let n := k / blockLen t
    9 * n + (n + 7) / 8
  else k * elemBytes t

/-- Promoted blocks of a row, by its bitmap. -/
def rowPromoted (t k : Nat) (bs : List Byte) : List Nat :=
  let n := k / blockLen t
  (List.range n).filter (fun b => bits (leField bs (9 * n + b / 8) 1) (b % 8) 1 = 1)

/-- The bytes a row's layout needs. -/
def rowNeeds (t k : Nat) (bs : List Byte) : Nat :=
  if elemBlocks t then rowBase t k + (rowPromoted t k bs).length * blockLen t else rowBase t k

/-- The elements of a row. -/
def rowValues (t k : Nat) (bs : List Byte) : List Exact :=
  if elemBlocks t then
    let n := k / blockLen t
    let prom := rowPromoted t k bs
    (List.range n).flatMap (fun b =>
      let sc := leField bs (9 * b) 1
      if prom.contains b then
        let i := (prom.filter (· < b)).length
        (slice bs (rowBase t k + i * blockLen t) (blockLen t)).map (fun c => promoElem sc c.toNat)
      else (elemsCodes t (slice bs (9 * b + 1) 8)).map (blockElem t sc))
  else ((chunksOf (elemBytes t) (bs.take (k * elemBytes t)) (k + 1)).map leNat).map (widen t)

/-- A row of encoded blocks (R389). -/
def rowOfBlocks (t : Nat) (bl : List Block) : List Byte :=
  let n := bl.length
  let map := ((bl.zipIdx.filter (fun z => z.1.promoted)).map (fun z => 2 ^ z.2)).sum
  bl.flatMap (fun b => BitVec.ofNat 8 b.scale :: (if b.promoted then List.replicate 8 0 else elemsBytes t b.codes)) ++
    leBytes ((n + 7) / 8) map ++ (bl.filter (·.promoted)).flatMap (fun b => b.e4m3.map (BitVec.ofNat 8))

/-! ## Stored states (R385) -/

/-- Read an exact state. The spec gives no meaning to a CLASS outside R250, so it is free. -/
def accExactOf (d : Dev) (bs : List Byte) : Exact :=
  let free := ((EClass.ofCode (Config.freeChoice d.draws % 5))).getD .nan
  ⟨(EClass.ofCode (leField bs 0 1)).getD free, toSigned 160 (leField bs 4 20) * 2 ^ 85⟩

/-- Read a BF16 state. -/
def accBfOf (d : Dev) (bs : List Byte) : BfAcc :=
  let free := ((EClass.ofCode (Config.freeChoice d.draws % 5))).getD .nan
  let c := (EClass.ofCode (leField bs 0 1)).getD free
  let sg := leField bs 4 5
  let m : Int := if bits (leField bs 1 1) 0 1 = 1 then -(sg : Int) else sg
  if c = .finite then ⟨c, m, toSigned 16 (leField bs 2 2) - 39⟩ else ⟨c, 0, 0⟩

/-! ## Products (R383, R388, R395, R400) -/

/-- Operands, states and refusal of a product whose descriptor is in order. -/
structure Staged where
  a : List (List Exact)
  b : List (List Exact)
  acc : List (List AccVal)
  /-- Promoted blocks of the rows of A and B, in ranges of 16 steps. -/
  promA : List (List Nat)
  promB : List (List Nat)
  deriving DecidableEq, Repr

/-- Read rows of bytes, each of its own length: none where a word is uncorrectable. -/
def Dev.readRows (d : Dev) (addr stride : Nat) (lens : List Nat) (ini : Nat) : Option (List (List Byte)) × Dev :=
  lens.zipIdx.foldl (fun (a : Option (List (List Byte)) × Dev) z =>
    match a.1 with
    | none => a
    | some l =>
      match a.2.readMem (addr + z.2 * stride) z.1 ini with
      | (some bs, d1) => (some (l ++ [bs]), d1)
      | (none, d1) => (none, d1)) (some [], d)

/-- The bytes of each row of an operand: what its layout needs, by the bitmap that stands in it (R246, R389). -/
def Dev.rowLens (d : Dev) (t k addr stride n : Nat) : List Nat :=
  (List.range n).map (fun i => rowNeeds t k (memRead d.mem (addr + i * stride) (rowBase t k)))

/-- Rows exist, each where it stands, in what products may name (R386, R500). -/
def Dev.rowsExist (d : Dev) (addr stride : Nat) (lens : List Nat) : Bool :=
  lens.zipIdx.all (fun z => z.1 = 0 || d.generalRange (addr + z.2 * stride) z.1)

/-- Bytes of an output row without promotions. -/
def outRow (b : List Byte) : Nat := if pdOut b = tACC then pdN b * accBytes (pdBf b) else rowBase (pdOut b) (pdN b)

/-- A row stride is smaller than some row's layout needs (R389). -/
def strideSmall (t stride : Nat) (lens : List Nat) : Bool := elemBlocks t && lens.any (fun n => stride < n)

/-- The C-dies that may run tiles (R390). (DESIGN CHOICE, log entry 87). -/
def productDies (b : List Byte) : List Nat := (List.range 4).filter (fun c => pdMask b = 0 || maskHas (pdMask b) c)

/-- The ranges of a product's states, row by row. -/
def accRanges (b : List Byte) : List (Nat × Nat) :=
  (List.range (pdM b)).map (fun i => (pdAccAddr b + i * pdOStride b, pdN b * accBytes (pdBf b)))

/-- The ranges of states and results that a product uses, row by row. -/
def usedRanges (b : List Byte) : List (Nat × Nat) :=
  (List.range (pdM b)).map (fun i => (pdOutAddr b + i * pdOStride b, outRow b)) ++ (if pdAccIn b then accRanges b else [])

/-- Every C-die that a product may run on is off (R391). -/
def Dev.productDark (d : Dev) (b : List Byte) : Bool := (productDies b).all (fun c => d.domainOff (.compute (Fin.ofNat 4 c)))

/-- The kind of R403 with which a product is refused when it is taken; none where it may run (R386, R389, R391, R394).
(DEDUCED, log entry 88). -/
def Dev.productRefused (d : Dev) (addr : Nat) (b : List Byte) : Option Nat :=
  let k := pdK b
  let la := if k = 0 then [] else d.rowLens (pdA b) k (pdAAddr b) (pdAStride b) (pdM b)
  let lb := if k = 0 then [] else d.rowLens (pdB b) k (pdBAddr b) (pdBStride b) (pdN b)
  if badProduct addr b || d.productDark b || strideSmall (pdA b) (pdAStride b) la || strideSmall (pdB b) (pdBStride b) lb then some 5
  else if !(d.rowsExist (pdAAddr b) (pdAStride b) la && d.rowsExist (pdBAddr b) (pdBStride b) lb) ||
      !(usedRanges b).all (fun r => d.generalRange r.1 r.2) then some 6
  else if pdBf b && pdAccIn b && d.products.any (fun e => pdKind e.2.desc = 1 && e.2.failed.isNone &&
      (usedRanges e.2.desc).any (fun r => (accRanges b).any (meets r))) then some 7
  else none

/-- Stage a product's operands and states: of each row the bytes its layout needs are read (R388, R389, R393).
(DEDUCED, log entry 88). -/
def Dev.stage (d : Dev) (b : List Byte) (ini : Nat) : Option Staged × Dev :=
  let k := pdK b
  let (ra, d1) := if k = 0 then (some [], d) else d.readRows (pdAAddr b) (pdAStride b) (d.rowLens (pdA b) k (pdAAddr b) (pdAStride b) (pdM b)) ini
  let (rb, d2) := if k = 0 then (some [], d1) else d1.readRows (pdBAddr b) (pdBStride b) (d.rowLens (pdB b) k (pdBAddr b) (pdBStride b) (pdN b)) ini
  let (rs, d3) := if pdAccIn b then d2.readRows (pdAccAddr b) (pdOStride b) (List.replicate (pdM b) (pdN b * accBytes (pdBf b))) ini else (some [], d2)
  match ra, rb, rs with
  | some xa, some xb, some xs =>
    let st := fun (bs : List Byte) => if pdBf b then AccVal.bf (accBfOf d bs) else AccVal.exact (accExactOf d bs)
    let prom := fun (t : Nat) (r : List Byte) =>
      if elemBlocks t then (rowPromoted t k r).flatMap (fun i => if t = eT2 then [2 * i, 2 * i + 1] else [i]) else []
    (some { a := xa.map (rowValues (pdA b) k), b := xb.map (rowValues (pdB b) k),
            acc := xs.map (fun r => (chunksOf (accBytes (pdBf b)) r (pdN b + 1)).map st),
            promA := xa.map (prom (pdA b)), promB := xb.map (prom (pdB b)) }, d3)
  | _, _, _ => (none, d3)

/-- Promoted ranges of a product's tiles (R379, R395). -/
def promotedRanges (b : List Byte) (s : Staged) : Nat :=
  if elemBlocks (pdA b) && elemBlocks (pdB b) then
    let ta := (chunksOf 64 s.promA (pdM b + 1)).map (fun l => l.flatten.eraseDups)
    let tb := (chunksOf 64 s.promB (pdN b + 1)).map (fun l => l.flatten.eraseDups)
    (ta.map (fun x => (tb.map (fun y => (x ++ y).eraseDups.length)).sum)).sum
  else 0

/-- Tiles of a product (R395). -/
def tilesM (b : List Byte) : Nat := (pdM b + 63) / 64
/-- R395. -/
def tilesN (b : List Byte) : Nat := (pdN b + 63) / 64

/-- Engine cycles of one run of every tile (R378, R379). -/
def productCycles (b : List Byte) (ranges : Nat) : Nat :=
  let t := tilesM b * tilesN b
  if elemBlocks (pdA b) && elemBlocks (pdB b) then t * (pdK b / 16) * 8 + ranges * 8 else t * pdK b

/-- One converted output element or block row. -/
structure OutRow where
  /-- The row's bytes. -/
  bytes : List Byte
  /-- Positions at which the conversion produced a NaN. -/
  nans : List Nat := []
  /-- The finite parts of the elements, in units of 2^−149. -/
  fins : List Int := []
  sats : Nat := 0
  proms : Nat := 0
  deriving DecidableEq, Repr

/-- Convert an output row (R383, R385). -/
def productRow (d : Dev) (b : List Byte) (seed i : Nat) (row : List AccVal) : OutRow :=
  let t := pdOut b
  let rnd := fun (j : Nat) => if pdRound b = 2 then randomBits seed (pdStep b) (pdTensor b) ((i * pdN b + j) % 2 ^ 40) (pdPurpose b) else 0
  if t = tACC then { bytes := row.flatMap AccVal.bytes }
  else if elemBlocks t then
    let n := blockLen t
    let xs := row.map (fun a => a.val.exact)
    let bl := ((chunksOf n xs (xs.length + 1)).zipIdx).map (fun z =>
      encodeBlock t (pdRound b) (d.reg (if t = eB4 then E.PROMOTE_SHIFT_B4 else E.PROMOTE_SHIFT_T2)) (pdStrict b) z.1
        ((List.range z.1.length).map (fun k => rnd (z.2 * n + k))))
    let ys := bl.flatMap (Block.values t)
    { bytes := rowOfBlocks t bl, sats := (bl.map (·.sats)).sum, proms := (bl.filter (·.promoted)).length,
      fins := ys.map (·.fin), nans := (((xs.zip ys).zipIdx).filter (fun z => !z.1.1.isNan && z.1.2.isNan)).map (·.2) }
  else
    let cv := row.zipIdx.map (fun z => convVal t (pdRound b) (rnd z.2) (pdStrict b) z.1.val)
    { bytes := cv.flatMap (fun c => leBytes (elemBytes t) c.bits), sats := (cv.filter (·.sat)).length,
      nans := (cv.zipIdx.filter (fun z => z.1.nan)).map (·.2), fins := cv.map (fun c => (widen t c.bits).fin) }

/-- The tiles of a product, (r, c) (R395). -/
def productTiles (b : List Byte) : List (Nat × Nat) :=
  (List.range (tilesM b)).flatMap (fun r => (List.range (tilesN b)).map (fun c => (r, c)))

/-- The part of a list in the 64 places of a tile row or column. -/
def tilePart {α : Type} (n : Nat) (l : List α) : List α := (l.drop (64 * n)).take 64

/-- The comparisons of a product's tile (R397 to R399). -/
def tileChecksOf (b : List Byte) (s : Staged) (vals : List (List AccVal)) (rows : List OutRow) (t : Nat × Nat) : TileChecks :=
  let part := fun (m : List (List AccVal)) => (tilePart t.1 m).map (tilePart t.2)
  tileChecks (pdBf b) (pdK b) (tilePart t.1 s.a) (tilePart t.2 s.b) (part s.acc) (part vals)
    (if pdOut b = tACC then none else some ((tilePart t.1 rows).map (fun r => tilePart t.2 r.fins)))

/-- Write bytes of a tile's row; a stored state is read again and compared (R399): the comparison that fails. -/
def Dev.writePart (d : Dev) (ini : Nat) (acc : Bool) (a : Nat) (bs : List Byte) : Option TileCheck × Dev :=
  let d1 := d.writeFrom ini a bs
  if !acc then (none, d1)
  else
    let low := fun (l : List Byte) => leNat (l.take 8)
    match d1.readMem a bs.length ini with
    | (none, d2) => (some ⟨low bs, low (memRead d2.mem a bs.length), false⟩, d2)
    | (some v, d2) => (if v = bs then none else some ⟨low bs, low v, false⟩, d2)

/-- Write one tile of plain rows (R395), or nothing of it where a stored state does not read as written (R399, R402). -/
def Dev.writeTile (d : Dev) (ini : Nat) (b : List Byte) (rows : List OutRow) (r c : Nat) : Option TileCheck × Dev :=
  let acc : Bool := pdOut b = tACC
  let w := if acc then accBytes (pdBf b) else elemBytes (pdOut b)
  let (f, d1) := (tilePart r rows.zipIdx).foldl (fun (a : Option TileCheck × Dev) z =>
    match a.1 with
    | some x => (some x, a.2)
    | none => a.2.writePart ini acc (pdOutAddr b + z.2 * pdOStride b + 64 * c * w) (slice z.1.bytes (64 * c * w) (64 * w))) (none, d)
  (f, if f.isSome then d1.unwrite d else d1)

/-- Write the rows of one band of tiles. -/
def Dev.writeBand (d : Dev) (ini : Nat) (b : List Byte) (rows : List OutRow) (r : Nat) : Dev :=
  (tilePart r rows.zipIdx).foldl (fun a z => a.writeFrom ini (pdOutAddr b + z.2 * pdOStride b) z.1.bytes) d

/-- Write the tiles that a product has finished: all of them, or, where the tiles `bad` are kept back, those that ran before;
which ones these are the spec leaves open, so they are free (R395, R402). The tile whose stored state fails its second read ends
the product. (DEDUCED, log entry 88). -/
def Dev.writeTiles (d : Dev) (ini : Nat) (b : List Byte) (rows : List OutRow) (bad : List (Nat × Nat)) : Option ((Nat × Nat) × TileCheck) × Dev :=
  let ran := fun (i : Nat) => bad = [] || Config.freeChoice (d.draws + i) % 2 = 1
  if elemBlocks (pdOut b) then
    (none, ((List.range (tilesM b)).filter (fun r => ran r && !bad.any (fun t => t.1 = r))).foldl (fun a r => a.writeBand ini b rows r) d)
  else
    let ts := ((productTiles b).zipIdx.filter (fun z => ran z.2 && !bad.contains z.1)).map (·.1)
    ts.foldl (fun (a : Option ((Nat × Nat) × TileCheck) × Dev) t =>
      match a.1 with
      | some x => (some x, a.2)
      | none =>
        let (f, d1) := a.2.writeTile ini b rows t.1 t.2
        (f.map (fun x => (t, x)), d1)) (none, d)

/-- A NaN of a product (R270, R382, R400): `e` is an output element index. -/
def Dev.productNan (d : Dev) (cdie e kind ty : Nat) (halt : Bool) : Dev :=
  d.nanEvent { tick := 0, pack := 0xFFFF, cseq := 0, chunk := 0, element := e % 2 ^ 40, kind := kind, source := 0x10 + cdie, ty := ty, oper := 0 }
    halt (d.freeCore cdie)

/-- How a product ends: the device, and the kind of failure with the tile, 0 for a NaN under HALT. -/
structure ProductEnd where
  dev : Dev
  failed : Option Nat := none
  deriving DecidableEq, Repr

/-- The tiles that hold a NaN, in an accumulator or by its conversion (R402). -/
def nanTiles (vals : List (List AccVal)) (rows : List OutRow) : List (Nat × Nat) :=
  (vals.zipIdx.flatMap (fun (r : List AccVal × Nat) =>
      (r.1.zipIdx.filter (fun (z : AccVal × Nat) => z.1.isNan)).map (fun (z : AccVal × Nat) => (r.2 / 64, z.2 / 64))) ++
    rows.zipIdx.flatMap (fun (r : OutRow × Nat) => r.1.nans.map (fun j => (r.2 / 64, j / 64)))).eraseDups

/-- An inverted comparison of a tile (R405): one of its checksums or its residue by kinds 1 to 3, a bit of the second run of one of
its elements by kind 4. Which one, the spec leaves open. (DESIGN CHOICE, log entry 134). -/
def injectedCheck (b : List Byte) (rows : List OutRow) (c : TileChecks) (t : Nat × Nat) (k draws : Nat) : TileCheck :=
  if k = 4 then
    let w := if pdOut b = tACC then accBytes (pdBf b) else if elemBlocks (pdOut b) then 9 else elemBytes (pdOut b)
    let per := if elemBlocks (pdOut b) then 64 / blockLen (pdOut b) else 64
    let i := Config.freeChoice draws % max 1 (min 64 (rows.length - 64 * t.1))
    let bs := (rows.getD (64 * t.1 + i) { bytes := [] }).bytes
    let j := per * t.2 + Config.freeChoice (draws + 1) % max 1 (min per (bs.length / w - per * t.2))
    let v := leNat (slice bs (j * w) w)
    ⟨v % 2 ^ 64, (v ^^^ 2 ^ (Config.freeChoice (draws + 2) % (8 * w))) % 2 ^ 64, false⟩
  else
    let cs := c.kind k
    (cs.getD (Config.freeChoice draws % max 1 cs.length) ⟨0, 0, true⟩).inverted

/-- Run a product to its end (R381 to R404). (DESIGN CHOICE, log entry 87; DEDUCED, log entry 101). -/
def Dev.runProduct (d : Dev) (p : Product) : ProductEnd :=
  let b := p.desc
  let dies := productDies b
  let die := dies.getD (Config.freeChoice d.draws % max 1 dies.length) p.cdie
  let engine := Config.freeChoice (d.draws + 1) % (32 * d.clusters)
  let ini := iniEngine die engine
  let d0 := d.drew.drew
  match d0.stage b ini with
  | (none, d1) =>
    let k := 1 + Config.freeChoice d1.draws % 7
    ⟨d1.drew.computeFail p.descAddr k die engine 0 0 0 0 0 ini false, some k⟩
  | (some s, d1) =>
    let bf := pdBf b
    let dots := (List.range (pdM b)).map (fun i => (List.range (pdN b)).map (fun j =>
      dotElem bf (if pdAccIn b then (s.acc[i]?).bind (fun r => r[j]?) else none) (s.a.getD i []) (s.b.getD j [])))
    let vals := dots.map (fun r => r.map (·.1))
    let seed := if pdSeed b = 0 then beNat (d.blob E.JOB_SEED) else (Config.freeWord d1.draws).toNat
    let rows := vals.zipIdx.map (fun z => productRow d b seed z.2 z.1)
    if elemBlocks (pdOut b) && rows.any (fun r => pdOStride b < r.bytes.length) then
      ⟨d1.computeFail p.descAddr 5 die engine 0 0 0 0 0 (d1.freeCore p.cdie) false, some 5⟩
    else
      let halt := d.reg E.NAN_POLICY = 1
      let nanRow := fun (l : List Exact) => (l.filter (·.isNan)).length
      let eat := (s.a.zipIdx.flatMap (fun z => List.replicate (nanRow z.1) (z.2 * pdN b, 1, pdA b))) ++
        (s.b.zipIdx.flatMap (fun z => List.replicate (nanRow z.1) (z.2, 1, pdB b))) ++
        (s.acc.zipIdx.flatMap (fun r => (r.1.zipIdx.filter (fun z => z.1.isNan)).map (fun z => (r.2 * pdN b + z.2, 1, eFP32))))
      let made := (dots.zipIdx.flatMap (fun r => r.1.zipIdx.flatMap (fun z => List.replicate z.1.2 (r.2 * pdN b + z.2, 2, eFP32)))) ++
        (rows.zipIdx.flatMap (fun r => r.1.nans.map (fun j => (r.2 * pdN b + j, 2, pdOut b))))
      let d2 := (eat ++ made).foldl (fun a e => a.productNan die e.1 e.2.1 e.2.2 halt) d1.drew
      let ranges := promotedRanges b s
      let d3 := ((d2.countN E.PROMOTED_RANGES ranges).countN E.OUT_SATURATIONS (rows.map (·.sats)).sum).countN E.ENGINE_CYCLES
        (productCycles b ranges * (if pdDup b then 2 else 1))
      let fails := fun (a : Dev) (k : Nat) (t : Nat × Nat) (x : TileCheck) (inj : Bool) =>
        (⟨a.computeFail p.descAddr k die engine t.1 t.2 0 x.expected x.observed ini inj, some k⟩ : ProductEnd)
      let nan := if halt then nanTiles vals rows else []
      if nan != [] then ⟨(d3.writeTiles ini b rows nan).2.drewN (tilesM b * tilesN b), some 0⟩
      else
        let checks := (productTiles b).map (fun t => (t, tileChecksOf b s vals rows t))
        match checks.filter (fun c => c.2.fail.isSome) with
        | c :: cs =>
          let (k, x) := c.2.fail.getD (1, ⟨0, 0, false⟩)
          fails ((d3.writeTiles ini b rows ((c :: cs).map (·.1))).2.drewN (tilesM b * tilesN b)) k c.1 x false
        | [] =>
          let kinds := [1, 2] ++ (if pdOut b = tACC then [] else [3]) ++ (if pdDup b then [4] else [])
          match d3.takeCompute die kinds with
          | (some k, d4) =>
            let c := checks.getD (Config.freeChoice d4.draws % max 1 checks.length) ((0, 0), ⟨[], [], []⟩)
            let x := injectedCheck b rows c.2 c.1 k (d4.draws + 1)
            let d5 := d4.drewN 4
            fails ((d5.writeTiles ini b rows [c.1]).2.drewN (tilesM b * tilesN b)) k c.1 x true
          | (none, d4) =>
            match d4.writeTiles ini b rows [] with
            | (some (t, x), d5) => fails d5 3 t x false
            | (none, d5) => ⟨d5.count E.PRODUCTS_DONE, none⟩

end Sys2Proof.Machine
end

