-- ==== Sys2Proof/Machine/Whistles.lean ====
section
/-! DEFINITION. Whistles and their actions: firing, the two action queues, the five actions, their completion, and the
products and chain invocations they launch (R390, R391, R405 to R416, R425, R451). -/

namespace Sys2Proof.Machine

/-! ## Descriptors (R406) -/

/-- THRESHOLD. -/
def Whistle.threshold (x : Whistle) : Nat := leField x.desc 0 4
/-- ACTION. -/
def Whistle.code (x : Whistle) : Nat := leField x.desc 4 1
/-- CDIE. -/
def Whistle.cdie (x : Whistle) : Nat := leField x.desc 5 1 % 4
/-- DONE_WHISTLE. -/
def Whistle.doneWhistle (x : Whistle) : Nat := leField x.desc 6 2
/-- DONE_INC. -/
def Whistle.doneInc (x : Whistle) : Nat := leField x.desc 8 4
/-- REPEAT. -/
def Whistle.repeats (x : Whistle) : Nat := leField x.desc 12 4
/-- The address of a fire: ARG + fires before it × ARG_STRIDE, modulo 2^64 (R408). -/
def Whistle.address (x : Whistle) (fire : Nat) : Nat := (leField x.desc 16 8 + fire * leField x.desc 24 4) % 2 ^ 64
/-- ARG2. -/
def Whistle.arg2 (x : Whistle) : Nat := leField x.desc 28 4

/-- The actions of R408. -/
def acDMA : Nat := 1
/-- R408. -/
def acLAUNCH : Nat := 2
/-- R408. -/
def acINJECT : Nat := 3
/-- R408. -/
def acSEND : Nat := 4
/-- R408. -/
def acINT : Nat := 5

/-! ## The action queues (R411) -/

/-- The actions of an S-die: waiting, under way, and ended but not yet taken up. -/
def Dev.actions (d : Dev) (s : Nat) : List Action := if s = 0 then d.actions0 else d.actions1

/-- Replace the actions of an S-die. -/
def Dev.setActions (d : Dev) (s : Nat) (as : List Action) : Dev :=
  if s = 0 then { d with actions0 := as } else { d with actions1 := as }

/-- Actions that wait in a queue. -/
def queued (as : List Action) : Nat := (as.filter (fun a => a.stage = .queued)).length

/-- The first action of a list that a test picks, changed. -/
def updFirst (p : Action → Bool) (f : Action → Action) : List Action → List Action
  | [] => []
  | a :: r => if p a then f a :: r else a :: updFirst p f r

/-- Drop the first action of a list that a test picks. -/
def dropFirst (p : Action → Bool) : List Action → List Action
  | [] => []
  | a :: r => if p a then r else a :: dropFirst p r

/-- The domains an action needs run: all but RAISE_INT reach memory through a C-die (R408, R613). -/
def Dev.actionWaits (d : Dev) (code : Nat) : Bool :=
  d.domainOff .switch || d.domainGated .switch || (code != acINT && (d.computeOff || d.computeGated))

/-- WHISTLE_FIRE (R410, R411, R413, R614). -/
def execWhistleFire (w : WhistleNo) (s : State) : Host.Outcome State Fault Refusal :=
  run s fun d =>
    let n := w.val
    let x := d.whistle n
    let die := n / 4096
    let as := d.actions die
    if d.domainOff .switch || x.state != .armed || x.count < x.threshold || 1024 ≤ queued as then d
    else
      let bad := x.code = 0 || acINT < x.code
      let a : Action := { whistle := n, fire := x.fires, code := x.code, cdie := x.cdie, addr := x.address x.fires, arg2 := x.arg2,
                          stage := if bad then .failed else .queued }
      let spent : Bool := x.repeats != 0 && x.fires + 1 = x.repeats
      let d1 := d.setWhistle n { x with count := x.count - x.threshold, fires := x.fires + 1, state := if spent then .spent else .armed }
      let d2 := d1.setActions die (as ++ [a])
      let d3 := d2.setReg E.QUEUE_PEAK (max (d2.reg E.QUEUE_PEAK) (queued (d2.actions die)))
      if d3.actionWaits x.code then d3.wake wkWHISTLE else d3.worked

/-- A launch is taken while C-dies are off only to be refused (R391, R617): its own C-die and the one that holds its descriptor run,
and those that its product may run on are all off. (DEDUCED, log entry 88). -/
def Dev.launchDark (d : Dev) (a : Action) : Bool :=
  let b := memRead d.mem a.addr 96
  d.generalRange a.addr 96 && !d.domainOff (.compute (Fin.ofNat 4 a.cdie)) && !d.domainOff (.compute (Fin.ofNat 4 (tierCdie a.addr))) &&
    !d.computeGated && pdKind b = 1 && d.productDark b

/-- An action waits for a domain that it needs (R408, R613). -/
def Dev.actionHeld (d : Dev) (a : Action) : Bool :=
  d.actionWaits a.code && !(a.code = acLAUNCH && !d.domainOff .switch && !d.domainGated .switch && d.launchDark a)

/-- The package link by which an S-die's queue starts an action on a C-die (R23, R408). -/
def actionLinks (s : Nat) (a : Action) : List Nat := if a.code = acLAUNCH || a.code = acDMA then [4 * s + a.cdie] else []

/-- An action of a code is under way. -/
def Dev.startAction (d : Dev) (s code : Nat) (a : Action) : Dev :=
  (d.setActions s (updFirst (fun b => decide (b.stage = .queued ∧ b.code = code)) (fun b => { b with stage := .running }) (d.actions s))).cross
    (actionLinks s a)

/-- Take the first waiting action of a code: it starts, or its end is known at once. (DEDUCED, log entry 113). -/
def Dev.takeAction (d : Dev) (s code : Nat) (f : Dev → Action → Option Bool × Dev) : Dev :=
  match (d.actions s).find? (fun a => decide (a.stage = .queued ∧ a.code = code)) with
  | none => d
  | some a =>
    if d.actionHeld a then d
    else if !d.arrives (actionLinks s a) then (d.startAction s code a).endAction (some (a.whistle, a.fire)) false
    else
      match f (d.startAction s code a) a with
      | (none, d2) => d2
      | (some ok, d2) => d2.endAction (some (a.whistle, a.fire)) ok

/-! ## The actions (R408) -/

/-- DMA_CHAIN (R408, R494): channel ARG2 of C-die CDIE. -/
def execDmaChain (d : Sdie) (s : State) : Host.Outcome State Fault Refusal :=
  run s fun v => v.takeAction d.val acDMA fun v1 a =>
    let n := 16 * a.cdie + a.arg2
    if 15 < a.arg2 || v1.dmaFull n then (some false, v1) else (none, v1.dmaStart n ⟨a.addr, some (a.whistle, a.fire)⟩)

/-- SEND_CTL (R408): the CTRL cell at the address goes out as routed traffic, by the compute link of the C-die that holds it. -/
def execSendCtl (d : Sdie) (s : State) : Host.Outcome State Fault Refusal :=
  run s fun v => v.takeAction d.val acSEND fun v1 a =>
    if !v1.generalRange a.addr 80 then (some false, v1)
    else
      match v1.readMem a.addr 80 (iniNone) with
      | (none, v2) => (some false, v2)
      | (some bs, v2) =>
        let c : Cell := ⟨BitVec.ofNat 96 (beNat (bs.take 12)), slice bs 12 64⟩
        if c.type != tCtrl || localOp c.op || c.malformedForm then (some false, v2) else (some true, v2.emitRouted d.val (128 + tierCdie a.addr) c)

/-- RAISE_INT (R408, R540). -/
def execRaiseInt (d : Sdie) (s : State) : Host.Outcome State Fault Refusal :=
  run s fun v => v.takeAction d.val acINT fun v1 a =>
    let n := a.arg2 % 256
    if n < 0x80 then (some false, v1) else (some true, v1.arrive (.source n))

/-- A START that the compute tier injects (R408, R451): accepted only for a SOURCE collective, as from INJECT_PORT; a refusal goes to
that port (R292).
(DEDUCED, log entry 114). -/
def Dev.injectStart (d : Dev) (c : Cell) : Bool × Dev :=
  let k := c.pay 31 1
  let r := startRecord c
  let code := d.pairCode c.pack c.cseq (d.isMember c.pack k && d.roleOf r = some .source)
  if code != 0 then (false, d.sendNak (.fabric (portFin (d.physical k))) none code c.pack c.cseq)
  else
    match d.bindPair c.pack c.cseq with
    | none => (false, d)
    | some (n, d1) =>
      if (d1.ctx n).state != .collect then (false, d1)
      else
        let d2 := d1.startAt n k c (iniXbar 0 133)
        let x := d2.ctx n
        (x.validated.contains k && (x.state = .collect || x.status = 0), d2)

/-- INJECT_START (R408): ARG2 is added to CSEQ for each earlier fire. (DEDUCED, log entry 114). -/
def execInjectStart (d : Sdie) (s : State) : Host.Outcome State Fault Refusal :=
  run s fun v => v.takeAction d.val acINJECT fun v1 a =>
    if !v1.generalRange a.addr 80 then (some false, v1)
    else
      let link := 4 * d.val + tierCdie a.addr
      if v1.linkDown link then (some false, v1.pkgTransfer link)
      else
      match (v1.pkgTransfer link).readMem a.addr 80 iniNone with
      | (none, v2) => (some false, v2)
      | (some bs, v2) =>
        let c : Cell := ⟨BitVec.ofNat 96 (beNat (bs.take 12)), slice bs 12 64⟩
        let c1 := c.setFld 30 16 ((c.cseq + a.arg2 * a.fire) % 65536)
        if c1.type != tStart || c1.malformedForm then (some false, v2)
        else
          let (ok, v3) := v2.injectStart c1
          (some ok, v3)

/-! ## Launches (R390, R391, R425) -/

/-- A refused or failed launch is recorded (R402, R403). -/
def Dev.launchFail (d : Dev) (addr kind cdie oper : Nat) : Dev :=
  (d.computeFail addr kind cdie 0 0 0 oper 0 0 (d.freeCore cdie) false).drew

/-- What an invocation's fields break (R391, R425, R513): reserved fields, the chain, the step and the chunks, or the input's
range. (DEDUCED, log entry 115). -/
def Dev.invocationRefused (d : Dev) (addr : Nat) (b : List Byte) (slot : Option Nat) : Option Nat :=
  let first := leField b 8 4
  let count := leField b 12 4
  let input := leField b 48 8
  let zero := fun (i n : Nat) => leField b i n = 0
  if addr % 32 != 0 || !(zero 1 3 && zero 16 12 && zero 34 14 && zero 56 40) || input % 4 != 0 then some 5
  else
    match slot with
    | none => some 5
    | some i =>
      let desc := (d.chain i).desc
      if chainRole desc != some .gradient || chainHas desc oCLIP || (d.stateful desc && !d.admitsStep i (leField b 28 6)) || count = 0 ||
          chHomed desc < first + count then some 5
      else if !d.generalRange input (count * eChunk (chGrad desc) * 4) then some 6
      else none

/-- The values of an invocation's chunk (R513): rn(x × INPUT_SCALE), or x where LOWRANK takes it as it takes a sum (R440).
(DEDUCED, log entry 93). -/
def invokedValues (desc : List Byte) (ws : List Nat) : List Nat :=
  if chainHas desc oLOWRANK then ws else ws.map (fun w => rn ((fv w).mul (fv (chScale desc))))

/-- The index of a local chunk of a chain that has served no record (R427, R476): its local number where the chain homes every chunk;
else one that its place allows, which one is free. -/
def lonelyChunk (desc : List Byte) (l free : Nat) : Nat :=
  let e := eChunk (chGrad desc)
  let total := (chElements desc + e - 1) / e
  if total ≤ chHomed desc then l else l + free % max 1 (total - l)

/-- Run the chunks of an invocation, in order, with the rounding of the record that the chain served last (R425, R513). (DEDUCED, log entry 115). -/
def Dev.invoke (d : Dev) (id slot : Nat) (b : List Byte) : Dev :=
  let desc := (d.chain slot).desc
  let first := leField b 8 4
  let e := eChunk (chGrad desc)
  (List.range (leField b 12 4)).foldl (fun (a : Dev) i =>
    match tget a.products id with
    | none => a
    | some p =>
      if p.failed.isSome then a
      else
        let l := first + i
        let (c, a1) := match a.chunkOfLocal slot l with
          | some c => (c, a)
          | none => (lonelyChunk desc l (Config.freeChoice a.draws), a.drew)
        let n := chainCount desc c
        match a1.readMem (leField b 48 8 + i * e * 4) (n * 4) (a1.freeCore (chainDie desc)) with
        | (none, a2) =>
          let k := 1 + Config.freeChoice a2.draws % 7
          { a2.launchFail p.descAddr k p.cdie (chainIdOf desc) with products := tset a2.products id { p with failed := some k } }
        | (some bs, a2) =>
          a2.runJob slot { ctx := 4096, pack := 0, cseq := 0, step := leField b 28 6, tensor := chTensor desc, chunk := c, loc := l,
                           next := 0, rounding := (((a2.chain slot).served.map (fun q => q.2.rounding)).getD 0), dup := false, latch := a2.latchNow, prod := some id, g := invokedValues desc (words32 bs) } none jobFuel) d

/-- LAUNCH (R390, R408): a refused descriptor reads and writes nothing, and its action fails. -/
def execLaunch (d : Sdie) (s : State) : Host.Outcome State Fault Refusal :=
  run s fun v => v.takeAction d.val acLAUNCH fun v1 a =>
    if !v1.generalRange a.addr 96 then (some false, v1.launchFail a.addr 6 a.cdie 0)
    else
      match v1.readMem a.addr 96 (v1.freeCore a.cdie) with
      | (none, v2) => (some false, v2.launchFail a.addr (1 + Config.freeChoice v2.draws % 7) a.cdie 0)
      | (some b, v2) =>
        let id := v2.productNext
        let p : Product := { descAddr := a.addr, desc := b, cdie := a.cdie, whistle := a.whistle, fire := a.fire, start := v2.tick }
        let v3 := { v2 with products := tset v2.products id p, productNext := id + 1 }
        if pdKind b = 1 then
          match v2.productRefused a.addr b with
          | some k => (some false, v2.launchFail a.addr k a.cdie 0)
          | none => (none, v3.worked)
        else if pdKind b = 2 then
          let cid := leField b 4 4
          let slot := (List.range 256).find? (fun i => (v2.chain i).desc != [] && chainIdOf (v2.chain i).desc = cid)
          match v2.invocationRefused a.addr b slot, slot with
          | some k, _ => (some false, v2.launchFail a.addr k a.cdie cid)
          | none, none => (some false, v2)
          | none, some i => (none, (v3.invoke id i b).worked)
        else (some false, v2.launchFail a.addr 5 a.cdie 0)

/-- A product leaves the tier. -/
def Dev.endProduct (d : Dev) (id : Nat) (p : Product) (ok : Bool) : Dev :=
  let cs := d.chains.map (fun (e : Nat × ChainSlot) => (e.1, { e.2 with stash := e.2.stash.filter (fun z => z.prod != some id) }))
  ({ d with products := terase d.products id, chains := cs }).endAction (some (p.whistle, p.fire)) ok

/-- PRODUCT_COMPLETE (R395 to R402, R425): a product's tiles are checked and written, or it fails; an invocation ends
once none of its chunks waits at its chain. -/
def execProductComplete (id : BitVec 64) (s : State) : Host.Outcome State Fault Refusal :=
  run s fun d =>
    match tget d.products id.toNat with
    | none => d
    | some p =>
      if d.actionWaits acLAUNCH then d
      else if pdKind p.desc = 1 then
        let e := d.runProduct p
        e.dev.endProduct id.toNat p e.failed.isNone
      else if p.failed.isSome then d.endProduct id.toNat p false
      else if d.chains.any (fun e => e.2.stash.any (fun z => z.prod = some id.toNat)) then d
      else d.endProduct id.toNat p true

/-! ## The end of an action (R407) -/

/-- Where an action completes (R30, R407): on its C-die, or on the S-die of its queue. -/
def doneOrigin (s : Nat) (a : Action) : Origin := if a.code = acLAUNCH || a.code = acDMA then .cdie a.cdie else .sdie s

/-- ACTION_COMPLETE (R407): the chained increment, or the failure's report. (DEDUCED, log entry 113). -/
def execActionComplete (w : WhistleNo) (ok : Bool) (s : State) : Host.Outcome State Fault Refusal :=
  run s fun d =>
    let n := w.val
    let die := n / 4096
    let pick := fun (a : Action) => decide (a.whistle = n ∧ a.stage = (if ok then ActionStage.succeeded else ActionStage.failed))
    match (d.actions die).find? pick with
    | none => d
    | some a =>
      let d1 := d.setActions die (dropFirst pick (d.actions die))
      let x := d1.whistle n
      if ok then
        if bits x.doneWhistle 15 1 = 1 then d1.addWhistle (doneOrigin die a) (x.doneWhistle % 8192) x.doneInc else d1
      else
        ((d1.setWhistle n { x with state := if x.state = .disarmed then .disarmed else .spent }).setReg E.LAST_ACTION_FAIL n).report
          (bark 0x0710 accNone iniNone false a.addr n)

/-! ## Dictionary writes (R405, R412, R413, R416) -/

/-- WHISTLE_DESC is refused (R412, R416). -/
def Dev.refuseWhistleDesc (d : Dev) (w : Nat) (v : List Byte) : Option Status :=
  let x : Whistle := { desc := v }
  if x.threshold = 0 || x.code = 0 || acINT < x.code || bits (leField v 5 1) 2 6 != 0 || bits x.doneWhistle 13 2 != 0 then
    some .invalidValue
  else if (d.whistle w).state = .armed then some .stateConflict
  else none

/-- WHISTLE_CMD is refused (R416). -/
def refuseWhistleCmd (v : Nat) : Option Status := if v = 1 || v = 2 then none else some .invalidValue

/-- ARM and DISARM (R413). -/
def Dev.writeWhistleCmd (d : Dev) (w v : Nat) : Dev :=
  let x := d.whistle w
  if v = 1 then (if x.state = .disarmed then d.setWhistle w { x with state := .armed, fires := 0, cleared := 0 } else d)
  else if x.state = .disarmed then d
  else
    let die := w / 4096
    (d.setWhistle w { x with state := .disarmed }).setActions die
      ((d.actions die).filter (fun a => !(a.whistle = w && a.stage = .queued)))

/-- WHISTLE_COUNT is written (R412). -/
def Dev.writeWhistleCount (d : Dev) (w v : Nat) : Dev := d.setWhistle w { d.whistle w with count := v }

/-- COMPUTE_INJECT is refused (R14, R405). -/
def Dev.refuseComputeInject (d : Dev) (v : Nat) : Option Status :=
  if bits v 16 10 != 0 || bits v 0 16 = 0 || bits v 28 4 = 0 || 4 < bits v 28 4 then some .invalidValue
  else if d.reg E.COMPUTE_INJECT_LEFT != 0 then some .stateConflict
  else none

/-- COMPUTE_INJECT is written (R405). -/
def Dev.writeComputeInject (d : Dev) (v : Nat) : Dev :=
  { d.setReg E.COMPUTE_INJECT_LEFT (bits v 0 16) with cinject := some ⟨bits v 28 4, bits v 26 2⟩ }

/-- A binding record's fields are in their ranges (R14, R414). (DEDUCED, log entry 150). -/
def bindingOk (b : Nat) : Bool :=
  bits b 63 1 = 0 || (1 ≤ bits b 60 3 && bits b 60 3 ≤ 5 && bits b 14 5 ≤ 20 && 1 ≤ bits b 0 14 &&
    (if bits b 60 3 ≤ 3 then bits b 42 18 = 0 else if bits b 60 3 = 4 then bits b 32 28 < 64 else bits b 32 28 != 0))

/-- A valid binding can name a whistle (R414): only CHUNK_RELEASED and OP_DONE come with a chunk index. -/
def bindingNames (b w : Nat) : Bool :=
  let base := bits b 19 13
  let chunked : Bool := bits b 60 3 = 1 || bits b 60 3 = 5
  bits b 63 1 = 1 && base ≤ w && w ≤ base + (if chunked then (2 ^ 20 - 1) / 2 ^ bits b 14 5 else 0)

/-- BINDINGS is refused (R14, R414): a bad record, or a record that changes can name, before or after, an ARMED whistle.
(DEDUCED, log entry 150). -/
def Dev.refuseBindings (d : Dev) (v : List Byte) : Option Status :=
  let recs := fun (x : List Byte) => (chunksOf 8 x 257).map leNat
  let new := recs v
  if !new.all bindingOk then some .invalidValue
  else
    let changed := ((recs (d.blob E.BINDINGS)).zip new).filter (fun (z : Nat × Nat) => z.1 != z.2)
    let armed := (d.whistles.filter (fun (e : Nat × Whistle) => e.2.state = .armed)).map (fun (e : Nat × Whistle) => e.1)
    if changed.any (fun z => armed.any (fun w => bindingNames z.1 w || bindingNames z.2 w)) then some .stateConflict else none

end Sys2Proof.Machine
end

