-- ==== Sys2Proof/Machine/ReadEntry.lean ====
section
/-! DEFINITION. The value every dictionary entry reads as (the entry tables of all chapters), what a read clears
(R40), and the image a profile save captures (R581). -/

namespace Sys2Proof.Machine

/-! ## Codes of the state entries -/

/-- LANE_STATE (R113). -/
def laneStateCode (x : LaneState) : Nat :=
  match x with
  | .off => 0
  | .train => 1
  | .active => 2
  | .parked => 3
  | .failed => 4
  | .keepalive => 5
  | .test => 6

/-- PORT_STATE (R163). -/
def portStateCode (x : PortState) : Nat :=
  match x with
  | .off => 0
  | .detect => 1
  | .absent => 2
  | .ident => 3
  | .lanes => 4
  | .up => 5
  | .recover => 6
  | .keepalive => 7
  | .quarantine => 8

/-- BANK_STATE_0 and BANK_STATE_1 (R231). -/
def bankCode (x : BankState) : Nat :=
  match x with
  | .idle => 0
  | .live => 1
  | .draining => 2

/-- STATE of CTX_STATUS (R314). -/
def ctxStateCode (x : CtxState) : Nat :=
  match x with
  | .free => 0
  | .collect => 1
  | .done => 2
  | .mismatch => 3
  | .failed => 4

/-- WHISTLE_STATE (R416). -/
def whistleCode (x : WhistleState) : Nat :=
  match x with
  | .disarmed => 0
  | .armed => 1
  | .spent => 2

/-- DMA_STATE (R498). -/
def dmaCode (x : DmaState) : Nat :=
  match x with
  | .idle => 0
  | .running => 1
  | .paused => 2
  | .error => 3

/-- LAST_RESET (R624). -/
def resetCode (x : ResetKind) : Nat :=
  match x with
  | .cold => 1
  | .warm => 2
  | .switch => 3

/-! ## Numeric entries -/

/-- A count of ports. -/
def countPorts (f : Nat → Bool) : Nat := (allPorts.filter f).length

/-- SHR_USED, SHARED_HELD and REPLAY_HELD: slots of pools held for an owner. -/
def Kennel.heldBy (k : Kennel) (owner : Nat) (ps : List Pool) : Nat :=
  (k.slots.filter (fun e => !e.2.stray && e.2.owner = owner && ps.contains e.2.pool)).length

/-- Numeric entries of 0x1000 to 0x1FFF (R6, R68). -/
def Dev.idNum (d : Dev) (k : Nat) : Nat :=
  if k = E.GRADE then (if d.mfg.full then 1 else 2)
  else if k = E.STEPPING then d.mfg.stepping
  else if k = E.FW_COMPAT then d.fwCompatNow
  else if k = E.FW_SLOT then d.fw.running
  else if k = E.SESSIONS_OPEN then d.mgmt.sessions.length
  else d.reg k

/-- The lane a sub-index of 0x22pp or 0x23pp names (R113). -/
def laneOf (s : Nat) : Lane := Fin.ofNat 4 (s / 16)

/-- Numeric entries of a port's lanes, 0x2100 to 0x23FF (R112 to R114). -/
def Dev.laneNum (d : Dev) (i s : Nat) : Nat :=
  let p := i % 256
  let k := i * 256 + s
  let l := laneOf s
  let x := d.lane p l
  if i / 256 = 0x21 then
    if s = 1 then d.elecClass p
    else if s = 6 then (d.port p).capacity
    else if s = 8 then
      match (d.port p).handover with
      | some h => h.lane.val
      | none => 0xFF
    else d.reg k
  else if i / 256 = 0x22 then
    if s % 16 = 1 then laneStateCode x.state
    else if s % 16 = 2 then x.rate
    else if s % 16 = 3 then x.margin
    else if s % 16 = 5 then (if x.state = .off then classPeak (d.elecClass p) else x.peak)
    else if s % 16 = 0xD then (tget d.regs k).getD (classPeak (d.elecClass p))
    else d.reg k
  else if s % 16 = 9 then d.injectLeft p l
  else d.reg k

/-- Numeric entries of 0x2000 to 0x2FFF. -/
def Dev.linkNum (d : Dev) (i s : Nat) : Nat :=
  if 0x2100 ≤ i && i ≤ 0x23FF then d.laneNum i s
  else if 0x2500 ≤ i && i ≤ 0x25FF && s = 2 then portStateCode (d.port (i % 256)).state
  else d.reg (i * 256 + s)

/-- Numeric entries of 0x3000 to 0x3FFF (R197 to R199, R231, R641). -/
def Dev.switchNum (d : Dev) (i s : Nat) : Nat :=
  let k := i * 256 + s
  if i = 0x3000 || i = 0x3001 then
    let m := i % 2
    let kn := d.kennel m
    if s = 1 then (kn.walk d.tick).freeCount
    else if s = 2 then d.dedSize
    else if s = 3 then d.staSize m
    else if s = 4 then d.rpySize m
    else if s = 5 then d.shrSize m
    else if s = 6 then kn.used .shr
    else if s = 8 then kn.strays
    else d.reg k
  else if 0x3100 ≤ i && i ≤ 0x31FF then
    let p := i % 256
    let kn := d.kennel (sdieOf p)
    if s = 4 then kn.heldBy (p % 128) [.shr]
    else if s = 5 then kn.heldBy (p % 128) [.ded, .shr]
    else if s = 8 then kn.heldBy (256 + p % 128) [.rpy]
    else d.reg k
  else if k = E.INGRESS_EPOCH then d.ingressEpoch
  else if k = E.FLIP_TICK then d.routing.flipTick.getD 0
  else if k = E.FLIP_STATE then (if d.routing.flipTick.isSome then 1 else 0)
  else if k = E.DRAIN_0 then d.drainCount 0
  else if k = E.DRAIN_1 then d.drainCount 1
  else if k = E.BANK_STATE_0 then bankCode d.routing.bank0
  else if k = E.BANK_STATE_1 then bankCode d.routing.bank1
  else if k = E.FLIP_DRAIN_BOUND then d.drainBound
  else if k = E.PORTS_MATCHED then countPorts (fun p => (tgetD d.discovery p {}).outcome = 1)
  else if k = E.PORTS_ABSENT then countPorts (fun p => (d.port p).state = .absent)
  else if k = E.PORTS_QUARANTINED then countPorts (fun p => (d.port p).state = .quarantine)
  else if k = E.PORTS_REMAPPED then countPorts (fun p => d.logical p != p)
  else d.reg k

/-- Numeric entries of 0x4000 to 0x4FFF (R276, R312, R313, R343, R344, R377). -/
def Dev.collNum (d : Dev) (i s : Nat) : Nat :=
  let k := i * 256 + s
  if i ≤ 0x43FF then
    let p := i - 0x4000
    let a := tget d.packs p
    if s = 1 then (if a.isSome then 1 else 0)
    else if s = 7 then d.packFront p
    else if s = 8 then d.openContexts p
    else d.reg k
  else if k = E.PACKS_ACTIVE then d.packs.length
  else if k = E.CONTEXTS_RESERVED then d.reserved
  else if 0x4520 ≤ i && i ≤ 0x452F then
    let u := i - 0x4520
    if s = 1 then d.framesFree u
    else if s = 7 then
      (d.ctxs.map (fun e => ((e.2.chunks.filter (fun c => unitOf e.1 c.1 = u)).map (fun c => c.2.log.length)).sum +
        ((e.2.down.filter (fun c => unitOf e.1 c.1 = u)).map (fun c => c.2.log.length)).sum)).sum
    else if s = 0xA then d.provFrames u
    else d.reg k
  else if k = E.SEND_LOG_RECORDS then (d.ctxs.map (fun e => e.2.sendLog.length)).sum
  else if k = E.TIME_DELAY then ofSigned 32 d.time.delay
  else if k = E.TIME_ALIGNED then (if d.timeAligned then 1 else 0)
  else if k = E.TIME_OFFSET then ofSigned 64 d.timeOffset
  else if 0x4700 ≤ i && i ≤ 0x47FF && s = 2 then (d.packs.filter (fun e => e.2.hier = i - 0x4700)).length
  else if k = E.NAN_TRAPPED then (if d.nanTrap.isSome then 1 else 0)
  else d.reg k

/-- The slot states of a loaded chain (R428, R454). -/
def Dev.slotStates (d : Dev) (c : ChainSlot) : Nat :=
  if c.desc = [] || !d.stateful c.desc then 0 else (d.slotHead c.desc 0).2 + 256 * (d.slotHead c.desc 1).2

/-- Numeric entries of 0x5000 to 0x5FFF (R415, R416, R454, R477). -/
def Dev.tierNum (d : Dev) (i s : Nat) : Nat :=
  let k := i * 256 + s
  let w := d.whistle (d.reg E.WHISTLE_SELECT)
  let cs := d.reg E.CHAIN_SLOT
  let c := d.chain cs
  let ps := d.reg E.PROG_SLOT
  let g := d.prog ps
  if k = E.CLUSTER_MAP then
    ((List.range 32).map (fun n => if !d.mfg.full && bits d.mfg.disabled (4 * (n / 8)) 4 % 8 = n % 8 then 0 else 2 ^ n)).sum
  else if k = E.ENGINES then 128 * d.clusters
  else if k = E.WHISTLE_COUNT then w.count
  else if k = E.WHISTLE_FIRES then w.fires - w.cleared
  else if k = E.WHISTLE_STATE then whistleCode w.state
  else if k = E.CHAIN_ADDR then c.addr
  else if k = E.CHAIN_STATUS then (if c.desc = [] then 0 else 1)
  else if k = E.CHAIN_ID then (if c.desc = [] then 0 else chainIdOf c.desc)
  else if k = E.LOAD_ERROR then c.error
  else if k = E.INIT_STEP then c.initStep
  else if k = E.COMMITTED_STEP then c.committed
  else if k = E.SLOT_STATES then d.slotStates c
  else if k = E.CHAIN_USERS then d.chainUsers cs
  else if k = E.STASHED_CHUNKS then d.stashedChunks
  else if k = E.PROG_STATUS then (if g.loaded = [] then 0 else 1)
  else if k = E.PROG_ID then (if g.loaded = [] then 0 else pgId g.loaded)
  else if k = E.PROG_LOAD_ERROR then g.error
  else if k = E.PROG_USERS then d.progUsers ps
  else if k = E.PROG_ELEMENTS then g.elements
  else d.reg k

/-- Numeric entries of 0x6000 to 0x6FFF (R505, R506). -/
def Dev.hostNum (d : Dev) (i s : Nat) : Nat :=
  let k := i * 256 + s
  if 0x6040 ≤ i && i ≤ 0x607F then
    let x := d.qp (i - 0x6040)
    if s = 1 then x.state
    else if s = 5 then (if x.state = 0 then d.reg k else x.sqPsn)
    else if s = 6 then (if x.state = 0 then d.reg k else x.rqPsn)
    else if s = 0xA then x.rate
    else d.reg k
  else if k = E.BRIDGE_WAITING then d.bridge.length
  else if 0x6100 ≤ i && i ≤ 0x613F && s = 2 then dmaCode (d.chan (i - 0x6100)).state
  else if k = E.GENERAL_TOP then d.generalTop
  else if k = E.LEDGER_CAPACITY then d.ledgerCapacity
  else d.reg k

/-- The cap of a POWER_CAP code, in watts (R602). -/
def capWatts (c : Nat) : Nat :=
  if c = 0 then 4000 else if c = 1 then 3400 else if c = 2 then 2800 else 2200

/-- The power ceiling in force, in watts (R599). (DEDUCED, log entry 121). -/
def Dev.ceiling (d : Dev) : Nat := min (capWatts d.power.capInForce) (min 4000 (d.power.inputMv / 10))

/-- A reading no window has measured yet: a free value of a width. (DESIGN CHOICE, log entry 158). -/
def Dev.freeRead (d : Dev) (w : Nat) : Nat := (Config.freeReading d.draws).toNat % 2 ^ w

/-- Entries whose value is a free one in the present state: the input's mean before the first window (R624), and the
hottest junction, which no command reports as a whole. -/
def Dev.readsFree (d : Dev) (k : Nat) : Bool :=
  (d.power.windowAt.isNone && (k = E.INPUT_MV || k = E.INPUT_MA || k = E.INPUT_W)) || k = E.TEMP_HOTTEST

/-- Numeric entries of 0x7000 to 0xAFFF (R547, R574, R597, R624). -/
def Dev.upperNum (d : Dev) (k : Nat) : Nat :=
  let w := d.power
  if k = E.FENCED then (if d.fenced then 1 else 0)
  else if k = E.TICK_NOW then d.tick
  else if k = E.LIST_FULL then (if d.tele.satList.length = 256 then 1 else 0)
  else if k = E.SNAP_STATE then d.tele.snapState
  else if k = E.SNAP_EP_TAKEN then d.tele.epTaken
  else if k = E.CEILING_W then d.ceiling
  else if k = E.INPUT_MV then (if w.windowAt.isSome then w.inputMv else d.freeRead 32)
  else if k = E.INPUT_MA then (if w.windowAt.isSome then w.inputMa else d.freeRead 32)
  else if k = E.INPUT_W then (if w.windowAt.isSome then min 65535 (w.inputMv * w.inputMa / 1000000) else d.freeRead 16)
  else if k = E.TEMP_HOTTEST then d.freeRead 32
  else if k = E.COMPUTE_STEP then w.step
  else if k = E.SWITCH_HALVED then (if w.switchHalved then 1 else 0)
  else if k = E.CLOCK_STATE then (if w.holdover then 1 else 0)
  else if k = E.TICK_LOCKED then (if w.tickLocked then 1 else 0)
  else if k = E.SLEEP_STATE then sleepCode w.sleep
  else if k = E.LAST_RESET then resetCode w.lastReset
  else if k = E.RESET_TICK then w.resetTick
  else if k = E.BOOT_STAGE then w.bootStage
  else if k = E.ACTIVE_GEN then (activeGen (d.profileGens (d.reg E.ACTIVE_PROFILE))).getD 0xFF
  else if k = E.BURN_STATE then d.burnState
  else if k = E.PROFILE_FROZEN then ((List.range 4).map (fun p => if frozen (d.profileGens p) then 2 ^ p else 0)).sum
  else if k = E.CLAIM_STATE then (if d.claimed then 1 else 0)
  else if k = E.ROLLBACK_COUNTER then d.rollback
  else d.reg k

/-- A numeric entry's value. -/
def Dev.numEntry (d : Dev) (i s : Nat) : Nat :=
  let k := i * 256 + s
  if i / 0x1000 = 1 then d.idNum k
  else if i / 0x1000 = 2 then d.linkNum i s
  else if i / 0x1000 = 3 then d.switchNum i s
  else if i / 0x1000 = 4 then d.collNum i s
  else if i / 0x1000 = 5 then d.tierNum i s
  else if i / 0x1000 = 6 then d.hostNum i s
  else d.upperNum k

/-! ## Entries of type OCTETS and STR -/

/-- PART_NUMBER's characters (R6): "OVR-TX1-F" or "OVR-TX1-H". -/
def partNumber (full : Bool) : List Byte := [0x4F, 0x56, 0x52, 0x2D, 0x54, 0x58, 0x31, 0x2D, if full then 0x46 else 0x48]

/-- The record of DISCOVERY (R642). (DEDUCED, log entry 63). -/
def Dev.discoveryBytes (d : Dev) (p : Nat) : List Byte :=
  let x := tgetD d.discovery p {}
  beBytes 1 x.outcome ++ beBytes 1 (d.logical p) ++ beBytes 1 x.other ++ [0] ++ beBytes 2 x.differ ++ [0, 0] ++ beBytes 8 x.tick

/-- The record of CTX_STATUS (R314). -/
def Dev.ctxBytes (d : Dev) (n : Nat) : List Byte :=
  match d.packs.find? (fun e => e.2.contexts.contains n) with
  | none => [0xFF, 0xFF] ++ List.replicate 62 0
  | some e =>
    let x := d.ctx n
    if x.state = .free then beBytes 2 e.1 ++ List.replicate 62 0
    else
      let members := (x.validated.filter (· < 256)).foldl maskSet 0
      beBytes 2 e.1 ++ beBytes 2 x.cseq ++ beBytes 1 (ctxStateCode x.state) ++
        beBytes 1 (if x.state = .collect then 0 else x.status) ++ [0, 0] ++ beBytes 8 x.openTick ++ maskBytes members ++
        beBytes 8 x.progressTick ++ beBytes 4 (x.released.length + x.relayed.length) ++ [0, 0, 0, 0]

/-- Gauges, besides the counters of R549, that a snapshot copies (R559). (DEDUCED, log entry 119). -/
def isGauge (i s : Nat) : Bool :=
  let k := i * 256 + s
  ((i = 0x3000 || i = 0x3001) && [1, 6, 7, 8].contains s) ||
  (0x3100 ≤ i && i ≤ 0x31FF && [4, 5, 8].contains s) ||
  (0x4000 ≤ i && i ≤ 0x43FF && s = 8) ||
  (0x4520 ≤ i && i ≤ 0x452F && [1, 2, 7, 10].contains s) ||
  (0x4701 ≤ i && i ≤ 0x47FF && s = 2) ||
  [E.DRAIN_0, E.DRAIN_1, E.PORTS_MATCHED, E.PORTS_ABSENT, E.PORTS_QUARANTINED, E.PORTS_REMAPPED, E.PACKS_ACTIVE,
   E.CONTEXTS_RESERVED, E.SEND_LOG_RECORDS, E.QUEUE_PEAK, E.CHAIN_USERS, E.STASHED_CHUNKS, E.PROG_USERS,
   E.BRIDGE_WAITING, E.SNAP_EP_TAKEN, E.INT_COUNTS, E.INT_SATURATED].contains k

/-- Whether an entry has a shadow (R559, R561). (DEDUCED, log entry 119). -/
def hasShadow (i s : Nat) : Bool := isCounter i s || isGauge i s

/-- The set the present SHADOW_SELECT names, if it is still held (R561). -/
def Dev.selected (d : Dev) (sh : List ShadowSet) : Option ShadowSet :=
  sh.find? (fun x => x.taken && x.id = beNat (slice (padTo 8 d.tele.select) 0 4))

/-- The shadow's device with the present choice of whistle, chain slot and program slot. -/
def Dev.shadowImage (d : Dev) (x : ShadowSet) : Dev :=
  ((x.image.setReg E.WHISTLE_SELECT (d.reg E.WHISTLE_SELECT)).setReg E.CHAIN_SLOT (d.reg E.CHAIN_SLOT)).setReg
    E.PROG_SLOT (d.reg E.PROG_SLOT)

/-- The interrupt controller's entries (R547). -/
def IntCtl.countBytes (n : IntCtl) : List Byte := (List.range 256).map (fun s => BitVec.ofNat 8 (tgetD n.counts s 0))

/-- OCTETS and STR entries of 0x1000 to 0x5FFF. -/
def Dev.lowerBytes (d : Dev) (i s : Nat) : List Byte :=
  let k := i * 256 + s
  if k = E.PART_NUMBER then partNumber d.mfg.full
  else if k = E.SERIAL then beBytes 16 d.mfg.serial
  else if k = E.FW_VERSION then fwVersion (d.fw.header d.fw.running)
  else if k = E.T1S_MAC then beBytes 6 d.mfg.t1sMac
  else if k = E.T1S_ADDRESS then linkLocal d.mfg.t1sMac
  else if 0x3500 ≤ i && i ≤ 0x35FF && s = 1 then d.planEntry (i % 256)
  else if 0x3500 ≤ i && i ≤ 0x35FF && s = 2 then d.discoveryBytes (i % 256)
  else if 0x4000 ≤ i && i ≤ 0x43FF && s = 9 then
    (((tget d.packs (i - 0x4000)).map (·.contexts)).getD []).flatMap (beBytes 2)
  else if k = E.CTX_STATUS then d.ctxBytes (d.reg E.CTX_SELECT)
  else if k = E.NAN_TRAP then
    match d.nanTrap with
    | some t => t.bytes
    | none => List.replicate 32 0
  else if k = E.WHISTLE_DESC then (d.whistle (d.reg E.WHISTLE_SELECT)).desc
  else if k = E.PROG_IMAGE then (d.prog (d.reg E.PROG_SLOT)).loaded
  else d.blob k

/-- OCTETS entries of 0x6000 to 0xAFFF, but for those of the snapshot shadows. -/
def Dev.upperBytes (d : Dev) (k : Nat) : List Byte :=
  if k = E.HOST_MAC then beBytes 6 d.mfg.hostMac
  else if k = E.FATAL_RECORD then recordBytes .fatal d.sentry.fatal
  else if k = E.UNC_RECORD then recordBytes .contained d.sentry.unc
  else if k = E.CORR_RECORD then recordBytes .corrected d.sentry.corr
  else if k = E.BARK_LOG then d.sentry.log.flatMap barkBytes
  else if k = E.INT_ENABLE then maskBytes d.ints.enable
  else if k = E.INT_PENDING then maskBytes d.ints.pending
  else if k = E.INT_COUNTS then d.ints.countBytes
  else if k = E.INT_SATURATED then maskBytes d.ints.saturated
  else if k = E.LINK_CHANGED then maskBytes d.ints.linkChanged
  else if k = E.SATURATED_LIST then d.tele.satBytes
  else if k = E.SHADOW_SELECT then padTo 8 d.tele.select
  else if k = E.SNAP_EP_LATE then maskBytes d.tele.epLate
  else if k = E.SAMPLE_RING then d.tele.ring.flatten
  else if k = E.POWER_EVENT_LAST then padTo 16 d.power.event
  else if k = E.LAST_WAKE then padTo 16 d.power.lastWake
  else if k = E.PROFILE_GENS then (List.range 4).flatMap (fun p => (d.profileGens p).flatMap (beBytes 1))
  else if k = E.KEY_GENS then (List.range 2).flatMap (fun q => (d.keyGens q).flatMap (beBytes 1))
  else if k = E.KEY_HASH then d.keyHash (d.reg E.KEY_SLOT_SELECT)
  else if k = E.OWNER_PUBKEY then padTo 384 (d.fw.pubkey (d.reg E.KEY_SLOT_SELECT))
  else if k = E.FW_INFO_A then (d.fw.header 0).take 128
  else if k = E.FW_INFO_B then (d.fw.header 1).take 128
  else if k = E.IDENTITY_PUBKEY then padTo 384 d.mfg.identityModulus
  else if k = E.CERT_CHAIN then d.mfg.certChain
  else d.blob k

/-- The bytes of an entry that has a row, apart from the shadows and the length of a save's image. -/
def Dev.entryBytes (d : Dev) (i s : Nat) : List Byte :=
  match findRow i s with
  | none => beBytes 1 (topSub i)
  | some r =>
    if typeFixed r.ty then beBytes (typeSize r.ty) (d.numEntry i s)
    else if i < 0x6000 then d.lowerBytes i s
    else d.upperBytes (i * 256 + s)

/-! ## The image of a save (R580, R581) -/

/-- An entry's value after the profile defaults (R40, R583). ELEC_CLASS and PLAN_NEIGHBOUR take theirs from the plan
class (R112, R628). -/
def Dev.defaultBytes (d : Dev) (i s : Nat) : List Byte :=
  let k := i * 256 + s
  let d0 := { d with regs := terase d.regs k, blobs := terase d.blobs k }
  d0.entryBytes i s

/-- Whether an entry is saved in a profile (R40). -/
def isRwp (k : Nat) : Bool :=
  match findRow (k / 256) (k % 256) with
  | some r => r.acc = .rwp
  | none => false

/-- The RWP entries whose value differs from its Default, by ascending index and sub-index (R581). -/
def Dev.savedKeys (d : Dev) : List Nat :=
  let ks := (d.regs.map (·.1)).filter isRwp ++ (d.blobs.map (·.1)).filter isRwp
  (sortBy (fun (a b : Nat) => a ≤ b) ks).filter (fun k => d.entryBytes (k / 256) (k % 256) != d.defaultBytes (k / 256) (k % 256))

/-- The IMAGE a SAVE would capture now: a record's own fields least significant byte first, its value as in a frame (R575,
R580). -/
def Dev.saveImage (d : Dev) : List Byte :=
  d.savedKeys.flatMap (fun k =>
    let v := d.entryBytes (k / 256) (k % 256)
    leBytes 2 (k / 256) ++ leBytes 1 (k % 256) ++ leBytes 2 v.length ++ v)

/-! ## Reads -/

/-- Whether an index lies in the vendor range (R38). (DEDUCED, log entry 26). -/
def vendorIndex (i : Nat) : Bool := 0xF000 ≤ i

/-- A sub-index is present at a vendor index: none above the value of .00, and that one itself (R36). -/
def vendorHas (i s : Nat) : Bool :=
  let top := Config.vendorTop i % 256
  top != 0 && (s = 0 || s = top || (s < top && Config.vendorPresent (i * 256 + s)))

/-- The bytes of SHADOW_VALUE (R561). -/
def Dev.shadowValue (d : Dev) (sh : List ShadowSet) : List Byte :=
  match d.selected sh with
  | none => List.replicate 8 0
  | some x =>
    let sel := padTo 8 d.tele.select
    let i := beNat (slice sel 4 2)
    let s := beNat (slice sel 6 1)
    let m := d.shadowImage x
    beBytes 4 x.id ++ [BitVec.ofNat 8 ((if m.saturated (i * 256 + s) then 1 else 0) +
      (if m.domainOff (domainOf i s) then 2 else 0)), 0, 0, 0] ++ m.entryBytes i s

/-- The value a read of a present entry returns. (DESIGN CHOICE, log entries 7 and 8; DEDUCED, log entry 39). -/
def Dev.readEntry (d : Dev) (sh : List ShadowSet) (i s : Nat) : List Byte :=
  let k := i * 256 + s
  if vendorIndex i then (if s = 0 then beBytes 1 (Config.vendorTop i % 256) else Config.vendorValue k d.draws)
  else if k = E.SNAP_HELD then snapHeld sh
  else if k = E.SHADOW_VALUE then d.shadowValue sh
  else if k = E.IMAGE_BYTES then beBytes 2 (min 65535 d.saveImage.length)
  else d.entryBytes i s

/-- A read of SHADOW_VALUE fails once its set is gone (R561). -/
def Dev.refuseRead (d : Dev) (sh : List ShadowSet) (i s : Nat) : Option Status :=
  if i * 256 + s = E.SHADOW_VALUE && (d.selected sh).isNone then some .stateConflict else none

/-- What a read changes: it clears an RC entry (R40) with what goes with it, and uses up a free value. A cleared gauge of
least or highest values starts again from the present value. -/
def Dev.afterRead (d : Dev) (i s : Nat) : Dev :=
  let k := i * 256 + s
  if (vendorIndex i && s != 0) || d.readsFree k then d.drew
  else
    match findRow i s with
    | none => d
    | some r =>
      if r.acc != .rc then d
      else if k = E.NAN_TRAP then { d with nanTrap := none }
      else if k = E.INT_PENDING then { d with ints := { d.ints with pending := 0 } }
      else if k = E.INT_COUNTS then { d with ints := { d.ints with counts := [], saturated := 0 } }
      else if k = E.LINK_CHANGED then { d with ints := { d.ints with linkChanged := 0 } }
      else if k = E.SAMPLE_RING then { d with tele := { d.tele with ring := [] } }
      else if k = E.POWER_EVENT_LAST then { d with power := { d.power with event := [] } }
      else if i = 0x3000 || i = 0x3001 then d.setReg k ((d.kennel (i % 2)).used .shr)
      else if 0x4520 ≤ i && i ≤ 0x452F then d.setReg k (d.framesFree (i - 0x4520))
      else if k = E.QUEUE_PEAK then d.setReg k (max (queued d.actions0) (queued d.actions1))
      else { d with regs := terase d.regs k, blobs := terase d.blobs k }

end Sys2Proof.Machine
end

