-- ==== Sys2Proof/Machine/Power.lean ====
section
/-! DEFINITION. The 40 V input, caps and thermal limits, the rack clock, and entry into the sleep states (R598 to R616,
R623, R624). -/

namespace Sys2Proof.Machine

/-! ## Power faults (R598, R601) -/

/-- The always-on domain runs. -/
def Dev.alive (d : Dev) : Bool := !d.power.off

/-- A power fault: a FATAL bark with a sensor code in ADDRESS and the reading in DETAIL (R601).
(DEDUCED, log entry 126). -/
def Dev.powerFault (d : Dev) (kind code : Nat) (reading : Int) : Dev :=
  d.sample (bark kind accNone iniNone false code (ofSigned 64 reading))

/-- An input voltage in mV lies in the operating range (R598). -/
def inRange (mv : Nat) : Bool := 36000 ≤ mv && mv ≤ 44000

/-- The host port has no power or is in reset: its link is down, and what it advertised starts afresh (R479, R480).
(DEDUCED, log entry 151). -/
def Dev.hostDark (d : Dev) : Dev := { d.setReg E.HOST_MODE 0 with hostPort := {} }

/-- Every fabric port is OFF: the lanes have no power, or the TX1 is in reset. (DEDUCED, log entry 130). -/
def Dev.portsDark (d : Dev) : Dev :=
  (d.ports.filter (fun e => e.2.state != .off)).foldl (fun a e => a.toOff e.1) d

/-- The compute, switch, lane and host domains lose power (R601). (DEDUCED, log entry 126). -/
def Dev.fastPowerOff (d : Dev) : Dev :=
  let d1 := d.portsDark.hostDark
  { d1 with power := { d1.power with fastOff := true, selfRefresh := true } }

/-- Memory loses power too, and HBM4 contents are lost (R601). (DEDUCED, log entry 127). -/
def Dev.memoryPowerOff (d : Dev) : Dev :=
  let d1 := d.fastPowerOff
  { d1 with power := { d1.power with memoryOff := true, selfRefresh := false }, mem := [], ueWords := [], pageChecks := [] }

/-- INPUT_UV: below 34.0 V (R601). -/
def execInputUv (mv : BitVec 32) (s : State) : Host.Outcome State Fault Refusal :=
  run s fun d =>
    if !d.alive || 34000 ≤ mv.toNat then d
    else
      let d1 := d.powerFault 0x0E01 0x00 mv.toNat
      { d1 with power := { d1.power with inputOut := true, selfRefresh := true } }

/-- INPUT_OV: above 46.0 V (R601). -/
def execInputOv (mv : BitVec 32) (s : State) : Host.Outcome State Fault Refusal :=
  run s fun d =>
    if !d.alive || mv.toNat ≤ 46000 then d
    else
      let d1 := (d.powerFault 0x0E02 0x00 mv.toNat).fastPowerOff
      { d1 with power := { d1.power with inputOut := true } }

/-- OVERCURRENT: above 110 A (R601). -/
def execOvercurrent (ma : BitVec 32) (s : State) : Host.Outcome State Fault Refusal :=
  run s fun d =>
    if !d.alive || ma.toNat ≤ 110000 then d else (d.powerFault 0x0E03 0x01 ma.toNat).memoryPowerOff

/-- RAIL_FAULT: the rails take codes from 0x20 in the row order of R32, compute c at 0x28 + c and memory c at 0x2C + c
(R601). A code that names no rail reports nothing. -/
def execRailFault (rail : Fin 16) (mv : BitVec 32) (s : State) : Host.Outcome State Fault Refusal :=
  run s fun d =>
    if !d.alive || (5 ≤ rail.val && rail.val < 8) then d
    else (d.powerFault 0x0E05 (0x20 + rail.val) mv.toNat).memoryPowerOff

/-- The code of a sensor (R601). An L-tile's has none in the spec. (DESIGN CHOICE, log entry 45). -/
def sensorCode (x : Sensor) : Nat :=
  match x with
  | .cdie c => 0x10 + c.val
  | .sdie s => 0x14 + s.val
  | .mtile => 0x16
  | .hbm k => 0x18 + k.val
  | .ltile t => 0x100 + t.val

/-- The code of a sensor as a record shows it. -/
def sensorShown (x : Sensor) : Nat :=
  match x with
  | .ltile t => Config.ltileSensor t.val % 256
  | _ => sensorCode x

/-- A sensor's throttle point, in m°C (R603). (DEDUCED, log entry 153). -/
def Dev.throttleAt (d : Dev) (x : Sensor) : Option Int :=
  match x with
  | .cdie _ | .sdie _ | .ltile _ => some (1000 * (d.reg E.THERMAL_THROTTLE_C : Int))
  | .hbm _ => some 85000
  | .mtile => none

/-- A sensor's limit, in m°C (R603). -/
def overtempAt (x : Sensor) : Int :=
  match x with
  | .cdie _ | .sdie _ | .ltile _ => 110000
  | .hbm _ => 105000
  | .mtile => 115000

/-- OVERTEMP (R601, R603). -/
def execOvertemp (x : Sensor) (mC : BitVec 32) (s : State) : Host.Outcome State Fault Refusal :=
  run s fun d =>
    if !d.alive || mC.toInt ≤ overtempAt x then d
    else
      let d1 := (d.powerFault 0x0E04 (sensorShown x) mC.toInt).fastPowerOff
      { d1 with power := { d1.power with overtempHold := true } }

/-! ## Caps and thermal limits (R599, R602, R603) -/

/-- The power events of a change of n or of the switch clock (R603, R623). (DEDUCED, log entry 122). -/
def Dev.throttleEvents (d : Dev) (was : Power) (code : Nat) (reading : Int) : Dev :=
  let now := d.power
  let on : Bool := decide ((was.step = 16 ∧ now.step < 16) ∨ (was.switchHalved = false ∧ now.switchHalved = true))
  let off : Bool := decide ((was.step < 16 ∨ was.switchHalved = true) ∧ now.step = 16 ∧ now.switchHalved = false)
  if on then d.powerEvent 0x02 code reading else if off then d.powerEvent 0x03 code reading else d

/-- THERMAL_THROTTLE: a sensor's reading against its throttle point (R603). (DEDUCED, log entry 153). -/
def execThermalThrottle (x : Sensor) (mC : BitVec 32) (s : State) : Host.Outcome State Fault Refusal :=
  run s fun d =>
    match d.throttleAt x with
    | none => d
    | some t =>
      let c := sensorCode x
      let w := d.power
      let sdie : Bool := match x with
        | .sdie _ => true
        | _ => false
      if !d.alive then d
      else
        let above : Bool := t < mC.toInt
        let hot := w.hot.filter (· != c) ++ (if above then [c] else [])
        let warm := w.warm.filter (· != c) ++ (if t - 5000 < mC.toInt then [c] else [])
        ({ d with power := { w with hot := hot, warm := warm, switchHalved := (w.switchHalved || (above && sdie)) && warm != [] } }).throttleEvents
          w (sensorShown x) mC.toInt

/-- A C-die or HBM4 sensor is above its throttle point (R603). (DEDUCED, log entry 124). -/
def Power.hotCompute (w : Power) : Bool := w.hot.any (fun c => (0x10 ≤ c && c < 0x14) || (0x18 ≤ c && c < 0x20))

/-- The governor's step at a window's end against a ceiling (R602, R603). (DEDUCED, log entries 122 and 124). -/
def Power.govern (w : Power) (ceiling : Nat) : Power :=
  let uw := w.inputMv * w.inputMa
  let low := if uw + 150000000 ≤ ceiling * 1000000 then w.lowRun + 1 else 0
  if ceiling * 1000000 < uw || w.hotCompute then { w with step := max 4 (w.step - 1), lowRun := low }
  else if 4 ≤ low && w.warm = [] && w.step < 16 then { w with step := w.step + 1, lowRun := 0 }
  else { w with lowRun := low }

/-- GOVERNOR_WINDOW: the end of each window of 256 ticks, once (R602); its mean voltage may show the input outside its range
(R601). (DEDUCED, log entries 121, 123 and 129). -/
def execGovernorWindow (mv ma : BitVec 32) (s : State) : Host.Outcome State Fault Refusal :=
  run s fun d =>
    let was := d.power
    if !d.alive || d.tick % 256 != 0 || was.windowAt = some d.tick then d
    else
      let d1 := { d with power := { was with inputMv := mv.toNat, inputMa := ma.toNat, windowAt := some d.tick,
                                             inputOut := was.inputOut || !inRange mv.toNat,
                                             capInForce := was.capPending.getD was.capInForce, capPending := none } }
      let d2 := if was.step < 16 || was.switchHalved then d1.count E.THROTTLE_WINDOWS else d1
      let d3 := if was.capPending.isSome then d2.powerEvent 0x01 0 0 else d2
      ({ d3 with power := d3.power.govern d3.ceiling }).throttleEvents was 0 0

/-! ## The rack clock (R606 to R608) -/

/-- The first lock steps the counter from one value to another: what the always-on domain times keeps its elapsed time. -/
def Dev.rebase (d : Dev) (old new : Nat) : Dev :=
  let sh := fun (t : Nat) => t + new - old
  let m := d.mgmt
  let w := d.power
  { d with tick := new,
           mgmt := { m with cache := m.cache.map (fun c => { c with tick := sh c.tick }),
                            handles := m.handles.map (fun h => { h with lastUse := sh h.lastUse }),
                            sessions := m.sessions.map (fun x => { x with lastUse := sh x.lastUse }),
                            nonces := m.nonces.map (fun x => { x with tick := sh x.tick }),
                            notifies := m.notifies.map (fun x => { x with sentAt := sh x.sentAt }) },
           ints := { d.ints with holdUntil := d.ints.holdUntil.map (fun e => (e.1, sh e.2)) },
           burn := d.burn.map (fun b => { b with start := sh b.start }),
           fw := { d.fw with trialSince := d.fw.trialSince.map sh },
           power := { w with bootAt := sh w.bootAt, resetPending := w.resetPending.map (fun r => (r.1, sh r.2)),
                             rackclkSince := sh w.rackclkSince, lastWork := sh w.lastWork, wakePinAt := w.wakePinAt.map sh, wakeUntil := sh w.wakeUntil, windowAt := w.windowAt.map sh } }

/-- Enabled ports leave OFF once they may (R154, R606, R620). -/
def Dev.openPorts (d : Dev) : Dev :=
  allPorts.foldl (fun a p => if (a.port p).state = .off && a.mayLeaveOff p then a.toDetect p else a) d

/-- A marker whose frame names another tick than the counter's (R607). -/
def Dev.markerOff (d : Dev) : Dev := (d.countErr E.RSYNC_MISMATCHES).powerEvent 0x06 0 0

/-- A step of the counter leaves the events on their way, and the fence, as far off as they were. -/
def Dev.shiftDue (d : Dev) (new : Nat) : Dev :=
  { d with arrivals := d.arrivals.map (fun a => { a with due := a.due + new - d.tick }),
           sentry := { d.sentry with reports := d.sentry.reports.map (fun r => { r with due := r.due + new - d.tick }),
                                     fenceAt := d.sentry.fenceAt.map (fun t => t + new - d.tick) } }

/-- RSYNC_MARKER: a marker that follows a frame, with the value the frame carried (R605 to R608).
(DEDUCED, log entry 125). -/
def execRsyncMarker (valid : Bool) (value : BitVec 64) (s : State) : Host.Outcome State Fault Refusal :=
  run s fun d =>
    let v := value.toNat
    let w := d.power
    if !d.alive || !valid then d
    else if !w.tickLocked then
      let leaves : Bool := w.holdover && w.rackclkSince + 25000 ≤ d.tick
      let d1 := (d.shiftDue v).rebase d.tick v
      let d2 := ({ d1 with power := { d1.power with tickLocked := true, lastMarker := v, holdover := w.holdover && !leaves } }).openPorts
      if leaves then d2.powerEvent 0x05 0 0 else d2
    else if w.holdover && w.rackclkSince + 25000 ≤ d.tick then
      let d1 := { d with power := { w with holdover := false, lastMarker := d.tick } }
      let diff := (v : Int) - d.tick
      let d2 := if diff = 0 then d1
        else if diff.natAbs ≤ 64 then
          ({ d1.shiftDue v with tick := v, power := { d1.power with lastMarker := v } }).powerEvent 0x08 0 0
        else d1.markerOff
      d2.powerEvent 0x05 0 0
    else
      let d1 := { d with power := { w with lastMarker := d.tick } }
      if v = d.tick then d1 else d1.markerOff

/-- RSYNC_MISSING: no marker for 65,537 ticks (R607). -/
def execRsyncMissing (s : State) : Host.Outcome State Fault Refusal :=
  run s fun d =>
    let w := d.power
    if !d.alive || !w.tickLocked || d.tick < w.lastMarker + 65537 then d
    else (({ d with power := { w with lastMarker := d.tick } }).countErr E.RSYNC_MISSING).powerEvent 0x07 0 0

/-- HOLDOVER_ON: RACKCLK shows no edge (R608). (DEDUCED, log entry 125). -/
def execHoldoverOn (s : State) : Host.Outcome State Fault Refusal :=
  run s fun d =>
    let w := d.power
    if !d.alive then d
    else
      let d1 := { d with power := { w with holdover := true, rackclkSince := d.tick + 1 } }
      if w.holdover then d1 else (d1.countErr E.HOLDOVERS).powerEvent 0x04 0 0

/-! ## Sleep states (R613 to R616, R648) -/

/-- WAKE_N is low (R648). No command reports its rise: for how many ticks an assertion lasts is free.
(DESIGN CHOICE, log entry 48). -/
def Dev.wakeLow (d : Dev) : Bool := d.power.wakePinAt.isSome && d.tick ≤ d.power.wakeUntil

/-- No DMA channel runs or is paused. -/
def Dev.dmaIdle (d : Dev) : Bool := d.dma.all (fun e => e.2.state != .running && e.2.state != .paused)

/-- No context is in COLLECT. -/
def Dev.noCollect (d : Dev) : Bool := d.ctxs.all (fun e => e.2.state != .collect)

/-- The conditions of automatic DOZE (R613). -/
def Dev.dozeOk (d : Dev) : Bool :=
  d.noCollect && d.chains.all (fun e => d.chainUsers e.1 = 0) && d.products = [] && d.dmaIdle &&
    (d.actions0 ++ d.actions1).all (fun a => a.stage != .queued || a.code = acINT)

/-- The fast domains hold work (R613). -/
def Dev.working (d : Dev) : Bool :=
  d.kennel0.slots.any (fun e => !e.2.stray) || d.kennel1.slots.any (fun e => !e.2.stray) || d.heldCells != [] ||
    0 < queued d.actions0 || 0 < queued d.actions1 || d.products != [] || !d.dmaIdle || d.mgmt.heldReqs != [] ||
    d.heldPkts != [] || d.ctxs.any (fun e => e.2.state = .collect && e.2.tier != [])

/-- Every lane that carries or has carried traffic keeps its coefficient set at the entry to a sleep state (R83). -/
def Dev.sleepStore (d : Dev) : Dev :=
  { d with ports := d.ports.map (fun e => (e.1, e.2.mapLanes (fun _ y => y.sleepStore))) }

/-- A sleep state is entered (R613, R623). HBM4 is in self-refresh in DOZE and KEEPALIVE. -/
def Dev.enterSleep (d0 : Dev) (x : SleepState) : Dev :=
  let d := d0.sleepStore
  ({ d with power := { d.power with sleep := x, wakeFrom := x, entryStart := none, sleepTs := none, switchOn := false,
                                    selfRefresh := x = SleepState.doze || x = SleepState.keepalive } }).powerEvent 0x09 0 0

/-- SLEEP_CMD is refused (R615, R616, R648). While a wake runs, a state deeper than the one it leaves is refused.
(DEDUCED, log entry 152). -/
def Dev.refuseSleep (d : Dev) (v : Nat) : Option Status :=
  let w := d.power
  if w.bootStage < 3 then some .stateConflict
  else if v != 0 && d.wakeLow then some .stateConflict
  else if v = 2 && !d.dozeOk then some .stateConflict
  else if v = 3 && (!d.noCollect || !d.dmaIdle || queued d.actions0 != 0 || queued d.actions1 != 0) then some .stateConflict
  else if w.sleep = .waking && sleepCode w.wakeFrom < v then some .stateConflict
  else none

/-- SLEEP_CMD is written: a shallower state is a wake, a deeper one is entered (R615, R616).
(DEDUCED, log entry 152). -/
def Dev.writeSleep (d : Dev) (v : Nat) : Dev :=
  let w := d.power
  match w.sleep with
  | .waking => d
  | .entering =>
    if v = 3 then d
    else
      let d1 := d.wake wkCOMMAND
      if w.sleepTs.isSome then d1.unsleepPorts 256 else d1
  | x =>
    if v < sleepCode x then d.wake wkCOMMAND
    else if v = sleepCode x then d
    else if v = 1 then d.enterSleep .idle
    else if v = 2 then d.enterSleep .doze
    else { d with power := { w with sleep := .entering, wakeFrom := x, entryStart := some d.tick, sleepTs := none } }

/-- AUTO_IDLE (R613, R648). -/
def execAutoIdle (s : State) : Host.Outcome State Fault Refusal :=
  run s fun d =>
    let n := d.reg E.AUTO_IDLE_TICKS
    if d.power.sleep = .active && d.power.bootStage = 3 && d.alive && n != 0 && !d.wakeLow && !d.working &&
        d.power.lastWork + n ≤ d.tick then d.enterSleep .idle
    else d

/-- AUTO_DOZE (R613, R648). -/
def execAutoDoze (s : State) : Host.Outcome State Fault Refusal :=
  run s fun d =>
    let n := d.reg E.AUTO_DOZE_TICKS
    let held : Bool := match d.power.dozeSince with
      | some t => decide (t + n ≤ d.tick)
      | none => false
    if (d.power.sleep = .active || d.power.sleep = .idle) && d.power.bootStage = 3 && d.alive && n != 0 && !d.wakeLow &&
        d.dozeOk && held then d.enterSleep .doze
    else d

/-- The switch core is drained: no slot HELD, every replay buffer acknowledged, no lane in a hand-over (R616). What the host
link holds for want of credit does not count. -/
def Dev.drained (d : Dev) : Bool :=
  !d.kennel0.slots.any (fun e => !e.2.stray) && !d.kennel1.slots.any (fun e => !e.2.stray) && d.kennel0.waiting.all (fun w => w.input = 133) &&
    d.kennel1.waiting = [] &&
    d.ports.all (fun e => ((e.2.state != .up && e.2.state != .recover) || e.2.kept = [] && e.2.txq = []) && e.2.handover.isNone)

/-- KEEPALIVE_DRAINED: PORT_SLEEP goes out on every UP port with ts = t + 256 (R616). -/
def execKeepaliveDrained (s : State) : Host.Outcome State Fault Refusal :=
  run s fun d =>
    if d.power.sleep = .entering && d.power.sleepTs.isNone && d.drained then
      let d1 := { d with power := { d.power with sleepTs := some (d.tick + 256) } }
      (allPorts.filter (fun p => (d1.port p).state = .up)).foldl (fun a p => a.sleepPort p (d.tick + 256)) d1
    else d

/-- SLEEP_ABANDONS: KEEPALIVE_DRAIN_TICKS pass without a drain (R616). (DEDUCED, log entry 47). -/
def execSleepAbandons (s : State) : Host.Outcome State Fault Refusal :=
  run s fun d =>
    match d.power.entryStart with
    | none => d
    | some t =>
      if d.power.sleep = .entering && d.power.sleepTs.isNone && t + d.reg E.KEEPALIVE_DRAIN_TICKS ≤ d.tick then
        (d.abandonEntry).countErr E.SLEEP_ABANDONS
      else d

/-- Lanes 1 to 3 of a port lose power (R32, R616); one in TEST goes to OFF, and its entries keep their values.
(DESIGN CHOICE, log entry 188). -/
def PortSt.darkLanes (x : PortSt) : PortSt :=
  x.mapLanes (fun l y => if l = 0 then y else { y.fresh with state := .off, rate := 0 })

/-- KEEPALIVE_POWER_OFF: the switch tick is reached and every port that slept is in KEEPALIVE (R616). The S-dies lose their
buffers, and every slot is free after them (R195). -/
def execKeepalivePowerOff (s : State) : Host.Outcome State Fault Refusal :=
  run s fun d =>
    match d.power.sleepTs with
    | none => d
    | some t =>
      if d.power.sleep = .entering && t ≤ d.tick && !allPorts.any (fun p => (d.port p).state = .up) then
        ({ d.hostDark with ports := d.ports.map (fun (e : Nat × PortSt) => (e.1, e.2.darkLanes)), kennel0 := {}, kennel1 := {} }).enterSleep .keepalive
      else d

/-- An assertion of WAKE_N cannot follow another within 3 ticks: one sample high and two low lie between them (R648). -/
def Power.wakePinFresh (w : Power) (tick : Nat) : Bool :=
  match w.wakePinAt with
  | some t => t + 3 ≤ tick
  | none => true

/-- WAKE_PIN: WAKE_N sampled low for a second tick after high (R614, R648). (DESIGN CHOICE, log entry 48). -/
def execWakePin (s : State) : Host.Outcome State Fault Refusal :=
  run s fun d =>
    if !d.alive || !d.power.wakePinFresh d.tick then d
    else
      let d1 := { d with power := { d.power with wakePinAt := some d.tick, wakeUntil := d.tick + Config.freeChoice d.draws } }.drew
      let d2 := d1.wake wkPIN
      if d1.power.sleep = .entering && d1.power.sleepTs.isSome then d2.unsleepPorts 256 else d2

/-! ## Reset commands (R601, R618) -/

/-- RESET_CMD is refused (R601). -/
def Dev.refuseReset (d : Dev) (v : Nat) : Option Status :=
  if v = 0 || 3 < v then some .invalidValue
  else if v = 1 && d.power.overtempHold then some .stateConflict
  else none

/-- The reset that a request for WARM brings: COLD after OVERCURRENT or RAIL_FAULT, which took the memories' power (R601,
R618). -/
def Power.warmKind (w : Power) : ResetKind := if w.memoryOff then .cold else .warm

/-- RESET_CMD is written: the reset takes effect 2,500 ticks later, or a warm one waits for the input (R601, R618). -/
def Dev.writeReset (d : Dev) (v : Nat) : Dev :=
  let w := d.power
  if v = 1 && w.warmKind = .warm && w.inputOut then { d with power := { w with heldWarm := true } }
  else
    let r := if v = 1 then some w.warmKind else if v = 2 then some .switch else none
    { d with power := { w with resetPending := w.resetPending ++ [(r, d.tick + 2500)] } }

end Sys2Proof.Machine
end

