-- ==== Sys2Proof/Machine/WriteEntry.lean ====
section
/-! DEFINITION. The write of every writable dictionary entry: its length, its range, the rules of its Meaning, and what
it does (R39, R51, R659 and the entry tables of all chapters). -/

namespace Sys2Proof.Machine

/-! ## Length and range (R39, R51) -/

/-- A value's length fits the entry (R39). EF_TABLE holds whole records of 16 bytes (R377). -/
def lengthFits (r : EntryRow) (k n : Nat) : Bool :=
  if typeFixed r.ty then n = typeSize r.ty
  else r.minV ≤ n && n ≤ r.maxV && (k != E.EF_TABLE || n % 16 = 0)

/-- A numeric value lies in the entry's range (R51). -/
def rangeFits (r : EntryRow) (v : Nat) : Bool := !typeFixed r.ty || (r.minV ≤ v && v ≤ r.maxV) || r.alt = some v

/-! ## Bounds between two entries (R659) -/

/-- The ring sizes hold the rack (R627). -/
def Dev.rackFits (d : Dev) : Bool := d.reg E.PLAN_RACK / 16 < d.reg E.PLAN_NX && d.reg E.PLAN_RACK % 16 < d.reg E.PLAN_NY

/-- MAP_ADDR is aligned and lies with its records in the general region of one stack (R569). -/
def Dev.mapFits (d : Dev) : Bool :=
  let a := d.reg E.MAP_ADDR
  a % 4096 = 0 && tierSpace a = 0 && d.generalRange a (8192 * d.reg E.MAP_RECORDS)

/-- Two sites that do not name the same port (R651). -/
def Dev.sitesDiffer (d : Dev) (a b : Nat) : Bool :=
  d.reg (E.MODULE_SITE a) = 0xFFFF || d.reg (E.MODULE_SITE a) != d.reg (E.MODULE_SITE b)

/-- The pairs of entries that bind each other, and whether each holds its bound. (DEDUCED, log entries 41 and 148). -/
def Dev.bounds (d : Dev) : List (Nat × Nat × Bool) :=
  let le := fun (a b : Nat) => (a, b, decide (d.reg a ≤ d.reg b))
  let quarter := fun (a : Nat) => (a, E.CTX_IDLE_TICKS, decide (4 * d.reg a < d.reg E.CTX_IDLE_TICKS))
  [le E.MARGIN_LOW E.SPRAY_MARGIN_GOOD,
   (E.PEAK_WATCH_TICKS, E.PEAK_PERIOD_TICKS, decide (4 * d.reg E.PEAK_WATCH_TICKS ≤ d.reg E.PEAK_PERIOD_TICKS)),
   le E.COLL_RESEND_TICKS E.COLL_RESEND_MAX, quarter E.COLL_RESEND_MAX, le E.BUSY_RETRY_TICKS E.BUSY_RETRY_MAX,
   le E.SPAN_RESEND_TICKS E.SPAN_RESEND_MAX, quarter E.SPAN_RESEND_MAX,
   (E.PLAN_RACK, E.PLAN_NX, d.rackFits), (E.PLAN_RACK, E.PLAN_NY, d.rackFits), (E.MAP_ADDR, E.MAP_RECORDS, d.mapFits)] ++
  (List.range 32).flatMap (fun a => ((List.range 32).filter (fun b => a < b)).map (fun b =>
    (E.MODULE_SITE a, E.MODULE_SITE b, d.sitesDiffer a b)))

/-- A write of an entry would leave a pair outside its bound. (DEDUCED, log entry 148). -/
def Dev.breaks (d : Dev) (k v : Nat) : Bool :=
  let d1 := d.setReg k v
  let site := 0x2610 = k / 256
  if site then v != 0xFFFF && (List.range 32).any (fun a => E.MODULE_SITE a != k && d.reg (E.MODULE_SITE a) = v)
  else (d1.bounds.take 10).any (fun (b : Nat × Nat × Bool) => (b.1 = k || b.2.1 = k) && !b.2.2)

/-! ## Rules of single entries -/

/-- A refusal where a condition holds. -/
def refuseIf (c : Bool) (s : Status) : Option Status := if c then some s else none

/-- The first refusal of two. -/
def orElse (a b : Option Status) : Option Status :=
  match a with
  | some s => some s
  | none => b

/-- 0x2000 to 0x2FFF (R82, R88, R106 to R110, R114, R181). (DEDUCED, log entry 41). -/
def Dev.refuseLink (d : Dev) (i s v : Nat) : Option Status :=
  let k := i * 256 + s
  let p := i % 256
  let l := laneOf s
  if k = E.PEAK_WATCH_TICKS then refuseIf (v % 256 != 0) .invalidValue
  else if i / 256 = 0x21 && s = 1 then d.refuseClass p v
  else if i / 256 = 0x21 && s = 5 then
    refuseIf (lanes4.any (fun l => (d.lane p l).state != .off &&
      (let n := bits (d.reg (E.LANE_MAP p)) (2 * l.val) 2
       bits v n 1 != bits (d.reg k) n 1))) .stateConflict
  else if i / 256 = 0x22 then refuseIf (d.flag E.PEAK_ADAPT) .stateConflict
  else if i / 256 = 0x23 then
    if s % 16 = 1 then d.refuseTest p l v true
    else if s % 16 = 2 then d.refusePattern p l v
    else if s % 16 = 4 then d.refuseTest p l v false
    else if s % 16 = 8 then d.refuseInject p l v
    else if s % 16 = 0xA then refuseIf (l != 0 && v = 0) .invalidValue
    else none
  else if i = 0x2401 && 1 ≤ s && s ≤ 6 then refuseIf (!(d.setReg k v).shrKept) .invalidValue
  else none

/-- KENNEL_INJECT is refused (R14, R196). -/
def Dev.refuseKennelInject (d : Dev) (v : Nat) : Option Status :=
  orElse (refuseIf (bits v 28 4 = 0 || 5 < bits v 28 4 || bits v 16 11 != 0 || bits v 0 16 = 0) .invalidValue)
    (refuseIf (d.reg E.KENNEL_INJECT_LEFT != 0) .stateConflict)

/-- 0x3000 to 0x3FFF (R181, R196, R198, R214, R215, R627 to R641). -/
def Dev.refuseSwitch (d : Dev) (i s v : Nat) (bs : List Byte) : Option Status :=
  let k := i * 256 + s
  if i = 0x3020 then refuseIf (v < 4 || !(d.setReg k v).shrKept) .invalidValue
  else if k = E.KENNEL_INJECT then d.refuseKennelInject v
  else if k = E.FLIP_TICK then d.refuseFlip v
  else if k = E.BANK_RETIRE then d.refuseRetire v
  else if i = 0x3300 || i = 0x3301 then d.refuseTable (i % 2) (d.setBlob k bs)
  else if i = 0x3400 && s ≤ 5 then d.refusePlan
  else if k = E.REMAP_CLEAR then d.refuseRemap
  else if i = 0x3410 then refuseIf (bits v 0 16 < bits v 16 16) .invalidValue
  else if 0x3500 ≤ i && i ≤ 0x35FF && s = 1 then d.refuseNeighbour (i % 256) bs
  else if 0x3500 ≤ i && i ≤ 0x35FF && s = 3 then d.refuseRelease (i % 256)
  else none

/-- The new layout of the reserved regions is refused (R500); it must leave the maps below GENERAL_TOP (R569, R659). -/
def Dev.refuseRegion (d d1 : Dev) : Option Status :=
  let top := d1.generalTop
  let past := fun (a n : Nat) => tierSpace a = 0 && top < tierOffset a + n
  let chains := (d.otherRegions 256).any (fun (r : Nat × Nat) => past r.1 r.2)
  let wins := (List.range 16).any (fun w => (1 ≤ d.reg (E.WIN_ACCESS w) && d.reg (E.WIN_ACCESS w) ≤ 3) &&
    past (d.reg (E.WIN_BASE w)) (d.reg (E.WIN_LENGTH w)))
  orElse (refuseIf (top < 8192 * mib1 || past (d.reg E.MAP_ADDR) (8192 * d.reg E.MAP_RECORDS)) .invalidValue)
    (refuseIf (chains || wins) .stateConflict)

/-- EF_TABLE entries lie in a region of a size (R377). (DEDUCED, log entry 136). -/
def efFits (t : List Byte) (mib : Nat) : Bool :=
  (chunksOf 16 t 257).all (fun e =>
    beNat (slice e 9 3) = 0 && beNat (slice e 12 4) * mib1 + 16 * beNat (slice e 4 5) + 256 ≤ mib * mib1)

/-- 0x4000 to 0x4FFF (R277 to R279, R313, R343, R346, R347, R377). -/
def Dev.refuseColl (d : Dev) (i s v : Nat) (bs : List Byte) : Option Status :=
  let k := i * 256 + s
  if i ≤ 0x43FF then
    let p := i - 0x4000
    if s = 6 then
      if v = 1 then d.refuseActivate p else if v = 2 then d.refuseDeactivate p
      else refuseIf (tget d.packs p).isNone .stateConflict
    else refuseIf (tget d.packs p).isSome .stateConflict
  else if k = E.SPILL_REGION_MIB then
    orElse (d.refuseRegion (d.setReg k v)) (refuseIf (!d.noCollect) .stateConflict)
  else if k = E.EF_REGION_MIB then
    orElse (refuseIf (!efFits (d.blob E.EF_TABLE) v) .invalidValue) (d.refuseRegion (d.setReg k v))
  else if k = E.EF_TABLE then
    orElse (refuseIf (!efFits bs (d.reg E.EF_REGION_MIB)) .invalidValue)
      (refuseIf (d.ctxs.any (fun e => e.2.state = .collect && e.2.rc.compact)) .stateConflict)
  else if 0x4701 ≤ i && i ≤ 0x47FF then
    orElse (refuseIf (beNat (slice bs 4 12) != 0) .invalidValue)
      (refuseIf (d.packs.any (fun e => e.2.hier = i - 0x4700)) .stateConflict)
  else none

/-- A write of a window's entry is refused (R488, R500, R505). -/
def Dev.refuseWindow (d : Dev) (w : Nat) (d1 : Dev) : Option Status :=
  let a := d1.reg (E.WIN_ACCESS w)
  let named := 1 ≤ a && a ≤ 3
  let twice := (List.range 16).any (fun x => x != w && d.reg (E.WIN_ACCESS x) != 0 && d.reg (E.WIN_RKEY x) = d1.reg (E.WIN_RKEY w))
  refuseIf (5 < a || (a != 0 && twice) || (named && !d1.generalHbm (d1.reg (E.WIN_BASE w)) (d1.reg (E.WIN_LENGTH w)))) .invalidValue

/-- 0x5000 to 0x6FFF (R405, R412 to R416, R483, R488, R494, R496, R498, R500, R502). -/
def Dev.refuseTier (d : Dev) (i s v : Nat) (bs : List Byte) : Option Status :=
  let k := i * 256 + s
  if k = E.COMPUTE_INJECT then d.refuseComputeInject v
  else if k = E.BINDINGS then d.refuseBindings bs
  else if k = E.WHISTLE_DESC then d.refuseWhistleDesc (d.reg E.WHISTLE_SELECT) bs
  else if 0x6040 ≤ i && i ≤ 0x607F then
    let q := i - 0x6040
    if s = 1 then d.refuseQpState q v
    else refuseIf ((s = 2 || s = 5 || s = 6) && (d.qp q).state != 0) .stateConflict
  else if 0x6080 ≤ i && i ≤ 0x608F then d.refuseWindow (i - 0x6080) (d.setReg k v)
  else if 0x6100 ≤ i && i ≤ 0x613F then
    let n := i - 0x6100
    if s = 1 then d.refuseDmaStart n
    else if s = 5 || s = 6 then
      let d1 := d.setReg k v
      let hi := d1.reg (E.PACE_HIGH n)
      let lo := d1.reg (E.PACE_LOW n)
      orElse (refuseIf (hi ≤ lo && (hi != 0 || lo != 0)) .invalidValue) (refuseIf ((d.chan n).state != .idle) .stateConflict)
    else if s = 8 then d.refuseConsumed n v
    else none
  else if k = E.LEDGER_REGION_MIB then d.refuseRegion (d.setReg k v)
  else if k = E.LEDGER_READ then refuseIf (d.reg E.LEDGER_NEXT_SEQ < v) .invalidValue
  else none

/-- SHADOW_SELECT is refused (R561). -/
def refuseSelect (sh : List ShadowSet) (bs : List Byte) : Option Status :=
  let held := sh.any (fun x => x.taken && x.id = beNat (slice bs 0 4))
  refuseIf (!held || !hasShadow (beNat (slice bs 4 2)) (beNat (slice bs 6 1)) || beNat (slice bs 7 1) != 0) .invalidValue

/-- SAVE is refused (R576, R581). -/
def Dev.refuseSave (d : Dev) : Option Status :=
  refuseIf (frozen (d.profileGens (d.reg E.ACTIVE_PROFILE)) || d.burn.isSome || 16352 < d.saveImage.length) .stateConflict

/-- 0x7000 to 0xAFFF (R535, R544, R555, R558, R561, R566, R576 to R593, R601, R615, R616).
(DEDUCED, log entry 147). -/
def Dev.refuseUpper (d : Dev) (sh : List ShadowSet) (k v : Nat) (bs : List Byte) : Option Status :=
  if k = E.FAULT_ACK then d.refuseAck v
  else if k = E.FAULT_INJECT then d.refuseFaultInject v
  else if k = E.COUNTER_CLEAR then refuseClear v
  else if k = E.SNAP_CMD then d.refuseSnap sh bs
  else if k = E.SHADOW_SELECT then refuseSelect sh bs
  else if k = E.MAP_ENABLE then refuseIf (v = 1 && d.reg E.MAP_RECORDS = 0) .stateConflict
  else if k = E.MAP_PERIOD_TICKS || k = E.MAP_ADDR || k = E.MAP_RECORDS then refuseIf (d.flag E.MAP_ENABLE) .stateConflict
  else if k = E.SLEEP_CMD then d.refuseSleep v
  else if k = E.RESET_CMD then d.refuseReset v
  else if k = E.PROFILE_CMD then d.refuseSave
  else if k = E.KEY_BURN then d.refuseKeyBurn (d.reg E.KEY_SLOT_SELECT)
  else if k = E.OWNER_PUBKEY then d.refusePubkey (d.reg E.KEY_SLOT_SELECT) bs
  else if k = E.FW_DATA then d.refuseFwData bs
  else if k = E.FW_CMD then d.refuseFwCmd v
  else none

/-- A write with a value in range is refused by the rules of its entry (R51). `profile` holds while a profile's records
are applied, when the bounds between entries wait (R583). -/
def Dev.refuseEntry (d : Dev) (sh : List ShadowSet) (profile : Bool) (i s v : Nat) (bs : List Byte) : Option Status :=
  let k := i * 256 + s
  if !profile && d.breaks k v then some .invalidValue
  else
    match i / 0x1000 with
    | 2 => d.refuseLink i s v
    | 3 => d.refuseSwitch i s v bs
    | 4 => d.refuseColl i s v bs
    | 5 | 6 => d.refuseTier i s v bs
    | _ => d.refuseUpper sh k v bs

/-! ## Effects -/

/-- A GRANT entry is written (R142, R182): ports take it at their next entry into UP, and DED keeps the larger size until
every port that has been up, whatever its state now, has re-entered UP. (DEDUCED, log entry 57). -/
def Dev.writeGrant (d : Dev) (k v : Nat) : Dev :=
  let old := d.grantSized k
  let ps := allPorts.filter (fun p => d.reg (E.UP_TICK p) != 0)
  let d1 := d.setReg k v
  if v = d.reg k || ps = [] then d1 else { d1 with dedOld := tset d1.dedOld k old, dedWait := ps }

/-- 0x2000 to 0x2FFF. -/
def Dev.writeLink (d : Dev) (i s v : Nat) : Dev :=
  let k := i * 256 + s
  let p := i % 256
  let l := laneOf s
  if i / 256 = 0x21 && s = 1 then d.writeClass p v
  else if i / 256 = 0x21 && s = 2 then d.writeMaxRate p v
  else if i / 256 = 0x22 then d.writePeak p l v
  else if i / 256 = 0x23 && s % 16 = 1 then d.writeTestMode p l v
  else if i / 256 = 0x23 && s % 16 = 4 then d.writeLoop p l v
  else if i / 256 = 0x23 && s % 16 = 8 then d.writeInject p l v
  else if i = 0x2401 && 1 ≤ s && s ≤ 6 then d.writeGrant k v
  else if 0x2500 ≤ i && i ≤ 0x25FF && s = 1 then (d.writeEnable p v).settle d
  else if 0x2500 ≤ i && i ≤ 0x25FF && s = 0xE then (d.retrain p).settle d
  else d.setReg k v

/-- 0x3000 to 0x3FFF. -/
def Dev.writeSwitch (d : Dev) (i s v : Nat) (bs : List Byte) : Dev :=
  let k := i * 256 + s
  if k = E.STRAY_RECLAIM then
    let d1 := if bits v 0 1 = 1 then d.reclaim 0 else d
    if bits v 1 1 = 1 then d1.reclaim 1 else d1
  else if k = E.KENNEL_INJECT then
    { d.setReg E.KENNEL_INJECT_LEFT (bits v 0 16) with kinject := some ⟨bits v 28 4, bits v 27 1⟩ }
  else if k = E.FLIP_TICK then d.writeFlip v
  else if k = E.BANK_RETIRE then d.retire v
  else if i = 0x3300 || i = 0x3301 then d.setBlob k bs
  else if k = E.REMAP_CLEAR then d.clearRemap
  else if 0x3500 ≤ i && i ≤ 0x35FF && s = 1 then d.writeNeighbour (i % 256) bs
  else if 0x3500 ≤ i && i ≤ 0x35FF && s = 3 then (d.toIdent (i % 256)).settle d
  else d.setReg k v

/-- 0x4000 to 0x4FFF. -/
def Dev.writeColl (d : Dev) (r : EntryRow) (i s v : Nat) (bs : List Byte) : Dev :=
  let k := i * 256 + s
  if i ≤ 0x43FF && s = 6 then
    let p := i - 0x4000
    if v = 1 then d.activate p else if v = 2 then d.deactivate p else d.abortPack p
  else if typeFixed r.ty then d.setReg k v
  else d.setBlob k bs

/-- 0x5000 to 0x6FFF, but for the commands that may still fail. -/
def Dev.writeTier (d : Dev) (r : EntryRow) (i s v : Nat) (bs : List Byte) : Dev :=
  let k := i * 256 + s
  let w := d.reg E.WHISTLE_SELECT
  let cs := d.reg E.CHAIN_SLOT
  let ps := d.reg E.PROG_SLOT
  if k = E.COMPUTE_INJECT then d.writeComputeInject v
  else if k = E.WHISTLE_DESC then d.setWhistle w { d.whistle w with desc := bs }
  else if k = E.WHISTLE_COUNT then d.writeWhistleCount w v
  else if k = E.WHISTLE_CMD then d.writeWhistleCmd w v
  else if k = E.CHAIN_ADDR then { d with chains := tset d.chains cs { d.chain cs with addr := v } }
  else if k = E.INIT_STEP then { d with chains := tset d.chains cs { d.chain cs with initStep := v } }
  else if k = E.PROG_IMAGE then { d with programs := tset d.programs ps { d.prog ps with image := bs } }
  else if 0x6040 ≤ i && i ≤ 0x607F then
    let q := i - 0x6040
    let x := d.qp q
    if s = 1 then d.writeQpState q v
    else if s = 5 then (d.setReg k v).setQp q { x with sqPsn := v }
    else if s = 6 then (d.setReg k v).setQp q { x with rqPsn := v }
    else if typeFixed r.ty then d.setReg k v
    else d.setBlob k bs
  else if 0x6100 ≤ i && i ≤ 0x613F then
    let n := i - 0x6100
    if s = 1 then d.dmaStart n ⟨v, none⟩
    else if s = 3 then d.dmaReset n
    else if s = 8 then d.writeConsumed n v
    else d.setReg k v
  else if typeFixed r.ty then d.setReg k v
  else d.setBlob k bs

/-- SAVE: the image is captured and the next generation begins to burn (R581). -/
def Dev.save (d : Dev) : Dev :=
  let p := d.reg E.ACTIVE_PROFILE
  match nextGen (d.profileGens p) with
  | none => d
  | some g =>
    d.startBurn (.profile p g) (genWords (profileOff p g) (profileBody d.saveImage (d.reg E.DICT_LAYOUT) d.fwCompatNow d.tick))

/-- MAP_ENABLE is written: clearing it discards the open windows (R566). -/
def Dev.writeMapEnable (d : Dev) (v : Nat) : Dev :=
  let d1 := d.setReg E.MAP_ENABLE v
  let drop := fun (m : MapGather) => ({ closed := m.closed } : MapGather)
  if v = 0 then { d1 with tele := { d1.tele with map0 := drop d1.tele.map0, map1 := drop d1.tele.map1 } } else d1

/-- Every session but one ends (R63, R68). -/
def Dev.endSessions (d : Dev) (keep : BitVec 64) : Dev :=
  { d with mgmt := { d.mgmt with sessions := d.mgmt.sessions.filter (fun x => x.token = keep) } }

/-- DEBUG_CONSENT is written: debug closes when consent ends (R589). -/
def Dev.writeConsent (d : Dev) (v : Nat) : Dev := { d.setReg E.DEBUG_CONSENT v with debugOpen := d.debugOpen && v = 1 }

/-- 0x1000 to 0x1FFF and 0x7000 to 0xAFFF. `token`: the writer's session. (DEDUCED, log entries 123 and 147). -/
def Dev.writeUpper (d : Dev) (r : EntryRow) (token : BitVec 64) (k v : Nat) (bs : List Byte) : Dev :=
  if k = E.END_SESSIONS then d.endSessions token
  else if k = E.FAULT_ACK then d.writeAck v
  else if k = E.FAULT_INJECT then d.writeFaultInject v
  else if k = E.INT_ENABLE then { d with ints := { d.ints with enable := leNat bs } }
  else if k = E.COUNTER_CLEAR then d.writeClear v
  else if k = E.SNAP_CMD then d.writeSnap bs
  else if k = E.SHADOW_SELECT then { d with tele := { d.tele with select := bs } }
  else if k = E.MAP_ENABLE then d.writeMapEnable v
  else if k / 256 = 0x8040 then (if typeFixed r.ty then d.setReg k v else d.setBlob k bs).sampleReset
  else if k = E.POWER_CAP then { d.setReg k v with power := { d.power with capPending := some v } }
  else if k = E.SLEEP_CMD then d.writeSleep v
  else if k = E.RESET_CMD then d.writeReset v
  else if k = E.PROFILE_CMD then d.save
  else if k = E.KEY_BURN then d.writeKeyBurn (d.reg E.KEY_SLOT_SELECT) bs
  else if k = E.OWNER_PUBKEY then d.writePubkey (d.reg E.KEY_SLOT_SELECT) bs
  else if k = E.FW_DATA then d.writeFwData bs
  else if k = E.FW_CMD then d.writeFwCmd v
  else if k = E.ATTEST_NONCE then d.attest bs
  else if k = E.DEBUG_CONSENT then d.writeConsent v
  else if typeFixed r.ty then d.setReg k v
  else d.setBlob k bs

/-- An accepted write takes effect (R42). -/
def Dev.writeEntry (d : Dev) (r : EntryRow) (token : BitVec 64) (i s v : Nat) (bs : List Byte) : Dev :=
  match i / 0x1000 with
  | 2 => d.writeLink i s v
  | 3 => d.writeSwitch i s v bs
  | 4 => d.writeColl r i s v bs
  | 5 | 6 => d.writeTier r i s v bs
  | _ => d.writeUpper r token (i * 256 + s) v bs

/-- The commands whose act itself may fail: CHAIN_CMD, STEP_CMD and PROG_CMD (R423, R449, R472). -/
def Dev.tierCmd (d : Dev) (k v : Nat) (bs : List Byte) : Option (Option Status × Dev) :=
  let cs := d.reg E.CHAIN_SLOT
  let ps := d.reg E.PROG_SLOT
  if k = E.CHAIN_CMD then some (if v = 1 then d.chainLoad cs else if v = 2 then d.chainUnload cs else d.chainInit cs)
  else if k = E.STEP_CMD then some (d.stepCmd bs)
  else if k = E.PROG_CMD then some (if v = 1 then d.progLoad ps else d.progUnload ps)
  else none

/-- A write to a present entry that passed the checks before length (R51): the refusal, or none with the device after it. -/
def Dev.tryWrite (d : Dev) (sh : List ShadowSet) (profile : Bool) (token : BitVec 64) (i s : Nat) (bs : List Byte) :
    Option Status × Dev :=
  match findRow i s with
  | none => (some .accessDenied, d)
  | some r =>
    let k := i * 256 + s
    let v := if typeFixed r.ty then beNat bs else 0
    if !lengthFits r k bs.length then (some .badLength, d)
    else if !rangeFits r v then (some .invalidValue, d)
    else
      match d.tierCmd k v bs with
      | some o => o
      | none =>
        match d.refuseEntry sh profile i s v bs with
        | some e => (some e, d)
        | none => (none, d.writeEntry r token i s v bs)

/-! ## Applying a profile (R583) -/

/-- A record is skipped: counted, and the first noted (R583, R597). -/
def Dev.skipRecord (d : Dev) (i s : Nat) (st : Status) : Dev :=
  let d1 := if d.reg E.APPLY_ERRORS = 0 && d.reg E.APPLY_FIRST = 0 then d.setReg E.APPLY_FIRST (i * 65536 + s * 256 + st.code) else d
  d1.countErr E.APPLY_ERRORS

/-- One record is applied as a write under the checks of R51, from which the boot's powering leaves out the domain. -/
def Dev.applyRecord (d : Dev) (i s : Nat) (v : List Byte) : Dev :=
  match findRow i s with
  | none => d.skipRecord i s (if s = 0 && topSub i != 0 then .accessDenied else .noEntry)
  | some r =>
    if r.acc = .mz then d.skipRecord i s .muzzled
    else if r.acc = .ro || r.acc = .rc then d.skipRecord i s .accessDenied
    else
      match d.tryWrite [] true 0 i s v with
      | (some e, _) => d.skipRecord i s e
      | (none, d1) => d1

/-- The records of an image, in order: their own fields are least significant byte first (R575, R580). -/
def imageRecords (im : List Byte) (fuel : Nat) : List (Nat × Nat × List Byte) :=
  match fuel with
  | 0 => []
  | f + 1 =>
    if im.length < 5 then []
    else
      let n := leNat (slice im 3 2)
      (leNat (slice im 0 2), leNat (slice im 2 1), slice im 5 n) :: imageRecords (im.drop (5 + n)) f

/-- A pair outside its bound returns to its Defaults, and its records count as skipped (R583). -/
def Dev.mendPair (d : Dev) (recs : List Nat) (a b : Nat) : Dev :=
  let d1 := { d with regs := terase (terase d.regs a) b }
  [a, b].foldl (fun (x : Dev) k => if recs.contains k then x.skipRecord (k / 256) (k % 256) .invalidValue else x) d1

/-- The selected profile's active generation is applied (R583). (DEDUCED, log entry 149). -/
def Dev.applyProfile (d : Dev) : Dev :=
  let recs := imageRecords (d.profileImage (d.reg E.ACTIVE_PROFILE)) 16352
  let d1 := recs.foldl (fun (a : Dev) r => a.applyRecord r.1 r.2.1 r.2.2) d
  let ks := recs.map (fun r => r.1 * 256 + r.2.1)
  (d1.bounds.map (fun b => (b.1, b.2.1))).foldl (fun (a : Dev) b =>
    if a.bounds.any (fun c => c.1 = b.1 && c.2.1 = b.2 && !c.2.2) then a.mendPair ks b.1 b.2 else a) d1

end Sys2Proof.Machine
end

