-- ==== Sys2Proof/Machine/Mgmt.lean ====
section
/-! DEFINITION. The dictionary protocol: frames, the order of checks, the response cache, segmented transfers, sessions and
notifications (R43 to R68). -/

namespace Sys2Proof.Machine

/-! ## Frames (R45 to R48) -/

/-- The response to a request. It names the session of the request, and SEG where the request's opcode has a segment.
The opcode is the request's with bit 7 set. (DEDUCED, log entry 22). -/
def responseBytes (op : Nat) (q : Req) (st : Status) (payload : List Byte) : List Byte :=
  frameBytes { version := q.version.toNat, opcode := op % 128 + 128, txn := q.txn.toNat, index := q.index.toNat, sub := q.sub.toNat,
               status := st.code, session := q.session.toNat,
               seg := if op = opREADSEG || op = opWSEG then q.seg.toNat else 0, payload := payload }

/-- A dictionary frame leaves (R68). (DESIGN CHOICE, log entry 5). -/
def Dev.sendFrame (d : Dev) (path : Path) (addr : BitVec 128) (udpPort : BitVec 16) (bytes : List Byte) : Dev :=
  (d.count E.FRAMES_TX).emit (.frame d.tick path addr udpPort bytes)

/-! ## The two paths (R44) -/

/-- A path takes frames in: the T1S path but in OFF and in reset (R67), the host path while the port is up.
(DEDUCED, log entry 151). -/
def Dev.listens (d : Dev) (p : Path) : Bool :=
  match p with
  | .t1s => !d.power.off && !d.power.resetLow
  | .host => d.hostUp

/-! ## What expires (R54, R59, R62, R63) -/

/-- Ticks that a handle lives after its last use (R59). -/
def handleLife : Nat := 12500000
/-- Ticks that a response is held (R54). -/
def cacheLife : Nat := 50000000
/-- Ticks that a nonce lives (R62). -/
def nonceLife : Nat := 250000000
/-- Ticks between the repeats of a NOTIFY (R60). -/
def notifyEvery : Nat := 2500000

/-- What has expired is gone. (DEDUCED, log entry 24). -/
def Dev.purge (d : Dev) : Dev :=
  let m := d.mgmt
  { d with mgmt := { m with cache := m.cache.filter (fun c => d.tick < c.tick + cacheLife),
                            handles := m.handles.filter (fun h => d.tick < h.lastUse + handleLife),
                            nonces := m.nonces.filter (fun n => d.tick < n.tick + nonceLife),
                            sessions := m.sessions.filter (fun x => d.tick < x.lastUse + d.reg E.SESSION_IDLE_TICKS) } }

/-! ## Sessions (R61 to R64) -/

/-- A request bears a session's token, from the address and path that it is bound to (R63). -/
def Req.bears (q : Req) (x : Session) : Bool := q.version != 1 && x.token = q.session && x.path = q.path && x.addr = q.addr

/-- The role a request carries: none where its token is not one of a session bound to its address and path; else the
scope held, if any. -/
def Dev.requestRole (d : Dev) (q : Req) : Option (Option Scope) :=
  if q.version = 1 || q.session = 0 then some none else (d.mgmt.sessions.find? q.bears).map (fun x => some x.scope)

/-- Whatever a request comes to, it is a request of the session whose token it bears, which counts as used (R63). -/
def Dev.useSession (d : Dev) (q : Req) : Dev :=
  { d with mgmt := { d.mgmt with sessions := d.mgmt.sessions.map (fun x => if q.bears x then { x with lastUse := d.tick } else x) } }

/-! ## The checks of R51 before length -/

/-- MZ entries whose Meaning permits writes only. -/
def writeOnly (k : Nat) : Bool := [E.RESET_CMD, E.PROFILE_CMD, E.KEY_BURN, E.FW_DATA, E.FW_CMD].contains k

/-- An MZ entry opens: to OWNER, and KEY_BURN of slot 0 from the T1S path to any role while UNCLAIMED (R41, R586). -/
def Dev.opens (d : Dev) (role : Option Scope) (path : Path) (wr : Bool) (k : Nat) : Bool :=
  role = some .owner || (wr && k = E.KEY_BURN && path = .t1s && d.reg E.KEY_SLOT_SELECT = 0 && !d.claimed)

/-- The boot ROM answers every entry but these with DOMAIN_OFF (R594). (DEDUCED, log entry 20). -/
def romServes (i : Nat) : Bool := (0x1000 ≤ i && i ≤ 0x1FFF) || (0xA400 ≤ i && i ≤ 0xA4FF)

/-- The boot ROM runs, and answers an entry with DOMAIN_OFF (R594). -/
def Dev.romShut (d : Dev) (i : Nat) : Bool := d.power.bootStage = 1 && !romServes i

/-- The domain check (R52). -/
def Dev.refuseDomain (d : Dev) (i s : Nat) : Option Status := refuseIf (d.domainOff (domainOf i s)) .domainOff

/-- An entry is present (R51). -/
def entryThere (i s : Nat) : Bool :=
  if vendorIndex i then vendorHas i s else (findRow i s).isSome || (s = 0 && topSub i != 0)

/-- Existence, the boot ROM, the muzzle, the access code and the domain, in this order (R51, R594). (DEDUCED, log entry 20). -/
def Dev.refuseAccess (d : Dev) (role : Option Scope) (path : Path) (wr : Bool) (i s : Nat) : Option Status :=
  let k := i * 256 + s
  if !entryThere i s then some .noEntry
  else if d.romShut i then some .domainOff
  else if vendorIndex i then
    if s = 0 then orElse (refuseIf wr .accessDenied) (d.refuseDomain i s)
    else if role != some .vendor then some .muzzled
    else d.refuseDomain i s
  else
    match findRow i s with
    | none => orElse (refuseIf wr .accessDenied) (d.refuseDomain i s)
    | some r =>
      let denied : Bool := match r.acc with
        | .ro | .rc => wr
        | .wo => !wr
        | .mz => !wr && writeOnly k
        | .rw | .rwp => false
      if r.acc = .mz && !d.opens role path wr k then some .muzzled
      else if denied then some .accessDenied
      else d.refuseDomain i s

/-! ## What serving a request comes to -/

/-- An answer, or a request held for a wake. -/
inductive Served where
  | reply (st : Status) (payload : List Byte) (d : Dev)
  | hold (d : Dev)
  deriving DecidableEq, Repr

/-- A status with no payload. -/
def Served.fail (st : Status) (d : Dev) : Served := .reply st [] d

/-! ## Handles (R56 to R59) -/

/-- A value that no open handle has: the first free one from a value the TX1 chooses.
(DESIGN CHOICE, log entry 23). -/
def Dev.newHandle (d : Dev) : BitVec 16 :=
  let v := Config.freeHandle d.draws
  (((List.range 9).map (fun n => v + BitVec.ofNat 16 n)).find? (fun x => d.mgmt.handles.all (fun h => h.id != x))).getD v

/-- A handle is open for its requester. -/
def Dev.handleOf (d : Dev) (q : Req) (writing : Bool) : Option Handle :=
  d.mgmt.handles.find? (fun h => h.id.toNat = beNat (q.payload.take 2) && h.path = q.path && h.addr = q.addr &&
    h.udpPort = q.udpPort && h.writing = writing)

/-- A handle is freed. -/
def Dev.dropHandle (d : Dev) (id : BitVec 16) : Dev :=
  { d with mgmt := { d.mgmt with handles := d.mgmt.handles.filter (fun h => h.id != id) } }

/-- A handle is opened. -/
def Dev.openHandle (d : Dev) (q : Req) (writing : Bool) (total : Nat) (data : List Byte) : Dev :=
  let h : Handle := { id := d.newHandle, path := q.path, addr := q.addr, udpPort := q.udpPort, lastUse := d.tick,
                      writing := writing, index := q.index.toNat, sub := q.sub.toNat, total := total, data := data, segs := [] }
  { d with mgmt := { d.mgmt with handles := d.mgmt.handles ++ [h] } }.drew

/-- A handle is used. -/
def Dev.useHandle (d : Dev) (h : Handle) : Dev :=
  { d with mgmt := { d.mgmt with handles := d.mgmt.handles.map (fun x => if x.id = h.id then { h with lastUse := d.tick } else x) } }

/-- Segments of a segmented write (R58). -/
def Handle.count (h : Handle) : Nat := (h.total + 1021) / 1022

/-- The staged value, if every segment has come and its CRC-32C matches (R57). -/
def Handle.staged (h : Handle) (crc : Nat) : Option (List Byte) :=
  let v := (List.range h.count).flatMap (fun n => tgetD h.segs n [])
  if (List.range h.count).all (fun n => (tget h.segs n).isSome) && crc32c v = crc then some v else none

/-! ## READ and WRITE -/

/-- Serving an entry whose domain is gated waits for the wake (R52). (DEDUCED, log entry 25). -/
def Dev.waitsFor (d : Dev) (i s : Nat) : Bool := d.domainGated (domainOf i s)

/-- A command that needs a fast domain is work (R613). -/
def Dev.workedFor (d : Dev) (i s : Nat) : Dev := if domainOf i s = .alwaysOn then d else d.worked

/-- READ (R51, R56). Its own payload, which R49 gives no meaning, is not read. (DESIGN CHOICE, log entry 160). -/
def Dev.serveRead (d : Dev) (sh : List ShadowSet) (role : Option Scope) (q : Req) : Served :=
  let i := q.index.toNat
  let s := q.sub.toNat
  match d.refuseAccess role q.path false i s with
  | some st => .fail st d
  | none =>
    if d.waitsFor i s then .hold d
    else
      match d.refuseRead sh i s with
      | some st => .fail st d
      | none =>
        let v := d.readEntry sh i s
        let d1 := (d.afterRead i s).workedFor i s
        if v.length ≤ payloadLimit q.version.toNat then .reply .ok v d1
        else if 8 ≤ d.mgmt.handles.length then .fail .busy d
        else .reply .segmented (beBytes 2 d1.newHandle.toNat ++ beBytes 4 v.length ++ beBytes 4 (crc32c v)) (d1.openHandle q false v.length v)

/-- The statuses with which a write of a vendor entry may be answered. -/
def vendorAnswers : List Status := [.ok, .accessDenied, .badLength, .invalidValue, .stateConflict]

/-- A write of a vendor entry by a VENDOR session: the unlock entry opens debug where the owner consents (R589). What any
other write is answered, and what the entry then reads as, the spec does not say: both are free.
(DEDUCED, log entry 26). -/
def Dev.vendorWrite (d : Dev) (k : Nat) : Served :=
  if k = Config.vendorUnlock && d.flag E.DEBUG_CONSENT then .reply .ok [] { d with debugOpen := true }
  else .reply (vendorAnswers.getD (Config.freeChoice d.draws % 5) .ok) [] d.drew

/-- A value is written to an entry (R51). -/
def Dev.serveValue (d : Dev) (sh : List ShadowSet) (role : Option Scope) (q : Req) (i s : Nat) (v : List Byte) : Served :=
  match d.refuseAccess role q.path true i s with
  | some st => .fail st d
  | none =>
    if vendorIndex i then d.vendorWrite (i * 256 + s)
    else if d.waitsFor i s then .hold d
    else
      match d.tryWrite sh false q.session i s v with
      | (some st, d1) => .fail st (d1.workedFor i s)
      | (none, d1) => .reply .ok [] (d1.workedFor i s)

/-! ## Segmented transfers -/

/-- READ_SEG (R56). (DEDUCED, log entry 21). -/
def Dev.serveReadSeg (d : Dev) (q : Req) : Served :=
  if q.payload.length != 2 then .fail .badLength d
  else
    match d.handleOf q false with
    | none => .fail .badHandle d
    | some h =>
      let w := payloadLimit q.version.toNat
      let n := q.seg.toNat
      let last := h.data.length / w
      if last < n then .fail .invalidValue d
      else .reply .ok (slice h.data (n * w) w) (if n = last then d.dropHandle h.id else d.useHandle h)

/-- A total length that an entry allows (R57). -/
def totalFits (i s total : Nat) : Bool :=
  match findRow i s with
  | some r => lengthFits r (i * 256 + s) total
  | none => vendorIndex i

/-- WRITE_SEG_START (R57). Its payload's own length is judged before the entry. (DEDUCED, log entry 21). -/
def Dev.serveSegStart (d : Dev) (role : Option Scope) (q : Req) : Served :=
  let i := q.index.toNat
  let s := q.sub.toNat
  let total := beNat q.payload
  if q.payload.length != 4 then .fail .badLength d
  else
    match d.refuseAccess role q.path true i s with
    | some st => .fail st d
    | none =>
      if d.waitsFor i s then .hold d
      else if total = 0 || 65536 < total || !totalFits i s total then .fail .badLength d
      else if 8 ≤ d.mgmt.handles.length then .fail .busy d
      else .reply .ok (beBytes 2 d.newHandle.toNat) (d.openHandle q true total [])

/-- WRITE_SEG (R58). (DEDUCED, log entry 21). -/
def Dev.serveSeg (d : Dev) (q : Req) : Served :=
  if q.payload.length < 2 then .fail .badLength d
  else
    match d.handleOf q true with
    | none => .fail .badHandle d
    | some h =>
      let n := q.seg.toNat
      let want := if n + 1 = h.count then h.total - 1022 * n else 1022
      if h.count ≤ n then .fail .invalidValue d
      else if q.payload.length - 2 != want then .fail .badLength d
      else .reply .ok [] (d.useHandle { h with segs := tset h.segs n (q.payload.drop 2) })

/-- The handle that a WRITE_SEG_COMMIT names. -/
def Dev.commitHandle (d : Dev) (op : Nat) (q : Req) : Option Handle :=
  if op = opWSEGCOMMIT && q.payload.length = 6 then d.handleOf q true else none

/-- WRITE_SEG_COMMIT, its staged value checked (R57): the handle is freed whatever the outcome. -/
def Dev.serveCommit (d : Dev) (sh : List ShadowSet) (role : Option Scope) (q : Req) : Served :=
  if q.payload.length != 6 then .fail .badLength d
  else
    match d.handleOf q true with
    | none => .fail .badHandle d
    | some h =>
      match (d.dropHandle h.id).serveValue sh role q h.index h.sub ((h.staged (beNat (q.payload.drop 2))).getD []) with
      | .hold _ => .hold d
      | o => o

/-! ## Challenge and response -/

/-- The scope of a code (R61). -/
def scopeOf (b : Nat) : Option Scope := if b = 1 then some .owner else if b = 2 then some .vendor else none

/-- A requester's nonce is void. -/
def Dev.spendNonce (d : Dev) (q : Req) : Dev :=
  { d with mgmt := { d.mgmt with nonces := d.mgmt.nonces.filter (fun n => !(n.path = q.path && n.addr = q.addr)) } }

/-- CHALLENGE (R62). -/
def Dev.serveChallenge (d : Dev) (q : Req) : Served :=
  match q.payload with
  | [b] =>
    match scopeOf b.toNat with
    | none => .fail .invalidValue d
    | some sc =>
      let v := Config.freeNonce d.draws
      let d1 := d.spendNonce q
      .reply .ok (beBytes 32 v.toNat) ({ d1 with mgmt := { d1.mgmt with nonces := d1.mgmt.nonces ++ [Nonce.mk q.path q.addr sc v d.tick] } }).drew
  | _ => .fail .badLength d

/-- A fresh token: not zero, and not one of an open session. (DESIGN CHOICE, log entry 23). -/
def Dev.newToken (d : Dev) : BitVec 64 :=
  let v := Config.freeToken d.draws
  (((List.range 6).map (fun n => v + BitVec.ofNat 64 n)).find? (fun x => x != 0 && d.mgmt.sessions.all (fun y => y.token != x))).getD v

/-- ANSWER (R62, R63). -/
def Dev.serveAnswer (d : Dev) (q : Req) : Served :=
  if q.payload.length != 385 then .fail .badLength d
  else
    match scopeOf (beNat (q.payload.take 1)) with
    | none => .fail .invalidValue d
    | some sc =>
      let ok : Bool := match d.mgmt.nonces.find? (fun n => n.path = q.path && n.addr = q.addr) with
        | some n => n.scope = sc && d.answerVerifies sc n.value (q.payload.drop 1)
        | none => false
      if !ok then .fail .challengeFailed ((d.spendNonce q).countErr E.CHALLENGE_FAILS)
      else if 4 ≤ d.mgmt.sessions.length then .fail .busy d
      else
        let t := d.newToken
        let d1 := d.spendNonce q
        .reply .ok (beBytes 8 t.toNat) ({ d1 with mgmt := { d1.mgmt with sessions := d1.mgmt.sessions ++ [Session.mk t q.path q.addr sc d.tick] } }).drew

/-- CLOSE (R49, R63). -/
def Dev.serveClose (d : Dev) (q : Req) : Served :=
  .reply .ok [] { d with mgmt := { d.mgmt with sessions := d.mgmt.sessions.filter (fun x => x.token != q.session) } }

/-! ## Serving -/

/-- A request's opcode is one that its version may carry (R49). -/
def opcodeOk (version op : Nat) : Bool :=
  if version = 1 then [opREAD, opWRITE, opREADSEG].contains op
  else [opREAD, opWRITE, opREADSEG, opWSEGSTART, opWSEG, opWSEGCOMMIT, opCHALLENGE, opANSWER, opCLOSE].contains op

/-- An opcode's own checks and act, after OPCODE, SESSION and the payload limit. -/
def Dev.serveOp (d : Dev) (sh : List ShadowSet) (role : Option Scope) (op : Nat) (q : Req) : Served :=
  if op = opREAD then d.serveRead sh role q
  else if op = opWRITE then d.serveValue sh role q q.index.toNat q.sub.toNat q.payload
  else if op = opREADSEG then d.serveReadSeg q
  else if op = opWSEGSTART then d.serveSegStart role q
  else if op = opWSEG then d.serveSeg q
  else if op = opWSEGCOMMIT then d.serveCommit sh role q
  else if op = opCHALLENGE then d.serveChallenge q
  else if op = opANSWER then d.serveAnswer q
  else d.serveClose q

/-- A request is served in the order of R51 and R57. -/
def Dev.serve (d : Dev) (sh : List ShadowSet) (op : Nat) (q : Req) : Served :=
  if !opcodeOk q.version.toNat op then .fail .badOpcode d
  else
    let h := d.commitHandle op q
    let freed := fun (a : Dev) => match h with
      | some x => a.dropHandle x.id
      | none => a
    let torn : Bool := match h with
      | some x => (x.staged (beNat (q.payload.drop 2))).isNone
      | none => false
    if torn then .fail .checkFailed (freed d)
    else
      match d.requestRole q with
      | none => .fail .sessionInvalid (freed d)
      | some role => if payloadLimit q.version.toNat < q.payload.length then .fail .badLength d else d.serveOp sh role op q

/-- A request's key in the response cache (R54). -/
def Req.key (q : Req) : CacheKey := ⟨q.path, q.addr, q.udpPort, q.txn⟩

/-- A held response is of the same request (R54). -/
def Cached.same (c : Cached) (op : Nat) (q : Req) : Bool :=
  c.key = q.key && c.opcode = op && c.index = q.index.toNat && c.sub = q.sub.toNat && c.seg = q.seg.toNat

/-- A response is held, the 64 most recent ones (R54), and sent. -/
def Dev.respondTo (d : Dev) (op : Nat) (q : Req) (st : Status) (payload : List Byte) : Dev :=
  let b := responseBytes op q st payload
  let others := d.mgmt.cache.filter (fun c => c.key != q.key)
  let c : Cached := { key := q.key, opcode := op, index := q.index.toNat, sub := q.sub.toNat, seg := q.seg.toNat, response := b, tick := d.tick }
  let d1 := { d with mgmt := { d.mgmt with cache := others.drop (others.length - 63) ++ [c] } }
  d1.sendFrame q.path q.addr q.udpPort b

/-- A request waits for a wake (R52, R480). (DEDUCED, log entry 25). -/
def Dev.holdReq (d : Dev) (code op : Nat) (q : Req) (taken : Bool) : Dev :=
  let d1 := d.wake code
  { d1 with mgmt := { d1.mgmt with heldReqs := d1.mgmt.heldReqs ++ [HeldReq.mk op q taken] } }

/-- A NOTIFY_ACK acknowledges the NOTIFY of its TXN from the destination's address (R60). -/
def Dev.takeAck60 (d : Dev) (q : Req) : Dev :=
  { d with mgmt := { d.mgmt with notifies := d.mgmt.notifies.filter (fun n => !(n.txn = q.txn && n.addr = q.addr)) } }

/-- A request is answered from the cache, or served (R51, R54). -/
def Dev.answerReq (d : Dev) (sh : List ShadowSet) (op : Nat) (q : Req) : Dev :=
  match d.mgmt.cache.find? (fun c => c.same op q) with
  | some c => (d.count E.CACHE_REPLAYS).sendFrame q.path q.addr q.udpPort c.response
  | none =>
    match d.serve sh op q with
    | .reply st pl d1 => d1.settleAlert.respondTo op q st pl
    | .hold d1 => d1.holdReq wkCOMMAND op q true

/-- A frame that the TX1 takes in is an acknowledgement of a NOTIFY, or a request (R49, R60, R63). -/
def Dev.answer (d : Dev) (sh : List ShadowSet) (op : Nat) (q : Req) : Dev :=
  if op = opNOTIFYACK && q.version = 2 then d.takeAck60 q else (d.useSession q).answerReq sh op q

/-- Bytes of a request's frame on the host path: Ethernet, IPv6 and UDP headers, the header of its version, the payload.
(PRESUMED, log entry 102). -/
def Req.frameLength (q : Req) : Nat := 14 + 40 + 8 + (if q.version = 1 then 12 else 20) + q.payload.length

/-- A request arrives, or is taken up again after a wake (R43, R44, R48, R64, R478, R480, R481). -/
def Dev.request (d : Dev) (sh : List ShadowSet) (op : Nat) (q : Req) (taken : Bool) : Dev :=
  if !d.listens q.path then d
  else if q.path = .host && d.domainGated .host then d.holdReq wkHOST op q taken
  else if q.path = .host && (!d.flag E.INBAND_ENABLE || 4200 < q.frameLength) then (if taken then d else d.count E.HOST_DROPS)
  else if taken then d.purge.answer sh op q
  else
    let d1 := if q.path = .host then d.count E.HOST_FRAMES else d
    if (q.version != 1 && q.version != 2) || (q.version = 1 && q.path = .host && !d.flag E.INBAND_V1) then d1.countErr E.BAD_FRAMES
    else (d1.count E.FRAMES_RX).purge.answer sh op q

/-- Held requests are executed in order of arrival (R52, R55). -/
def Dev.requests (d : Dev) (sh : List ShadowSet) (hs : List HeldReq) : Dev :=
  hs.foldl (fun (a : Dev) h => a.request sh h.opcode h.q h.taken) d

/-- What is due is applied, in the order of R537: the sentry samples its reports, then the interrupt controller its events
(R31). It precedes every dictionary command and delivery of the tick, and the tick's end. -/
def Dev.sampleEvents (d : Dev) : Dev :=
  let due := sortBy reportBefore (d.sentry.reports.filter (fun r => r.due ≤ d.tick))
  (due.foldl (fun (a : Dev) r => a.sample r.msg) { d with sentry := { d.sentry with reports := d.sentry.reports.filter (fun r => d.tick < r.due) } }).takeArrivals

/-- The outcome of a request as a step: the events of the tick come first (R537). (DESIGN CHOICE, log entry 156). -/
def State.request (s : State) (op : Nat) (q : Req) : Host.Outcome State Fault Refusal :=
  run s fun d => d.sampleEvents.request s.shadows op q false

/-- A WRITE request to the entry of a row, with the payload the row names. -/
def State.writeRow (s : State) (q : Req) (k : Nat) (pl : List Byte) : Host.Outcome State Fault Refusal :=
  s.request opWRITE { q with index := BitVec.ofNat 16 (k / 256), sub := BitVec.ofNat 8 (k % 256), payload := pl }

/-! ## Requests -/

/-- READ (R51). -/
def execRead (q : Req) (s : State) : Host.Outcome State Fault Refusal := s.request opREAD q
/-- WRITE (R51). -/
def execWrite (q : Req) (s : State) : Host.Outcome State Fault Refusal := s.request opWRITE q
/-- READ_SEG (R56). -/
def execReadSeg (q : Req) (s : State) : Host.Outcome State Fault Refusal := s.request opREADSEG q
/-- WRITE_SEG_START (R57). -/
def execWriteSegStart (q : Req) (s : State) : Host.Outcome State Fault Refusal := s.request opWSEGSTART q
/-- WRITE_SEG (R58). -/
def execWriteSeg (q : Req) (s : State) : Host.Outcome State Fault Refusal := s.request opWSEG q
/-- WRITE_SEG_COMMIT (R57). -/
def execWriteSegCommit (q : Req) (s : State) : Host.Outcome State Fault Refusal := s.request opWSEGCOMMIT q
/-- CHALLENGE (R62). -/
def execChallenge (q : Req) (s : State) : Host.Outcome State Fault Refusal := s.request opCHALLENGE q
/-- ANSWER (R63). -/
def execAnswer (q : Req) (s : State) : Host.Outcome State Fault Refusal := s.request opANSWER q
/-- CLOSE (R63). -/
def execClose (q : Req) (s : State) : Host.Outcome State Fault Refusal := s.request opCLOSE q
/-- NOTIFY_ACK (R60). -/
def execNotifyAck (q : Req) (s : State) : Host.Outcome State Fault Refusal := s.request opNOTIFYACK q
/-- BAD_OPCODE (R49): a request with any opcode byte. -/
def execBadOpcode (q : Req) (op : BitVec 8) (s : State) : Host.Outcome State Fault Refusal := s.request op.toNat q

/-- BAD_FRAMES (R48). -/
def execBadFrames (path : Path) (bytes : List Byte) (s : State) : Host.Outcome State Fault Refusal :=
  run s fun d =>
    if !d.listens path || (path = .host && !d.flag E.INBAND_ENABLE) then d
    else
      let d1 := if path = .host then (if d.domainGated .host then d.wake wkHOST else d).count E.HOST_FRAMES else d
      if (parseFrame bytes).isSome && !(path = .host && bytes.take 1 = [0x01] && !d.flag E.INBAND_V1) then d1 else d1.countErr E.BAD_FRAMES

/-- UDP_CHECKSUM_DROP (R43): dropped without an answer. -/
def execUdpChecksumDrop (path : Path) (s : State) : Host.Outcome State Fault Refusal :=
  run s fun d => if path = .host && d.hostUp && d.domainGated .host then d.wake wkHOST else d

/-! ## What expires -/

/-- HANDLE_EXPIRY (R59). (DEDUCED, log entry 24). -/
def execHandleExpiry (h : BitVec 16) (s : State) : Host.Outcome State Fault Refusal :=
  run s fun d =>
    { d with mgmt := { d.mgmt with handles := d.mgmt.handles.filter (fun x => !(x.id = h && decide (x.lastUse + handleLife ≤ d.tick))) } }

/-- NONCE_EXPIRY (R62). -/
def execNonceExpiry (path : Path) (addr : BitVec 128) (s : State) : Host.Outcome State Fault Refusal :=
  run s fun d =>
    { d with mgmt := { d.mgmt with nonces := d.mgmt.nonces.filter (fun x => !(x.path = path && x.addr = addr && decide (x.tick + nonceLife ≤ d.tick))) } }

/-- SESSION_IDLE_EXPIRY (R63). -/
def execSessionIdleExpiry (token : BitVec 64) (s : State) : Host.Outcome State Fault Refusal :=
  run s fun d =>
    { d with mgmt := { d.mgmt with sessions := d.mgmt.sessions.filter (fun x =>
        !(x.token = token && decide (x.lastUse + d.reg E.SESSION_IDLE_TICKS ≤ d.tick))) } }

/-- RESPONSE_EXPIRY (R54). -/
def execResponseExpiry (key : CacheKey) (s : State) : Host.Outcome State Fault Refusal :=
  run s fun d =>
    { d with mgmt := { d.mgmt with cache := d.mgmt.cache.filter (fun x => !(x.key = key && decide (x.tick + cacheLife ≤ d.tick))) } }

/-! ## NOTIFY (R60) and interrupt delivery (R542) -/

/-- The path of a destination. -/
def destPath (addr : List Byte) : Path := if addr.take 1 = [0xFE] && beNat (slice addr 1 1) / 64 = 2 then .t1s else .host

/-- A NOTIFY cannot go out on the host port. -/
def Dev.notifyBlocked (d : Dev) (p : Path) : Bool := p = .host && (!d.hostUp || !d.flag E.INBAND_ENABLE)

/-- NOTIFY to one destination. Its header names the entry and sub-index that its payload names.
(DEDUCED, log entries 28 and 161). -/
def Dev.notifyOne (d : Dev) (n : Fin 4) (event : Nat) : Dev :=
  let v := d.blob (E.NOTIFY_DEST n.val)
  let path := destPath v
  if v.all (· = 0) then d
  else if d.notifyBlocked path then d.countErr E.NOTIFY_LOST
  else
    let t := (d.mgmt.notifyTxn + 1) % 65536
    let addr := BitVec.ofNat 128 (beNat (v.take 16))
    let port := BitVec.ofNat 16 (beNat (slice v 16 2))
    let b := frameBytes { version := 2, opcode := opNOTIFY, txn := t, index := 0x7020, sub := 2, status := 0, session := 0, seg := 0,
                          payload := beBytes 8 d.tick ++ beBytes 2 0x7020 ++ [2] ++ beBytes 1 event }
    let x : Notify := { txn := BitVec.ofNat 16 t, dest := n, addr := addr, udpPort := port, frame := b, sentAt := d.tick, repeats := 0 }
    ({ d with mgmt := { d.mgmt with notifyTxn := t, notifies := d.mgmt.notifies ++ [x] } }).sendFrame path addr port b

/-- NOTIFY_REPEAT (R60): it goes where the NOTIFY went, in OFF and in reset nothing leaves (R67), and a repeat that the
host port cannot carry is lost at once. (DEDUCED, log entry 28). -/
def execNotifyRepeat (txn : BitVec 16) (dest : Fin 4) (s : State) : Host.Outcome State Fault Refusal :=
  run s fun d =>
    match d.mgmt.notifies.find? (fun n => n.txn = txn && n.dest = dest) with
    | none => d
    | some n =>
      let path := destPath (beBytes 16 n.addr.toNat)
      let rest := d.mgmt.notifies.erase n
      if !d.listens .t1s || d.tick < n.sentAt + notifyEvery then d
      else if 3 ≤ n.repeats || d.notifyBlocked path then ({ d with mgmt := { d.mgmt with notifies := rest } }).countErr E.NOTIFY_LOST
      else
        let x := { n with sentAt := d.tick, repeats := n.repeats + 1 }
        ({ d with mgmt := { d.mgmt with notifies := rest ++ [x] } }).sendFrame path n.addr n.udpPort n.frame

/-- The record of a delivery (R542). (DEDUCED, log entry 29). -/
def deliveryRecord (tick g marked n : Nat) : List Byte := leBytes 8 tick ++ leBytes 1 g ++ [0] ++ leBytes 2 marked ++ leBytes 4 n

/-- A delivery's RDMA write (R542). (DEDUCED, log entry 29). -/
def Dev.deliverRdma (d : Dev) (g : Nat) (bytes : List Byte) : Dev :=
  let qn := d.reg (E.INT_QP g)
  if (d.qp qn).state != 1 || d.domainOff .host then d.countErr (E.DELIVERY_FAILS g)
  else d.postWrite qn (.interrupt g) (d.reg (E.INT_RKEY g)) (d.reg (E.INT_ADDR g)) bytes

/-- INT_GROUP_DELIVER (R537, R542): after the events of the tick, a group with marks whose hold-off has expired. -/
def execIntGroupDeliver (g : Fin 16) (s : State) : Host.Outcome State Fault Refusal :=
  run s fun d0 =>
    let d := d0.sampleEvents
    let i := d.ints
    let marked := bits i.marked (16 * g.val) 16
    if !d.alive || d.power.resetLow || marked = 0 || d.tick < tgetD i.holdUntil g.val 0 then d
    else
      let n := tgetD i.delivered g.val 0 + 1
      let i1 := { i with marked := i.marked - marked * 2 ^ (16 * g.val), delivered := tset i.delivered g.val n,
                         holdUntil := tset i.holdUntil g.val (d.tick + d.reg (E.HOLDOFF_TICKS g.val)) }
      let d1 := ({ d with ints := i1 }).count (E.DELIVERIES g.val)
      let way := d1.reg (E.DELIVERY g.val)
      let d2 := if bits way 0 1 = 1 then d1.deliverRdma g.val (deliveryRecord d.tick g.val marked n) else d1
      let d3 := if bits way 1 1 = 1 && d2.alertHolds then d2.driveAlert true else d2
      if maskHas (d3.reg E.NOTIFY_MASK) g.val then ([0, 1, 2, 3] : List (Fin 4)).foldl (fun a k => a.notifyOne k g.val) d3 else d3

/-! ## The segment and the host link (R65 to R67, R479, R481) -/

/-- A neighbour solicitation is answered, or dropped (R66, R481). (PRESUMED, log entry 31). -/
def Dev.solicited (d : Dev) (path : Path) (src target : BitVec 128) : Dev :=
  let mine := d.holdsAddr path target
  let d1 := if path = .host then d.count (if mine then E.HOST_FRAMES else E.HOST_DROPS) else d
  if mine then d1.emit (.neighbour d.tick path src target) else d1

/-- NEIGHBOUR_SOLICITATION (R66, R480, R481). (PRESUMED, log entry 31). -/
def execNeighbourSolicitation (path : Path) (src target : BitVec 128) (s : State) : Host.Outcome State Fault Refusal :=
  run s fun d =>
    if !d.listens path then d
    else if path = .host && d.domainGated .host then
      let d1 := d.wake wkHOST
      { d1 with mgmt := { d1.mgmt with heldSols := d1.mgmt.heldSols ++ [(src, target)] } }
    else d.solicited path src target

/-- Held solicitations are answered after a wake (R480). -/
def Dev.releaseSols (d : Dev) : Dev :=
  let hs := d.mgmt.heldSols
  hs.foldl (fun (a : Dev) z => a.solicited .host z.1 z.2) { d with mgmt := { d.mgmt with heldSols := [] } }

/-- PLCA_BEACON (R67): changes of the PLCA entries take effect. (PRESUMED, log entry 30). -/
def execPlcaBeacon (s : State) : Host.Outcome State Fault Refusal :=
  run s fun d =>
    if !d.listens .t1s then d
    else
      { d.setReg E.PLCA_STATUS 1 with
        mgmt := { d.mgmt with plca := [d.reg E.PLCA_NODE_ID, d.reg E.PLCA_TO_TIMER, d.reg E.PLCA_BURST_COUNT, d.reg E.PLCA_BURST_TIMER] } }

/-- PLCA_COLLISION (R67): counted, and a corrected fault, whose ADDRESS is a port that the T1S port has no number for.
(PRESUMED, log entry 30). -/
def execPlcaCollision (s : State) : Host.Outcome State Fault Refusal :=
  run s fun d =>
    if !d.listens .t1s then d
    else
      let a := (Config.freeWord d.draws).toNat
      (d.drew.countErr E.PLCA_COLLISIONS).sample (bark 0x0C01 accNone iniHkp false a 0)

/-- HOST_PORT_DOWN (R479). -/
def execHostPortDown (s : State) : Host.Outcome State Fault Refusal :=
  run s fun d => if d.reg E.HOST_MODE = 0 then d else { d.setReg E.HOST_MODE 0 with hostPort := {} }

end Sys2Proof.Machine
end

