-- ==== Sys2Proof/Machine/Maps.lean ====
section
/-! DEFINITION. Congestion maps (R566 to R570). -/

namespace Sys2Proof.Machine

/-- Replace the map gatherer of an S-die. -/
def Dev.setMap (d : Dev) (s : Nat) (m : MapGather) : Dev :=
  { d with tele := if s = 0 then { d.tele with map0 := m } else { d.tele with map1 := m } }

/-- The 128 ports of an S-die. -/
def halfPorts (s : Nat) : List Nat := (List.range 128).map (fun i => 128 * s + i)

/-- A window opens (R566 to R568). (DEDUCED, log entry 143). -/
def Dev.startMap (d : Dev) (s start : Nat) : Dev :=
  d.setMap s { active := true, start := start, closed := (d.tele.map s).closed, shrPeak := (d.kennel s).used .shr, marginMin := (halfPorts s).map (fun p => (p, (d.port p).portMargin)) }

/-- Q of every port of an S-die is sampled (R568). -/
def Dev.sampleQ (d : Dev) (s : Nat) : Dev :=
  if !(d.tele.map s).active then d
  else
    d.updMap s (fun m => (List.range 128).foldl (fun (a : MapGather) i =>
      let q := (d.kennel s).queueQ i
      if q = 0 then a
      else { a with qPeak := tset a.qPeak (128 * s + i) (max q (tgetD a.qPeak (128 * s + i) 0)),
                    qSum := tset a.qSum (128 * s + i) (q + tgetD a.qSum (128 * s + i) 0) }) m)

/-- A count field of a record: it sticks at its largest value (R554). -/
def stuckBytes (n v : Nat) : List Byte := leBytes n (min v (256 ^ n - 1))

/-- One port entry (R568). -/
def Dev.mapEntry (d : Dev) (m : MapGather) (period p : Nat) : List Byte :=
  let x := d.port p
  beBytes 1 (portStateCode x.state) ++ beBytes 1 (x.capacity / 100) ++ beBytes 1 (tgetD m.marginMin p 0) ++ [0] ++
    stuckBytes 2 (tgetD m.qPeak p 0) ++ stuckBytes 2 (tgetD m.qSum p 0 / period) ++ stuckBytes 4 (tgetD m.ceMarks p 0) ++
    stuckBytes 2 (tgetD m.txCells p 0 / 1024) ++ stuckBytes 2 (tgetD m.pushouts p 0)

/-- The 2,112 bytes of a map (R567). -/
def Dev.mapBytes (d : Dev) (s period : Nat) : List Byte :=
  let m := d.tele.map s
  let head := leBytes 8 (m.start / period) ++ leBytes 8 m.start ++ leBytes 8 (m.start + period) ++ leBytes 1 s ++
    leBytes 1 d.ingressEpoch ++ [0, 0] ++ stuckBytes 4 m.shrPeak ++ stuckBytes 4 ((d.kennel s).used .shr) ++
    stuckBytes 4 m.expired ++ stuckBytes 4 m.noRoute ++ List.replicate 16 0
  let ports := (halfPorts s).flatMap (d.mapEntry m period)
  head ++ leBytes 4 (crc32c (head ++ ports)) ++ ports

/-- The tier address a map is written at (R569). -/
def Dev.mapAddr (d : Dev) (s w : Nat) : Nat := d.reg E.MAP_ADDR + (2 * (w % d.reg E.MAP_RECORDS) + s) * 4096

/-- END_TICK: the map of the open window is made up, and the next window opens (R566 to R568). -/
def Dev.closeMap (d : Dev) (s : Nat) : Dev :=
  let period := d.reg E.MAP_PERIOD_TICKS
  let m := d.tele.map s
  let d1 := d.setMap s { m with closed := m.closed ++ [(m.start / period, d.mapBytes s period)] }
  d1.startMap s (d.tick / period * period)

/-- A map is written: window `w`, bytes `b` (R569, R570). (DEDUCED, log entry 142). -/
def Dev.endMap (d : Dev) (s w : Nat) (b : List Byte) : Dev :=
  let d1 := d.setBlob (if s = 0 then E.MAP_LATEST_0 else E.MAP_LATEST_1) b
  let die : Fin 4 := Fin.ofNat 4 (tierCdie (d1.reg E.MAP_ADDR))
  let a := d1.mapAddr s w
  let link := 4 * s + tierCdie a
  if d1.domainOff (.compute die) || d1.fenced then d1.countErr E.MAPS_SKIPPED
  else if d1.linkDown link then (d1.pkgTransfer link).countErr E.MAPS_SKIPPED
  else ((d1.pkgTransfer link).writeMem a b).count E.MAPS_WRITTEN

/-- MAP_WINDOW_END (R569): the map of the oldest window that has ended is written. -/
def execMapWindowEnd (d : Sdie) (s : State) : Host.Outcome State Fault Refusal :=
  run s fun a =>
    let m := a.tele.map d.val
    match m.closed with
    | [] => a
    | (w, b) :: rest => if a.domainOff .switch then a else (a.setMap d.val { m with closed := rest }).endMap d.val w b

/-- What gathering does at a tick boundary: a window opens at the first boundary after MAP_ENABLE, ends after its period, and
is dropped with MAP_ENABLE or the power of the S-dies (R566, R568, R570). -/
def Dev.tickMap (d : Dev) (s : Nat) : Dev :=
  let m := d.tele.map s
  if !d.flag E.MAP_ENABLE || d.domainOff .switch then (if m.active then d.setMap s { closed := m.closed } else d)
  else if m.active then (if d.tick < m.start + d.reg E.MAP_PERIOD_TICKS then d else d.closeMap s).sampleQ s
  else if d.tick % d.reg E.MAP_PERIOD_TICKS = 0 then (d.startMap s d.tick).sampleQ s
  else d

end Sys2Proof.Machine
end

