-- ==== Sys2Proof/Machine/Rows.lean ====
section
/-! DEFINITION. The commands that are writes of one entry with a row of its own: each is a WRITE request to that entry, whose
payload holds the value the row names, or the request's where the row leaves it open. -/

namespace Sys2Proof.Machine

/-- A value whose bits [31:28] name a kind. -/
def kindNibble (k : Nat) (pl : List Byte) : List Byte := splice pl 0 ((pl.take 1).map (fun b => BitVec.ofNat 8 (16 * k) ||| (b &&& 0x0F)))

/-- A value whose byte 0 names a kind. -/
def firstByte (k : Nat) (pl : List Byte) : List Byte := splice pl 0 ((pl.take 1).map (fun _ => BitVec.ofNat 8 k))

/-- END_SESSIONS of 0x01 (R68). -/
def execEndSessions (q : Req) (s : State) : Host.Outcome State Fault Refusal := s.writeRow q E.END_SESSIONS [1]
/-- A write of MAX_RATE (R91). -/
def execMaxRateWrite (q : Req) (p : Port) (s : State) : Host.Outcome State Fault Refusal := s.writeRow q (E.MAX_RATE p.val) q.payload
/-- A write of PEAK_SET (R82). -/
def execPeakSet (q : Req) (p : Port) (l : Lane) (s : State) : Host.Outcome State Fault Refusal := s.writeRow q (E.PEAK_SET p.val l.val) q.payload
/-- A write of ELEC_CLASS (R70). -/
def execElecClassWrite (q : Req) (p : Port) (s : State) : Host.Outcome State Fault Refusal := s.writeRow q (E.ELEC_CLASS p.val) q.payload
/-- A write of TEST_MODE (R106). -/
def execTestModeWrite (q : Req) (p : Port) (l : Lane) (s : State) : Host.Outcome State Fault Refusal := s.writeRow q (E.TEST_MODE p.val l.val) q.payload
/-- A write of LOOP (R109). -/
def execLoopWrite (q : Req) (p : Port) (l : Lane) (s : State) : Host.Outcome State Fault Refusal := s.writeRow q (E.LOOP p.val l.val) q.payload
/-- INJECT of kind 1 (R110). -/
def execInjectBit (q : Req) (p : Port) (l : Lane) (s : State) : Host.Outcome State Fault Refusal := s.writeRow q (E.INJECT p.val l.val) (kindNibble 1 q.payload)
/-- INJECT of kind 2 (R110). -/
def execInjectRxFecCorr (q : Req) (p : Port) (l : Lane) (s : State) : Host.Outcome State Fault Refusal := s.writeRow q (E.INJECT p.val l.val) (kindNibble 2 q.payload)
/-- INJECT of kind 3 (R110). -/
def execInjectRxFecUncorr (q : Req) (p : Port) (l : Lane) (s : State) : Host.Outcome State Fault Refusal := s.writeRow q (E.INJECT p.val l.val) (kindNibble 3 q.payload)
/-- INJECT of kind 4 (R110). -/
def execInjectTxFecCorr (q : Req) (p : Port) (l : Lane) (s : State) : Host.Outcome State Fault Refusal := s.writeRow q (E.INJECT p.val l.val) (kindNibble 4 q.payload)
/-- INJECT of kind 5 (R110). -/
def execInjectTxFecUncorr (q : Req) (p : Port) (l : Lane) (s : State) : Host.Outcome State Fault Refusal := s.writeRow q (E.INJECT p.val l.val) (kindNibble 5 q.payload)
/-- INJECT of kind 6 (R110). -/
def execInjectTxSquelch (q : Req) (p : Port) (l : Lane) (s : State) : Host.Outcome State Fault Refusal := s.writeRow q (E.INJECT p.val l.val) (kindNibble 6 q.payload)
/-- A write of PORT_ENABLE (R154). -/
def execPortEnableWrite (q : Req) (p : Port) (s : State) : Host.Outcome State Fault Refusal := s.writeRow q (E.PORT_ENABLE p.val) q.payload
/-- RETRAIN of 0x01 (R154). -/
def execRetrain (q : Req) (p : Port) (s : State) : Host.Outcome State Fault Refusal := s.writeRow q (E.RETRAIN p.val) [1]
/-- A write of STRAY_RECLAIM (R194). -/
def execStrayReclaim (q : Req) (s : State) : Host.Outcome State Fault Refusal := s.writeRow q E.STRAY_RECLAIM q.payload
/-- KENNEL_INJECT of kind 1 (R196). -/
def execKennelInjectPtrRange (q : Req) (s : State) : Host.Outcome State Fault Refusal := s.writeRow q E.KENNEL_INJECT (kindNibble 1 q.payload)
/-- KENNEL_INJECT of kind 2 (R196). -/
def execKennelInjectPtrAlign (q : Req) (s : State) : Host.Outcome State Fault Refusal := s.writeRow q E.KENNEL_INJECT (kindNibble 2 q.payload)
/-- KENNEL_INJECT of kind 3 (R196). -/
def execKennelInjectOwnerMismatch (q : Req) (s : State) : Host.Outcome State Fault Refusal := s.writeRow q E.KENNEL_INJECT (kindNibble 3 q.payload)
/-- KENNEL_INJECT of kind 4 (R196). -/
def execKennelInjectFreelistLink (q : Req) (s : State) : Host.Outcome State Fault Refusal := s.writeRow q E.KENNEL_INJECT (kindNibble 4 q.payload)
/-- KENNEL_INJECT of kind 5 (R196). -/
def execKennelInjectLeak (q : Req) (s : State) : Host.Outcome State Fault Refusal := s.writeRow q E.KENNEL_INJECT (kindNibble 5 q.payload)
/-- A write of FLIP_TICK (R215). -/
def execFlipTickWrite (q : Req) (s : State) : Host.Outcome State Fault Refusal := s.writeRow q E.FLIP_TICK q.payload
/-- A write of BANK_RETIRE (R214). -/
def execBankRetire (q : Req) (s : State) : Host.Outcome State Fault Refusal := s.writeRow q E.BANK_RETIRE q.payload
/-- PACK_CMD of 0x01 (R278). -/
def execActivate (q : Req) (pack : PackNo) (s : State) : Host.Outcome State Fault Refusal := s.writeRow q (E.PACK_CMD pack.val) [1]
/-- PACK_CMD of 0x02 (R279). -/
def execDeactivate (q : Req) (pack : PackNo) (s : State) : Host.Outcome State Fault Refusal := s.writeRow q (E.PACK_CMD pack.val) [2]
/-- PACK_CMD of 0x03 (R279). -/
def execPackAbort (q : Req) (pack : PackNo) (s : State) : Host.Outcome State Fault Refusal := s.writeRow q (E.PACK_CMD pack.val) [3]
/-- WHISTLE_CMD ARM (R413). -/
def execArm (q : Req) (s : State) : Host.Outcome State Fault Refusal := s.writeRow q E.WHISTLE_CMD [1]
/-- WHISTLE_CMD DISARM (R413). -/
def execDisarm (q : Req) (s : State) : Host.Outcome State Fault Refusal := s.writeRow q E.WHISTLE_CMD [2]
/-- A write of WHISTLE_COUNT (R412). -/
def execWhistleCountWrite (q : Req) (s : State) : Host.Outcome State Fault Refusal := s.writeRow q E.WHISTLE_COUNT q.payload
/-- COMPUTE_INJECT of kind 1 (R405). -/
def execComputeInjectAbftColumn (q : Req) (s : State) : Host.Outcome State Fault Refusal := s.writeRow q E.COMPUTE_INJECT (kindNibble 1 q.payload)
/-- COMPUTE_INJECT of kind 2 (R405). -/
def execComputeInjectAbftRow (q : Req) (s : State) : Host.Outcome State Fault Refusal := s.writeRow q E.COMPUTE_INJECT (kindNibble 2 q.payload)
/-- COMPUTE_INJECT of kind 3 (R405). -/
def execComputeInjectConversion (q : Req) (s : State) : Host.Outcome State Fault Refusal := s.writeRow q E.COMPUTE_INJECT (kindNibble 3 q.payload)
/-- COMPUTE_INJECT of kind 4 (R405). -/
def execComputeInjectDup (q : Req) (s : State) : Host.Outcome State Fault Refusal := s.writeRow q E.COMPUTE_INJECT (kindNibble 4 q.payload)
/-- CHAIN_CMD LOAD (R423). -/
def execChainLoad (q : Req) (s : State) : Host.Outcome State Fault Refusal := s.writeRow q E.CHAIN_CMD [1]
/-- CHAIN_CMD UNLOAD (R424). -/
def execChainUnload (q : Req) (s : State) : Host.Outcome State Fault Refusal := s.writeRow q E.CHAIN_CMD [2]
/-- CHAIN_CMD INIT (R429). -/
def execChainInit (q : Req) (s : State) : Host.Outcome State Fault Refusal := s.writeRow q E.CHAIN_CMD [3]
/-- STEP_CMD with byte 0 at 0x01 (R449). -/
def execStepAbort (q : Req) (s : State) : Host.Outcome State Fault Refusal := s.writeRow q E.STEP_CMD (firstByte 1 q.payload)
/-- STEP_CMD with byte 0 at 0x02 (R449). -/
def execStepCommit (q : Req) (s : State) : Host.Outcome State Fault Refusal := s.writeRow q E.STEP_CMD (firstByte 2 q.payload)
/-- STEP_CMD with byte 0 at 0x03 (R449). -/
def execStepRollback (q : Req) (s : State) : Host.Outcome State Fault Refusal := s.writeRow q E.STEP_CMD (firstByte 3 q.payload)
/-- PROG_CMD LOAD (R472). -/
def execProgLoad (q : Req) (s : State) : Host.Outcome State Fault Refusal := s.writeRow q E.PROG_CMD [1]
/-- PROG_CMD UNLOAD (R473). -/
def execProgUnload (q : Req) (s : State) : Host.Outcome State Fault Refusal := s.writeRow q E.PROG_CMD [2]
/-- QP_STATE RESET (R485). -/
def execQpReset (q : Req) (qp : QpNo) (s : State) : Host.Outcome State Fault Refusal := s.writeRow q (E.QP_STATE qp.val) [0]
/-- QP_STATE RTS (R485). -/
def execQpRts (q : Req) (qp : QpNo) (s : State) : Host.Outcome State Fault Refusal := s.writeRow q (E.QP_STATE qp.val) [1]
/-- A write of DMA_START (R494). -/
def execDmaStart (q : Req) (ch : ChanNo) (s : State) : Host.Outcome State Fault Refusal := s.writeRow q (E.DMA_START ch.val) q.payload
/-- DMA_CMD RESET (R498). -/
def execDmaReset (q : Req) (ch : ChanNo) (s : State) : Host.Outcome State Fault Refusal := s.writeRow q (E.DMA_CMD ch.val) [1]
/-- A write of CONSUMED (R496). -/
def execConsumedWrite (q : Req) (ch : ChanNo) (s : State) : Host.Outcome State Fault Refusal := s.writeRow q (E.CONSUMED ch.val) q.payload
/-- A write of FAULT_ACK (R535). -/
def execFaultAck (q : Req) (s : State) : Host.Outcome State Fault Refusal := s.writeRow q E.FAULT_ACK q.payload
/-- FAULT_INJECT of checker 0x01 (R544). -/
def execFaultInjectCellCrc (q : Req) (s : State) : Host.Outcome State Fault Refusal := s.writeRow q E.FAULT_INJECT (firstByte 1 q.payload)
/-- FAULT_INJECT of checker 0x02 (R544). -/
def execFaultInjectPkgLinkCrc (q : Req) (s : State) : Host.Outcome State Fault Refusal := s.writeRow q E.FAULT_INJECT (firstByte 2 q.payload)
/-- FAULT_INJECT of checker 0x03 (R544). -/
def execFaultInjectResContrib (q : Req) (s : State) : Host.Outcome State Fault Refusal := s.writeRow q E.FAULT_INJECT (firstByte 3 q.payload)
/-- FAULT_INJECT of checker 0x04 (R544). -/
def execFaultInjectResSum (q : Req) (s : State) : Host.Outcome State Fault Refusal := s.writeRow q E.FAULT_INJECT (firstByte 4 q.payload)
/-- FAULT_INJECT of checker 0x05 (R544). -/
def execFaultInjectResRounding (q : Req) (s : State) : Host.Outcome State Fault Refusal := s.writeRow q E.FAULT_INJECT (firstByte 5 q.payload)
/-- FAULT_INJECT of checker 0x06 (R544). -/
def execFaultInjectResLanes (q : Req) (s : State) : Host.Outcome State Fault Refusal := s.writeRow q E.FAULT_INJECT (firstByte 6 q.payload)
/-- FAULT_INJECT of checker 0x07 (R544). -/
def execFaultInjectResDup (q : Req) (s : State) : Host.Outcome State Fault Refusal := s.writeRow q E.FAULT_INJECT (firstByte 7 q.payload)
/-- FAULT_INJECT of checker 0x08 (R544). -/
def execFaultInjectSramCe (q : Req) (s : State) : Host.Outcome State Fault Refusal := s.writeRow q E.FAULT_INJECT (firstByte 8 q.payload)
/-- FAULT_INJECT of checker 0x09 (R544). -/
def execFaultInjectSramUe (q : Req) (s : State) : Host.Outcome State Fault Refusal := s.writeRow q E.FAULT_INJECT (firstByte 9 q.payload)
/-- FAULT_INJECT of checker 0x0A (R544). -/
def execFaultInjectHbmCe (q : Req) (s : State) : Host.Outcome State Fault Refusal := s.writeRow q E.FAULT_INJECT (firstByte 10 q.payload)
/-- FAULT_INJECT of checker 0x0B (R544). -/
def execFaultInjectHbmUe (q : Req) (s : State) : Host.Outcome State Fault Refusal := s.writeRow q E.FAULT_INJECT (firstByte 11 q.payload)
/-- FAULT_INJECT of checker 0x0C (R544). -/
def execFaultInjectPageCheck (q : Req) (s : State) : Host.Outcome State Fault Refusal := s.writeRow q E.FAULT_INJECT (firstByte 12 q.payload)
/-- FAULT_INJECT of checker 0x0D (R544). -/
def execFaultInjectLedgerCrc (q : Req) (s : State) : Host.Outcome State Fault Refusal := s.writeRow q E.FAULT_INJECT (firstByte 13 q.payload)
/-- FAULT_INJECT of checker 0x0E (R544). -/
def execFaultInjectResultCheckOut (q : Req) (s : State) : Host.Outcome State Fault Refusal := s.writeRow q E.FAULT_INJECT (firstByte 14 q.payload)
/-- A write of COUNTER_CLEAR (R555). -/
def execCounterClear (q : Req) (s : State) : Host.Outcome State Fault Refusal := s.writeRow q E.COUNTER_CLEAR q.payload
/-- COUNTER_CLEAR of 0 (R555). -/
def execCounterClearAll (q : Req) (s : State) : Host.Outcome State Fault Refusal := s.writeRow q E.COUNTER_CLEAR [0, 0, 0, 0]
/-- A write of SNAP_CMD (R558). -/
def execSnapCmd (q : Req) (s : State) : Host.Outcome State Fault Refusal := s.writeRow q E.SNAP_CMD q.payload
/-- SNAP_CMD with TARGET_TICK 0 (R558). -/
def execSnapCancel (q : Req) (s : State) : Host.Outcome State Fault Refusal := s.writeRow q E.SNAP_CMD (splice q.payload 8 (List.replicate 8 0))
/-- A write of one of the four sampling entries, by its sub-index (R571). -/
def execSampleConfigWrite (q : Req) (s : State) : Host.Outcome State Fault Refusal := s.writeRow q (E.SAMPLE_SHIFT + (q.sub.toNat + 3) % 4) q.payload
/-- PROFILE_CMD SAVE (R581). -/
def execSave (q : Req) (s : State) : Host.Outcome State Fault Refusal := s.writeRow q E.PROFILE_CMD [1]
/-- A write of KEY_BURN (R586). -/
def execKeyBurn (q : Req) (s : State) : Host.Outcome State Fault Refusal := s.writeRow q E.KEY_BURN q.payload
/-- A write of OWNER_PUBKEY (R587). -/
def execOwnerPubkeyWrite (q : Req) (s : State) : Host.Outcome State Fault Refusal := s.writeRow q E.OWNER_PUBKEY q.payload
/-- A write of FW_DATA (R592). -/
def execFwData (q : Req) (s : State) : Host.Outcome State Fault Refusal := s.writeRow q E.FW_DATA q.payload
/-- FW_CMD of 0x01 (R591). -/
def execVerify (q : Req) (s : State) : Host.Outcome State Fault Refusal := s.writeRow q E.FW_CMD [1]
/-- FW_CMD of 0x02 (R592). -/
def execFwActivate (q : Req) (s : State) : Host.Outcome State Fault Refusal := s.writeRow q E.FW_CMD [2]
/-- FW_CMD of 0x03 (R593). -/
def execFwCommit (q : Req) (s : State) : Host.Outcome State Fault Refusal := s.writeRow q E.FW_CMD [3]
/-- FW_CMD of 0x04 (R592). -/
def execErase (q : Req) (s : State) : Host.Outcome State Fault Refusal := s.writeRow q E.FW_CMD [4]
/-- A write of ATTEST_NONCE (R596). -/
def execAttestNonce (q : Req) (s : State) : Host.Outcome State Fault Refusal := s.writeRow q E.ATTEST_NONCE q.payload
/-- SLEEP_CMD of 0x00 (R615, R616). -/
def execSleepActive (q : Req) (s : State) : Host.Outcome State Fault Refusal := s.writeRow q E.SLEEP_CMD [0]
/-- SLEEP_CMD of 0x01 (R615, R616). -/
def execSleepIdle (q : Req) (s : State) : Host.Outcome State Fault Refusal := s.writeRow q E.SLEEP_CMD [1]
/-- SLEEP_CMD of 0x02 (R615, R616). -/
def execSleepDoze (q : Req) (s : State) : Host.Outcome State Fault Refusal := s.writeRow q E.SLEEP_CMD [2]
/-- SLEEP_CMD of 0x03 (R615, R616). -/
def execSleepKeepalive (q : Req) (s : State) : Host.Outcome State Fault Refusal := s.writeRow q E.SLEEP_CMD [3]
/-- RESET_CMD of 0x01 (R618). -/
def execResetCmdWarm (q : Req) (s : State) : Host.Outcome State Fault Refusal := s.writeRow q E.RESET_CMD [1]
/-- RESET_CMD of 0x02 (R618). -/
def execResetCmdSwitch (q : Req) (s : State) : Host.Outcome State Fault Refusal := s.writeRow q E.RESET_CMD [2]
/-- RESET_CMD of 0x03 (R618). -/
def execResetCmdOff (q : Req) (s : State) : Host.Outcome State Fault Refusal := s.writeRow q E.RESET_CMD [3]
/-- A write of PLAN_NEIGHBOUR of the logical port that the index names (R630). -/
def execPlanNeighbourWrite (q : Req) (s : State) : Host.Outcome State Fault Refusal := s.writeRow q (E.PLAN_NEIGHBOUR (q.index.toNat % 256)) q.payload
/-- RELEASE of 0x01 on the port that the index names (R638). -/
def execReleasePort (q : Req) (s : State) : Host.Outcome State Fault Refusal := s.writeRow q (E.RELEASE (q.index.toNat % 256)) [1]
/-- REMAP_CLEAR of 0x01 (R640). -/
def execRemapClear (q : Req) (s : State) : Host.Outcome State Fault Refusal := s.writeRow q E.REMAP_CLEAR [1]

end Sys2Proof.Machine
end

