-- ==== Sys2Proof/Machine/Boot.lean ====
section
/-! DEFINITION. Resets, boot, the end of a wake, and the return of the input and of the temperature (R598, R601, R613 to
R622). -/

namespace Sys2Proof.Machine

/-! ## Resets (R618, R619, R621) -/

/-- A module site through a reset: what is plugged in stays. -/
def ModuleSt.kept (x : ModuleSt) : ModuleSt := { present := x.present, advert := x.advert }

/-- The boot of a cold or warm reset begins (R578, R620). (DESIGN CHOICE, log entry 14). -/
def Dev.startBoot (d : Dev) (k : ResetKind) (resetTick : Nat) : Dev :=
  let d1 := d.burnSpent
  { d1 with power := { d1.power with bootStage := 1, bootAt := d1.tick, bootWait := 18000 * d1.spentWords.length,
                                     lastReset := k, bootKind := k, resetTick := resetTick } }

/-- What every cold or warm reset keeps: manufacture, OTP, the firmware store, the modules plugged in, the board's straps,
the test port (EXTEST ends with the reset, R589), and the model's own record of outputs and draws. -/
def Dev.afterReset (d : Dev) : Dev :=
  { mfg := d.mfg, draws := d.draws, out := d.endExtest.out, otp := d.otp, testPort := d.endExtest.testPort,
    modules := d.modules.map (fun (e : Nat × ModuleSt) => (e.1, e.2.kept)),
    fw := { d.fw with trialSince := none, verified := false, romOnly := false },
    power := { profileSel := d.power.profileSel, hot := d.power.hot, warm := d.power.warm, switchHalved := d.power.switchHalved } }

/-- A burn that a cold reset cuts (R621): the word under the burner keeps some of its bits. -/
def Dev.cutBurn (d : Dev) : Dev :=
  match d.burn with
  | none => d
  | some b => if b.start ≤ d.tick then d.burnPart b else { d with burn := none, burnState := 3 }

/-- BURN_STATE after a cold reset: FAILED where it interrupted a burn (R621); a SPENT burn leaves the outcome shown. -/
def Dev.cutState (d : Dev) : Nat :=
  match d.burn with
  | none => if d.power.off then d.burnState else 0
  | some b => if b.kind = BurnKind.spent then d.burnState else 3

/-- The profile that a cold reset takes from the pins (R582). -/
def Dev.pinProfile (d : Dev) : Dev := (d.setReg E.PROFILE_PINS d.power.profileSel).setReg E.ACTIVE_PROFILE d.power.profileSel

/-- A cold reset (R619). A fault's hold on recovery that depends on the input or on temperature stays with its cause
(R601). (DESIGN CHOICE, log entry 16; DEDUCED, log entry 128). -/
def Dev.coldReset (d : Dev) : Dev :=
  let w := d.power
  let d1 := { (d.cutBurn.driveAlert false).afterReset with burnState := d.cutState }
  let p : Power := { d1.power with overtempHold := w.overtempHold, inputOut := w.inputOut }
  ({ d1 with power := p }).pinProfile.startBoot .cold d.tick

/-- Entries that a warm reset keeps (R619). -/
def warmKept (k : Nat) : Bool := [E.PROFILE_PINS, E.PROFILE_OVERRIDE, E.LEDGER_NEXT_SEQ, E.LEDGER_READ].contains k

/-- A fault of state that a warm reset keeps: package links, HBM4 with its page checks and ledger, the housekeeping
processor, the sentry and power (R538, R619). (DEDUCED, log entry 128). -/
def warmFault (kind : Nat) : Bool :=
  [0x01, 0x0C, 0x0D, 0x0E].contains (kind / 256) || [0x0902, 0x0904, 0x0905, 0x0906].contains kind

/-- The sentry through a warm reset: records and log stay, the fence ends, and reports it has not sampled are discarded
where the reset clears the state they are about (R538, R619). (DEDUCED, log entry 128). -/
def Sentry.kept (s : Sentry) : Sentry :=
  { fatal := s.fatal, unc := s.unc, corr := s.corr, log := s.log, reports := s.reports.filter (fun r => warmFault r.msg.kind.toNat) }

/-- What the always-on store keeps of snapshots (R561, R619). -/
def Telemetry.kept (t : Telemetry) : Telemetry :=
  { lastId := t.lastId, snapState := if t.snapState = 2 then 2 else 0, epTaken := t.epTaken, epLate := t.epLate }

/-- The tick counter and its lock through a warm reset, with the input's readings (R602, R606, R620). -/
def Power.kept (w : Power) : Power :=
  { profileSel := w.profileSel, hot := w.hot, warm := w.warm, switchHalved := w.switchHalved, tickLocked := w.tickLocked, lastMarker := w.lastMarker, holdover := w.holdover,
    rackclkSince := w.rackclkSince, inputMv := w.inputMv, inputMa := w.inputMa, windowAt := w.windowAt, wakePinAt := w.wakePinAt, wakeUntil := w.wakeUntil,
    inputOut := w.inputOut }

/-- The profile that a warm reset takes (R582). -/
def Dev.warmProfile (d : Dev) : Nat := if d.reg E.PROFILE_OVERRIDE = 0xFF then d.reg E.PROFILE_PINS else d.reg E.PROFILE_OVERRIDE

/-- A warm reset (R619): the always-on store, the tick counter and HBM4 with its ECC, page checks and residuals stay. A
burn in progress is abandoned (R621). (DEDUCED, log entry 128). -/
def Dev.warmReset (d : Dev) : Dev :=
  let d1 := { (d.driveAlert false).afterReset with burnState := if d.burn.isSome then d.cutState else d.burnState }
  let hbm := fun (a : Nat) => decide (tierSpace a = 0)
  ({ d1 with tick := d.tick, power := d.power.kept, sentry := d.sentry.kept, tele := d.tele.kept,
             regs := tset (d.regs.filter (fun e => warmKept e.1)) E.ACTIVE_PROFILE d.warmProfile,
             mem := d.mem.filter (fun e => hbm e.1), ueWords := d.ueWords.filter hbm, pageChecks := d.pageChecks }).startBoot .warm d.tick

/-- Whether a reset of the switch domain clears an entry: its counters, and what the switch domain holds that no profile
saves (R619). -/
def switchClears (k : Nat) : Bool :=
  let i := k / 256
  let s := k % 256
  match findRow i s with
  | none => false
  | some r => (isCounter i s && ((0x2000 ≤ i && i ≤ 0x4FFF) || i = 0x5300)) || (domainOf i s = .switch && r.acc != .rwp && !isCounter i s)

/-- The sentry through a reset of the switch domain: what that domain's units reported and the sentry has not sampled is
discarded with the state it was about (R538). (DEDUCED, log entry 128). -/
def Sentry.switchKept (s : Sentry) : Sentry :=
  { s with reports := s.reports.filter (fun r => !(0x02 ≤ r.msg.kind.toNat / 256 && r.msg.kind.toNat / 256 ≤ 0x06)) }

/-- Steps whose open contexts of a chain with state a reset discards: none of them ends with OK (R448). -/
def Dev.lostSteps (d : Dev) : List Nat :=
  ((d.ctxs.filter (fun e => e.2.state = .collect && !e.2.rc.heel && e.2.rc.fused != 0 && d.stateful (d.chainDesc e.2.rc.fused))).map
    (fun e => e.2.rc.step)).eraseDups

/-- A reset of the switch domain (R195, R214, R413, R619, R625): every fabric port goes to OFF and then to DETECT. Chunks
that waited at a chain leave it with their contexts, and waiting bridge records are sent again.
(DEDUCED, log entry 58). -/
def Dev.switchReset (d : Dev) : Dev :=
  let d1 := (d.chains.map (·.1)).foldl (fun a i => a.dropStashed i (fun _ => true)) d
  let lost := d.lostSteps.filter (fun x => !d.stepFails.contains x)
  let d2 := d1.portsDark
  let m := d2.mgmt
  let t := d2.tele
  let w := d2.power
  let d3 : Dev := { d2 with
    sentry := d2.sentry.switchKept,
    mgmt := { m with sessions := [], nonces := [] }, debugOpen := false,
    regs := d2.regs.filter (fun e => !switchClears e.1 && e.1 != E.DEBUG_CONSENT), blobs := d2.blobs.filter (fun e => !switchClears e.1),
    tele := { t with satFlags := t.satFlags.filter (fun k => !switchClears k), satList := t.satList.filter (fun r => !switchClears r.key),
                     map0 := {}, map1 := {} },
    kennel0 := {}, kennel1 := {}, kinject := none, routing := {}, discovery := [], dedOld := [], dedWait := [], packs := [], frontLeft := [], ctxs := [],
    heldCells := [], heels := [], ueWords := d2.ueWords.filter (fun a => tierSpace a != 3), stepFails := d2.stepFails ++ lost, whistles := [], actions0 := [], actions1 := [],
    bridge := d2.bridge.map (fun r => { r with mseq := none }), staInForce := d2.staWritten,
    power := { w with lastReset := .switch, resetTick := d.tick, switchOn := w.sleepPower = .keepalive, wakePorts := [] } }
  d3.openPorts

/-- The OFF state (R613): everything but the always-on domain loses power, and only a cold reset follows. -/
def Dev.toOffState (d : Dev) : Dev :=
  let d1 := (d.cutBurn.driveAlert false).afterReset
  let w := d.power
  let p : Power := { d1.power with off := true, overtempHold := w.overtempHold, inputOut := w.inputOut, bootStage := w.bootStage,
                                   lastReset := w.lastReset, resetTick := w.resetTick }
  { d1 with tick := d.tick, burnState := d.cutState, power := p }

/-- A warm reset waits for the word under the burner (R621). (DEDUCED, log entry 129). -/
def Dev.warmWaits (d : Dev) : Option Nat :=
  match d.burn with
  | none => none
  | some b => if b.start ≤ d.tick && d.tick < b.start + 18000 then some (b.start + 18000) else none

/-- A warm reset takes effect, once the word under the burner is programmed (R621). -/
def Dev.takeWarm (d : Dev) : Dev :=
  match d.warmWaits with
  | some t => { d with power := { d.power with heldWarm := false, resetPending := d.power.resetPending ++ [(some .warm, t)] } }
  | none =>
    match d.burn with
    | some b => if b.start ≤ d.tick then (d.burnStep b).warmReset else d.warmReset
    | none => d.warmReset

/-- The first of the requests that are due: the earliest, and of one tick the first asked for. -/
def Power.dueReset (w : Power) (tick : Nat) : Option (Option ResetKind × Nat) :=
  (sortBy (fun (a b : Option ResetKind × Nat) => a.2 ≤ b.2) (w.resetPending.filter (fun r => r.2 ≤ tick))).head?

/-- A reset that no shadow set survives (R560, R619). -/
def State.lose (s : State) (f : Dev → Dev) : State := { s with toDev := f s.toDev, shadows := [], boundary := none }

/-- A warm reset on a device: complete shadow sets stay (R619). -/
def State.warm (s : State) (d : Dev) : State :=
  if d.warmWaits.isSome then { s with toDev := d.takeWarm }
  else { s with toDev := d.takeWarm, shadows := s.shadows.filter (·.taken), boundary := none }

/-- A warm reset takes effect, or is held while the TX1 is too hot (R601). (DEDUCED, log entry 129). -/
def State.warmOrHeld (s : State) (d : Dev) : State :=
  if d.power.overtempHold then { s with toDev := { d with power := { d.power with heldWarm := true } } } else s.warm d

/-- RESET_TAKES_EFFECT (R618, R619): none does while RESET_N holds the TX1 in reset (R646). -/
def execResetTakesEffect (s : State) : Host.Outcome State Fault Refusal :=
  let w := s.power
  match w.dueReset s.tick with
  | none => done s
  | some r =>
    if !s.toDev.alive || w.resetLow then done s
    else
      let d := { s.toDev with power := { w with resetPending := w.resetPending.erase r } }
      match r.1 with
      | none => done (s.lose (fun _ => d.toOffState))
      | some .cold => done (s.lose (fun _ => d.coldReset))
      | some .warm => done (s.warmOrHeld d)
      | some .switch => done { s with toDev := d.switchReset }

/-! ## RESET_N (R618, R646) -/

/-- RESET_N_LOW: the fourth tick of a low level holds the TX1 in reset; HBM4 enters self-refresh. -/
def execResetNLow (s : State) : Host.Outcome State Fault Refusal :=
  run s fun d =>
    if !d.alive then d
    else
      let d1 := (d.portsDark.hostDark).driveAlert false
      { d1 with power := { d1.power with resetLow := true, selfRefresh := true } }

/-- RESET_N_RISE: the low level's length gives the reset (R598, R601, R618, R646). OVERCURRENT and RAIL_FAULT have put the TX1
into OFF, where any low level gives a cold one (R613). A warm reset that is held pending waits with RESET_N high.
(DEDUCED, log entries 126 and 129). -/
def execResetNRise (lowTicks : BitVec 64) (s : State) : Host.Outcome State Fault Refusal :=
  let w := s.power
  let n := lowTicks.toNat
  if !w.alwaysOn then done s
  else if w.off then (if n = 0 then done s else done (s.lose Dev.coldReset))
  else if n = 0 then done s
  else if w.memoryOff then done (s.lose Dev.coldReset)
  else if n < 4 then done s
  else if 25000 ≤ n then done (s.lose Dev.coldReset)
  else if w.inputOut || w.overtempHold then done { s with toDev := { s.toDev.endExtest with power := { w with heldWarm := true, resetLow := false } } }
  else done (s.warm s.toDev)

/-! ## The input and the temperature (R598, R601) -/

/-- INPUT_RISE: through 35.0 V, the always-on domain starts and a cold reset begins. No counter ran before it. -/
def execInputRise (mv : BitVec 32) (s : State) : Host.Outcome State Fault Refusal :=
  if s.power.alwaysOn || mv.toNat < 35000 then done s
  else done (s.lose (fun d =>
    let d1 := ({ d with tick := 0, testPort := .idcode }).coldReset
    { d1 with power := { d1.power with inputOut := !inRange mv.toNat } }))

/-- ALWAYS_ON_STOP: below 33.0 V. -/
def execAlwaysOnStop (mv : BitVec 32) (s : State) : Host.Outcome State Fault Refusal :=
  if !s.power.alwaysOn || 33000 ≤ mv.toNat then done s
  else done (s.lose (fun d =>
    let d1 := d.toOffState
    { d1 with power := { d1.power with alwaysOn := false, inputOut := false, lastReset := .cold, resetTick := 0 }, tick := 0 }))

/-- A held warm reset takes effect. -/
def State.heldReset (s : State) (d : Dev) : State :=
  if d.power.heldWarm && !d.power.inputOut && !d.power.overtempHold && !d.power.resetLow then s.warm d else { s with toDev := d }

/-- INPUT_BACK_IN_RANGE: 36.0 V to 44.0 V (R601). -/
def execInputBackInRange (mv : BitVec 32) (s : State) : Host.Outcome State Fault Refusal :=
  if !s.toDev.alive || !inRange mv.toNat then done s
  else done (s.heldReset { s.toDev with power := { s.power with inputOut := false } })

/-- OVERTEMP_RECOVERED (R601). -/
def execOvertempRecovered (s : State) : Host.Outcome State Fault Refusal :=
  if !s.toDev.alive then done s
  else done (s.heldReset { s.toDev with power := { s.power with overtempHold := false } })

/-! ## Boot (R594, R600, R620) -/

/-- FIRMWARE_START: 252,500 ticks after the reset, and 18,000 more for each SPENT burn. With no valid slot the boot ROM
runs on. -/
def execFirmwareStart (s : State) : Host.Outcome State Fault Refusal :=
  run s fun d =>
    let w := d.power
    if !d.alive || w.resetLow || w.bootStage != 1 || d.fw.romOnly || d.burn.isSome || d.tick < w.bootAt + 252500 + w.bootWait then d
    else
      let d1 := d.chooseSlot
      if d1.fw.romOnly then d1 else { d1 with power := { d1.power with bootStage := 2 } }

/-- Every RWP entry returns to its Default before a profile is applied (R583). (DEDUCED, log entry 149). -/
def Dev.rwpDefaults (d : Dev) : Dev :=
  { d with regs := d.regs.filter (fun e => !isRwp e.1), blobs := d.blobs.filter (fun e => !isRwp e.1),
           power := { d.power with capPending := none, capInForce := 0 } }

/-- Ticks from a cold or warm reset to the end of its boot. (DEDUCED, log entry 155). -/
def bootTicks (k : ResetKind) : Nat := if k = .warm then 261000 else 1510000

/-- BOOT_COMPLETE: the profile is applied, and enabled ports leave OFF. After OVERTEMP it waits until the TX1 has cooled
(R601). (DEDUCED, log entry 155). -/
def execBootComplete (s : State) : Host.Outcome State Fault Refusal :=
  run s fun d =>
    let w := d.power
    if !d.alive || w.resetLow || w.overtempHold || w.bootStage != 2 || d.tick < w.bootAt + bootTicks w.bootKind + w.bootWait then d
    else
      let d1 := d.rwpDefaults.applyProfile
      let d2 := { d1 with staInForce := d1.staWritten, power := { d1.power with bootStage := 3, lastWork := d.tick } }
      d2.openPorts

/-! ## The end of a wake (R33, R52, R480, R617) -/

/-- WAKE_COMPLETE: held requests, host frames and solicitations are served. Held cells and withheld credits follow in the
next tick. (DESIGN CHOICE, log entry 154). -/
def execWakeComplete (s : State) : Host.Outcome State Fault Refusal :=
  match s.power.sleep, s.power.wakeDue with
  | .waking, some t =>
    if s.tick < t || !s.toDev.alive then done s
    else
      let w := s.power
      let d1 := { s.toDev with power := { w with sleep := .active, wakeFrom := .active, wakeDue := none, selfRefresh := s.toDev.fenced, lastWork := s.tick } }
      let d2 := (d1.count E.WAKES).powerEvent 0x0A 0 0
      let hs := d2.mgmt.heldReqs
      let d3 := ({ d2 with mgmt := { d2.mgmt with heldReqs := [] } }).releaseHeldPkts.releaseSols
      done { s with toDev := d3.requests s.shadows hs }
  | _, _ => done s

end Sys2Proof.Machine
end

