-- ==== Sys2Proof/Machine/Clock.lean ====
section
/-! DEFINITION. What one tick of the reference clock does of itself: the counter, the release after a wake, and what is
measured tick by tick (R9, R33, R566, R568, R613, R617). -/

namespace Sys2Proof.Machine

/-- Cells and credits held through a wake are released in the tick after it (R33, R617). -/
def Dev.releaseHeld (d : Dev) : Dev :=
  if d.power.sleep != .active || (d.heldCells = [] && d.power.wakePorts = []) then d
  else
    let hs := d.heldCells
    let d1 := ({ d with heldCells := [], power := { d.power with wakePorts := [] } }).giveBackAll
    hs.foldl (fun a h => a.collCell h.src h.cell) d1

/-- The work and the DOZE conditions of this tick are noted (R613). -/
def Dev.noteWork (d : Dev) : Dev :=
  let w := d.power
  { d with power := { w with lastWork := if d.working then d.tick else w.lastWork,
                             dozeSince := if d.dozeOk then some (w.dozeSince.getD d.tick) else none } }

/-- The fence takes effect: every transmitter falls idle, and HBM4 goes into self-refresh (R72, R523). `was` is the device
of the tick before. -/
def Dev.raiseFence (d was : Dev) : Dev :=
  if d.fenced && !was.fenced then
    allPorts.foldl (fun a p => a.notePort was p) { d with power := { d.power with selfRefresh := !d.power.memoryOff } }
  else d

/-- The tick counter counts (R9). -/
def Dev.countTick (d : Dev) : Dev := { d with tick := (d.tick + 1) % 2 ^ 64 }

/-- What happens of itself in a tick that has begun; `was` is the device of the tick before. Maps are sampled at the boundary. -/
def Dev.beginTick (d was : Dev) : Dev := (((d.raiseFence was).tickMap 0).tickMap 1).tickSnap.releaseHeld.tickPorts.noteWork

/-- One tick passes on the device: what the tick before still has to apply, then the next one. -/
def Dev.clock (d : Dev) : Dev := if d.power.off then d else d.sampleEvents.countTick.beginTick d.sampleEvents

/-- The boundary that an armed snapshot copies (R559): the first one at which the tick has reached TARGET_TICK. -/
def State.cut (s : State) : Option Dev :=
  match s.tele.arm with
  | none => none
  | some a =>
    let e := s.toDev.sampleEvents.countTick
    if s.boundary.all (fun (b : Dev) => b.tick < a.target) && !s.tele.copied && a.target ≤ e.tick then some e else s.boundary

/-- One tick passes. Nothing runs while the TX1 is off. (DESIGN CHOICE, log entry 1). -/
def State.clock (s : State) : State := if s.power.off then s else { s with toDev := s.toDev.clock, boundary := s.cut }

end Sys2Proof.Machine
end

