-- ==== Sys2Proof/Machine/Dispatch.lean ====
section
/-! DEFINITION. The dispatch: one arm per command, each one direct call of that command's meaning. -/

namespace Sys2Proof.Machine

/-- A command's effect on everything but the queue. -/
def exec (i : Instr) (s : State) : Host.Outcome State Fault Refusal :=
  match i with
  | .read q => Sys2Proof.Machine.execRead q s
  | .write q => Sys2Proof.Machine.execWrite q s
  | .readSeg q => Sys2Proof.Machine.execReadSeg q s
  | .writeSegStart q => Sys2Proof.Machine.execWriteSegStart q s
  | .writeSeg q => Sys2Proof.Machine.execWriteSeg q s
  | .writeSegCommit q => Sys2Proof.Machine.execWriteSegCommit q s
  | .challenge q => Sys2Proof.Machine.execChallenge q s
  | .answer q => Sys2Proof.Machine.execAnswer q s
  | .close q => Sys2Proof.Machine.execClose q s
  | .notifyAck q => Sys2Proof.Machine.execNotifyAck q s
  | .badFrames path bytes => Sys2Proof.Machine.execBadFrames path bytes s
  | .udpChecksumDrop path => Sys2Proof.Machine.execUdpChecksumDrop path s
  | .notifyRepeat txn dest => Sys2Proof.Machine.execNotifyRepeat txn dest s
  | .handleExpiry h => Sys2Proof.Machine.execHandleExpiry h s
  | .nonceExpiry path addr => Sys2Proof.Machine.execNonceExpiry path addr s
  | .sessionIdleExpiry token => Sys2Proof.Machine.execSessionIdleExpiry token s
  | .endSessions q => Sys2Proof.Machine.execEndSessions q s
  | .neighbourSolicitation path src target => Sys2Proof.Machine.execNeighbourSolicitation path src target s
  | .plcaBeacon => Sys2Proof.Machine.execPlcaBeacon s
  | .plcaCollision => Sys2Proof.Machine.execPlcaCollision s
  | .los p l on => Sys2Proof.Machine.execLos p l on s
  | .lol p l on => Sys2Proof.Machine.execLol p l on s
  | .marginWindowEnd p l margin corr uncorr uncorrInj => Sys2Proof.Machine.execMarginWindowEnd p l margin corr uncorr uncorrInj s
  | .peakPeriod p l => Sys2Proof.Machine.execPeakPeriod p l s
  | .peakWatchEnd p l => Sys2Proof.Machine.execPeakWatchEnd p l s
  | .coeffSetStore p l => Sys2Proof.Machine.execCoeffSetStore p l s
  | .laneRateReqSend p l => Sys2Proof.Machine.execLaneRateReqSend p l s
  | .laneRateReq p c => Sys2Proof.Machine.execLaneRateReq p c s
  | .laneRateAns p c => Sys2Proof.Machine.execLaneRateAns p c s
  | .handoverRetry p l => Sys2Proof.Machine.execHandoverRetry p l s
  | .handoverPark p => Sys2Proof.Machine.execHandoverPark p s
  | .laneReadySend p => Sys2Proof.Machine.execLaneReadySend p s
  | .laneReady p c => Sys2Proof.Machine.execLaneReady p c s
  | .handoverJoin p => Sys2Proof.Machine.execHandoverJoin p s
  | .restoreTrialEnd p l => Sys2Proof.Machine.execRestoreTrialEnd p l s
  | .maxRateWrite q p => Sys2Proof.Machine.execMaxRateWrite q p s
  | .peakSet q p l => Sys2Proof.Machine.execPeakSet q p l s
  | .elecClassWrite q p => Sys2Proof.Machine.execElecClassWrite q p s
  | .testModeWrite q p l => Sys2Proof.Machine.execTestModeWrite q p l s
  | .loopWrite q p l => Sys2Proof.Machine.execLoopWrite q p l s
  | .injectBit q p l => Sys2Proof.Machine.execInjectBit q p l s
  | .injectRxFecCorr q p l => Sys2Proof.Machine.execInjectRxFecCorr q p l s
  | .injectRxFecUncorr q p l => Sys2Proof.Machine.execInjectRxFecUncorr q p l s
  | .injectTxFecCorr q p l => Sys2Proof.Machine.execInjectTxFecCorr q p l s
  | .injectTxFecUncorr q p l => Sys2Proof.Machine.execInjectTxFecUncorr q p l s
  | .injectTxSquelch q p l => Sys2Proof.Machine.execInjectTxSquelch q p l s
  | .txSquelchEnd p l => Sys2Proof.Machine.execTxSquelchEnd p l s
  | .moduleInterrupt site => Sys2Proof.Machine.execModuleInterrupt site s
  | .modulePresence site present advert => Sys2Proof.Machine.execModulePresence site present advert s
  | .moduleDatapathReady p => Sys2Proof.Machine.execModuleDatapathReady p s
  | .cellReceive p l bytes => Sys2Proof.Machine.execCellReceive p l bytes s
  | .linkCell p c => Sys2Proof.Machine.execLinkCell p c s
  | .linkSend p => Sys2Proof.Machine.execLinkSend p s
  | .replayTimeout p => Sys2Proof.Machine.execReplayTimeout p s
  | .parkCell p l c => Sys2Proof.Machine.execParkCell p l c s
  | .portLossTimeout p => Sys2Proof.Machine.execPortLossTimeout p s
  | .trainCell p l c inverted => Sys2Proof.Machine.execTrainCell p l c inverted s
  | .identSend p => Sys2Proof.Machine.execIdentSend p s
  | .identCell p c => Sys2Proof.Machine.execIdentCell p c s
  | .identTimeout p => Sys2Proof.Machine.execIdentTimeout p s
  | .lanesStart p => Sys2Proof.Machine.execLanesStart p s
  | .lanesTimeout p => Sys2Proof.Machine.execLanesTimeout p s
  | .lanesStall p => Sys2Proof.Machine.execLanesStall p s
  | .portAbsent p => Sys2Proof.Machine.execPortAbsent p s
  | .portEnableWrite q p => Sys2Proof.Machine.execPortEnableWrite q p s
  | .retrain q p => Sys2Proof.Machine.execRetrain q p s
  | .keepCell p c => Sys2Proof.Machine.execKeepCell p c s
  | .keepSend p => Sys2Proof.Machine.execKeepSend p s
  | .portSleepSend p ts => Sys2Proof.Machine.execPortSleepSend p ts s
  | .portSleep p c => Sys2Proof.Machine.execPortSleep p c s
  | .portSleepTs p => Sys2Proof.Machine.execPortSleepTs p s
  | .wakeRequest p c => Sys2Proof.Machine.execWakeRequest p c s
  | .wakeRequestSend p => Sys2Proof.Machine.execWakeRequestSend p s
  | .wakeAck p c => Sys2Proof.Machine.execWakeAck p c s
  | .wakeReadySend p => Sys2Proof.Machine.execWakeReadySend p s
  | .wakeReady p c => Sys2Proof.Machine.execWakeReady p c s
  | .wakeLanesStart p => Sys2Proof.Machine.execWakeLanesStart p s
  | .crossbarCycle d => Sys2Proof.Machine.execCrossbarCycle d s
  | .cellExpired d input ptr => Sys2Proof.Machine.execCellExpired d input ptr s
  | .allocate d pool owner => Sys2Proof.Machine.execAllocate d pool owner s
  | .release d ptr owner => Sys2Proof.Machine.execRelease d ptr owner s
  | .handover d ptr owner newOwner pool => Sys2Proof.Machine.execHandover d ptr owner newOwner pool s
  | .freelistRebuildDone d => Sys2Proof.Machine.execFreelistRebuildDone d s
  | .auditVisit d => Sys2Proof.Machine.execAuditVisit d s
  | .strayReclaim q => Sys2Proof.Machine.execStrayReclaim q s
  | .kennelInjectPtrRange q => Sys2Proof.Machine.execKennelInjectPtrRange q s
  | .kennelInjectPtrAlign q => Sys2Proof.Machine.execKennelInjectPtrAlign q s
  | .kennelInjectOwnerMismatch q => Sys2Proof.Machine.execKennelInjectOwnerMismatch q s
  | .kennelInjectFreelistLink q => Sys2Proof.Machine.execKennelInjectFreelistLink q s
  | .kennelInjectLeak q => Sys2Proof.Machine.execKennelInjectLeak q s
  | .flipTickWrite q => Sys2Proof.Machine.execFlipTickWrite q s
  | .epochFlip => Sys2Proof.Machine.execEpochFlip s
  | .bankRetire q => Sys2Proof.Machine.execBankRetire q s
  | .drainStuck bank => Sys2Proof.Machine.execDrainStuck bank s
  | .e2eTimeout dest seq => Sys2Proof.Machine.execE2eTimeout dest seq s
  | .leashUp dest => Sys2Proof.Machine.execLeashUp dest s
  | .activate q pack => Sys2Proof.Machine.execActivate q pack s
  | .deactivate q pack => Sys2Proof.Machine.execDeactivate q pack s
  | .packAbort q pack => Sys2Proof.Machine.execPackAbort q pack s
  | .startCell src c => Sys2Proof.Machine.execStartCell src c s
  | .dataCell src c => Sys2Proof.Machine.execDataCell src c s
  | .promoCell src c => Sys2Proof.Machine.execPromoCell src c s
  | .checkCell src c => Sys2Proof.Machine.execCheckCell src c s
  | .heel src c => Sys2Proof.Machine.execHeel src c s
  | .heelRelease src c => Sys2Proof.Machine.execHeelRelease src c s
  | .heelReleaseTick ctx => Sys2Proof.Machine.execHeelReleaseTick ctx s
  | .ctxIdleTimeout ctx => Sys2Proof.Machine.execCtxIdleTimeout ctx s
  | .contextComplete ctx => Sys2Proof.Machine.execContextComplete ctx s
  | .collNak src c => Sys2Proof.Machine.execCollNak src c s
  | .busyRetry ctx => Sys2Proof.Machine.execBusyRetry ctx s
  | .releaseCheckDone ctx chunk => Sys2Proof.Machine.execReleaseCheckDone ctx chunk s
  | .chunkRestoreStart ctx chunk => Sys2Proof.Machine.execChunkRestoreStart ctx chunk s
  | .chunkRestoreEnd ctx chunk => Sys2Proof.Machine.execChunkRestoreEnd ctx chunk s
  | .spanResend ctx => Sys2Proof.Machine.execSpanResend ctx s
  | .collDone src c => Sys2Proof.Machine.execCollDone src c s
  | .timeXferSend => Sys2Proof.Machine.execTimeXferSend s
  | .timeXferRequest p c t2 t3 => Sys2Proof.Machine.execTimeXferRequest p c t2 t3 s
  | .timeXferAnswer p c t4 => Sys2Proof.Machine.execTimeXferAnswer p c t4 s
  | .whistleFire w => Sys2Proof.Machine.execWhistleFire w s
  | .dmaChain d => Sys2Proof.Machine.execDmaChain d s
  | .launch d => Sys2Proof.Machine.execLaunch d s
  | .injectStart d => Sys2Proof.Machine.execInjectStart d s
  | .sendCtl d => Sys2Proof.Machine.execSendCtl d s
  | .raiseInt d => Sys2Proof.Machine.execRaiseInt d s
  | .actionComplete w ok => Sys2Proof.Machine.execActionComplete w ok s
  | .productComplete id => Sys2Proof.Machine.execProductComplete id s
  | .arm q => Sys2Proof.Machine.execArm q s
  | .disarm q => Sys2Proof.Machine.execDisarm q s
  | .whistleCountWrite q => Sys2Proof.Machine.execWhistleCountWrite q s
  | .computeInjectAbftColumn q => Sys2Proof.Machine.execComputeInjectAbftColumn q s
  | .computeInjectAbftRow q => Sys2Proof.Machine.execComputeInjectAbftRow q s
  | .computeInjectConversion q => Sys2Proof.Machine.execComputeInjectConversion q s
  | .computeInjectDup q => Sys2Proof.Machine.execComputeInjectDup q s
  | .chainLoad q => Sys2Proof.Machine.execChainLoad q s
  | .chainUnload q => Sys2Proof.Machine.execChainUnload q s
  | .chainInit q => Sys2Proof.Machine.execChainInit q s
  | .chainChunk ctx chunk => Sys2Proof.Machine.execChainChunk ctx chunk s
  | .opDone chain chunk => Sys2Proof.Machine.execOpDone chain chunk s
  | .commitPrepare ctx => Sys2Proof.Machine.execCommitPrepare ctx s
  | .stepAbort q => Sys2Proof.Machine.execStepAbort q s
  | .stepCommit q => Sys2Proof.Machine.execStepCommit q s
  | .stepRollback q => Sys2Proof.Machine.execStepRollback q s
  | .progLoad q => Sys2Proof.Machine.execProgLoad q s
  | .progUnload q => Sys2Proof.Machine.execProgUnload q s
  | .hostAutoneg partner trained => Sys2Proof.Machine.execHostAutoneg partner trained s
  | .sendMessage m => Sys2Proof.Machine.execSendMessage m s
  | .rdmaWrite m => Sys2Proof.Machine.execRdmaWrite m s
  | .rdmaReadRequest m => Sys2Proof.Machine.execRdmaReadRequest m s
  | .rdmaReadResponse m => Sys2Proof.Machine.execRdmaReadResponse m s
  | .acknowledge m => Sys2Proof.Machine.execAcknowledge m s
  | .cnp qp => Sys2Proof.Machine.execCnp qp s
  | .qpRetryTimeout qp => Sys2Proof.Machine.execQpRetryTimeout qp s
  | .qpRateRise qp => Sys2Proof.Machine.execQpRateRise qp s
  | .qpReset q qp => Sys2Proof.Machine.execQpReset q qp s
  | .qpRts q qp => Sys2Proof.Machine.execQpRts q qp s
  | .hostDrops bytes => Sys2Proof.Machine.execHostDrops bytes s
  | .dmaStart q ch => Sys2Proof.Machine.execDmaStart q ch s
  | .dmaReset q ch => Sys2Proof.Machine.execDmaReset q ch s
  | .dmaDescComplete ch => Sys2Proof.Machine.execDmaDescComplete ch s
  | .dmaDescFail ch code => Sys2Proof.Machine.execDmaDescFail ch code s
  | .dmaResume ch => Sys2Proof.Machine.execDmaResume ch s
  | .consumedWrite q ch => Sys2Proof.Machine.execConsumedWrite q ch s
  | .scrubRead addr outcome => Sys2Proof.Machine.execScrubRead addr outcome s
  | .bark m => Sys2Proof.Machine.execBark m s
  | .escalation cls => Sys2Proof.Machine.execEscalation cls s
  | .faultAck q => Sys2Proof.Machine.execFaultAck q s
  | .intGroupDeliver g => Sys2Proof.Machine.execIntGroupDeliver g s
  | .hkpWatchdog => Sys2Proof.Machine.execHkpWatchdog s
  | .faultInjectCellCrc q => Sys2Proof.Machine.execFaultInjectCellCrc q s
  | .faultInjectPkgLinkCrc q => Sys2Proof.Machine.execFaultInjectPkgLinkCrc q s
  | .faultInjectResContrib q => Sys2Proof.Machine.execFaultInjectResContrib q s
  | .faultInjectResSum q => Sys2Proof.Machine.execFaultInjectResSum q s
  | .faultInjectResRounding q => Sys2Proof.Machine.execFaultInjectResRounding q s
  | .faultInjectResLanes q => Sys2Proof.Machine.execFaultInjectResLanes q s
  | .faultInjectResDup q => Sys2Proof.Machine.execFaultInjectResDup q s
  | .faultInjectSramCe q => Sys2Proof.Machine.execFaultInjectSramCe q s
  | .faultInjectSramUe q => Sys2Proof.Machine.execFaultInjectSramUe q s
  | .faultInjectHbmCe q => Sys2Proof.Machine.execFaultInjectHbmCe q s
  | .faultInjectHbmUe q => Sys2Proof.Machine.execFaultInjectHbmUe q s
  | .faultInjectPageCheck q => Sys2Proof.Machine.execFaultInjectPageCheck q s
  | .faultInjectLedgerCrc q => Sys2Proof.Machine.execFaultInjectLedgerCrc q s
  | .faultInjectResultCheckOut q => Sys2Proof.Machine.execFaultInjectResultCheckOut q s
  | .counterClear q => Sys2Proof.Machine.execCounterClear q s
  | .counterClearAll q => Sys2Proof.Machine.execCounterClearAll q s
  | .snapCmd q => Sys2Proof.Machine.execSnapCmd q s
  | .snapCancel q => Sys2Proof.Machine.execSnapCancel q s
  | .snapCopy => Sys2Proof.Machine.execSnapCopy s
  | .snapTaken => Sys2Proof.Machine.execSnapTaken s
  | .snapTakenCell p c => Sys2Proof.Machine.execSnapTakenCell p c s
  | .mapWindowEnd d => Sys2Proof.Machine.execMapWindowEnd d s
  | .sampleTransfer tile => Sys2Proof.Machine.execSampleTransfer tile s
  | .sampleConfigWrite q => Sys2Proof.Machine.execSampleConfigWrite q s
  | .save q => Sys2Proof.Machine.execSave q s
  | .otpWordBurned ok => Sys2Proof.Machine.execOtpWordBurned ok s
  | .keyBurn q => Sys2Proof.Machine.execKeyBurn q s
  | .ownerPubkeyWrite q => Sys2Proof.Machine.execOwnerPubkeyWrite q s
  | .fwData q => Sys2Proof.Machine.execFwData q s
  | .verify q => Sys2Proof.Machine.execVerify q s
  | .fwActivate q => Sys2Proof.Machine.execFwActivate q s
  | .fwCommit q => Sys2Proof.Machine.execFwCommit q s
  | .erase q => Sys2Proof.Machine.execErase q s
  | .trialExpired => Sys2Proof.Machine.execTrialExpired s
  | .attestNonce q => Sys2Proof.Machine.execAttestNonce q s
  | .testPortInstruction x => Sys2Proof.Machine.execTestPortInstruction x s
  | .inputRise mv => Sys2Proof.Machine.execInputRise mv s
  | .inputUv mv => Sys2Proof.Machine.execInputUv mv s
  | .alwaysOnStop mv => Sys2Proof.Machine.execAlwaysOnStop mv s
  | .inputOv mv => Sys2Proof.Machine.execInputOv mv s
  | .overcurrent ma => Sys2Proof.Machine.execOvercurrent ma s
  | .railFault rail mv => Sys2Proof.Machine.execRailFault rail mv s
  | .overtemp sensor mC => Sys2Proof.Machine.execOvertemp sensor mC s
  | .thermalThrottle sensor mC => Sys2Proof.Machine.execThermalThrottle sensor mC s
  | .governorWindow mv ma => Sys2Proof.Machine.execGovernorWindow mv ma s
  | .rsyncMarker valid value => Sys2Proof.Machine.execRsyncMarker valid value s
  | .rsyncMissing => Sys2Proof.Machine.execRsyncMissing s
  | .holdoverOn => Sys2Proof.Machine.execHoldoverOn s
  | .sleepActive q => Sys2Proof.Machine.execSleepActive q s
  | .sleepIdle q => Sys2Proof.Machine.execSleepIdle q s
  | .sleepDoze q => Sys2Proof.Machine.execSleepDoze q s
  | .sleepKeepalive q => Sys2Proof.Machine.execSleepKeepalive q s
  | .autoIdle => Sys2Proof.Machine.execAutoIdle s
  | .autoDoze => Sys2Proof.Machine.execAutoDoze s
  | .keepaliveDrained => Sys2Proof.Machine.execKeepaliveDrained s
  | .sleepAbandons => Sys2Proof.Machine.execSleepAbandons s
  | .keepalivePowerOff => Sys2Proof.Machine.execKeepalivePowerOff s
  | .wakeComplete => Sys2Proof.Machine.execWakeComplete s
  | .wakePin => Sys2Proof.Machine.execWakePin s
  | .resetNLow => Sys2Proof.Machine.execResetNLow s
  | .resetNRise lowTicks => Sys2Proof.Machine.execResetNRise lowTicks s
  | .resetCmdWarm q => Sys2Proof.Machine.execResetCmdWarm q s
  | .resetCmdSwitch q => Sys2Proof.Machine.execResetCmdSwitch q s
  | .resetCmdOff q => Sys2Proof.Machine.execResetCmdOff q s
  | .resetTakesEffect => Sys2Proof.Machine.execResetTakesEffect s
  | .firmwareStart => Sys2Proof.Machine.execFirmwareStart s
  | .bootComplete => Sys2Proof.Machine.execBootComplete s
  | .discoveryCompare p => Sys2Proof.Machine.execDiscoveryCompare p s
  | .planNeighbourWrite q => Sys2Proof.Machine.execPlanNeighbourWrite q s
  | .releasePort q => Sys2Proof.Machine.execReleasePort q s
  | .remapClear q => Sys2Proof.Machine.execRemapClear q s
  | .badOpcode q op => Sys2Proof.Machine.execBadOpcode q op s
  | .responseExpiry key => Sys2Proof.Machine.execResponseExpiry key s
  | .checkerLock p l locked nbits errors => Sys2Proof.Machine.execCheckerLock p l locked nbits errors s
  | .hostPortDown => Sys2Proof.Machine.execHostPortDown s
  | .inputBackInRange mv => Sys2Proof.Machine.execInputBackInRange mv s
  | .overtempRecovered => Sys2Proof.Machine.execOvertempRecovered s

end Sys2Proof.Machine
end

