-- ==== Sys2Proof/Safety.lean ====
section
/-! DEFINITION. What counts as a safe run, and the terms in which claims are stated: the states that a run may pass through,
the requests that the dictionary hears, and the writes that the rows of the command table stand for. -/

namespace Sys2Proof.Machine

/-! ## Safe states -/

/-- A state that keeps the model's standing promises: memory in its canonical form, and at most two snapshot sets (R560). -/
def State.safe (s : State) : Prop := Memory.wf s.mem = true ∧ s.shadows.length ≤ 2

/-! ## Results spelled out -/

/-- The state with another device: the snapshots and the queue stay. -/
def State.dev (s : State) (d : Dev) : State := { s with toDev := d }

/-- The state with one lane replaced. -/
def State.withLane (s : State) (p : Nat) (l : Lane) (y : LaneSt) : State := s.dev (s.toDev.updLane p l (fun _ => y))

/-- The state with one port replaced. -/
def State.withPort (s : State) (p : Nat) (x : PortSt) : State := s.dev (s.toDev.setPort p x)

/-- Of the ports only port `p` differs. -/
def State.portsBut (s t : State) (p : Nat) : Prop := ∀ q, q ≠ p → t.port q = s.port q

/-- Of the dictionary's numbers only those listed differ. -/
def State.regsBut (s t : State) (ks : List Nat) : Prop := ∀ k, k ∉ ks → t.reg k = s.reg k

/-- The reduction units take collective cells now (R33, R614). -/
abbrev Dev.opensContexts (d : Dev) : Prop := d.domainOff .switch = false ∧ d.waitsWake = false

/-! ## Actions of whistles (R408, R411) -/

/-- The first action of a code that waits on an S-die is `a`, nothing holds it, and the package link to the die that it acts on
works (R23, R408, R613). -/
abbrev Dev.actionReady (d : Dev) (sd code : Nat) (a : Action) : Prop :=
  (d.actions sd).find? (fun b => decide (b.stage = .queued ∧ b.code = code)) = some a ∧ d.actionHeld a = false ∧
  d.arrives (actionLinks sd a) = true

/-- The device once an action has ended. -/
def Dev.actionEnded (d : Dev) (a : Action) (ok : Bool) : Dev := d.endAction (some (a.whistle, a.fire)) ok

/-! ## Packets of the host transport (R478 to R491) -/

/-- The kind and the packet of a row that is a RoCE packet: 0 SEND, 1 RDMA WRITE, 2 RDMA READ request, 3 RDMA READ
response, 4 acknowledgement. -/
def packetOf : Instr → Option (Nat × RoceMsg)
  | .sendMessage m => some (0, m)
  | .rdmaWrite m => some (1, m)
  | .rdmaReadRequest m => some (2, m)
  | .rdmaReadResponse m => some (3, m)
  | .acknowledge m => some (4, m)
  | _ => none

/-- A packet arrives whole at a queue pair in RTS while the host port is up and its clock runs: `d` is the device once it is
counted. -/
abbrev State.packetIn (s : State) (m : RoceMsg) (d : Dev) : Prop :=
  s.toDev.hostUp = true ∧ s.toDev.domainGated .host = false ∧ m.icrcOk = true ∧ (s.qp m.qp.val).state = 1 ∧
  d = (s.toDev.count E.HOST_FRAMES).cnpFor m

/-- The same where the C-dies run if it needs them, and the packet is in its turn (R486). -/
abbrev State.packetDue (s : State) (k : Nat) (m : RoceMsg) (d : Dev) : Prop :=
  s.packetIn m d ∧ d.hostWaits k m = false ∧ m.invalid = false ∧ m.psn.toNat = (s.qp m.qp.val).rqPsn

/-! ## Words of an SRAM that read well (R504, R544) -/

/-- No error is armed, and the word of slot `i` in S-die `k`'s cell buffer holds no uncorrectable error (R177, R504). -/
abbrev State.slotReads (s : State) (k i : Nat) : Prop := s.sentry.inject = none ∧ sramMark 0 (k * slotCount + i) ∉ s.ueWords

/-- No error is armed, and the word of chunk `c` of context `n` in the context store holds no uncorrectable error (R504). -/
abbrev State.chunkReads (s : State) (n c : Nat) : Prop := s.sentry.inject = none ∧ sramMark 1 (storeWord n c) ∉ s.ueWords

/-! ## Requests that the dictionary hears (R43 to R54) -/

/-- A path carries a request of this version to the dictionary now (R43, R44, R48, R478, R480, R481). -/
abbrev Dev.hears (d : Dev) (q : Req) : Prop :=
  d.listens q.path = true ∧
  (q.path = .host → d.domainGated .host = false ∧ d.flag E.INBAND_ENABLE = true ∧ q.frameLength ≤ 4200) ∧
  (q.version = 2 ∨ q.version = 1 ∧ (q.path = .host → d.flag E.INBAND_V1 = true))

/-- The device once a request's frame is counted and what has expired is gone. -/
def Dev.received (d : Dev) (p : Path) : Dev := ((if p = .host then d.count E.HOST_FRAMES else d).count E.FRAMES_RX).purge

/-- No response is held for the request, so it is executed and not answered from the cache (R54). -/
abbrev Dev.unanswered (d : Dev) (op : Nat) (q : Req) : Prop :=
  (d.received q.path).mgmt.cache.find? (fun c => c.same op q) = none

/-- A request with the entry and payload of a row. -/
def Req.at (q : Req) (k : Nat) (pl : List Byte) : Req :=
  { q with index := BitVec.ofNat 16 (k / 256), sub := BitVec.ofNat 8 (k % 256), payload := pl }

/-- The device that hears a request: the events of the tick that are due come first (R537; the order is the model's choice, log
entry 156). -/
abbrev State.heard (s : State) : Dev := s.toDev.sampleEvents

/-- A request is heard, is not a repeat, and carries the role `role`; `d` is the device that serves it (R51, R54, R63). -/
abbrev State.asks (s : State) (op : Nat) (q : Req) (role : Option Scope) (d : Dev) : Prop :=
  s.heard.hears q ∧ s.heard.unanswered op q ∧ opcodeOk q.version.toNat op = true ∧
  d = (s.heard.received q.path).useSession q ∧ d.requestRole q = some role ∧ q.payload.length ≤ payloadLimit q.version.toNat

/-- A WRITE of an entry is asked and passes every check of R51 that comes before length and value: the entry exists, opens
to the role, may be written, and its domain runs. -/
abbrev State.mayWrite (s : State) (q : Req) (k : Nat) (pl : List Byte) (role : Option Scope) (d : Dev) : Prop :=
  s.asks opWRITE (q.at k pl) role d ∧ vendorIndex (k / 256) = false ∧
  d.refuseAccess role q.path true (k / 256) (k % 256) = none ∧ d.waitsFor (k / 256) (k % 256) = false

/-- A response goes out: it is held for repeats and sent, and ALERT_N follows what the request did. -/
def State.replied (s : State) (op : Nat) (q : Req) (st : Status) (pl : List Byte) (d : Dev) : State :=
  { s with toDev := d.settleAlert.respondTo op q st pl }

/-- The state after a WRITE of an entry is answered with a status: `d` is the device after the write itself. -/
def State.wrote (s : State) (q : Req) (k : Nat) (pl : List Byte) (st : Status) (d : Dev) : State :=
  s.replied opWRITE (q.at k pl) st [] (d.workedFor (k / 256) (k % 256))

/-! ## The rows that are requests -/

/-- The opcode and the request of a row that is a dictionary request. -/
def requestOf : Instr → Option (Nat × Req)
  | .read q => some (opREAD, q)
  | .write q => some (opWRITE, q)
  | .readSeg q => some (opREADSEG, q)
  | .writeSegStart q => some (opWSEGSTART, q)
  | .writeSeg q => some (opWSEG, q)
  | .writeSegCommit q => some (opWSEGCOMMIT, q)
  | .challenge q => some (opCHALLENGE, q)
  | .answer q => some (opANSWER, q)
  | .close q => some (opCLOSE, q)
  | .notifyAck q => some (opNOTIFYACK, q)
  | .badOpcode q op => some (op.toNat, q)
  | _ => none

/-! ## The rows that are writes of one entry -/

/-- The request, the entry and the payload of a row that is a write. -/
def writeOf : Instr → Option (Req × Nat × List Byte)
  | .write q => some (q, q.index.toNat * 256 + q.sub.toNat, q.payload)
  | .endSessions q => some (q, E.END_SESSIONS, [1])
  | .maxRateWrite q p => some (q, E.MAX_RATE p.val, q.payload)
  | .peakSet q p l => some (q, E.PEAK_SET p.val l.val, q.payload)
  | .elecClassWrite q p => some (q, E.ELEC_CLASS p.val, q.payload)
  | .testModeWrite q p l => some (q, E.TEST_MODE p.val l.val, q.payload)
  | .loopWrite q p l => some (q, E.LOOP p.val l.val, q.payload)
  | .injectBit q p l => some (q, E.INJECT p.val l.val, kindNibble 1 q.payload)
  | .injectRxFecCorr q p l => some (q, E.INJECT p.val l.val, kindNibble 2 q.payload)
  | .injectRxFecUncorr q p l => some (q, E.INJECT p.val l.val, kindNibble 3 q.payload)
  | .injectTxFecCorr q p l => some (q, E.INJECT p.val l.val, kindNibble 4 q.payload)
  | .injectTxFecUncorr q p l => some (q, E.INJECT p.val l.val, kindNibble 5 q.payload)
  | .injectTxSquelch q p l => some (q, E.INJECT p.val l.val, kindNibble 6 q.payload)
  | .portEnableWrite q p => some (q, E.PORT_ENABLE p.val, q.payload)
  | .retrain q p => some (q, E.RETRAIN p.val, [1])
  | .strayReclaim q => some (q, E.STRAY_RECLAIM, q.payload)
  | .kennelInjectPtrRange q => some (q, E.KENNEL_INJECT, kindNibble 1 q.payload)
  | .kennelInjectPtrAlign q => some (q, E.KENNEL_INJECT, kindNibble 2 q.payload)
  | .kennelInjectOwnerMismatch q => some (q, E.KENNEL_INJECT, kindNibble 3 q.payload)
  | .kennelInjectFreelistLink q => some (q, E.KENNEL_INJECT, kindNibble 4 q.payload)
  | .kennelInjectLeak q => some (q, E.KENNEL_INJECT, kindNibble 5 q.payload)
  | .flipTickWrite q => some (q, E.FLIP_TICK, q.payload)
  | .bankRetire q => some (q, E.BANK_RETIRE, q.payload)
  | .activate q n => some (q, E.PACK_CMD n.val, [1])
  | .deactivate q n => some (q, E.PACK_CMD n.val, [2])
  | .packAbort q n => some (q, E.PACK_CMD n.val, [3])
  | .arm q => some (q, E.WHISTLE_CMD, [1])
  | .disarm q => some (q, E.WHISTLE_CMD, [2])
  | .whistleCountWrite q => some (q, E.WHISTLE_COUNT, q.payload)
  | .computeInjectAbftColumn q => some (q, E.COMPUTE_INJECT, kindNibble 1 q.payload)
  | .computeInjectAbftRow q => some (q, E.COMPUTE_INJECT, kindNibble 2 q.payload)
  | .computeInjectConversion q => some (q, E.COMPUTE_INJECT, kindNibble 3 q.payload)
  | .computeInjectDup q => some (q, E.COMPUTE_INJECT, kindNibble 4 q.payload)
  | .chainLoad q => some (q, E.CHAIN_CMD, [1])
  | .chainUnload q => some (q, E.CHAIN_CMD, [2])
  | .chainInit q => some (q, E.CHAIN_CMD, [3])
  | .stepAbort q => some (q, E.STEP_CMD, firstByte 1 q.payload)
  | .stepCommit q => some (q, E.STEP_CMD, firstByte 2 q.payload)
  | .stepRollback q => some (q, E.STEP_CMD, firstByte 3 q.payload)
  | .progLoad q => some (q, E.PROG_CMD, [1])
  | .progUnload q => some (q, E.PROG_CMD, [2])
  | .qpReset q n => some (q, E.QP_STATE n.val, [0])
  | .qpRts q n => some (q, E.QP_STATE n.val, [1])
  | .dmaStart q n => some (q, E.DMA_START n.val, q.payload)
  | .dmaReset q n => some (q, E.DMA_CMD n.val, [1])
  | .consumedWrite q n => some (q, E.CONSUMED n.val, q.payload)
  | .faultAck q => some (q, E.FAULT_ACK, q.payload)
  | .faultInjectCellCrc q => some (q, E.FAULT_INJECT, firstByte 1 q.payload)
  | .faultInjectPkgLinkCrc q => some (q, E.FAULT_INJECT, firstByte 2 q.payload)
  | .faultInjectResContrib q => some (q, E.FAULT_INJECT, firstByte 3 q.payload)
  | .faultInjectResSum q => some (q, E.FAULT_INJECT, firstByte 4 q.payload)
  | .faultInjectResRounding q => some (q, E.FAULT_INJECT, firstByte 5 q.payload)
  | .faultInjectResLanes q => some (q, E.FAULT_INJECT, firstByte 6 q.payload)
  | .faultInjectResDup q => some (q, E.FAULT_INJECT, firstByte 7 q.payload)
  | .faultInjectSramCe q => some (q, E.FAULT_INJECT, firstByte 8 q.payload)
  | .faultInjectSramUe q => some (q, E.FAULT_INJECT, firstByte 9 q.payload)
  | .faultInjectHbmCe q => some (q, E.FAULT_INJECT, firstByte 10 q.payload)
  | .faultInjectHbmUe q => some (q, E.FAULT_INJECT, firstByte 11 q.payload)
  | .faultInjectPageCheck q => some (q, E.FAULT_INJECT, firstByte 12 q.payload)
  | .faultInjectLedgerCrc q => some (q, E.FAULT_INJECT, firstByte 13 q.payload)
  | .faultInjectResultCheckOut q => some (q, E.FAULT_INJECT, firstByte 14 q.payload)
  | .counterClear q => some (q, E.COUNTER_CLEAR, q.payload)
  | .counterClearAll q => some (q, E.COUNTER_CLEAR, [0, 0, 0, 0])
  | .snapCmd q => some (q, E.SNAP_CMD, q.payload)
  | .snapCancel q => some (q, E.SNAP_CMD, splice q.payload 8 (List.replicate 8 0))
  | .sampleConfigWrite q => some (q, E.SAMPLE_SHIFT + (q.sub.toNat + 3) % 4, q.payload)
  | .save q => some (q, E.PROFILE_CMD, [1])
  | .keyBurn q => some (q, E.KEY_BURN, q.payload)
  | .ownerPubkeyWrite q => some (q, E.OWNER_PUBKEY, q.payload)
  | .fwData q => some (q, E.FW_DATA, q.payload)
  | .verify q => some (q, E.FW_CMD, [1])
  | .fwActivate q => some (q, E.FW_CMD, [2])
  | .fwCommit q => some (q, E.FW_CMD, [3])
  | .erase q => some (q, E.FW_CMD, [4])
  | .attestNonce q => some (q, E.ATTEST_NONCE, q.payload)
  | .sleepActive q => some (q, E.SLEEP_CMD, [0])
  | .sleepIdle q => some (q, E.SLEEP_CMD, [1])
  | .sleepDoze q => some (q, E.SLEEP_CMD, [2])
  | .sleepKeepalive q => some (q, E.SLEEP_CMD, [3])
  | .resetCmdWarm q => some (q, E.RESET_CMD, [1])
  | .resetCmdSwitch q => some (q, E.RESET_CMD, [2])
  | .resetCmdOff q => some (q, E.RESET_CMD, [3])
  | .planNeighbourWrite q => some (q, E.PLAN_NEIGHBOUR (q.index.toNat % 256), q.payload)
  | .releasePort q => some (q, E.RELEASE (q.index.toNat % 256), [1])
  | .remapClear q => some (q, E.REMAP_CLEAR, [1])
  | _ => none

/-- Every row that writes entry `k` with payload `pl` (`writeOf`), and WRITE itself, is accepted where it passes the checks
before it, and leaves the device `d1`. -/
def State.takes (s : State) (k : Nat) (pl : List Byte) (d d1 : Dev) : Prop :=
  ∀ i q role, writeOf i = some (q, k, pl) → s.mayWrite q k pl role d → exec i s = .next (s.wrote q k pl .ok d1)

/-- The same, with what holds of the device that is left. -/
def State.takesTo (s : State) (k : Nat) (pl : List Byte) (d : Dev) (P : Dev → Prop) : Prop :=
  ∀ i q role, writeOf i = some (q, k, pl) → s.mayWrite q k pl role d →
    ∃ d1, exec i s = .next (s.wrote q k pl .ok d1) ∧ P d1

/-- Every row that writes entry `k` with payload `pl` is turned away with a status and changes nothing else. -/
def State.turnsAway (s : State) (k : Nat) (pl : List Byte) (d : Dev) (st : Status) : Prop :=
  ∀ i q role, writeOf i = some (q, k, pl) → s.mayWrite q k pl role d → exec i s = .next (s.wrote q k pl st d)

end Sys2Proof.Machine
end

