-- ==== Sys2Proof/Certificates/Slice0/Obligations.lean ====
section
/-! DEFINITION. The statements for the provers, in the order of the manual's chapters: what every step does, what the
dictionary answers, and for every row of the command table what it does when it completes. -/

open Sys2Proof Sys2Proof.Machine

/-! ## Every step -/

/-- A step takes the command at the front of the queue and runs it with the queue's rest.
Where the manual leaves it open the statement follows the model: log entry 2. -/
def Obligations.StepRunsTheFrontCommand : Prop :=
  ∀ (c : Instr) (rest : List Instr) (s : State), step { s with pending := c :: rest } = exec c { s with pending := rest }

/-- With no command waiting one tick of the reference clock passes (the model's choice, log entry 1): the 64-bit counter
counts it where the always-on domain has power (R9), and an unpowered TX1 stays as it is. Cells and credits that a wake
holds back, reports and events on their way to the sentry and the interrupt controller, an armed snapshot, injections and
hand-overs under way are taken on by their own rules, so the statement is for a state that has none: there the ports keep their
states, their lanes' states and rates, and send only what fills idle slots, which with every port OFF is nothing. -/
def Obligations.EmptyQueueTicks : Prop :=
  ∀ s : State, s.pending = [] →
    (s.power.off = true → step s = .next s) ∧
    (s.power.off = false → s.arrivals = [] → s.sentry.reports = [] → s.tele.arm = none → s.heldCells = [] → s.power.wakePorts = [] →
      (∀ (p : Nat) (l : Lane), (s.port p).handover = none ∧ (s.lane p l).inject = none) →
      ∃ t, step s = .next t ∧ t.tick = (s.tick + 1) % 2 ^ 64 ∧ t.pending = [] ∧ t.boundary = none ∧ s.out <+: t.out ∧
        (∀ (p : Nat) (l : Lane), (t.port p).state = (s.port p).state ∧ (t.lane p l).state = (s.lane p l).state ∧
          (t.lane p l).rate = (s.lane p l).rate) ∧
        ((∀ p : Nat, (s.port p).state = .off) → t.out = s.out ∧ t.ports = s.ports ∧ t.draws = s.draws) ∧
        { t with tick := s.tick, power := s.power, tele := s.tele, routing := s.routing, ports := s.ports, out := s.out,
                 draws := s.draws, boundary := s.boundary } = s)

/-- A step takes one command from the front of the queue and leaves the rest in order. -/
def Obligations.StepTakesOneCommand : Prop :=
  ∀ s t : State, step s = .next t → t.pending = s.pending.tail

/-- No command is refused; a fault comes only from a further test instruction with debug open or outside the life cycle FIELD
(R589); every other command answers a next state in every state.
Where the manual leaves it open the statement follows the model: log entries 26 and 27. -/
def Obligations.EveryCommandAnswers : Prop :=
  ∀ (i : Instr) (s : State),
    (∃ t, exec i s = .next t) ∨
    (exec i s = .fault .debugInstruction ∧ (s.debugOpen = true ∨ s.mfg.field = false) ∧ ∃ ir, i = .testPortInstruction (.other ir))

/-- R560: the TX1 holds at most two snapshot sets, whatever the command. -/
def Obligations.StepKeepsAtMostTwoSnapshots : Prop :=
  ∀ s t : State, s.shadows.length ≤ 2 → step s = .next t → t.shadows.length ≤ 2

/-- R560: a set that is taken stays as it is, value by value, until a newer snapshot overwrites it, and then only where two
are held and no other was taken less recently; and a reset that clears the counters' store loses it (R619). No other
command changes what a reader sees in a snapshot. -/
def Obligations.TakenSnapshotsStay : Prop :=
  ∀ (s t : State) (x : ShadowSet), x ∈ s.shadows → x.taken = true → step s = .next t →
    x ∈ t.shadows ∨
    (∃ rest, s.pending = .snapCopy :: rest ∧ 2 ≤ s.shadows.length ∧ ∀ y ∈ s.shadows, x.target ≤ y.target) ∨
    (∃ c rest, s.pending = c :: rest ∧ t.shadows = [] ∧
      (c = .resetTakesEffect ∨ (∃ n, c = .resetNRise n) ∨ (∃ v, c = .inputRise v) ∨ ∃ v, c = .alwaysOnStop v))

/-- The state after a cold reset at tick 0: nothing is queued, held or armed, no port is up, and the entries the manual
names at reset read as it says.
Where the manual leaves it open the statement follows the model: log entries 12 and 14. -/
def Obligations.ResetState : Prop :=
  State.reset.safe ∧ State.reset.pending = [] ∧ State.reset.tick = 0 ∧ State.reset.power.bootStage = 1 ∧
  State.reset.power.tickLocked = false ∧ State.reset.power.lastReset = .cold ∧ State.reset.power.sleep = .active ∧
  State.reset.reg E.LEDGER_NEXT_SEQ = 0 ∧ State.reset.reg E.FENCED = 0 ∧ State.reset.fenced = false ∧
  State.reset.packs = [] ∧ State.reset.ctxs = [] ∧ State.reset.mem = [] ∧ State.reset.sentry.log = [] ∧
  (∀ p : Port, (State.reset.port p.val).state = .off) ∧ (∀ n : Nat, State.reset.bank 0 = .live ∧ State.reset.logical n = n)

/-! ## Dictionary requests (R43 to R68) -/

/-- R51: a WRITE that passes the checks before it is applied to its entry and answered OK, for every row that is a write of
one entry; the answer, the counts of its frame and the session's last use are all it changes beside the entry's own
effect.
Where the manual leaves it open the statement follows the model: log entries 20, 22 and 25. -/
def Obligations.AcceptedWritesApply : Prop :=
  ∀ (i : Instr) (s : State) (q : Req) (k : Nat) (pl : List Byte) (role : Option Scope) (d d1 : Dev),
    writeOf i = some (q, k, pl) → s.mayWrite q k pl role d →
    d.tryWrite s.shadows false q.session (k / 256) (k % 256) pl = (none, d1) →
    exec i s = .next (s.wrote q k pl .ok d1)

/-- R51 and R52: a write that a check refuses is answered with that check's status, before the entry's effect; one that is
refused before length and value changes nothing of the entry's domain; and one to an entry whose clock is stopped is held
until the wake.
Where the manual leaves it open the statement follows the model: log entries 20, 22 and 25. -/
def Obligations.RefusedWritesAnswerTheirStatus : Prop :=
  ∀ (i : Instr) (s : State) (q : Req) (k : Nat) (pl : List Byte) (role : Option Scope) (d : Dev), writeOf i = some (q, k, pl) →
    (∀ st d1, s.mayWrite q k pl role d → d.tryWrite s.shadows false q.session (k / 256) (k % 256) pl = (some st, d1) →
      exec i s = .next (s.wrote q k pl st d1)) ∧
    (∀ st, s.asks opWRITE (q.at k pl) role d → d.refuseAccess role q.path true (k / 256) (k % 256) = some st →
      exec i s = .next (s.replied opWRITE (q.at k pl) st [] d)) ∧
    (s.asks opWRITE (q.at k pl) role d → vendorIndex (k / 256) = false →
      d.refuseAccess role q.path true (k / 256) (k % 256) = none → d.waitsFor (k / 256) (k % 256) = true →
      exec i s = .next { s with toDev := d.holdReq wkCOMMAND opWRITE (q.at k pl) true })

/-- R51 and R56: a READ of an entry that exists, opens to the role and may be read answers OK with the entry's value, and
has the entry's own effect on reading; a value too long for one frame is captured whole in a handle and answered
SEGMENTED.
Where the manual leaves it open the statement follows the model: log entries 8, 22, 23 and 26. -/
def Obligations.ReadAnswersTheValue : Prop :=
  ∀ (s : State) (q : Req) (role : Option Scope) (d : Dev), s.asks opREAD q role d →
    d.refuseAccess role q.path false q.index.toNat q.sub.toNat = none → d.waitsFor q.index.toNat q.sub.toNat = false →
    d.refuseRead s.shadows q.index.toNat q.sub.toNat = none →
    let v := d.readEntry s.shadows q.index.toNat q.sub.toNat
    let d1 := (d.afterRead q.index.toNat q.sub.toNat).workedFor q.index.toNat q.sub.toNat
    (v.length ≤ payloadLimit q.version.toNat → exec (.read q) s = .next (s.replied opREAD q .ok v d1)) ∧
    (payloadLimit q.version.toNat < v.length → d.mgmt.handles.length < 8 →
      exec (.read q) s = .next (s.replied opREAD q .segmented
        (beBytes 2 d1.newHandle.toNat ++ beBytes 4 v.length ++ beBytes 4 (crc32c v)) (d1.openHandle q false v.length v)))

/-- R54: a request whose response is held is answered with that same response and is not executed again: beside the counts
of frames and what has expired, nothing changes.
Where the manual leaves it open the statement follows the model: log entries 22 and 24. -/
def Obligations.RepeatedRequestsAreNotExecuted : Prop :=
  ∀ (i : Instr) (s : State) (op : Nat) (q : Req) (c : Cached), requestOf i = some (op, q) → op ≠ opNOTIFYACK →
    s.heard.hears q → (s.heard.received q.path).mgmt.cache.find? (fun c => c.same op q) = some c →
    exec i s = .next { s with
      toDev := (((s.heard.received q.path).useSession q).count E.CACHE_REPLAYS).sendFrame q.path q.addr q.udpPort c.response }

/-- R56 to R59: the segmented transfers. READ_SEG returns its segment and frees the handle after the final one;
WRITE_SEG_START opens a handle of the total length; WRITE_SEG stages its segment; WRITE_SEG_COMMIT applies a staged value
as one write and frees the handle.
Where the manual leaves it open the statement follows the model: log entries 21, 22 and 23. -/
def Obligations.SegmentedTransfers : Prop :=
  (∀ (s : State) (q : Req) (role : Option Scope) (d : Dev) (h : Handle), s.asks opREADSEG q role d → q.payload.length = 2 →
    d.handleOf q false = some h → q.seg.toNat ≤ h.data.length / payloadLimit q.version.toNat →
    exec (.readSeg q) s = .next (s.replied opREADSEG q .ok
      (slice h.data (q.seg.toNat * payloadLimit q.version.toNat) (payloadLimit q.version.toNat))
      (if q.seg.toNat = h.data.length / payloadLimit q.version.toNat then d.dropHandle h.id else d.useHandle h))) ∧
  (∀ (s : State) (q : Req) (role : Option Scope) (d : Dev), s.asks opWSEGSTART q role d → q.payload.length = 4 →
    d.refuseAccess role q.path true q.index.toNat q.sub.toNat = none → d.waitsFor q.index.toNat q.sub.toNat = false →
    0 < beNat q.payload → beNat q.payload ≤ 65536 → totalFits q.index.toNat q.sub.toNat (beNat q.payload) = true →
    d.mgmt.handles.length < 8 →
    exec (.writeSegStart q) s = .next (s.replied opWSEGSTART q .ok (beBytes 2 d.newHandle.toNat)
      (d.openHandle q true (beNat q.payload) []))) ∧
  (∀ (s : State) (q : Req) (role : Option Scope) (d : Dev) (h : Handle), s.asks opWSEG q role d →
    d.handleOf q true = some h → q.seg.toNat < h.count → 2 ≤ q.payload.length →
    q.payload.length - 2 = (if q.seg.toNat + 1 = h.count then h.total - 1022 * q.seg.toNat else 1022) →
    exec (.writeSeg q) s = .next (s.replied opWSEG q .ok []
      (d.useHandle { h with segs := tset h.segs q.seg.toNat (q.payload.drop 2) }))) ∧
  (∀ (s : State) (q : Req) (role : Option Scope) (d d1 : Dev) (h : Handle) (v : List Byte), s.asks opWSEGCOMMIT q role d →
    q.payload.length = 6 → d.handleOf q true = some h →
    h.staged (beNat (q.payload.drop 2)) = some v →
    d.refuseAccess role q.path true h.index h.sub = none → vendorIndex h.index = false → d.waitsFor h.index h.sub = false →
    (d.dropHandle h.id).refuseAccess role q.path true h.index h.sub = none → (d.dropHandle h.id).waitsFor h.index h.sub = false →
    (d.dropHandle h.id).tryWrite s.shadows false q.session h.index h.sub v = (none, d1) →
    exec (.writeSegCommit q) s = .next (s.replied opWSEGCOMMIT q .ok [] (d1.workedFor h.index h.sub)))

/-- R61 to R63: CHALLENGE returns a nonce bound to scope, address and path and voids that requester's previous one; ANSWER
over it opens a session of the scope, is answered CHALLENGE_FAILED where it does not verify, or BUSY with four sessions
open; CLOSE ends the session it names.
Where the manual leaves it open the statement follows the model: log entries 22, 23 and 103. -/
def Obligations.SessionsOpenAndClose : Prop :=
  (∀ (s : State) (q : Req) (role : Option Scope) (d : Dev) (b : Byte) (sc : Scope), s.asks opCHALLENGE q role d →
    q.payload = [b] → scopeOf b.toNat = some sc →
    ∃ t, exec (.challenge q) s = .next t ∧ t.mgmt.sessions = d.mgmt.sessions ∧
      t.mgmt.nonces = d.mgmt.nonces.filter (fun n => !(n.path = q.path && n.addr = q.addr)) ++
        [Nonce.mk q.path q.addr sc (Config.freeNonce d.draws) d.tick] ∧
      ∃ pre, t.out = pre ++ [.frame d.tick q.path q.addr q.udpPort
        (responseBytes opCHALLENGE q .ok (beBytes 32 (Config.freeNonce d.draws).toNat))]) ∧
  (∀ (s : State) (q : Req) (role : Option Scope) (d : Dev) (n : Nonce) (sc : Scope), s.asks opANSWER q role d →
    q.payload.length = 385 → scopeOf (beNat (q.payload.take 1)) = some sc →
    d.mgmt.nonces.find? (fun n => n.path = q.path && n.addr = q.addr) = some n →
    (n.scope = sc → d.answerVerifies sc n.value (q.payload.drop 1) = true → d.mgmt.sessions.length < 4 →
      ∃ t, exec (.answer q) s = .next t ∧
        t.mgmt.sessions = d.mgmt.sessions ++ [Session.mk d.newToken q.path q.addr sc d.tick] ∧
        t.mgmt.nonces = d.mgmt.nonces.filter (fun n => !(n.path = q.path && n.addr = q.addr))) ∧
    (n.scope = sc → d.answerVerifies sc n.value (q.payload.drop 1) = true → 4 ≤ d.mgmt.sessions.length →
      exec (.answer q) s = .next (s.replied opANSWER q .busy [] d)) ∧
    (¬ (n.scope = sc ∧ d.answerVerifies sc n.value (q.payload.drop 1) = true) →
      exec (.answer q) s = .next (s.replied opANSWER q .challengeFailed [] ((d.spendNonce q).countErr E.CHALLENGE_FAILS)))) ∧
  (∀ (s : State) (q : Req) (role : Option Scope) (d : Dev), s.asks opCLOSE q role d →
    ∃ t, exec (.close q) s = .next t ∧ t.mgmt.sessions = d.mgmt.sessions.filter (fun x => x.token != q.session) ∧
      t.mgmt.nonces = d.mgmt.nonces)

/-- R48, R49 and R60: a NOTIFY_ACK takes the NOTIFY it acknowledges from those outstanding and is not answered; an opcode
that the version may not carry is answered BAD_OPCODE; a frame that is none of either version is counted and not answered;
on the host path a request is dropped while INBAND_ENABLE is false or where its frame is longer than 4,200 bytes (R478); a datagram whose UDP checksum fails changes nothing where no wake is due (R43).
Where the manual leaves it open the statement follows the model: log entries 22 and 151. -/
def Obligations.FramesWithoutARequest : Prop :=
  (∀ (s : State) (q : Req), s.heard.hears q → q.version = 2 →
    exec (.notifyAck q) s = .next { s with toDev := (s.heard.received q.path).takeAck60 q }) ∧
  (∀ (s : State) (q : Req) (op : BitVec 8), s.heard.hears q → opcodeOk q.version.toNat op.toNat = false →
    ¬ (op.toNat = opNOTIFYACK ∧ q.version = 2) → s.heard.unanswered op.toNat q →
    exec (.badOpcode q op) s = .next (s.replied op.toNat q .badOpcode [] ((s.heard.received q.path).useSession q))) ∧
  (∀ (i : Instr) (s : State) (op : Nat) (q : Req), requestOf i = some (op, q) → q.path = .host → s.heard.listens .host = true →
    s.heard.domainGated .host = false → (s.heard.flag E.INBAND_ENABLE = false ∨ 4200 < q.frameLength) →
    exec i s = .next { s with toDev := s.heard.count E.HOST_DROPS }) ∧
  (∀ (s : State) (bytes : List Byte), s.toDev.listens .t1s = true → parseFrame bytes = none →
    exec (.badFrames .t1s bytes) s = .next { s with toDev := s.toDev.countErr E.BAD_FRAMES }) ∧
  (∀ (s : State) (bytes : List Byte), s.toDev.listens .host = true → s.toDev.flag E.INBAND_ENABLE = true →
    s.toDev.domainGated .host = false → parseFrame bytes = none →
    exec (.badFrames .host bytes) s = .next { s with toDev := (s.toDev.count E.HOST_FRAMES).countErr E.BAD_FRAMES }) ∧
  (∀ (s : State) (p : Path), (p = .host → s.toDev.domainGated .host = false) → exec (.udpChecksumDrop p) s = .next s)

/-- R54, R59, R62 and R63: a handle, a nonce, a session or a held response that has reached its age is gone, and the others
of its kind and everything else stay.
Where the manual leaves it open the statement follows the model: log entries 3 and 24. -/
def Obligations.ExpiriesRemoveWhatIsOld : Prop :=
  (∀ (h : BitVec 16) (s : State), ∃ t, exec (.handleExpiry h) s = .next t ∧
    { t with mgmt := { t.mgmt with handles := s.mgmt.handles } } = s ∧
    ∀ x, x ∈ t.mgmt.handles ↔ x ∈ s.mgmt.handles ∧ (x.id = h → s.tick < x.lastUse + 12500000)) ∧
  (∀ (p : Path) (a : BitVec 128) (s : State), ∃ t, exec (.nonceExpiry p a) s = .next t ∧
    { t with mgmt := { t.mgmt with nonces := s.mgmt.nonces } } = s ∧
    ∀ x, x ∈ t.mgmt.nonces ↔ x ∈ s.mgmt.nonces ∧ (x.path = p → x.addr = a → s.tick < x.tick + 250000000)) ∧
  (∀ (k : BitVec 64) (s : State), ∃ t, exec (.sessionIdleExpiry k) s = .next t ∧
    { t with mgmt := { t.mgmt with sessions := s.mgmt.sessions } } = s ∧
    ∀ x, x ∈ t.mgmt.sessions ↔ x ∈ s.mgmt.sessions ∧ (x.token = k → s.tick < x.lastUse + s.reg E.SESSION_IDLE_TICKS)) ∧
  (∀ (k : CacheKey) (s : State), ∃ t, exec (.responseExpiry k) s = .next t ∧
    { t with mgmt := { t.mgmt with cache := s.mgmt.cache } } = s ∧
    ∀ x, x ∈ t.mgmt.cache ↔ x ∈ s.mgmt.cache ∧ (x.key = k → s.tick < x.tick + 50000000))

/-- R60: an outstanding NOTIFY is sent again 2,500,000 ticks after its last sending, to the address and port it went to, and
after its third repeat, or where its path cannot carry it, it is counted in NOTIFY_LOST and forgotten. A TX1 in OFF or in
reset sends none (R67).
Where the manual leaves it open the statement follows the model: log entries 3 and 28. -/
def Obligations.NotifyRepeats : Prop :=
  ∀ (s : State) (txn : BitVec 16) (dest : Fin 4) (n : Notify),
    s.mgmt.notifies.find? (fun n => n.txn = txn && n.dest = dest) = some n → n.sentAt + 2500000 ≤ s.tick →
    s.toDev.listens .t1s = true →
    (n.repeats < 3 → s.toDev.notifyBlocked (destPath (beBytes 16 n.addr.toNat)) = false →
      ∃ t, exec (.notifyRepeat txn dest) s = .next t ∧
        t.mgmt.notifies = s.mgmt.notifies.erase n ++ [{ n with sentAt := s.tick, repeats := n.repeats + 1 }] ∧
        t.out = s.out ++ [.frame s.tick (destPath (beBytes 16 n.addr.toNat)) n.addr n.udpPort n.frame] ∧ t.mem = s.mem) ∧
    (3 ≤ n.repeats ∨ s.toDev.notifyBlocked (destPath (beBytes 16 n.addr.toNat)) = true →
      exec (.notifyRepeat txn dest) s = .next
        { s with toDev := ({ s.toDev with mgmt := { s.mgmt with notifies := s.mgmt.notifies.erase n } } : Dev).countErr E.NOTIFY_LOST })

/-- R66, R67, R478, R479, R486, R487 and R543: a neighbour solicitation for an address of the TX1 is answered; a beacon puts the
PLCA entries in force; a collision is counted; the host link's loss clears HOST_MODE and its training history, and training
brings it up at 800 Gbit/s where both ends allow that, else at 400 (R478); a frame over 4,200 bytes is dropped; a CNP halves a
queue pair's rate once in 1,250 ticks, 1,375 ticks without one raise it, and an unanswered packet is sent again after
RETRY_TICKS, until RETRY_COUNT retries have put the pair into ERROR (R486, R487); the housekeeping watchdog ends sessions,
nonces, responses and handles and raises HKP_RESTART's source.
Where the manual leaves it open the statement follows the model: log entries 3, 30, 31, 46 and 151. -/
def Obligations.SegmentAndHostLinkEvents : Prop :=
  (∀ (s : State) (p : Path) (src target : BitVec 128), s.toDev.listens p = true → (p = .host → s.toDev.domainGated .host = false) →
    s.toDev.holdsAddr p target = true →
    exec (.neighbourSolicitation p src target) s = .next { s with
      toDev := (if p = .host then s.toDev.count E.HOST_FRAMES else s.toDev).emit (.neighbour s.tick p src target) }) ∧
  (∀ s : State, s.toDev.listens .t1s = true → ∃ t, exec .plcaBeacon s = .next t ∧ t.reg E.PLCA_STATUS = 1 ∧
    t.mgmt.plca = [s.reg E.PLCA_NODE_ID, s.reg E.PLCA_TO_TIMER, s.reg E.PLCA_BURST_COUNT, s.reg E.PLCA_BURST_TIMER] ∧
    { t with regs := s.regs, mgmt := s.mgmt } = s) ∧
  (∀ s : State, s.toDev.listens .t1s = true → s.reg E.PLCA_COLLISIONS < 2 ^ 32 - 2 → ∃ t, exec .plcaCollision s = .next t ∧
    t.reg E.PLCA_COLLISIONS = s.reg E.PLCA_COLLISIONS + 1 ∧
    { t with regs := s.regs, tele := s.tele, sentry := s.sentry, ints := s.ints, draws := s.draws } = s) ∧
  (∀ s : State, s.reg E.HOST_MODE ≠ 0 → ∃ t, exec .hostPortDown s = .next t ∧ t.reg E.HOST_MODE = 0 ∧ t.hostPort = {} ∧
    (∀ k, k ≠ E.HOST_MODE → t.reg k = s.reg k) ∧ { t with regs := s.regs, hostPort := s.hostPort } = s) ∧
  (∀ (s : State) (l : List HostMode), s.toDev.domainOff .host = false → s.toDev.fenced = false → s.reg E.HOST_MODE = 0 →
    s.reg E.HOST_MAX_MODE ≠ 2 → s.hostPort.only400 = false → HostMode.cr4x800 ∈ l →
    ∃ t, exec (.hostAutoneg l true) s = .next t ∧ t.reg E.HOST_MODE = 1 ∧ t.hostPort = { s.hostPort with fails800 := 0 } ∧
      s.regsBut t [E.HOST_MODE] ∧ { t with regs := s.regs, hostPort := s.hostPort } = s) ∧
  (∀ (s : State) (l : List HostMode), s.toDev.domainOff .host = false → s.toDev.fenced = false → s.reg E.HOST_MODE = 0 →
    (s.reg E.HOST_MAX_MODE = 2 ∨ s.hostPort.only400 = true ∨ HostMode.cr4x800 ∉ l) → HostMode.cr4x400 ∈ l →
    ∃ t, exec (.hostAutoneg l true) s = .next t ∧ t.reg E.HOST_MODE = 2 ∧ s.regsBut t [E.HOST_MODE] ∧ { t with regs := s.regs } = s) ∧
  (∀ (s : State) (f : List Byte), s.toDev.hostUp = true → s.toDev.domainGated .host = false → 4200 < f.length →
    ∃ t, exec (.hostDrops f) s = .next t ∧ t.reg E.HOST_DROPS = (s.reg E.HOST_DROPS + 1) % 2 ^ 64 ∧
      s.regsBut t [E.HOST_DROPS] ∧ { t with regs := s.regs } = s) ∧
  (∀ (s : State) (q : QpNo), s.toDev.hostUp = true → s.toDev.domainGated .host = false → (s.qp q.val).state = 1 →
    (∀ a, (s.qp q.val).lastCnp = some a → a + 1250 ≤ s.tick) →
    ∃ t, exec (.cnp q) s = .next t ∧ (t.qp q.val).rate = max 8 ((s.qp q.val).rate / 2) ∧ (t.qp q.val).lastCnp = some s.tick ∧
      (t.qp q.val).lastRise = s.tick ∧ (∀ v, v ≠ q.val → t.qp v = s.qp v) ∧ s.regsBut t [E.HOST_FRAMES] ∧ { t with regs := s.regs, qps := s.qps } = s) ∧
  (∀ (s : State) (q : QpNo) (a : Nat), s.toDev.hostUp = true → s.toDev.domainGated .host = false → (s.qp q.val).state = 1 →
    (s.qp q.val).lastCnp = some a → s.tick < a + 1250 →
    ∃ t, exec (.cnp q) s = .next t ∧ t.qp q.val = { s.qp q.val with lastRise := s.tick } ∧
      (∀ v, v ≠ q.val → t.qp v = s.qp v) ∧ s.regsBut t [E.HOST_FRAMES] ∧ { t with regs := s.regs, qps := s.qps } = s) ∧
  (∀ (s : State) (q : QpNo), (s.qp q.val).lastRise + 1375 ≤ s.tick →
    ∃ t, exec (.qpRateRise q) s = .next t ∧ (t.qp q.val).rate = min 256 ((s.qp q.val).rate + 16) ∧
      (t.qp q.val).lastRise = s.tick ∧ (∀ v, v ≠ q.val → t.qp v = s.qp v) ∧ { t with qps := s.qps } = s) ∧
  (∀ (s : State) (q : QpNo) (r : QpReq), (s.qp q.val).state = 1 → (s.qp q.val).sent = [r] →
    (s.qp q.val).sentAt + s.reg (E.RETRY_TICKS q.val) ≤ s.tick → (s.qp q.val).retries < s.reg (E.RETRY_COUNT q.val) →
    s.toDev.hostUp = true →
    exec (.qpRetryTimeout q) s = .next (s.dev ((s.toDev.setQp q.val { s.qp q.val with
      retries := (s.qp q.val).retries + 1, sentAt := s.tick }).emit (.host s.tick q.val (s.toDev.reqBytes q.val r))))) ∧
  (∀ (s : State) (q : QpNo) (r : QpReq), (s.qp q.val).state = 1 → (s.qp q.val).sent.head? = some r →
    (s.qp q.val).sentAt + s.reg (E.RETRY_TICKS q.val) ≤ s.tick → s.reg (E.RETRY_COUNT q.val) ≤ (s.qp q.val).retries →
    exec (.qpRetryTimeout q) s = .next (s.dev (s.toDev.qpError q.val r.psn))) ∧
  (∀ (s : State) (q : QpNo), s.tick < (s.qp q.val).sentAt + s.reg (E.RETRY_TICKS q.val) → exec (.qpRetryTimeout q) s = .next s) ∧
  (∀ s : State, ∃ t, exec .hkpWatchdog s = .next t ∧ t.mgmt = { s.mgmt with sessions := [], nonces := [], cache := [], handles := [] } ∧
    maskHas t.ints.pending 0x06 = true ∧
    { t with regs := s.regs, tele := s.tele, sentry := s.sentry, ints := s.ints, mgmt := s.mgmt } = s)
/-! ## Fabric lanes (R69 to R114) -/

/-- R84, R85, R90, R91 and R105: LOS or LOL that a lane already shows changes nothing; without a module LOS does not end; one that ends is noted on its lane, and with
LOS of lane 0 the runs of the miswire watch end; one that asserts on a lane in striping beside others is counted, and the
lane enters FAILED with a link state change, its margin hold over with its lock, the port's state and its other lanes
staying as they are; a gap that the lane alone kept from being declared may be declared then (R134).
Where the manual leaves it open the statement follows the model: log entries 9 and 131. -/
def Obligations.DetectorEvents : Prop :=
  (∀ (s : State) (p : Port) (l : Lane), (s.lane p.val l).los = true → exec (.los p l true) s = .next s) ∧
  (∀ (s : State) (p : Port) (l : Lane), (s.lane p.val l).lol = true → exec (.lol p l true) s = .next s) ∧
  (∀ (s : State) (p : Port) (l : Lane), s.isModule p.val = true → s.modulePresent p.val = false →
    exec (.los p l false) s = exec (.los p l true) s) ∧
  (∀ (s : State) (p : Port) (l : Lane), (s.port p.val).state ≠ .detect → (s.port p.val).state ≠ .absent →
    (s.isModule p.val = false ∨ s.modulePresent p.val = true) →
    (l ≠ 0 → exec (.los p l false) s = .next (s.withLane p.val l { s.lane p.val l with los := false })) ∧
    (∃ t, exec (.los p 0 false) s = .next t ∧ t.lane p.val 0 = { s.lane p.val 0 with los := false, miswireRun := 0 } ∧
      (∀ k : Lane, k ≠ 0 → t.lane p.val k = { s.lane p.val k with miswireRun := 0 }) ∧ s.portsBut t p.val ∧
      { t with ports := s.ports } = s) ∧
    exec (.lol p l false) s = .next (s.withLane p.val l { s.lane p.val l with lol := false })) ∧
  (∀ (s : State) (p : Port) (l k : Lane), (s.lane p.val l).state = .active → (s.port p.val).striping ≠ [l] → k ≠ l →
    (s.lane p.val k).los = false →
    (l ≠ 0 → (s.lane p.val l).los = false → s.reg (E.LOS_EVENTS p.val l.val) < 0xFFFFFFFE →
      ∃ t, exec (.los p l true) s = .next t ∧ (t.lane p.val l).state = .failed ∧ (t.lane p.val l).los = true ∧
        (t.port p.val).state = (s.port p.val).state ∧ (∀ m, m ≠ l → t.lane p.val m = s.lane p.val m) ∧
        t.reg (E.LOS_EVENTS p.val l.val) = s.reg (E.LOS_EVENTS p.val l.val) + 1 ∧
        t.arrivals = s.arrivals ++ [Arrival.mk s.sampledAt (.link p.val)] ∧
        s.portsBut t p.val ∧ s.regsBut t [E.LOS_EVENTS p.val l.val, E.GAPS p.val] ∧
        ((s.port p.val).gapOpen = true → t.out = s.out ∧ t.reg (E.GAPS p.val) = s.reg (E.GAPS p.val)) ∧
        { t with regs := s.regs, ports := s.ports, arrivals := s.arrivals, draws := s.draws, out := s.out } = s) ∧
    ((s.lane p.val l).lol = false → s.reg (E.LOL_EVENTS p.val l.val) < 0xFFFFFFFE →
      ∃ t, exec (.lol p l true) s = .next t ∧ (t.lane p.val l).state = .failed ∧ (t.lane p.val l).lol = true ∧
        (t.lane p.val l).highSince = none ∧
        (t.port p.val).state = (s.port p.val).state ∧ (∀ m, m ≠ l → t.lane p.val m = s.lane p.val m) ∧
        t.reg (E.LOL_EVENTS p.val l.val) = s.reg (E.LOL_EVENTS p.val l.val) + 1 ∧
        t.arrivals = s.arrivals ++ [Arrival.mk s.sampledAt (.link p.val)] ∧
        s.portsBut t p.val ∧ s.regsBut t [E.LOL_EVENTS p.val l.val, E.GAPS p.val] ∧
        { t with regs := s.regs, ports := s.ports, arrivals := s.arrivals, draws := s.draws, out := s.out } = s)) ∧
  (∀ (s : State) (p : Port), (s.lane p.val 0).los = false → (s.port p.val).state = .up → s.queuedTo p.val = false →
    (∀ k ∈ (s.port p.val).kept, k.slot = none) → s.ctxs = [] →
    ∃ t, exec (.los p 0 true) s = .next t ∧ (t.port p.val).state = .detect ∧ s.portsBut t p.val)

/-- R78, R80, R83, R86, R87 and R113: a margin window's end on a locked lane sets its margin, adapts its taps, lowers
MARGIN_MIN, adds what the window corrected and lost to the lane's counters, injections'
share in the latter apart from the lane's own measure (R79), and passes the port's two values on; the end of
a peaking step's watch reverts a step that lowered the margin and keeps any other; a lane good for 25,000 ticks stores its
coefficient set; and a peaking period that is due on a lane counts its blocks down and tries a step, where one may be tried.
Where the manual leaves it open the statement follows the model: log entries 3, 32, 33, 38, 162 and 177. -/
def Obligations.MarginAndPeaking : Prop :=
  (∀ (s : State) (p : Port) (l : Lane) (m : BitVec 8) (corr : BitVec 32) (u inj : BitVec 16),
    s.tick % 256 = 0 → (s.lane p.val l).state ≠ .off → (s.lane p.val l).lol = false →
    s.reg (E.FEC_UNCORR_CW p.val l.val) + u.toNat < 0xFFFFFFFF →
    ∃ t, exec (.marginWindowEnd p l m corr u inj) s = .next t ∧ (t.lane p.val l).margin = m.toNat ∧
      (t.lane p.val l).windows = (s.lane p.val l).windows + 1 ∧
      (t.lane p.val l).uncorrLog.getLast? = some (s.tick, u.toNat - inj.toNat) ∧
      ((s.lane p.val l).watch = none → (t.lane p.val l).taps = .adapted (Config.freeTaps s.draws)) ∧
      t.reg (E.MARGIN_MIN p.val l.val) = min (s.reg (E.MARGIN_MIN p.val l.val)) m.toNat ∧
      t.reg (E.FEC_CORR_SYMBOLS p.val l.val) = (s.reg (E.FEC_CORR_SYMBOLS p.val l.val) + corr.toNat) % 2 ^ 64 ∧
      t.reg (E.FEC_UNCORR_CW p.val l.val) = s.reg (E.FEC_UNCORR_CW p.val l.val) + u.toNat ∧
      (t.lane p.val l).state = (s.lane p.val l).state ∧ (t.lane p.val l).rate = (s.lane p.val l).rate ∧
      (t.port p.val).passedCap = (t.port p.val).capacity ∧ (t.port p.val).passedMargin = (t.port p.val).portMargin ∧
      (∀ k, k ≠ l → t.lane p.val k = s.lane p.val k) ∧ s.portsBut t p.val ∧
      s.regsBut t [E.MARGIN_MIN p.val l.val, E.FEC_CORR_SYMBOLS p.val l.val, E.FEC_UNCORR_CW p.val l.val,
        E.PEAK_UNDOS p.val l.val] ∧
      { t with regs := s.regs, ports := s.ports, tele := s.tele, draws := s.draws } = s) ∧
  (∀ (s : State) (p : Port) (l : Lane) (w : PeakWatch), (s.lane p.val l).watch = some w →
    w.start + s.reg E.PEAK_WATCH_TICKS ≤ s.tick →
    exec (.peakWatchEnd p l) s = .next (s.withLane p.val l
      (if (s.lane p.val l).margin < w.m0 then
        { s.lane p.val l with peak := w.saved.peak, taps := w.saved.taps, watch := none }
      else { s.lane p.val l with watch := none }))) ∧
  (∀ (s : State) (p : Port) (l : Lane) (t0 : Nat), (s.lane p.val l).goodSince = some t0 → t0 + 25000 ≤ s.tick →
    (s.lane p.val l).state = .active → (s.lane p.val l).rate = 2 →
    exec (.coeffSetStore p l) s = .next (s.withLane p.val l { s.lane p.val l with
      set200 := some ⟨(s.lane p.val l).peak, (s.lane p.val l).taps⟩, goodSince := some s.tick })) ∧
  (∀ (s : State) (p : Port) (l : Lane) (b : Nat), (s.port p.val).peakBase = some b →
    s.tick < b + (if l = 0 then s.reg E.PEAK_PERIOD_TICKS else l.val * s.reg E.PEAK_PERIOD_TICKS / 4) →
    exec (.peakPeriod p l) s = .next s) ∧
  (∀ (s : State) (p : Port) (l : Lane) (x : PortSt),
    (s.port p.val).beginPeriod l (s.reg E.PEAK_PERIOD_TICKS) s.tick = some x →
    s.flag E.PEAK_ADAPT = true → (x.lane l).state = .active →
    x.handover = none → (x.lane l).trialEnd = none → (x.lane l).watch = none →
    ((∀ up, (x.lane l).peakOpen up = false) →
      exec (.peakPeriod p l) s = .next ((s.withPort p.val x).withLane p.val l { x.lane l with
        blockUp := (x.lane l).blockUp - 1, blockDown := (x.lane l).blockDown - 1 })) ∧
    ((x.lane l).lastUp = none → (x.lane l).blockUp = 0 → (x.lane l).peak < 31 →
      ∃ t, exec (.peakPeriod p l) s = .next t ∧ (t.lane p.val l).peak = (s.lane p.val l).peak + 1 ∧
        (t.lane p.val l).taps = .adapted (Config.freeTaps s.draws) ∧ (t.lane p.val l).lastUp = some true ∧
        (∃ w, (t.lane p.val l).watch = some w ∧ w.start = s.tick ∧ w.m0 = (s.lane p.val l).margin ∧ w.up = true ∧
          w.saved = ⟨(s.lane p.val l).peak, (s.lane p.val l).taps⟩) ∧
        (∀ k, k ≠ l → t.lane p.val k = s.lane p.val k) ∧ s.portsBut t p.val ∧
        { t with ports := s.ports, draws := s.draws } = s))

/-- R91 to R97: a lane whose margin has stayed below MARGIN_LOW for DROP_HOLD_TICKS undoes a peaking step under watch and
begins a hand-over to 100 Gbit/s with switch tick 256 ahead; so does a refused lane 256 ticks after the refusal; its request
goes out in the tick after; the responder withdraws a request of its own that ranks second, takes up what it accepts and
answers; and the initiator's answer accepts, puts off or turns down the hand-over.
Where the manual leaves it open the statement follows the model: log entries 3, 34, 35, 165 and 170. -/
def Obligations.RateHandOverRequests : Prop :=
  (∀ (s : State) (p : Port) (l : Lane) (t0 : Nat), (s.port p.val).state = .up → (s.port p.val).handover = none →
    (s.port p.val).sleepTs = none → s.power.sleep ≠ .entering → s.reg (E.FABRIC_LEVEL p.val) ≠ 2 →
    (s.port p.val).striping ≠ [l] → (s.lane p.val l).state = .active → (s.lane p.val l).rate = 2 →
    (s.lane p.val l).askOff = false → s.flag E.LANE_AUTO_RATE = true → s.moduleBoth p.val = true →
    (s.lane p.val l).lowSince = some t0 → t0 + s.reg E.DROP_HOLD_TICKS ≤ s.tick →
    ((s.lane p.val l).retryAt = none →
      exec (.laneRateReqSend p l) s = .next (s.dev ((s.toDev.updLane p.val l LaneSt.undoPeak).askRate p.val l .g100 false))) ∧
    (∀ r, (s.lane p.val l).retryAt = some r → r ≤ s.tick →
      exec (.handoverRetry p l) s = .next (s.dev
        (((s.toDev.updLane p.val l (fun y => { y with retryAt := none })).updLane p.val l LaneSt.undoPeak).askRate p.val l .g100 false)))) ∧
  (∀ (s : State) (p : Port) (l : Lane) (g : RateTarget) (r : Bool),
    ((s.toDev.askRate p.val l g r).port p.val).handover = some
        { lane := l, target := g, ts := s.tick + 256, initiator := true, accepted := false, sendAt := some (s.tick + 1), restore := r } ∧
    (s.toDev.askRate p.val l g r).out = s.out) ∧
  (∀ (s : State) (p : Port) (h : Handover) (t0 : Nat), (s.port p.val).handover = some h → h.sendAt = some t0 →
    (s.tick < t0 → s.toDev.sendRequest p.val = s.toDev) ∧
    (t0 ≤ s.tick → s.canSend p.val = true → (s.port p.val).kept.length < 1024 → s.fenced = false →
      s.txIdle p.val (s.pickLane p.val) = false →
      ∃ c, c = (mkCtl tCtrl (s.peerAddr p.val) (s.ownAddr 0xFF) 0x01 0
          (beBytes 1 h.lane.val ++ beBytes 1 (targetCode h.target) ++ beBytes 8 h.ts)).setFld 62 14 (s.port p.val).txLseq ∧
        ((s.toDev.sendRequest p.val).port p.val).handover = some { h with sendAt := none } ∧
        (s.toDev.sendRequest p.val).out = s.out ++
          [.cell s.tick (portFin p.val) (s.pickLane p.val) c (cellCrc c) (s.lane p.val (s.pickLane p.val)).txBad])) ∧
  (∀ (s : State) (p : Port) (h : Handover), (s.port p.val).handover = some h → h.initiator = true → h.accepted = false →
    s.peerSerial p.val < s.ownSerial → ((s.toDev.yieldRequest p.val).port p.val).handover = none) ∧
  (∀ (s : State) (p : Port) (c : Cell), targetOf (c.pay 1 1) = none →
    exec (.laneRateReq p c) s = .next (s.dev (s.toDev.malformed p.val c))) ∧
  (∀ (s : State) (p : Port) (c : Cell) (g : RateTarget), targetOf (c.pay 1 1) = some g →
    let d := s.toDev.yieldRequest p.val
    let a := d.rateAnswer p.val (Fin.ofNat 4 (c.pay 0 1)) g (c.pay 2 8)
    (a = 0 → exec (.laneRateReq p c) s = .next (s.dev ((d.setPort p.val { d.port p.val with
        handover := some { lane := Fin.ofNat 4 (c.pay 0 1), target := g, ts := c.pay 2 8, initiator := false, accepted := true } }).sendLocal
          p.val 0x02 (beBytes 1 (c.pay 0 1 % 4) ++ beBytes 1 0)))) ∧
    (a ≠ 0 → exec (.laneRateReq p c) s = .next (s.dev
        (d.sendLocal p.val 0x02 (beBytes 1 (c.pay 0 1 % 4) ++ beBytes 1 a))))) ∧
  (∀ (s : State) (p : Port) (c : Cell) (h : Handover), (s.port p.val).handover = some h → h.initiator = true →
    h.accepted = false → h.sendAt = none → h.lane.val = c.pay 0 1 →
    (c.pay 1 1 = 0 → exec (.laneRateAns p c) s = .next
      (s.withPort p.val { s.port p.val with handover := some { h with accepted := true } })) ∧
    (c.pay 1 1 = 1 ∨ c.pay 1 1 = 2 → exec (.laneRateAns p c) s = .next
      ((s.withPort p.val { s.port p.val with handover := none }).withLane p.val h.lane
        { s.lane p.val h.lane with retryAt := some (s.tick + 256) })) ∧
    (c.pay 1 1 = 3 → h.target = .g200 → exec (.laneRateAns p c) s = .next
      ((s.withPort p.val { s.port p.val with handover := none }).withLane p.val h.lane
        { s.lane p.val h.lane with noRestore := true })) ∧
    (c.pay 1 1 = 3 → h.target = .g100 →
      let t := (s.withPort p.val { s.port p.val with handover := none }).withLane p.val h.lane
        { s.lane p.val h.lane with askOff := true }
      exec (.laneRateAns p c) s = .next
        (if (s.port p.val).striping = [h.lane] then t else s.dev (t.toDev.askRate p.val h.lane .off false))))

/-- R87, R93, R98 to R100 and R103: at the switch tick an accepted hand-over to OFF fails the lane and any other parks it at
the new rate with its join tick 5,000 later (on a cable), and one never accepted fails a lane in striping and leaves a
FAILED one; the capacity that is left reaches the spraying logic at once; a retuned lane with margin tells its partner it is
ready; with both ready the lane joins at the join tick, and without it a lane asked for 100 Gbit/s fails; and the trial of a
restored lane ends with no trace.
Where the manual leaves it open the statement follows the model: log entries 3, 34 and 35. -/
def Obligations.RateHandOverSwitches : Prop :=
  (∀ (s : State) (p : Port) (h : Handover), (s.port p.val).handover = some h → h.tj = none → h.ts ≤ s.tick →
    (h.accepted = false → (s.lane p.val h.lane).state = .active →
      ∃ t, exec (.handoverPark p) s = .next t ∧ (t.lane p.val h.lane).state = .failed ∧
        (t.port p.val).handover = none ∧ (∀ k, k ≠ h.lane → t.lane p.val k = s.lane p.val k) ∧ s.portsBut t p.val ∧
        s.regsBut t [E.GAPS p.val] ∧ t.arrivals = s.arrivals ++ [Arrival.mk s.sampledAt (.link p.val)] ∧
        { t with ports := s.ports, regs := s.regs, out := s.out, arrivals := s.arrivals, draws := s.draws } = s) ∧
    (h.accepted = false → (s.lane p.val h.lane).state ≠ .active →
      exec (.handoverPark p) s = .next (s.withPort p.val { s.port p.val with handover := none })) ∧
    (h.accepted = true → h.target = .off → ∃ t, exec (.handoverPark p) s = .next t ∧
      (t.lane p.val h.lane).state = .failed ∧ (t.port p.val).handover = none ∧
      t.reg (E.RATE_DROPS p.val h.lane.val) = (s.reg (E.RATE_DROPS p.val h.lane.val) + 1) % 2 ^ 64 ∧
      (t.port p.val).passedCap = (t.port p.val).capacity ∧
      (∀ k, k ≠ h.lane → t.lane p.val k = s.lane p.val k) ∧ s.portsBut t p.val ∧
      s.regsBut t [E.RATE_DROPS p.val h.lane.val, E.GAPS p.val] ∧
      { t with ports := s.ports, regs := s.regs, out := s.out, arrivals := s.arrivals, draws := s.draws } = s) ∧
    (h.accepted = true → h.target ≠ .off → s.isModule p.val = false → ∃ t, exec (.handoverPark p) s = .next t ∧
      (t.lane p.val h.lane).state = .parked ∧ (t.lane p.val h.lane).rate = targetCode h.target ∧
      (t.port p.val).handover = some { h with tj := some (h.ts + 5000) } ∧
      (t.port p.val).passedCap = (t.port p.val).capacity ∧
      (h.target = .g100 → t.reg (E.RATE_DROPS p.val h.lane.val) = (s.reg (E.RATE_DROPS p.val h.lane.val) + 1) % 2 ^ 64) ∧
      (h.target = .g200 → t.reg (E.RATE_RESTORES p.val h.lane.val) = (s.reg (E.RATE_RESTORES p.val h.lane.val) + 1) % 2 ^ 64) ∧
      (∀ k, k ≠ h.lane → t.lane p.val k = s.lane p.val k) ∧ s.portsBut t p.val ∧
      s.regsBut t [E.RATE_DROPS p.val h.lane.val, E.RATE_RESTORES p.val h.lane.val, E.GAPS p.val] ∧
      { t with ports := s.ports, regs := s.regs, out := s.out } = s)) ∧
  (∀ (s : State) (p : Port) (h : Handover) (tj : Nat), (s.port p.val).handover = some h → h.tj = some tj →
    (h.readySent = false → (s.lane p.val h.lane).lol = false → 0 < (s.lane p.val h.lane).windows →
      s.reg E.MARGIN_LOW ≤ (s.lane p.val h.lane).margin →
      exec (.laneReadySend p) s = .next (s.dev ((s.toDev.setPort p.val { s.port p.val with
        handover := some { h with readySent := true } }).sendLocal p.val 0x03 (beBytes 1 h.lane.val)))) ∧
    (tj ≤ s.tick → h.readySent = true → h.readyRcvd = true → h.target = .g100 →
      ∃ t, exec (.handoverJoin p) s = .next t ∧ (t.port p.val).handover = none ∧
        t.lane p.val h.lane = (s.lane p.val h.lane).join 1 ∧ (t.port p.val).passedCap = (t.port p.val).capacity ∧
        (∀ k, k ≠ h.lane → t.lane p.val k = s.lane p.val k) ∧ s.portsBut t p.val ∧ { t with ports := s.ports } = s) ∧
    (tj ≤ s.tick → h.readySent = true → h.readyRcvd = true → h.target = .g200 →
      ∃ t, exec (.handoverJoin p) s = .next t ∧ (t.port p.val).handover = none ∧ (t.lane p.val h.lane).state = .active ∧
        (t.lane p.val h.lane).rate = 2 ∧ (t.lane p.val h.lane).trialEnd = some (tj + s.reg E.RESTORE_TRIAL_TICKS) ∧
        (t.port p.val).passedCap = (t.port p.val).capacity ∧
        (∀ k, k ≠ h.lane → t.lane p.val k = s.lane p.val k) ∧ s.portsBut t p.val ∧ { t with ports := s.ports } = s) ∧
    (tj ≤ s.tick → (h.readySent && h.readyRcvd) = false → h.target = .g200 → s.isModule p.val = false →
      ∃ t, exec (.handoverJoin p) s = .next t ∧ (t.lane p.val h.lane).rate = 1 ∧
        (t.lane p.val h.lane).state = (s.lane p.val h.lane).state ∧ (t.port p.val).handover = some { h with
          target := .g100, tj := some (tj + 5000), readySent := false, readyRcvd := false } ∧
        (∀ k, k ≠ h.lane → t.lane p.val k = s.lane p.val k) ∧ s.portsBut t p.val ∧ { t with ports := s.ports } = s) ∧
    (tj ≤ s.tick → (h.readySent && h.readyRcvd) = false → h.target = .g100 →
      ∃ t, exec (.handoverJoin p) s = .next t ∧ (t.port p.val).handover = none ∧
        (t.lane p.val h.lane).state = .failed ∧ (∀ k, k ≠ h.lane → t.lane p.val k = s.lane p.val k) ∧ s.portsBut t p.val ∧
        { t with ports := s.ports, arrivals := s.arrivals, draws := s.draws } = s)) ∧
  (∀ (s : State) (p : Port) (c : Cell) (h : Handover), (s.port p.val).handover = some h → h.lane.val = c.pay 0 1 →
    exec (.laneReady p c) s = .next (s.withPort p.val { s.port p.val with handover := some { h with readyRcvd := true } })) ∧
  (∀ (s : State) (p : Port) (l : Lane) (e : Nat), (s.lane p.val l).trialEnd = some e → e ≤ s.tick →
    exec (.restoreTrialEnd p l) s = .next (s.withLane p.val l { s.lane p.val l with trialEnd := none, restoreHold := none }))

/-- R104, R105, R108 to R110 and R150: a squelch whose count of ticks has passed ends, and one tick of a transmitter's
squelch counts towards it; received codewords that an injection corrupts reach the lane's FEC counters; a checker in TEST
locks on 1024 bits without an error, counts what it checks, and loses lock past 256 errors in 4096 bits, and in a near loop
counts its own generator's flips; a module's interrupt has its flags and monitors read, on bus m div 8 with MODSEL_N low (R650; log entry 200), and is sampled as
MODULE_FLAG; a module plugged in is read and set up; and its data paths are ready when it says so.
Where the manual leaves it open the statement follows the model: log entries 3, 36, 37, 174, 175, 176 and 200. -/
def Obligations.TestLanesAndModules : Prop :=
  (∀ (s : State) (p : Port) (l : Lane) (j : LaneInject), (s.lane p.val l).inject = some j →
    (j.kind = 6 → j.count ≤ j.done →
      exec (.txSquelchEnd p l) s = .next (s.withLane p.val l { s.lane p.val l with inject := none })) ∧
    (j.kind = 6 → j.done < j.count → ∃ k, ((s.toDev.injectTick p.val l).lane p.val l).inject = some k ∧
      k.done = j.done + min (j.count - j.done) (j.acc + 1) ∧ s.toDev.injectLeft p.val l = j.count - j.done) ∧
    (j.kind = 2 → j.done < j.count →
      let n := min (j.count - j.done) ((j.acc + (s.toDev.injectStep p.val l 2).1) / 32)
      (s.toDev.injectTick p.val l).reg (E.FEC_CORR_SYMBOLS p.val l.val) =
        (s.reg (E.FEC_CORR_SYMBOLS p.val l.val) + n * j.symbols) % 2 ^ 64)) ∧
  (∀ (s : State) (p : Port) (l : Lane) (n : BitVec 64) (e : BitVec 32) (locked : Bool), (s.lane p.val l).state = .test →
    bits (s.reg (E.TEST_MODE p.val l.val)) 1 1 = 1 →
    let err := if s.nearLoop p.val l = true then (s.lane p.val l).flips else e.toNat
    let d := s.toDev.updLane p.val l (fun y => { y with flips := 0 })
    (s.reg (E.CHECK_LOCK p.val l.val) = 0 →
      exec (.checkerLock p l locked n e) s = .next (s.dev
        (if locked = true ∧ 1024 ≤ n.toNat ∧ err = 0 then d.setReg (E.CHECK_LOCK p.val l.val) 1 else d))) ∧
    (s.reg (E.CHECK_LOCK p.val l.val) ≠ 0 → s.reg (E.CHECK_ERRORS p.val l.val) + err < 0xFFFFFFFF →
      ∃ t, exec (.checkerLock p l locked n e) s = .next t ∧
        t.reg (E.CHECK_LOCK p.val l.val) = (if 256 < err ∧ (locked = false ∨ n.toNat ≤ 4096) then 0 else 1) ∧
        t.reg (E.CHECK_BITS p.val l.val) = (s.reg (E.CHECK_BITS p.val l.val) + n.toNat) % 2 ^ 64 ∧
        t.reg (E.CHECK_ERRORS p.val l.val) = s.reg (E.CHECK_ERRORS p.val l.val) + err ∧
        s.regsBut t [E.CHECK_LOCK p.val l.val, E.CHECK_BITS p.val l.val, E.CHECK_ERRORS p.val l.val] ∧
        { t with regs := s.regs } = s.dev d)) ∧
  (∀ (s : State) (m : Fin 32) (p : Nat), s.portOfSite m.val = some p → s.isModule p = true →
    exec (.moduleInterrupt m) s = .next (s.dev ((s.toDev.cmis p [.readFlags, .readMonitors]).sample
      (bark 0x0C03 accNone iniHkp false p 0))) ∧
    ((tgetD s.modules m.val {}).present = true →
      (s.toDev.cmis p [.readFlags, .readMonitors]).out = s.out ++ [.modsel s.tick m.val false,
        .cmis s.tick (m.val / 8) m.val .readFlags, .cmis s.tick (m.val / 8) m.val .readMonitors, .modsel s.tick m.val true]) ∧
    maskHas ((s.toDev.cmis p [.readFlags, .readMonitors]).sample (bark 0x0C03 accNone iniHkp false p 0)).ints.pending 0x02 =
      (maskHas s.ints.pending 0x02 || !maskHas (s.reg E.CORR_MASK) 0x0C)) ∧
  (∀ (s : State) (m : Fin 32) (a : ModuleAdvert) (p : Nat), s.portOfSite m.val = some p → s.isModule p = true →
    ∃ t, exec (.modulePresence m true a) s = .next t ∧ (tgetD t.modules m.val {}).present = true ∧
      (tgetD t.modules m.val {}).advert = a ∧ (tgetD t.modules m.val {}).dpReady = false ∧
      (∀ k, k ≠ m.val → tget t.modules k = tget s.modules k) ∧
      (let b := m.val / 8
       s.out ++ [.modsel s.tick m.val false, .cmis s.tick b m.val (.readPage 0x00), .cmis s.tick b m.val (.readPage 0x01),
         .cmis s.tick b m.val (.readPage 0x02), .cmis s.tick b m.val (.readPage 0x10), .cmis s.tick b m.val (.readPage 0x11)] <+: t.out) ∧
      s.portsBut t p ∧ (∀ l : Lane, (t.lane p l).noRestore = false ∧ (t.lane p l).state = (s.lane p l).state) ∧
      { t with modules := s.modules, ports := s.ports, out := s.out } = s) ∧
  (∀ (s : State) (m : Fin 32) (a : ModuleAdvert), s.portOfSite m.val = none →
    exec (.modulePresence m false a) s = .next (s.dev { s.toDev with
      modules := tset s.modules m.val { present := false, advert := ⟨false, false, false, 0⟩ } })) ∧
  (∀ (s : State) (p : Port) (m : Nat), s.siteOf p.val = some m → (tgetD s.modules m {}).present = true →
    exec (.moduleDatapathReady p) s = .next (s.dev { s.toDev with
      modules := tset s.modules m { tgetD s.modules m {} with dpReady := true } }))

/-! ## Ports and links (R115 to R163) -/

/-- R118, R126, R132 to R135, R137 and R138: a cell with a bad CRC is counted and goes nowhere; a good cell that carries no
sequence number is handed to its consumer as it comes, and so is a link-local cell that comes in its turn, which moves the
expected LSEQ on; a LINK cell goes out after 64 ticks without one, in UP, in KEEPALIVE and in QUARANTINE, and NULL fills the
idle slots of an UP port's lanes; a park marker shows the next LSEQ and takes its lane out of the gap rule; and a LINK cell
sets the grants and lets go of the kept cells it acknowledges.
Where the manual leaves it open the statement follows the model: log entries 3, 42, 44, 132 and 172. -/
def Obligations.CellReception : Prop :=
  (∀ (s : State) (p : Port) (l : Lane) (bytes : List Byte), (s.port p.val).state ≠ .off → s.sentry.inject = none →
    (s.lane p.val l).state ≠ .test → (s.lane p.val l).inject = none →
    (parseCell bytes = none → s.reg (E.CRC_ERRORS p.val) < 0xFFFFFFFE →
      ∃ t, exec (.cellReceive p l bytes) s = .next t ∧
        t.reg (E.CRC_ERRORS p.val) = s.reg (E.CRC_ERRORS p.val) + 1 ∧ t.port p.val = (s.port p.val).breakRun l ∧
        s.portsBut t p.val ∧ s.regsBut t [E.CRC_ERRORS p.val] ∧ { t with ports := s.ports, regs := s.regs } = s) ∧
    (∀ c, parseCell bytes = some c → (s.port p.val).carries l = true → (s.port p.val).checkLane = l → c.malformedForm = false →
      (c.sequenced = false → c.type ≠ tNull → c.type ≠ tPark →
        ∃ t, exec (.cellReceive p l bytes) s = .next t ∧ t.out = s.out ++ [.deliver s.tick (portFin p.val) c] ∧
          t.port p.val = { (if c.type = tTrain then s.port p.val else (s.port p.val).breakRun l) with lastGood := s.tick } ∧
          s.portsBut t p.val ∧ { t with ports := s.ports, out := s.out } = s) ∧
      (c.sequenced = true → c.linkLocal = true → c.takesCredit = false → c.lseq = (s.port p.val).rxNext →
        (s.port p.val).held = [] → s.reg E.SAMPLE_SHIFT = 0 → s.levelForbids p.val c = false → s.formForbids p.val c = false →
        snapCommand c = false →
        ∃ t, exec (.cellReceive p l bytes) s = .next t ∧ (t.port p.val).rxNext = ((s.port p.val).rxNext + 1) % 16384 ∧
          (t.port p.val).held = [] ∧ Out.deliver s.tick (portFin p.val) c ∈ t.out ∧ s.portsBut t p.val ∧
          s.regsBut t [E.GAPS p.val] ∧ { t with ports := s.ports, out := s.out, regs := s.regs } = s))) ∧
  (∀ (s : State) (p : Port), s.fenced = false →
    ((s.port p.val).state = .up ∨ (s.port p.val).state = .keepalive ∨ (s.port p.val).state = .quarantine →
      (s.port p.val).lastLink + 64 ≤ s.tick → s.txIdle p.val (s.port p.val).checkLane = false →
      let c := mkLinkCell tLink 0 (s.linkPayload p.val)
      exec (.linkSend p) s = .next (s.dev ((s.toDev.setPort p.val { s.port p.val with
        sinceLink := 0, firstUnacked := none, lastLink := s.tick }).emit
          (.cell s.tick (portFin p.val) (s.port p.val).checkLane c (cellCrc c) (s.lane p.val (s.port p.val).checkLane).txBad)))) ∧
    ((s.port p.val).state = .up → (∀ l : Lane, (s.lane p.val l).state ≠ .train) →
      (∀ l ∈ (s.port p.val).striping, s.txIdle p.val l = false) →
      let c := mkLinkCell tNull (s.port p.val).txLseq []
      s.toDev.fillPort p.val = { s.toDev with out := s.out ++ (s.port p.val).striping.map (fun l =>
        .cell s.tick (portFin p.val) l c (cellCrc c) (s.lane p.val l).txBad) })) ∧
  (∀ (s : State) (p : Port) (l : Lane) (c : Cell), c.type = tPark → (s.port p.val).gapOpen = true →
    exec (.parkCell p l c) s = .next (s.withPort p.val (((s.port p.val).show l c.lseq).setLane l { s.lane p.val l with
      parkSeen := (s.lane p.val l).state = .active, trailing := false }))) ∧
  (∀ (s : State) (p : Port) (c : Cell) (k : Kept),
    (s.port p.val).state = .up ∨ (s.port p.val).state = .keepalive ∨ (s.port p.val).state = .quarantine →
    (s.port p.val).kept = [k] → k.slot = none → (s.port p.val).txq = [] → c.pay 2 2 = (s.port p.val).peerNak →
    ∃ t, exec (.linkCell p c) s = .next t ∧
      (t.port p.val).tx = { (s.port p.val).tx with grant := (List.range 13).map (fun i => c.pay (4 + 2 * i) 2) } ∧
      (c.pay 0 2 / 4 = (k.lseq + 1) % 16384 → k.lseq < 16384 → (t.port p.val).kept = []) ∧
      (c.pay 0 2 / 4 = k.lseq → (t.port p.val).kept = [k]) ∧
      (t.port p.val).state = (s.port p.val).state ∧ (t.port p.val).rxNext = (s.port p.val).rxNext ∧
      s.portsBut t p.val ∧ { t with ports := s.ports } = s) ∧
  (∀ (s : State) (p : Port) (c : Cell), (s.port p.val).state = .lanes → (s.port p.val).lanesEndSent = true →
    (s.port p.val).kept = [] → (s.port p.val).txq = [] →
    ∃ t, exec (.linkCell p c) s = .next t ∧ (t.port p.val).state = .up ∧ t.reg (E.UP_TICK p.val) = s.tick ∧
      (t.port p.val).tx.grant = (List.range 13).map (fun i => c.pay (4 + 2 * i) 2) ∧
      t.arrivals = s.arrivals ++ [Arrival.mk s.sampledAt (.link p.val)] ∧ s.portsBut t p.val ∧
      s.regsBut t [E.UP_TICK p.val] ∧ t.dedWait = s.dedWait.filter (· != p.val) ∧
      t.dedOld = (if t.dedWait = [] then [] else s.dedOld) ∧
      { t with ports := s.ports, regs := s.regs, arrivals := s.arrivals, draws := s.draws, dedOld := s.dedOld, dedWait := s.dedWait } = s)

/-- R137, R150, R153, R154 and R637: at the replay timeout every kept cell goes out again in order; a port without a good
cell for 192 ticks is lost to DETECT, counted and reported; one in IDENT without an IDENT, at the end of LANES without
lane 0, or at the end of RECOVER goes back to DETECT, and one that has ended LANES waits on; and one in DETECT with a plan is
ABSENT after ABSENT_TICKS.
Where the manual leaves it open the statement follows the model: log entries 3 and 42. -/
def Obligations.ReplayAndPortTimeouts : Prop :=
  (∀ (s : State) (p : Port) (k : Kept) (r : List Kept), (s.port p.val).state = .up → (s.port p.val).kept = k :: r →
    k.sentAt + s.replayTimeout p.val ≤ s.tick → (s.port p.val).resends + 1 < s.reg E.REPLAY_LIMIT →
    s.reg E.SAMPLE_SHIFT = 0 → s.fenced = false → s.sentry.inject = none → (s.port p.val).striping ≠ [] →
    (∀ l ∈ (s.port p.val).striping, s.txIdle p.val l = false) →
    ∃ t ls, exec (.replayTimeout p) s = .next t ∧ ls.length = (s.port p.val).kept.length ∧
      (∀ l ∈ ls, l ∈ (s.port p.val).striping) ∧
      t.out = s.out ++ List.zipWith (fun k l =>
        .cell s.tick (portFin p.val) l k.cell (cellCrc k.cell) (s.lane p.val l).txBad) (s.port p.val).kept ls ∧
      t.port p.val = { s.port p.val with resends := (s.port p.val).resends + 1,
                                         kept := (s.port p.val).kept.map (fun k => { k with sentAt := s.tick }) } ∧
      t.reg (E.REPLAYS p.val) = (s.reg (E.REPLAYS p.val) + 1) % 2 ^ 64 ∧
      t.reg (E.REPLAY_CELLS p.val) = (s.reg (E.REPLAY_CELLS p.val) + (s.port p.val).kept.length) % 2 ^ 64 ∧
      s.regsBut t [E.REPLAYS p.val, E.REPLAY_CELLS p.val] ∧ s.portsBut t p.val ∧
      { t with ports := s.ports, regs := s.regs, out := s.out, draws := s.draws } = s) ∧
  (∀ (s : State) (p : Port), s.queuedTo p.val = false → (∀ k ∈ (s.port p.val).kept, k.slot = none) →
    let x := s.port p.val
    (x.state.lossApplies = true → x.lastGood + 192 ≤ s.tick → s.ctxs = [] → s.reg (E.PORT_LOSSES p.val) < 0xFFFFFFFE →
      ∃ t, exec (.portLossTimeout p) s = .next t ∧ (t.port p.val).state = .detect ∧ (t.port p.val).kept = [] ∧
        t.reg (E.PORT_LOSSES p.val) = s.reg (E.PORT_LOSSES p.val) + 1 ∧ t.reg (E.FABRIC_LEVEL p.val) = 0 ∧
        tget t.discovery p.val = some { tick := s.tick } ∧
        t.arrivals = s.arrivals ++ [Arrival.mk s.sampledAt (.link p.val)] ∧ s.portsBut t p.val ∧
        s.regsBut t [E.PORT_LOSSES p.val, E.FABRIC_LEVEL p.val] ∧
        { t with ports := s.ports, regs := s.regs, siteEff := s.siteEff, discovery := s.discovery, arrivals := s.arrivals,
                 draws := s.draws, out := s.out, modules := s.modules } = s) ∧
    (x.state = .ident → x.lastIdent + s.reg E.IDENT_TIMEOUT_TICKS ≤ s.tick →
      ∃ t, exec (.identTimeout p) s = .next t ∧ (t.port p.val).state = .detect ∧ (t.port p.val).since = s.tick ∧
        t.reg (E.FABRIC_LEVEL p.val) = 0 ∧ s.portsBut t p.val ∧ s.regsBut t [E.FABRIC_LEVEL p.val] ∧
        { t with ports := s.ports, regs := s.regs, siteEff := s.siteEff, discovery := s.discovery, out := s.out,
                 modules := s.modules } = s) ∧
    (x.state = .lanes → x.lanesEndSent = true → s.ctxs = [] → exec (.lanesTimeout p) s = .next s) ∧
    (x.since + s.reg E.LANES_TIMEOUT_TICKS ≤ s.tick → s.ctxs = [] →
      (x.state = .recover ∨ x.state = .lanes ∧ x.lanesEndSent = false ∧ x.lane0.bothReady = false) →
      ∃ t, exec (.lanesTimeout p) s = .next t ∧ (t.port p.val).state = .detect ∧
        t.arrivals = s.arrivals ++ [Arrival.mk s.sampledAt (.link p.val)] ∧ s.portsBut t p.val ∧
        s.regsBut t [E.FABRIC_LEVEL p.val] ∧
        { t with ports := s.ports, regs := s.regs, siteEff := s.siteEff, discovery := s.discovery, arrivals := s.arrivals,
                 draws := s.draws, out := s.out, modules := s.modules } = s)) ∧
  (∀ (s : State) (p : Port), (s.port p.val).state = .detect → (s.port p.val).since + s.reg E.ABSENT_TICKS ≤ s.tick →
    planKind (s.planEntry (s.logical p.val)) ≠ 0 →
    ∃ t, exec (.portAbsent p) s = .next t ∧ t.port p.val = { s.port p.val with state := .absent } ∧
      tget t.discovery p.val = some { outcome := 2, tick := s.tick } ∧
      t.arrivals = s.arrivals ++ [Arrival.mk s.sampledAt (.link p.val)] ∧ s.portsBut t p.val ∧
      { t with ports := s.ports, discovery := s.discovery, arrivals := s.arrivals, draws := s.draws } = s)

/-- R127, R148 to R153: the eighth TRAIN cell in a row on a locked lane 0 takes DETECT to IDENT; IDENT is sent every 16
ticks; the partner's IDENT is kept, and both ACCEPTs start the 512 ticks after which LANES trains every lane at the link's
rate; either REJECT quarantines the port; and after a stall LANES ends with the lanes that are ready in striping.
Where the manual leaves it open the statement follows the model: log entry 3. -/
def Obligations.IdentityAndTraining : Prop :=
  (∀ (s : State) (p : Port) (c : Cell) (inv : Bool), (s.port p.val).state = .detect → (s.port p.val).lane0.los = false →
    (s.port p.val).lane0.lol = false → (s.port p.val).lane0.state ≠ .test →
    ((s.port p.val).trainRun + 1 < 8 → ∃ t, exec (.trainCell p 0 c inv) s = .next t ∧
      t.port p.val = { s.port p.val with trainRun := (s.port p.val).trainRun + 1, lastGood := s.tick } ∧
      bits (t.reg (E.RX_POLARITY p.val)) 0 1 = (if inv then 1 else 0) ∧ s.regsBut t [E.RX_POLARITY p.val] ∧
      s.portsBut t p.val ∧ { t with ports := s.ports, regs := s.regs } = s) ∧
    (8 ≤ (s.port p.val).trainRun + 1 → s.queuedTo p.val = false →
      ∃ t, exec (.trainCell p 0 c inv) s = .next t ∧ (t.port p.val).state = .ident ∧ (t.port p.val).lastIdent = s.tick ∧
        t.reg (E.LANE0_MISWIRED p.val) = 0 ∧ tget t.discovery p.val = some { tick := s.tick } ∧ s.portsBut t p.val ∧
        s.regsBut t [E.RX_POLARITY p.val, E.LANE0_MISWIRED p.val] ∧
        { t with ports := s.ports, regs := s.regs, discovery := s.discovery, out := s.out } = s)) ∧
  (∀ (s : State) (p : Port), (s.port p.val).state = .ident → (s.port p.val).verdict = 0 → s.fenced = false →
    ((s.port p.val).identSent = none ∨ ∃ e, (s.port p.val).identSent = some e ∧ e + 16 ≤ s.tick) →
    s.txIdle p.val 0 = false →
    let c := mkLinkCell tIdent 0 (s.identPayload p.val 0)
    exec (.identSend p) s = .next (s.dev ((s.toDev.setPort p.val { s.port p.val with identSent := some s.tick }).emit
      (.cell s.tick (portFin p.val) 0 c (cellCrc c) (s.lane p.val 0).txBad)))) ∧
  (∀ (s : State) (p : Port) (c : Cell), (s.port p.val).state = .ident →
    ((s.port p.val).verdict = 0 → ∃ t, exec (.identCell p c) s = .next t ∧ t.blob (E.PEER_IDENT p.val) = c.payload ∧
      (t.port p.val).lastIdent = s.tick ∧ (t.port p.val).state = .ident ∧ (t.port p.val).peerVerdict = c.pay 25 1 ∧
      s.portsBut t p.val ∧ { t with ports := s.ports, blobs := s.blobs } = s) ∧
    ((s.port p.val).verdict = 1 → c.pay 25 1 = 1 → (s.port p.val).acceptSent = true → (s.port p.val).bothAccept = none →
      s.power.sleep = .active → ∃ t, exec (.identCell p c) s = .next t ∧ t.blob (E.PEER_IDENT p.val) = c.payload ∧
        (t.port p.val).state = .ident ∧ (t.port p.val).bothAccept = some s.tick ∧ s.portsBut t p.val ∧
        (s.isModule p.val = false → t.out = s.out ∧ t.modules = s.modules) ∧
        { t with ports := s.ports, blobs := s.blobs, out := s.out, modules := s.modules } = s) ∧
    ((s.port p.val).verdict = 1 → c.pay 25 1 = 2 → s.queuedTo p.val = false →
      ∃ t, exec (.identCell p c) s = .next t ∧ t.blob (E.PEER_IDENT p.val) = c.payload ∧
        (t.port p.val).state = .quarantine ∧ t.arrivals = s.arrivals ++ [Arrival.mk s.sampledAt (.link p.val)] ∧
        s.portsBut t p.val ∧
        { t with ports := s.ports, blobs := s.blobs, arrivals := s.arrivals, draws := s.draws, out := s.out } = s)) ∧
  (∀ (s : State) (p : Port) (t0 : Nat), (s.port p.val).state = .ident → (s.port p.val).bothAccept = some t0 →
    t0 + 512 ≤ s.tick → s.moduleReady p.val = true → s.domainOff .lanes = false →
    ∃ t, exec (.lanesStart p) s = .next t ∧ (t.port p.val).state = .lanes ∧ (t.port p.val).since = s.tick ∧
      t.reg (E.FABRIC_LEVEL p.val) = s.linkLevel p.val ∧
      (∀ l, (s.lane p.val l).state = .off ∨ (s.lane p.val l).state = .keepalive →
        (t.lane p.val l).state = .train ∧ (t.lane p.val l).rate = t.linkRate p.val) ∧
      s.regsBut t [E.FABRIC_LEVEL p.val] ∧ s.portsBut t p.val ∧
      { t with ports := s.ports, regs := s.regs, out := s.out } = s) ∧
  (∀ (s : State) (p : Port) (k : Lane), (s.port p.val).state = .lanes → (s.port p.val).lanesEndSent = false →
    (s.port p.val).progress + 25000 ≤ s.tick → (s.lane p.val 0).bothReady = true → k ≠ 0 → (s.lane p.val k).bothReady = true →
    ∃ t, exec (.lanesStall p) s = .next t ∧
      (∀ l : Lane, ((s.lane p.val l).bothReady = true → (t.lane p.val l).state = .active) ∧
        ((s.lane p.val l).bothReady = false → (s.lane p.val l).state = .train → (t.lane p.val l).state = .failed)) ∧
      (t.port p.val).state = .lanes ∧ (t.port p.val).lanesEndSent = true ∧ s.portsBut t p.val ∧
      { t with ports := s.ports, out := s.out, arrivals := s.arrivals, draws := s.draws, dedOld := s.dedOld,
               dedWait := s.dedWait } = s)

/-- R128, R154 to R157: a KEEP of another partner takes the port to IDENT, and the partner's own changes nothing; KEEP is sent
in KEEPALIVE and QUARANTINE; the later switch tick of two PORT_SLEEPs stands; and at it an UP port enters KEEPALIVE, with
lane 0 at its low rate and the other lanes OFF.
Where the manual leaves it open the statement follows the model: log entry 3. -/
def Obligations.KeepAndPortSleep : Prop :=
  (∀ (s : State) (p : Port) (c : Cell), (s.port p.val).state = .up →
    (c.pay 0 16 = s.peerSerial p.val → c.pay 16 1 = s.peer p.val 20 1 → exec (.keepCell p c) s = .next s) ∧
    (c.pay 0 16 ≠ s.peerSerial p.val ∨ c.pay 16 1 ≠ s.peer p.val 20 1 → s.queuedTo p.val = false →
      ∃ t, exec (.keepCell p c) s = .next t ∧ (t.port p.val).state = .ident ∧ (t.port p.val).kept = (s.port p.val).kept ∧
        t.arrivals = s.arrivals ++ [Arrival.mk s.sampledAt (.link p.val)] ∧ s.portsBut t p.val ∧
        { t with ports := s.ports, discovery := s.discovery, arrivals := s.arrivals, draws := s.draws, out := s.out } = s)) ∧
  (∀ (s : State) (p : Port), (s.port p.val).state = .keepalive ∨ (s.port p.val).state = .quarantine →
    exec (.keepSend p) s = .next (s.dev ((s.toDev.setPort p.val { s.port p.val with keepSent := s.tick }).sendSeq p.val
      (mkCtl tKeep (s.peerAddr p.val) (s.ownAddr 0xFF) 0 0
        (beBytes 16 s.mfg.serial ++ beBytes 1 p.val ++
          beBytes 1 (if (s.port p.val).state = .keepalive then 1 else 2) ++ beBytes 8 s.tick))))) ∧
  (∀ (s : State) (p : Port) (ts : BitVec 64), (s.port p.val).state = .up → (s.port p.val).handover = none →
    s.tick + 256 ≤ ts.toNat →
    exec (.portSleepSend p ts) s = .next (s.dev ((s.toDev.setPort p.val { s.port p.val with
      sleepTs := some (max ts.toNat ((s.port p.val).sleepTs.getD 0)), sleepSent := true }).sendLocal p.val 0x04
        (beBytes 8 ts.toNat)))) ∧
  (∀ (s : State) (p : Port) (c : Cell), (s.port p.val).state = .up →
    exec (.portSleep p c) s = .next (s.withPort p.val { s.port p.val with
      sleepTs := some (max (c.pay 0 8) ((s.port p.val).sleepTs.getD 0)) })) ∧
  (∀ (s : State) (p : Port) (t0 : Nat), (s.port p.val).state = .up → (s.port p.val).sleepTs = some t0 → t0 ≤ s.tick → s.ctxs = [] →
    ∃ t, exec (.portSleepTs p) s = .next t ∧ (t.port p.val).state = .keepalive ∧ (t.port p.val).sleepTs = none ∧
      ((s.port p.val).lane0.state = .active → (t.port p.val).lane0.state = .keepalive ∧
        (t.port p.val).lane0.rate = s.lowRate p.val) ∧
      (∀ l : Lane, l ≠ 0 → (s.lane p.val l).state = .active ∨ (s.lane p.val l).state = .parked ∨ (s.lane p.val l).state = .failed →
        (t.lane p.val l).state = .off) ∧
      (t.port p.val).kept = (s.port p.val).kept ∧ s.portsBut t p.val ∧
      { t with ports := s.ports, out := s.out, modules := s.modules } = s)

/-- R129, R159 and R160: WAKE REQUEST in KEEPALIVE is noted and acknowledged, and in UP takes back a PORT_SLEEP; a port asleep
with traffic asks, and says where a collective start is among it; ACK and READY are noted; READY goes out once the lanes can train; and 256 ticks after READY went both
ways the lanes train.
Where the manual leaves it open the statement follows the model: log entry 3. -/
def Obligations.PortWakes : Prop :=
  (∀ (s : State) (p : Port) (c : Cell), c.pay 0 1 = 1 → s.power.sleep = .active →
    ((s.port p.val).state = .keepalive → exec (.wakeRequest p c) s = .next (s.dev
      ((s.toDev.setPort p.val { s.port p.val with wakeReqRcvd := some ((s.port p.val).wakeReqRcvd.getD s.tick) }).sendWake
        p.val 2 0))) ∧
    ((s.port p.val).state = .up → (s.port p.val).sleepTs ≠ none → exec (.wakeRequest p c) s = .next (s.dev
      ((s.toDev.setPort p.val { s.port p.val with sleepTs := none, sleepSent := false }).sendWake p.val 2 0)))) ∧
  (∀ (s : State) (p : Port), (s.port p.val).state = .keepalive → (s.port p.val).wakeReqSent = false → s.queuedTo p.val = true →
    exec (.wakeRequestSend p) s = .next (s.dev
      ((s.toDev.setPort p.val { s.port p.val with wakeReqSent := true }).sendWake p.val 1
        (if s.startQueuedTo p.val = true then 2 else 1)))) ∧
  (∀ (s : State) (p : Port) (c : Cell), (s.port p.val).state = .keepalive → c.pay 0 1 = 2 →
    exec (.wakeAck p c) s = .next (s.withPort p.val { s.port p.val with wakeAckRcvd := true })) ∧
  (∀ (s : State) (p : Port), (s.port p.val).state = .keepalive → (s.port p.val).wakeReadySent = false →
    (s.port p.val).wakeReqSent = true → (s.port p.val).wakeReadyRcvd = false → s.domainOff .lanes = false →
    exec (.wakeReadySend p) s = .next (s.dev
      ((s.toDev.setPort p.val { s.port p.val with wakeReadySent := true }).sendWake p.val 3 0))) ∧
  (∀ (s : State) (p : Port) (c : Cell), (s.port p.val).state = .keepalive → c.pay 0 1 = 3 →
    exec (.wakeReady p c) s = .next (s.withPort p.val { s.port p.val with
      wakeReadyRcvd := true,
      wakeBoth := (if (s.port p.val).wakeReadySent then some ((s.port p.val).wakeBoth.getD s.tick)
        else (s.port p.val).wakeBoth) })) ∧
  (∀ (s : State) (p : Port) (t0 : Nat), (s.port p.val).state = .keepalive → (s.port p.val).wakeBoth = some t0 →
    t0 + 256 ≤ s.tick →
    ∃ t, exec (.wakeLanesStart p) s = .next t ∧ (t.port p.val).state = .lanes ∧ (t.port p.val).progress = s.tick ∧
      (∀ l, (s.lane p.val l).state = .off ∨ (s.lane p.val l).state = .keepalive → (t.lane p.val l).state = .train) ∧
      t.reg (E.FABRIC_LEVEL p.val) = s.linkLevel p.val ∧ s.regsBut t [E.FABRIC_LEVEL p.val] ∧ s.portsBut t p.val ∧
      { t with ports := s.ports, regs := s.regs, out := s.out, modules := s.modules } = s)

/-! ## What writes do -/

/-- R82, R91, R96, R106, R107, R109, R110 and R114: INJECT arms its kind, symbols and count on a lane that may take it, and is
turned away while a count is left; PEAK_SET sets the code and re-adapts the taps; TEST_MODE and LOOP take a lane that is OFF
into TEST and give it back; MAX_RATE and ELEC_CLASS let every lane try a restore again.
Where the manual leaves it open the statement follows the model: log entries 36, 37 and 38. -/
def Obligations.LaneWrites : Prop :=
  (∀ (s : State) (d : Dev) (p : Port) (l : Lane) (pl : List Byte), pl.length = 4 →
    1 ≤ bits (beNat pl) 28 4 → bits (beNat pl) 28 4 ≤ 6 → bits (beNat pl) 0 24 ≠ 0 →
    (bits (beNat pl) 28 4 = 2 ∨ bits (beNat pl) 28 4 = 4 → bits (beNat pl) 24 4 ≠ 0) →
    (d.injectLeft p.val l = 0 → (d.lane p.val l).state ≠ .off → (bits (beNat pl) 28 4 = 1 → (d.lane p.val l).state = .test) →
      s.takes (E.INJECT p.val l.val) pl d ((d.updLane p.val l (fun y => { y with
        inject := some ⟨bits (beNat pl) 28 4,
          if bits (beNat pl) 28 4 = 3 ∨ bits (beNat pl) 28 4 = 5 then 16 else bits (beNat pl) 24 4,
          bits (beNat pl) 0 24, 0, 0⟩ })).notePins d p.val l)) ∧
    (d.injectLeft p.val l ≠ 0 → s.turnsAway (E.INJECT p.val l.val) pl d .stateConflict)) ∧
  (∀ (s : State) (d : Dev) (p : Port) (l : Lane) (b : Byte), b.toNat ≤ 31 → d.flag E.PEAK_ADAPT = false →
    s.takes (E.PEAK_SET p.val l.val) [b] d
      (((d.setReg (E.PEAK_SET p.val l.val) b.toNat).updLane p.val l (fun y => { y with
        peak := b.toNat, taps := .adapted (Config.freeTaps d.draws), watch := none })).drew)) ∧
  (∀ (s : State) (d : Dev) (p : Port) (l : Lane), (d.lane p.val l).state = .off →
    patternSuits (d.reg (E.PATTERN p.val l.val)) (d.reg (E.TEST_RATE p.val l.val)) = true →
    s.takesTo (E.TEST_MODE p.val l.val) [3] d (fun d1 => (d1.lane p.val l).state = .test ∧
      (d1.lane p.val l).rate = d.reg (E.TEST_RATE p.val l.val) ∧ d1.reg (E.TEST_MODE p.val l.val) = 3 ∧
      d1.reg (E.CHECK_BITS p.val l.val) = 0 ∧ d1.reg (E.CHECK_ERRORS p.val l.val) = 0 ∧ d1.reg (E.CHECK_LOCK p.val l.val) = 0)) ∧
  (∀ (s : State) (d : Dev) (p : Port) (l : Lane), (d.lane p.val l).state = .off → d.reg (E.TEST_MODE p.val l.val) = 0 →
    s.takesTo (E.LOOP p.val l.val) [1] d (fun d1 => (d1.lane p.val l).state = .test ∧ (d1.lane p.val l).leftState = .off)) ∧
  (∀ (s : State) (d : Dev) (p : Port) (l : Lane), (d.lane p.val l).state = .test → d.reg (E.TEST_MODE p.val l.val) = 0 →
    s.takesTo (E.LOOP p.val l.val) [0] d (fun d1 => (d1.lane p.val l).state = (d.lane p.val l).leftState ∧
      (d1.lane p.val l).rate = 0)) ∧
  (∀ (s : State) (d : Dev) (p : Port), d.reg (E.MAX_RATE p.val) = 1 →
    s.takesTo (E.MAX_RATE p.val) [2] d (fun d1 => d1.reg (E.MAX_RATE p.val) = 2 ∧
      ∀ l : Lane, (d1.lane p.val l).noRestore = false ∧ (d1.lane p.val l).state = (d.lane p.val l).state)) ∧
  (∀ (s : State) (d : Dev) (p : Port), (∀ l : Lane, (d.lane p.val l).state = .off) →
    s.takesTo (E.ELEC_CLASS p.val) [0] d (fun d1 => d1.elecClass p.val = 0)) ∧
  (∀ (s : State) (d : Dev) (p : Port), (d.lane p.val 0).state ≠ .off →
    s.turnsAway (E.ELEC_CLASS p.val) [0] d .stateConflict)

/-- R154, R190, R194, R196, R214, R215 and R628 to R640: PORT_ENABLE and RETRAIN move a port; STRAY_RECLAIM frees the strays of
the S-dies named; KENNEL_INJECT arms; FLIP_TICK sets the flip 64 ticks ahead or takes it back; BANK_RETIRE retires a drained
bank; a plan entry is kept; RELEASE takes a quarantined port to IDENT; and REMAP_CLEAR gives every port its own number.
Where the manual leaves it open the statement follows the model: log entry 40. -/
def Obligations.PortAndSwitchWrites : Prop :=
  (∀ (s : State) (d : Dev) (p : Port), d.ctxs = [] → d.queuedTo p.val = false → (∀ k ∈ (d.port p.val).kept, k.slot = none) →
    ((d.port p.val).state = .off → s.takes (E.PORT_ENABLE p.val) [0] d (d.setReg (E.PORT_ENABLE p.val) 0)) ∧
    ((d.port p.val).state = .up → s.takesTo (E.PORT_ENABLE p.val) [0] d (fun d1 => (d1.port p.val).state = .off ∧
      d1.reg (E.PORT_ENABLE p.val) = 0 ∧ (∀ l : Lane, (d1.lane p.val l).state = .off) ∧
      ∀ q, q ≠ p.val → d1.port q = d.port q)) ∧
    ((d.port p.val).state = .off → (d.setReg (E.PORT_ENABLE p.val) 1).mayLeaveOff p.val = true →
      s.takesTo (E.PORT_ENABLE p.val) [1] d (fun d1 => (d1.port p.val).state = .detect ∧ d1.reg (E.PORT_ENABLE p.val) = 1)) ∧
    ((d.port p.val).state = .up → s.takesTo (E.RETRAIN p.val) [1] d (fun d1 => (d1.port p.val).state = .detect ∧
      (d1.port p.val).kept = [] ∧ d1.reg (E.FABRIC_LEVEL p.val) = 0 ∧ ∀ q, q ≠ p.val → d1.port q = d.port q)) ∧
    ((d.port p.val).state = .quarantine → s.takesTo (E.RELEASE p.val) [1] d (fun d1 => (d1.port p.val).state = .ident ∧
      (d1.port p.val).verdict = 0 ∧ ∀ q, q ≠ p.val → d1.port q = d.port q)) ∧
    ((d.port p.val).state ≠ .quarantine → s.turnsAway (E.RELEASE p.val) [1] d .stateConflict)) ∧
  (∀ (s : State) (d : Dev), s.takes E.STRAY_RECLAIM [0, 0, 0, 1] d (d.reclaim 0) ∧
    s.takes E.STRAY_RECLAIM [0, 0, 0, 2] d (d.reclaim 1)) ∧
  (∀ (s : State) (d : Dev) (pl : List Byte), pl.length = 4 → 1 ≤ bits (beNat pl) 28 4 → bits (beNat pl) 28 4 ≤ 5 →
    bits (beNat pl) 16 11 = 0 → bits (beNat pl) 0 16 ≠ 0 →
    (d.reg E.KENNEL_INJECT_LEFT = 0 → s.takes E.KENNEL_INJECT pl d
      { d.setReg E.KENNEL_INJECT_LEFT (bits (beNat pl) 0 16) with
        kinject := some ⟨bits (beNat pl) 28 4, bits (beNat pl) 27 1⟩ }) ∧
    (d.reg E.KENNEL_INJECT_LEFT ≠ 0 → s.turnsAway E.KENNEL_INJECT pl d .stateConflict)) ∧
  (∀ (s : State) (d : Dev) (t : BitVec 64), d.tick + 64 ≤ t.toNat → 0 < t.toNat → d.routing.flipTick = none →
    d.bank (1 - d.ingressEpoch) = .idle →
    s.takes E.FLIP_TICK (beBytes 8 t.toNat) d { d with routing := { d.routing with flipTick := some t.toNat } }) ∧
  (∀ (s : State) (d : Dev), s.takes E.FLIP_TICK (List.replicate 8 0) d { d with routing := { d.routing with flipTick := none } }) ∧
  (∀ (s : State) (d : Dev) (b : Fin 2), d.bank b.val = .draining →
    (d.drainCount b.val = 0 → s.takes E.BANK_RETIRE (beBytes 1 b.val) d (d.setBank b.val .idle)) ∧
    (d.drainCount b.val ≠ 0 → s.turnsAway E.BANK_RETIRE (beBytes 1 b.val) d .stateConflict)) ∧
  (∀ (s : State) (d : Dev) (n : Port) (v : List Byte), v.length = 24 → planKind v ≤ 3 → beNat (slice v 20 4) = 0 →
    beNat (slice v 17 1) ≤ 1 → planReach v = planReach (d.planEntry n.val) → (d.port (d.physical n.val)).state ≠ .detect →
    s.takes (E.PLAN_NEIGHBOUR n.val) v d (d.setBlob (E.PLAN_NEIGHBOUR n.val) v)) ∧
  (∀ (s : State) (d : Dev), d.remapped = [] →
    s.takes E.REMAP_CLEAR [1] d { d with routing := { d.routing with logical := [] } })

/-- R278, R279, R405, R412 and R413: ACTIVATE binds free contexts to the pack with its frontier at FIRST_CSEQ; DEACTIVATE frees
them and is turned away while one collects; ABORT fails what collects; ARM and DISARM move a whistle, DISARM taking back its
queued actions; WHISTLE_COUNT sets its counter; and COMPUTE_INJECT arms.
Where the manual leaves it open the statement follows the model: log entries 65 and 146. -/
def Obligations.PackAndWhistleWrites : Prop :=
  (∀ (s : State) (d : Dev) (p : PackNo), d.refuseActivate p.val = none →
    s.takesTo (E.PACK_CMD p.val) [1] d (fun d1 => ∃ ns,
      tget d1.packs p.val = some ⟨ns, d.reg (E.FIRST_CSEQ p.val), d.membersMask p.val, d.reg (E.HIERARCHY p.val)⟩ ∧
      ns.length ≤ d.reg (E.RESERVE p.val) ∧ (∀ n ∈ ns, tget d1.ctxs n = some { pack := p.val }) ∧
      (∀ n ∈ ns, ∀ e ∈ d.packs, n ∉ e.2.contexts) ∧ ∀ k, k ≠ p.val → tget d1.packs k = tget d.packs k)) ∧
  (∀ (s : State) (d : Dev) (p : PackNo), tget d.packs p.val ≠ none →
    (d.openContexts p.val = 0 → s.takesTo (E.PACK_CMD p.val) [2] d (fun d1 => tget d1.packs p.val = none ∧
      ∀ k, k ≠ p.val → tget d1.packs k = tget d.packs k)) ∧
    (d.openContexts p.val ≠ 0 → s.turnsAway (E.PACK_CMD p.val) [2] d .stateConflict) ∧
    s.takes (E.PACK_CMD p.val) [3] d (d.abortPack p.val)) ∧
  (∀ (s : State) (d : Dev), (d.whistle (d.reg E.WHISTLE_SELECT)).state = .disarmed →
    s.takes E.WHISTLE_CMD [1] d (d.setWhistle (d.reg E.WHISTLE_SELECT)
      { d.whistle (d.reg E.WHISTLE_SELECT) with state := .armed, fires := 0, cleared := 0 })) ∧
  (∀ (s : State) (d : Dev), (d.whistle (d.reg E.WHISTLE_SELECT)).state = .armed →
    s.takesTo E.WHISTLE_CMD [2] d (fun d1 => (d1.whistle (d.reg E.WHISTLE_SELECT)).state = .disarmed ∧
      d1.actions (d.reg E.WHISTLE_SELECT / 4096) = (d.actions (d.reg E.WHISTLE_SELECT / 4096)).filter
        (fun a => !(a.whistle = d.reg E.WHISTLE_SELECT && a.stage = .queued)))) ∧
  (∀ (s : State) (d : Dev) (v : BitVec 32), s.takes E.WHISTLE_COUNT (beBytes 4 v.toNat) d
    (d.setWhistle (d.reg E.WHISTLE_SELECT) { d.whistle (d.reg E.WHISTLE_SELECT) with count := v.toNat })) ∧
  (∀ (s : State) (d : Dev) (pl : List Byte), pl.length = 4 → 1 ≤ bits (beNat pl) 28 4 → bits (beNat pl) 28 4 ≤ 4 →
    bits (beNat pl) 16 10 = 0 → bits (beNat pl) 0 16 ≠ 0 →
    (d.reg E.COMPUTE_INJECT_LEFT = 0 → s.takes E.COMPUTE_INJECT pl d
      { d.setReg E.COMPUTE_INJECT_LEFT (bits (beNat pl) 0 16) with
        cinject := some ⟨bits (beNat pl) 28 4, bits (beNat pl) 26 2⟩ }) ∧
    (d.reg E.COMPUTE_INJECT_LEFT ≠ 0 → s.turnsAway E.COMPUTE_INJECT pl d .stateConflict))

/-- R423, R424, R429, R449, R472 and R473: LOAD copies a descriptor that passes its checks, UNLOAD empties the slot, INIT sets
COMMITTED_STEP, all turned away while contexts use the chain; ABORT, COMMIT and ROLLBACK act on their step and are turned
away once a chain has committed it; and a program slot loads a good image and lets it go.
Where the manual leaves it open the statement follows the model: log entries 98 and 99. -/
def Obligations.ChainAndProgramWrites : Prop :=
  (∀ (s : State) (d : Dev), d.chainUsers (d.reg E.CHAIN_SLOT) ≠ 0 → s.turnsAway E.CHAIN_CMD [1] d .stateConflict ∧
    s.turnsAway E.CHAIN_CMD [2] d .stateConflict ∧ s.turnsAway E.CHAIN_CMD [3] d .stateConflict) ∧
  (∀ (s : State) (d : Dev), (d.chainLoad (d.reg E.CHAIN_SLOT)).1 = none →
    s.takesTo E.CHAIN_CMD [1] d (fun d1 => (d1.chain (d.reg E.CHAIN_SLOT)).error = 0 ∧
      ∃ n, n ≤ 8 ∧
        (d1.chain (d.reg E.CHAIN_SLOT)).desc = memRead d.mem (d.chain (d.reg E.CHAIN_SLOT)).addr (64 + 64 * n))) ∧
  (∀ (s : State) (d : Dev), (d.chain (d.reg E.CHAIN_SLOT)).desc = [] →
    s.takesTo E.CHAIN_CMD [2] d (fun d1 => (d1.chain (d.reg E.CHAIN_SLOT)).desc = [] ∧
      (d1.chain (d.reg E.CHAIN_SLOT)).stash = []) ∧
    s.takesTo E.CHAIN_CMD [3] d (fun d1 => (d1.chain (d.reg E.CHAIN_SLOT)).committed = (d.chain (d.reg E.CHAIN_SLOT)).initStep ∧
      d1.mem = d.mem)) ∧
  (∀ (s : State) (d : Dev) (c : Fin 3) (n : BitVec 48),
    let pl := beBytes 1 (c.val + 1) ++ beBytes 6 n.toNat ++ [0]
    (d.stepCommitted n.toNat = true → s.turnsAway E.STEP_CMD pl d .stateConflict) ∧
    (d.stepCommitted n.toNat = false → d.chains = [] → d.ctxs = [] →
      s.takesTo E.STEP_CMD pl d (fun d1 => d1.mem = d.mem ∧ d1.chains = [] ∧
        (c = 0 → d1.stepFails = d.stepFails.filter (· < n.toNat) ∧ ∀ e ∈ d1.norms, e.1 % 2 ≠ n.toNat % 2) ∧
        (c = 2 → d1.stepFails = d.stepFails.filter (· != n.toNat))))) ∧
  (∀ (s : State) (d : Dev), let x := d.prog (d.reg E.PROG_SLOT)
    (d.progUsers (d.reg E.PROG_SLOT) ≠ 0 → s.turnsAway E.PROG_CMD [1] d .stateConflict ∧
      s.turnsAway E.PROG_CMD [2] d .stateConflict) ∧
    (d.progUsers (d.reg E.PROG_SLOT) = 0 → d.progError (d.reg E.PROG_SLOT) x.image = 0 →
      s.takes E.PROG_CMD [1] d { d with programs := tset d.programs (d.reg E.PROG_SLOT) { x with error := 0, loaded := x.image } }) ∧
    (d.progUsers (d.reg E.PROG_SLOT) = 0 →
      s.takes E.PROG_CMD [2] d { d with programs := tset d.programs (d.reg E.PROG_SLOT) { x with loaded := [] } }))

/-- R485, R494, R496, R498 and R505: a queue pair goes to RTS with its PSNs, or to RESET without its work and its bridge records; a chain start goes to
its channel or waits behind the one that runs, and is turned away with the queue full; DMA_CMD RESET empties a channel and
its ring; and CONSUMED is kept, at most PRODUCED.
Where the manual leaves it open the statement follows the model: log entries 106 and 109. -/
def Obligations.HostAndDmaWrites : Prop :=
  (∀ (s : State) (d : Dev) (n : QpNo), (d.qp n.val).state = 0 →
    s.takes (E.QP_STATE n.val) [1] d (d.setQp n.val { state := 1, sqPsn := d.reg (E.SQ_PSN n.val), rqPsn := d.reg (E.RQ_PSN n.val),
                                                      lastRise := d.tick })) ∧
  (∀ (s : State) (d : Dev) (n : QpNo), (d.qp n.val).state ≠ 0 → s.turnsAway (E.QP_STATE n.val) [1] d .stateConflict) ∧
  (∀ (s : State) (d : Dev) (n : QpNo), (∀ u ∈ d.qpUses n.val, ∀ c, u ≠ .dma c) →
    s.takes (E.QP_STATE n.val) [0] d { d.setQp n.val {} with bridge := d.bridge.filter (fun r => r.qp != n.val) }) ∧
  (∀ (s : State) (d : Dev) (n : ChanNo) (a : BitVec 64),
    (d.dmaFull n.val = true → s.turnsAway (E.DMA_START n.val) (beBytes 8 a.toNat) d .stateConflict) ∧
    (d.dmaFull n.val = false → (d.chan n.val).state = .running →
      s.takes (E.DMA_START n.val) (beBytes 8 a.toNat) d
        (d.setChan n.val { d.chan n.val with queue := (d.chan n.val).queue ++ [⟨a.toNat, none⟩] })) ∧
    (d.dmaFull n.val = false → (d.chan n.val).state = .idle →
      s.takes (E.DMA_START n.val) (beBytes 8 a.toNat) d (d.dmaBegin n.val ⟨a.toNat, none⟩))) ∧
  (∀ (s : State) (d : Dev) (n : ChanNo), s.takesTo (E.DMA_CMD n.val) [1] d (fun d1 => d1.chan n.val = {} ∧
    d1.reg (E.PRODUCED n.val) = 0 ∧ d1.reg (E.CONSUMED n.val) = 0 ∧ d1.mem = d.mem ∧
    ∀ m, m ≠ n.val → d1.chan m = d.chan m)) ∧
  (∀ (s : State) (d : Dev) (n : ChanNo) (v : BitVec 64),
    (d.reg (E.PRODUCED n.val) < v.toNat → s.turnsAway (E.CONSUMED n.val) (beBytes 8 v.toNat) d .invalidValue) ∧
    (v.toNat ≤ d.reg (E.PRODUCED n.val) → (d.chan n.val).state = .running →
      s.takes (E.CONSUMED n.val) (beBytes 8 v.toNat) d (d.setReg (E.CONSUMED n.val) v.toNat)))

/-- R535, R544, R553 to R558 and R571: FAULT_ACK closes the record whose count it names and no other, once the faults of its
tick have merged (R537, R538); FAULT_INJECT arms its
checker, target and count and is turned away while some are left; COUNTER_CLEAR sets one counter to 0 with its flag and
record, or all of them; SNAP_CMD arms a snapshot 64 ticks ahead or cancels the armed one; and a sampling entry restarts every count.
Where the manual leaves it open the statement follows the model: log entries 144 and 145. -/
def Obligations.SentryAndTelemetryWrites : Prop :=
  (∀ (s : State) (d : Dev) (c : FaultClass) (v : List Byte), v.length = 8 → bits (beNat v) 56 8 = classCode c →
    bits (beNat v) 32 24 = 0 →
    ((d.sentry.record c).isOpen = true → (d.sentry.record c).count = bits (beNat v) 0 32 →
      s.takes E.FAULT_ACK v d { d with sentry := d.sentry.setRecord c {} }) ∧
    ((d.sentry.record c).isOpen = false ∨ (d.sentry.record c).count ≠ bits (beNat v) 0 32 →
      s.turnsAway E.FAULT_ACK v d .stateConflict)) ∧
  (∀ (s : State) (d : Dev) (pl : List Byte), pl.length = 4 → 1 ≤ bits (beNat pl) 24 8 → bits (beNat pl) 24 8 ≤ 14 →
    bits (beNat pl) 16 8 = 0 → bits (beNat pl) 0 16 ≠ 0 →
    (d.reg E.FAULT_INJECT_LEFT = 0 → s.takes E.FAULT_INJECT pl d
      { d.setReg E.FAULT_INJECT_LEFT (bits (beNat pl) 0 16) with
        sentry := { d.sentry with inject := some ⟨bits (beNat pl) 24 8, 0⟩ } }) ∧
    (d.reg E.FAULT_INJECT_LEFT ≠ 0 → s.turnsAway E.FAULT_INJECT pl d .stateConflict)) ∧
  (∀ (s : State) (d : Dev) (k : BitVec 24), isCounter (k.toNat / 256) (k.toNat % 256) = true → k.toNat ≠ 0 →
    k.toNat ≠ E.WHISTLE_FIRES → k.toNat ≠ E.PROG_ELEMENTS → keyDefault k.toNat = 0 →
    s.takesTo E.COUNTER_CLEAR (0 :: beBytes 3 k.toNat) d (fun d1 => d1.reg k.toNat = 0 ∧ k.toNat ∉ d1.tele.satFlags ∧
      (∀ r ∈ d1.tele.satList, r.key ≠ k.toNat) ∧ ∀ j, j ≠ k.toNat → d1.reg j = d.reg j)) ∧
  (∀ (s : State) (d : Dev), s.takes E.COUNTER_CLEAR [0, 0, 0, 0] d d.clearAll ∧
    (∀ k, isCounter (k / 256) (k % 256) = true → keyDefault k = 0 → d.clearAll.reg k = 0)) ∧
  (∀ (s : State) (d : Dev) (id : BitVec 32) (t : BitVec 64),
    (d.tele.arm = none → 0 < id.toNat → (∀ x ∈ s.shadows, x.id ≠ id.toNat) → d.tick + 64 ≤ t.toNat →
      s.takes E.SNAP_CMD (beBytes 4 id.toNat ++ List.replicate 4 0 ++ beBytes 8 t.toNat) d { d with tele := { d.tele with
        arm := some { id := id.toNat, target := t.toNat, endpoints := false, armedAt := d.tick }, lastId := id.toNat, copied := false, snapState := 1,
        epTaken := 0, epLate := 0 } }) ∧
    (∀ a, d.tele.arm = some a → a.id = id.toNat → d.tick < a.target →
      s.takes E.SNAP_CMD (beBytes 4 id.toNat ++ List.replicate 12 0) d
        { d with tele := { d.tele with arm := none, snapState := 0 } })) ∧
  (∀ (s : State) (d : Dev) (b : Byte), b.toNat ≤ 3 →
    s.takesTo E.SAMPLE_DIR [b] d (fun d1 => d1.reg E.SAMPLE_DIR = b.toNat ∧
      ∀ p, (d1.port p).sampRx = 0 ∧ (d1.port p).sampTx = 0 ∧ (d1.port p).state = (d.port p).state))

/-- R63, R581, R586, R587, R592, R593, R596, R615, R616 and R618: END_SESSIONS ends every other session; SAVE and KEY_BURN start
a burn and are turned away while one runs; OWNER_PUBKEY keeps a key whose hash the slot holds; firmware is written to the
idle slot at FW_OFFSET, where what is not written stays, verified, activated, committed and erased; ATTEST_NONCE builds a
report and signs it; SLEEP_CMD enters a deeper
state or wakes; and RESET_CMD takes effect 2,500 ticks later.
Where the manual leaves it open the statement follows the model: log entries 118 and 152. -/
def Obligations.IdentityAndPowerWrites : Prop :=
  (∀ (s : State) (q : Req) (role : Option Scope) (d : Dev), s.mayWrite q E.END_SESSIONS [1] role d →
    exec (.endSessions q) s = .next (s.wrote q E.END_SESSIONS [1] .ok
      { d with mgmt := { d.mgmt with sessions := d.mgmt.sessions.filter (fun x => x.token = q.session) } })) ∧
  (∀ (s : State) (d : Dev) (h : List Byte), h.length = 32 →
    (d.burn ≠ none → s.turnsAway E.KEY_BURN h d .stateConflict ∧ s.turnsAway E.PROFILE_CMD [1] d .stateConflict) ∧
    (∀ g, d.burn = none → nextGen (d.keyGens (d.reg E.KEY_SLOT_SELECT)) = some g → frozen (d.keyGens (d.reg E.KEY_SLOT_SELECT)) = false →
      s.takes E.KEY_BURN h d (d.startBurn (.key (d.reg E.KEY_SLOT_SELECT) g)
        (genWords (keyOff (d.reg E.KEY_SLOT_SELECT) g) (padTo 56 h)))) ∧
    (d.burn = none → frozen (d.profileGens (d.reg E.ACTIVE_PROFILE)) = false → d.saveImage.length ≤ 16352 →
      s.takes E.PROFILE_CMD [1] d d.save)) ∧
  (∀ (s : State) (d : Dev) (v : List Byte), v.length = 384 → d.reg E.KEY_SLOT_SELECT = 0 →
    (activeGen (d.keyGens 0)).isSome = true → sha256 v = d.keyHash 0 →
    s.takes E.OWNER_PUBKEY v d { d with fw := { d.fw with pubkey0 := v } }) ∧
  (∀ (s : State) (d : Dev) (v : List Byte), 1 ≤ v.length → v.length ≤ 65536 → d.reg E.FW_OFFSET + v.length ≤ fwSlotBytes →
    (d.fw.factory ≠ some d.fw.idle → s.takesTo E.FW_DATA v d (fun d1 =>
      d1.fw.slot d.fw.idle = splice (padTo (max (d.fw.slot d.fw.idle).length (d.reg E.FW_OFFSET)) (d.fw.slot d.fw.idle))
        (d.reg E.FW_OFFSET) v ∧
      (∀ i, i ≤ 1 → i ≠ d.fw.idle → d1.fw.slot i = d.fw.slot i) ∧ d1.fw.verified = false ∧
      d1.reg E.FW_OFFSET = d.reg E.FW_OFFSET + v.length)) ∧
    (d.fw.factory = some d.fw.idle → s.takes E.FW_DATA v d
      ({ d with fw := { d.fw with patches := (d.reg E.FW_OFFSET, v) :: d.fw.patches, verified := false } }.setReg
        E.FW_OFFSET (d.reg E.FW_OFFSET + v.length)))) ∧
  (∀ (f : FwStore) (off : Nat) (v : List Byte) (i k : Nat), f.factory = some i →
    ({ f with patches := (off, v) :: f.patches }).bytes i k 1 =
      if off ≤ k ∧ k < off + v.length then [v.getD (k - off) 0] else f.bytes i k 1) ∧
  (∀ (s : State) (d : Dev),
    s.takesTo E.FW_CMD [1] d (fun d1 => d1.fw.verified = d.fwValid d.fw.idle ∧
      d1.reg E.FW_STATUS = if d.fwValid d.fw.idle then 1 else 2) ∧
    (d.fw.verified = false → s.turnsAway E.FW_CMD [2] d .stateConflict) ∧
    (d.fw.verified = true → s.takes E.FW_CMD [2] d
      (({ d with fw := { d.fw with trial := some d.fw.idle } }).setReg E.FW_STATUS 3)) ∧
    (d.fw.trialSince = none → s.turnsAway E.FW_CMD [3] d .stateConflict) ∧
    (d.fw.trialSince ≠ none → fwSecurity (d.fw.header d.fw.running) ≤ d.rollback → s.takes E.FW_CMD [3] d
      (({ d with fw := { d.fw with
        committed := d.fw.running, trial := if d.fw.trial = some d.fw.running then none else d.fw.trial, trialSince := none } }).setReg E.FW_STATUS 0)) ∧
    (d.fw.trialSince = none → s.takesTo E.FW_CMD [4] d (fun d1 => d1.fw.slot d.fw.idle = [] ∧ d1.fw.factory ≠ some d.fw.idle ∧
      (∀ i, i ≤ 1 → i ≠ d.fw.idle → d1.fw.slot i = d.fw.slot i) ∧ d1.fw.verified = false ∧ d1.reg E.FW_STATUS = 0))) ∧
  (∀ (s : State) (d : Dev) (v : List Byte), v.length = 32 →
    let body := d.reportBody v (d.reg E.ACTIVE_PROFILE)
    body.length = 256 ∧ (d.signed body).length = 384 ∧
    s.takesTo E.ATTEST_NONCE v d (fun d1 => d1.blob E.ATTEST_REPORT = body ++ d.signed body ∧
      d1.reg E.ATTESTS = (d.reg E.ATTESTS + 1) % 2 ^ 64)) ∧
  (∀ (s : State) (d : Dev), d.power.bootStage = 3 → d.power.sleep = .active → d.wakeLow = false →
    s.takes E.SLEEP_CMD [0] d d ∧
    s.takesTo E.SLEEP_CMD [1] d (fun d1 => d1.power.sleep = .idle ∧ maskHas d1.ints.pending 0x07 = true) ∧
    (d.dozeOk = true → s.takesTo E.SLEEP_CMD [2] d (fun d1 => d1.power.sleep = .doze ∧ d1.power.selfRefresh = true)) ∧
    (d.dozeOk = false → s.turnsAway E.SLEEP_CMD [2] d .stateConflict) ∧
    (d.noCollect = true → d.dmaIdle = true → queued d.actions0 = 0 → queued d.actions1 = 0 →
      s.takes E.SLEEP_CMD [3] d { d with power := { d.power with
        sleep := .entering, wakeFrom := .active, entryStart := some d.tick, sleepTs := none } })) ∧
  (∀ (s : State) (d : Dev), d.power.memoryOff = false → d.power.inputOut = false → d.power.overtempHold = false →
    s.takes E.RESET_CMD [1] d { d with power := { d.power with
      resetPending := d.power.resetPending ++ [(some .warm, d.tick + 2500)] } } ∧
    s.takes E.RESET_CMD [2] d { d with power := { d.power with
      resetPending := d.power.resetPending ++ [(some .switch, d.tick + 2500)] } } ∧
    s.takes E.RESET_CMD [3] d { d with power := { d.power with
      resetPending := d.power.resetPending ++ [(none, d.tick + 2500)] } })

/-! ## Kennel, crossbar and routes (R164 to R231) -/

/-- R188 to R192: ALLOCATE takes the head of the free list, tags the slot and answers its pointer, and with its pool full
or no slot free answers the null pointer and counts, with a report where credits bound the pool; RELEASE by the owner, of a crossbar input or of the replay side, puts the slot at the
list's tail, and any other is refused with its code in LAST_REFUSAL; HANDOVER changes owner and pool, and finds nothing to do
with a slot that is FREE or STRAY (R195); without power none of the three acts (R32); a rebuild ends once the walk has passed every slot; and the audit
visits slot after slot, finding the one that is too old.
Where the manual leaves it open the statement follows the model: log entries 3, 56 and 59. -/
def Obligations.KennelOperations : Prop :=
  (∀ (s : State) (sd : Sdie) (pool : Pool) (o : Owner) (lo hi : Nat) (rest : List (Nat × Nat)),
    s.domainOff .switch = false → (s.kennel sd.val).rebuild = none → s.kinject = none → s.slotReads sd.val lo →
    (s.kennel sd.val).used pool < s.poolSize sd.val pool →
    (s.kennel sd.val).free = (lo, hi) :: rest → tget (s.kennel sd.val).slots lo = none →
    ∃ t, exec (.allocate sd pool o) s = .next t ∧
      t.out = s.out ++ [.answer s.tick askAllocate 0 (slotPtr sd.val lo)] ∧
      tget (t.kennel sd.val).slots lo = some { pool := pool, owner := o.val, allocTick := s.tick % 2 ^ 32 } ∧
      (∀ i, i ≠ lo → tget (t.kennel sd.val).slots i = tget (s.kennel sd.val).slots i) ∧
      (t.kennel sd.val).free = (if lo < hi then (lo + 1, hi) :: rest else rest) ∧
      t.kennel (1 - sd.val) = s.kennel (1 - sd.val) ∧ s.regsBut t [E.SHR_PEAK sd.val] ∧
      { t with kennel0 := s.kennel0, kennel1 := s.kennel1, regs := s.regs, tele := s.tele, out := s.out } = s) ∧
  (∀ (s : State) (sd : Sdie) (pool : Pool) (o : Owner), s.domainOff .switch = false → (s.kennel sd.val).rebuild = none →
    (s.poolSize sd.val pool ≤ (s.kennel sd.val).used pool ∨ (s.kennel sd.val).free = []) →
    s.reg (E.ALLOC_FAILS sd.val) < 0xFFFFFFFE →
    ∃ t, exec (.allocate sd pool o) s = .next t ∧ t.out = s.out ++ [.answer s.tick askAllocate 1 nullPtr] ∧
      t.reg (E.ALLOC_FAILS sd.val) = s.reg (E.ALLOC_FAILS sd.val) + 1 ∧ s.regsBut t [E.ALLOC_FAILS sd.val] ∧
      (pool = .shr → s.poolSize sd.val pool ≤ (s.kennel sd.val).used pool → t.sentry = s.sentry ∧ t.draws = s.draws) ∧
      (pool ≠ .shr ∨ (s.kennel sd.val).used pool < s.poolSize sd.val pool → t.sentry = { s.sentry with
        reports := s.sentry.reports ++ [Report.mk s.sampledAt
          (bark 0x0401 accKennel (iniXbar sd.val (o.val % 256)) false nullPtr (s.reg (E.LAST_REFUSAL sd.val)))] }) ∧
      { t with regs := s.regs, out := s.out, sentry := s.sentry, draws := s.draws } = s) ∧
  (∀ (s : State) (sd : Sdie) (o n : Owner) (pool : Pool) (ptr : BitVec 32), s.domainOff .switch = true →
    exec (.allocate sd pool o) s = .next s ∧ exec (.release sd ptr o) s = .next s ∧ exec (.handover sd ptr o n pool) s = .next s) ∧
  (∀ (s : State) (sd : Sdie) (o : Owner) (i : Nat), s.domainOff .switch = false → s.kinject = none → s.slotReads sd.val i →
    (s.kennel sd.val).rebuild = none → i < slotCount →
    (∀ x, tget (s.kennel sd.val).slots i = some x → x.owner = o.val →
      exec (.release sd (BitVec.ofNat 32 (slotPtr sd.val i)) o) s = .next (s.dev (s.toDev.setKennel sd.val
        { s.kennel sd.val with slots := terase (s.kennel sd.val).slots i, free := (s.kennel sd.val).free ++ [(i, i)] }))) ∧
    (∀ x, tget (s.kennel sd.val).slots i = some x → x.owner ≠ o.val → s.reg (E.KENNEL_REFUSALS sd.val) < 0xFFFFFFFE →
      ∃ t, exec (.release sd (BitVec.ofNat 32 (slotPtr sd.val i)) o) s = .next t ∧
        t.reg (E.LAST_REFUSAL sd.val) = 4 * 2 ^ 56 + o.val * 2 ^ 47 + slotPtr sd.val i ∧
        t.reg (E.KENNEL_REFUSALS sd.val) = s.reg (E.KENNEL_REFUSALS sd.val) + 1 ∧
        s.regsBut t [E.LAST_REFUSAL sd.val, E.KENNEL_REFUSALS sd.val] ∧
        { t with regs := s.regs, sentry := s.sentry, draws := s.draws } = s) ∧
    (∀ x n, tget (s.kennel sd.val).slots i = some x → x.owner = o.val → x.stray = false →
      ∃ t, exec (.handover sd (BitVec.ofNat 32 (slotPtr sd.val i)) o n x.pool) s = .next t ∧
        t.out = s.out ++ [.answer s.tick askHandover 0 (slotPtr sd.val i)] ∧
        tget (t.kennel sd.val).slots i = some { x with owner := n.val, allocTick := s.tick % 2 ^ 32 } ∧
        (∀ j, j ≠ i → tget (t.kennel sd.val).slots j = tget (s.kennel sd.val).slots j) ∧
        (t.kennel sd.val).free = (s.kennel sd.val).free ∧ t.kennel (1 - sd.val) = s.kennel (1 - sd.val)) ∧
    (∀ n pool, (tget (s.kennel sd.val).slots i = none ∨
        ∃ x, tget (s.kennel sd.val).slots i = some x ∧ x.owner = o.val ∧ x.stray = true) →
      exec (.handover sd (BitVec.ofNat 32 (slotPtr sd.val i)) o n pool) s =
        .next (s.dev (s.toDev.emit (.answer s.tick askHandover 1 (slotPtr sd.val i)))))) ∧
  (∀ (s : State) (sd : Sdie) (r : Rebuild), (s.kennel sd.val).rebuild = some r → r.passed ≤ slotCount → r.start + 615 ≤ s.tick →
    ∃ t, exec (.freelistRebuildDone sd) s = .next t ∧ (t.kennel sd.val).rebuild = none ∧
      (t.kennel sd.val).slots = (s.kennel sd.val).slots ∧ t.kennel (1 - sd.val) = s.kennel (1 - sd.val) ∧
      { t with kennel0 := s.kennel0, kennel1 := s.kennel1 } = s) ∧
  (∀ (s : State) (sd : Sdie), s.flag E.AUDIT_ENABLE = true → s.domainOff .switch = false →
    s.slotReads sd.val (s.kennel sd.val).auditNext → s.kinject = none → (s.kennel sd.val).auditNext + 1 < slotCount →
    (tget (s.kennel sd.val).slots (s.kennel sd.val).auditNext = none →
      exec (.auditVisit sd) s = .next (s.dev (s.toDev.setKennel sd.val
        { s.kennel sd.val with auditNext := (s.kennel sd.val).auditNext + 1 }))) ∧
    (∀ x, tget (s.kennel sd.val).slots (s.kennel sd.val).auditNext = some x → x.stray = false →
      s.reg E.STRAY_AGE_TICKS < (s.tick + 2 ^ 32 - x.allocTick) % 2 ^ 32 → s.reg (E.STRAYS_FOUND sd.val) < 0xFFFFFFFE →
      ∃ t, exec (.auditVisit sd) s = .next t ∧
        tget (t.kennel sd.val).slots (s.kennel sd.val).auditNext = some { x with stray := true } ∧
        (t.kennel sd.val).auditNext = (s.kennel sd.val).auditNext + 1 ∧
        t.reg (E.STRAYS_FOUND sd.val) = s.reg (E.STRAYS_FOUND sd.val) + 1 ∧ s.regsBut t [E.STRAYS_FOUND sd.val] ∧
        t.kennel (1 - sd.val) = s.kennel (1 - sd.val) ∧
        { t with kennel0 := s.kennel0, kennel1 := s.kennel1, regs := s.regs, sentry := s.sentry, draws := s.draws } = s))

/-- R164 to R174, R175 and R219: in a cycle of the crossbar a control cell alone at the head of its queue leaves by the output
it waits for and its slot is freed; an expired head leaves its queue and its slot and is counted; and a gated or fenced
switch moves nothing.
Where the manual leaves it open the statement follows the model: log entries 3, 49 and 51. -/
def Obligations.CrossbarMovesCells : Prop :=
  (∀ (s : State) (sd : Sdie), s.domainOff .switch = true ∨ s.domainGated .switch = true ∨ s.fenced = true →
    exec (.crossbarCycle sd) s = .next s) ∧
  (∀ (s : State) (sd : Sdie), s.domainOff .switch = false → s.domainGated .switch = false → s.fenced = false →
    exec (.crossbarCycle sd) s = .next (s.dev (s.toDev.cycle sd.val))) ∧
  (∀ (s : State) (sd : Sdie) (i n o : Nat) (x : KSlot) (c : Cell), s.domainOff .switch = false → s.domainGated .switch = false →
    s.fenced = false → s.slotReads sd.val n → s.kinject = none → i < 144 → n < slotCount → c.vc = 10 →
    (128 ≤ o ∧ o < 132 ∨ o = 133 ∧ sd = 0 ∨ 136 ≤ o ∧ o < 144) → (s.kennel sd.val).unitUsed = [] →
    (s.kennel sd.val).rebuild = none →
    (s.kennel sd.val).queues = [(uniKey i o 10, [n])] → (s.kennel sd.val).mqueues = [] →
    (s.kennel sd.val).slots = [(n, x)] → x.owner = i → x.cell = some c → expiredAt s.tick c = false →
    (s.kennel 0).waiting = [] → (s.kennel 1).waiting = [] →
    ∃ t, exec (.crossbarCycle sd) s = .next t ∧ t.out = s.out ++ [.internal s.tick (Fin.ofNat 2 sd.val) o c] ∧
      (t.kennel sd.val).slots = [] ∧ (t.kennel sd.val).queues = [(uniKey i o 10, [])] ∧
      (t.kennel sd.val).free = (s.kennel sd.val).free ++ [(n, n)] ∧ t.mem = s.mem ∧ t.ctxs = s.ctxs) ∧
  (∀ (s : State) (sd : Sdie) (i : XPort) (n : Nat) (x : KSlot) (c : Cell) (k : Nat) (r : List Nat), s.kinject = none →
    s.slotReads sd.val n →
    (s.kennel sd.val).rebuild = none → n < slotCount → (k, n :: r) ∈ (s.kennel sd.val).queues → k / 4096 = i.val →
    tget (s.kennel sd.val).slots n = some x → x.cell = some c → expiredAt s.tick c = true →
    s.reg (E.EXPIRED sd.val) < 0xFFFFFFFE →
    ∃ t, exec (.cellExpired sd i (BitVec.ofNat 32 (slotPtr sd.val n))) s = .next t ∧
      t.reg (E.EXPIRED sd.val) = s.reg (E.EXPIRED sd.val) + 1 ∧
      (t.kennel sd.val).slots = terase (s.kennel sd.val).slots n ∧ (∀ e ∈ (t.kennel sd.val).queues, n ∉ e.2) ∧
      s.regsBut t [E.EXPIRED sd.val] ∧
      { t.tele with map0 := s.tele.map0, map1 := s.tele.map1 } = s.tele ∧
      { t with kennel0 := s.kennel0, kennel1 := s.kennel1, ports := s.ports, regs := s.regs, tele := s.tele } = s)

/-- R214, R218, R223 and R227: at the flip tick the LIVE bank drains and the other is LIVE, with LAST_FLIP_TICK the tick of the
flip; a bank that still drains at the bound with cells of its epoch is reported once; a leash rises by LEASH_STEP_UP to 256 at
most; and a bridged request that times out is sent again, and past its retries is answered to its host with a failure.
Where the manual leaves it open the statement follows the model: log entries 3, 54, 60 and 61. -/
def Obligations.EpochFlipsAndTimeouts : Prop :=
  (∀ (s : State) (t0 : Nat), s.routing.flipTick = some t0 → t0 ≤ s.tick → s.ctxs = [] →
    ∃ t, exec .epochFlip s = .next t ∧ t.bank s.ingressEpoch = .draining ∧ t.bank (1 - s.ingressEpoch) = .live ∧
      t.ingressEpoch = 1 - s.ingressEpoch ∧ t.reg E.LAST_FLIP_TICK = t0 ∧ t.routing.flipTick = none ∧
      s.regsBut t [E.LAST_FLIP_TICK] ∧ { t with regs := s.regs, routing := s.routing } = s) ∧
  (∀ (s : State) (t0 : Nat), s.routing.flipTick = some t0 → s.tick < t0 → exec .epochFlip s = .next s) ∧
  (∀ (s : State) (b : Fin 2) (t0 : Nat), s.routing.stuckFrom = some t0 → s.bank b.val = .draining →
    t0 + s.drainBound ≤ s.tick → 0 < s.drainCount b.val → s.reg (E.DRAIN_STUCK 0) < 0xFFFFFFFE →
    ∃ t, exec (.drainStuck b) s = .next t ∧ t.reg (E.DRAIN_STUCK 0) = s.reg (E.DRAIN_STUCK 0) + 1 ∧
      t.routing = { s.routing with stuckFrom := none } ∧
      t.sentry.reports = s.sentry.reports ++ [Report.mk s.sampledAt (bark 0x0304 accNone iniNone false b.val (s.drainCount b.val))] ∧
      s.regsBut t [E.DRAIN_STUCK 0] ∧
      { t with regs := s.regs, routing := s.routing, sentry := s.sentry, draws := s.draws } = s) ∧
  (∀ (s : State) (b : Fin 2), s.routing.stuckFrom = none → exec (.drainStuck b) s = .next s) ∧
  (∀ (s : State) (dest : BitVec 20) (l : Leash), s.routing.leashes.find? (fun l => l.dest = dest.toNat) = some l →
    l.lastUp + s.reg E.LEASH_UP_TICKS ≤ s.tick →
    ∃ t, exec (.leashUp dest) s = .next t ∧
      t.leash dest.toNat = { l with rate := min 256 (l.rate + s.reg E.LEASH_STEP_UP), lastUp := s.tick } ∧
      (∀ a, a ≠ dest.toNat → t.leash a = s.leash a) ∧ { t with routing := s.routing } = s) ∧
  (∀ (s : State) (dest : BitVec 20) (seq : BitVec 16) (rq : E2eReq),
    s.routing.requests.find? (fun r => r.dest = dest.toNat && r.mseq = seq.toNat) = some rq →
    rq.sentAt + s.reg E.E2E_TIMEOUT_TICKS ≤ s.tick →
    (s.reg E.E2E_RETRIES ≤ rq.resends →
      exec (.e2eTimeout dest seq) s = .next (s.dev (s.toDev.bridgeEnd rq rq.dest 1 0 []))) ∧
    (rq.resends < s.reg E.E2E_RETRIES →
      let again := { s.toDev with routing := { s.routing with requests := s.routing.requests.map (fun r =>
        if r = rq then { r with resends := r.resends + 1, sentAt := s.tick } else r) } }
      exec (.e2eTimeout dest seq) s = .next (s.dev (again.emitRouted 0 133 rq.cell))))

/-! ## Collectives (R277 to R314, R337 to R374) -/

/-- R285, R290, R292, R293, R296 and R298: a START that passes its checks binds its pair to a free context, sets its record and
validates its sender; the next member's matching START validates too; one for a pair outside the window, or that does not
match, is turned away or ends the context; and every collective cell waits while the TX1 wakes.
Where the manual leaves it open the statement follows the model: log entries 65, 68, 69 and 70. -/
def Obligations.StartsOpenContexts : Prop :=
  (∀ (s : State) (p : Port) (c : Cell) (n : Nat), s.opensContexts → c.type = tStart → c.level = 0 →
    s.pairCode c.pack c.cseq (s.isMember c.pack (s.logical p.val)) = 0 → s.bound c.pack c.cseq = none →
    (((tget s.packs c.pack).map (·.contexts)).getD []).find? (fun n => (s.ctx n).state = .free) = some n →
    (s.layout c.pack).spanning = false → (startRecord c).fused = 0 → (startRecord c).collType ≠ kDISPATCH →
    s.startRefused (s.layout c.pack) (startRecord c) (bits (c.pay 3 1) 6 1 = 1) = none →
    ∃ t, exec (.startCell (.fabric p) c) s = .next t ∧
      t.ctx n = { pack := c.pack, cseq := c.cseq, state := .collect, openTick := s.tick, progressTick := s.tick,
                  latch := s.latchNow, record := some (startRecord c), validated := [s.logical p.val],
                  weights := [(s.logical p.val, c.pay 27 4)] } ∧
      (∀ m, m ≠ n → t.ctx m = s.ctx m) ∧ t.reg (E.OPENED c.pack) = (s.reg (E.OPENED c.pack) + 1) % 2 ^ 64 ∧
      s.regsBut t [E.OPENED c.pack] ∧ { t with ctxs := s.ctxs, regs := s.regs } = s) ∧
  (∀ (s : State) (p : Port) (c : Cell) (n : Nat) (h : CollRec), s.opensContexts → c.type = tStart → c.level = 0 →
    s.pairCode c.pack c.cseq (s.isMember c.pack (s.logical p.val)) = 0 → s.bound c.pack c.cseq = some n →
    (s.ctx n).state = .collect → (s.ctx n).record = some h →
    (firstDiffers h (startRecord c) = 0 → s.logical p.val ∉ (s.ctx n).validated → (s.ctx n).chunks = [] →
      ∃ t, exec (.startCell (.fabric p) c) s = .next t ∧
        t.ctx n = { s.ctx n with validated := (s.ctx n).validated ++ [s.logical p.val],
                                 weights := tset (s.ctx n).weights (s.logical p.val) (c.pay 27 4), progressTick := s.tick } ∧
        (∀ m, m ≠ n → t.ctx m = s.ctx m) ∧ { t with ctxs := s.ctxs } = s) ∧
    (firstDiffers h (startRecord c) = 0 → s.logical p.val ∈ (s.ctx n).validated →
      exec (.startCell (.fabric p) c) s = .next (s.dev (s.toDev.count E.DUPLICATES))) ∧
    (firstDiffers h (startRecord c) ≠ 0 → exec (.startCell (.fabric p) c) s = .next (s.dev (s.toDev.mismatch n
      (firstDiffers h (startRecord c)) (s.senderMember (s.layout (s.ctx n).pack) h (s.logical p.val)) p.val 0)))) ∧
  (∀ (s : State) (p : Port) (c : Cell), s.opensContexts → c.type = tStart → c.level = 0 →
    s.pairCode c.pack c.cseq (s.isMember c.pack (s.logical p.val)) ≠ 0 →
    exec (.startCell (.fabric p) c) s = .next (s.dev (s.toDev.sendNak (.fabric p) none
      (s.pairCode c.pack c.cseq (s.isMember c.pack (s.logical p.val))) c.pack c.cseq))) ∧
  (∀ (s : State) (src : Src) (c : Cell), s.domainOff .switch = false → s.waitsWake = true →
    let t := s.dev { s.toDev with heldCells := s.heldCells ++ [HeldCell.mk src c] }
    (c.type = tStart → exec (.startCell src c) s = .next t) ∧ (c.type = tData → exec (.dataCell src c) s = .next t) ∧
    (c.type = tPromo → exec (.promoCell src c) s = .next t) ∧ (c.type = tCheck → exec (.checkCell src c) s = .next t) ∧
    (c.type = tCtrl → c.op = 0x10 → exec (.heel src c) s = .next t))

/-- R292, R297, R299, R302, R327 and R661: a member's DATA, PROMO or CHECK cell of an open pair is contributed to its context; of a
chunk that is open, a DATA or PROMO cell is kept by its number and a CHECK cell by its values, with the progress noted; a
cell that is not the first of its kind, or comes to a chunk that is past taking cells, only counts (R336), as does one before
the record or outside the window.
Where the manual leaves it open the statement follows the model: log entries 65, 68, 69 and 70. -/
def Obligations.ContributionsAreTaken : Prop :=
  (∀ (s : State) (p : Port) (c : Cell), s.opensContexts → c.level = 0 → c.cls ≠ cCDN →
    let k := s.logical p.val
    let code := s.pairCode c.pack c.cseq (s.isMember c.pack k)
    (∀ n, code = 0 → s.bound c.pack c.cseq = some n → (s.ctx n).state = .collect →
      let t := s.dev (s.toDev.contribute n k c p.val)
      (c.type = tData → exec (.dataCell (.fabric p) c) s = .next t) ∧
      (c.type = tPromo → exec (.promoCell (.fabric p) c) s = .next t) ∧
      (c.type = tCheck → exec (.checkCell (.fabric p) c) s = .next t)) ∧
    (code ≠ 0 →
      let t := s.dev (s.toDev.count (dropKey code))
      (c.type = tData → exec (.dataCell (.fabric p) c) s = .next t) ∧
      (c.type = tPromo → exec (.promoCell (.fabric p) c) s = .next t) ∧
      (c.type = tCheck → exec (.checkCell (.fabric p) c) s = .next t))) ∧
  (∀ (s : State) (n k ini : Nat) (c : Cell),
    ((s.ctx n).record = none → s.toDev.contribute n k c ini = s.toDev.count E.NO_RECORD_DROPS) ∧
    ((s.ctx n).record ≠ none → c.chunk < (s.ctx n).rc.nchunk → (s.ctx n).past c.chunk = true →
      s.toDev.contribute n k c ini = s.toDev.count E.DUPLICATES)) ∧
  (∀ (s : State) (p : Port) (c : Cell) (n : Nat) (r : CollRec) (z : Chunk) (ty : Nat), s.opensContexts → c.level = 0 →
    c.cls ≠ cCDN →
    let k := s.logical p.val
    let b := tgetD z.contribs k {}
    s.pairCode c.pack c.cseq (s.isMember c.pack k) = 0 → s.bound c.pack c.cseq = some n → (s.ctx n).state = .collect →
    (s.ctx n).record = some r → c.chunk < r.nchunk → c.chunk ∉ (s.ctx n).released →
    (s.contributors (s.layout (s.ctx n).pack) r c.chunk).contains k = true → tget (s.ctx n).chunks c.chunk = some z →
    s.chunkReads n c.chunk → z.state = .opened → k ∈ (s.ctx n).validated → b.verified = false → wireType r k = some ty →
    opSums r.op = true →
    (c.type = tData → elemBlocks ty = false → c.cell * eCell ty < s.sentCount r k c.chunk → tget b.cells c.cell = none →
      c.cell < 64 → b.check = none →
      ∃ t, exec (.dataCell (.fabric p) c) s = .next t ∧ (t.ctx n).progressTick = s.tick ∧
        ((t.ctx n).chunk c.chunk).state = .opened ∧
        let b1 := tgetD ((t.ctx n).chunk c.chunk).contribs k {}
        b1.cells = tset b.cells c.cell c.payload ∧ b1.data = maskSet b.data c.cell ∧ b1.applied = true ∧ b1.check = none) ∧
    (c.type = tPromo → elemBlocks ty = true → c.cell * eCell ty < s.sentCount r k c.chunk → b.cells = [] →
      promoBreaks ty none c.payload = false → b.check = none →
      ∃ t, exec (.promoCell (.fabric p) c) s = .next t ∧ (t.ctx n).progressTick = s.tick ∧
        (tgetD ((t.ctx n).chunk c.chunk).contribs k {}).cells = [(promoKey c.cell (promoSub c.payload), c.payload)]) ∧
    (c.type = tCheck → c.pay 24 4 = s.sentCount r k c.chunk → b.check = none →
      ({ b with check := some ⟨c.pay 0 8, c.pay 8 8, c.pay 16 8, c.pay 24 4, c.pay 28 1⟩ } : Contrib).complete (some ty)
        (s.sentCount r k c.chunk) = false →
      ∃ t, exec (.checkCell (.fabric p) c) s = .next t ∧ (t.ctx n).progressTick = s.tick ∧
        (tgetD ((t.ctx n).chunk c.chunk).contribs k {}).check =
          some ⟨c.pay 0 8, c.pay 8 8, c.pay 16 8, c.pay 24 4, c.pay 28 1⟩) ∧
    (c.type = tData → c.cell * eCell ty < s.sentCount r k c.chunk → (tget b.cells c.cell).isSome = true →
      exec (.dataCell (.fabric p) c) s = .next (s.dev (s.toDev.count E.DUPLICATES))))

/-- R309, R310, R370 and R448: the first HEEL opens its context with its record; the last one within a rack is answered by
HEEL_RELEASE to every member, with its tick, and the context is done; a release from the coordinator's side is passed on;
and at its tick a remembered release raises the bindings of its pack.
Where the manual leaves it open the statement follows the model: log entries 3 and 50. -/
def Obligations.HeelsAreReleased : Prop :=
  (∀ (s : State) (p : Port) (c : Cell) (n : Nat), s.opensContexts → c.type = tCtrl → c.op = 0x10 → s.peerKind p.val = 1 →
    let pack := bits (c.pay 0 2) 0 10
    let k := s.logical p.val
    s.pairCode pack (c.pay 2 2) (s.isMember pack k) = 0 → s.bound pack (c.pay 2 2) = none →
    (((tget s.packs pack).map (·.contexts)).getD []).find? (fun n => (s.ctx n).state = .free) = some n →
    s.absentMember (s.layout pack) = none → (heelRecord c).kind ≠ 1 → (∃ m ∈ (s.layout pack).members, m ≠ k) →
    ∃ t, exec (.heel (.fabric p) c) s = .next t ∧
      t.ctx n = { pack := pack, cseq := c.pay 2 2, state := .collect, openTick := s.tick, progressTick := s.tick,
                  latch := s.latchNow, record := some (heelRecord c), validated := [k] } ∧
      (∀ m, m ≠ n → t.ctx m = s.ctx m) ∧ t.reg (E.OPENED pack) = (s.reg (E.OPENED pack) + 1) % 2 ^ 64 ∧
      s.regsBut t [E.OPENED pack] ∧ { t with ctxs := s.ctxs, regs := s.regs } = s) ∧
  (∀ (s : State) (p : Port) (c : Cell) (n : Nat) (h : CollRec), s.opensContexts → c.type = tCtrl → c.op = 0x10 →
    s.peerKind p.val = 1 →
    let pack := bits (c.pay 0 2) 0 10
    let k := s.logical p.val
    s.pairCode pack (c.pay 2 2) (s.isMember pack k) = 0 → s.bound pack (c.pay 2 2) = some n → (s.ctx n).state = .collect →
    (s.ctx n).record = some h → firstDiffers h (heelRecord c) = 0 → k ∉ (s.ctx n).validated →
    exec (.heel (.fabric p) c) s = .next (s.dev ((s.toDev.updCtx n (fun z => { z with
      record := some h, validated := z.validated ++ [k], progressTick := s.tick })).heelOn n))) ∧
  (∀ (d : Dev) (n : Nat), (d.ctx n).state = .collect → d.heelsIn (d.ctx n) = true → (d.ctx n).rc.kind ≠ 1 →
    (d.ctx n).doneSent = false → (d.layout (d.ctx n).pack).spanning = false →
    let r := (d.ctx n).rc
    let t := d.tick + d.reg E.HEEL_LEAD_TICKS
    d.heelOn n = (d.emitPorts (unitSdie (n % 16)) (unitX (n % 16)) (mkCtl tCtrl 0 (d.ownAddr 0xFF) 0x11 0
      (heelPayload (d.ctx n).pack (d.ctx n).cseq r.step r.kind t)) (d.physicals (d.layout (d.ctx n).pack).members)).completeHeel n t) ∧
  (∀ (s : State) (src : Src) (c : Cell) (n : Nat) (h : Hop), c.type = tCtrl → c.op = 0x11 → s.domainOff .switch = false →
    s.openPair (bits (c.pay 0 2) 0 10) (c.pay 2 2) = some n → (s.ctx n).rc.heel = true →
    (s.layout (s.ctx n).pack).spanning = true →
    (s.layout (s.ctx n).pack).target ((s.ctx n).rc.coordinator (s.layout (s.ctx n).pack)) = some h →
    s.arrivedFrom src c = some h.rack →
    (s.layout (s.ctx n).pack).upstreams ((s.ctx n).rc.coordinator (s.layout (s.ctx n).pack)) = [] → s.tick < c.pay 16 8 →
    exec (.heelRelease src c) s = .next (s.dev ((s.toDev.emitPorts (unitSdie (n % 16)) (unitX (n % 16))
      (mkCtl tCtrl 0 (s.ownAddr 0xFF) 0x11 0 c.payload) (s.physicals (s.layout (s.ctx n).pack).members)).completeHeel n (c.pay 16 8)))) ∧
  (∀ (s : State) (ctx : CtxNo) (e : HeelRel), s.heels.find? (fun h => h.ctx = ctx.val && h.tick ≤ s.tick) = some e →
    let d1 := ({ s.toDev with heels := s.heels.erase e } : Dev).bindEvent
      (.sdie (unitSdie (unitOf e.ctx 0))) bHEEL e.pack 0
    exec (.heelReleaseTick ctx) s = .next (s.dev (if e.kind = 1 then d1.commitStep e.step else d1)))

/-- R19, R295, R302, R304, R356, R363, R366 and R367: a context without progress for CTX_IDLE_TICKS fails with its status, unless
it meets its completion condition and completes with OK; one whose part is done completes within the rack and at the
coordinator, or tells its target; COLL_DONE from the target completes it, from an upstream is noted, and one that fails
fails it, with no reserved code sent on; a busy neighbour, whose answer restarts the resend timer, is asked again later, and
its START and cells go again.
Where the manual leaves it open the statement follows the model: log entries 3, 79, 80 and 81. -/
def Obligations.ContextsEnd : Prop :=
  (∀ (s : State) (n : CtxNo), (s.ctx n.val).state = .collect →
    ((s.ctx n.val).progressTick + s.reg E.CTX_IDLE_TICKS ≤ s.tick →
      (s.armsOver n.val = true → s.coordTarget (s.ctx n.val) = none →
        exec (.ctxIdleTimeout n) s = .next (s.dev (s.toDev.completeCtx n.val))) ∧
      (s.armsOver n.val = false ∨ s.coordTarget (s.ctx n.val) ≠ none →
        exec (.ctxIdleTimeout n) s = .next (s.dev (s.toDev.failCtx n.val 13 0xFFFF)))) ∧
    (s.tick < (s.ctx n.val).progressTick + s.reg E.CTX_IDLE_TICKS → exec (.ctxIdleTimeout n) s = .next s)) ∧
  (∀ (s : State) (n : CtxNo), (s.ctx n.val).state = .collect → (s.ctx n.val).record.isSome = true → (s.ctx n.val).rc.heel = false →
    (s.ctx n.val).doneSent = false → s.allValid (s.ctx n.val) = true → s.partDone (s.ctx n.val) = true →
    s.armsDone (s.ctx n.val) = true →
    let y := s.layout (s.ctx n.val).pack
    (y.spanning = false ∨ y.target ((s.ctx n.val).rc.coordinator y) = none →
      exec (.contextComplete n) s = .next (s.dev (s.toDev.completeCtx n.val))) ∧
    (∀ h, y.spanning = true → y.target ((s.ctx n.val).rc.coordinator y) = some h →
      exec (.contextComplete n) s = .next (s.dev ((s.toDev.updCtx n.val (fun z => { z with doneSent := true })).toSwitch
        (n.val % 16) h.rack (fun dst => s.doneCell (s.ctx n.val) dst 0 0 0xFFFF (s.ctx n.val).rc.step))))) ∧
  (∀ (s : State) (src : Src) (c : Cell) (n rack : Nat), c.type = tCtrl → c.op = 0x31 → s.domainOff .switch = false →
    s.openPair (bits (c.pay 0 2) 0 10) (c.pay 2 2) = some n → s.arrivedFrom src c = some rack →
    (s.layout (s.ctx n).pack).spanning = true →
    let y := s.layout (s.ctx n).pack
    let tgt := (y.target ((s.ctx n).rc.coordinator y)).map (·.rack)
    let ups := (y.upstreams ((s.ctx n).rc.coordinator y)).map (·.rack)
    (c.pay 4 1 = 0 → tgt = some rack → exec (.collDone src c) s = .next (s.dev (s.toDev.completeCtx n))) ∧
    (c.pay 4 1 = 0 → tgt ≠ some rack → ups.contains rack = true → rack ∉ (s.ctx n).doneFrom →
      exec (.collDone src c) s = .next (s.dev (s.toDev.setCtx n { s.ctx n with
        doneFrom := (s.ctx n).doneFrom ++ [rack], progressTick := s.tick }))) ∧
    (c.pay 4 1 ≠ 0 → c.pay 4 1 ≤ 13 → c.pay 5 1 ≤ 14 → (tgt = some rack ∨ ups.contains rack = true) →
      exec (.collDone src c) s = .next (s.dev
        (s.toDev.endCtx n false (c.pay 4 1) (c.pay 5 1) (c.pay 6 2) (s.ctx n).record (some rack)))) ∧
    (13 < c.pay 4 1 ∨ 14 < c.pay 5 1 → c.pay 4 1 ≠ 0 → (tgt = some rack ∨ ups.contains rack = true) →
      let z := s.toDev.failedFrom (c.pay 4 1) (c.pay 5 1)
      1 ≤ z.1.1 ∧ z.1.1 ≤ 13 ∧ z.1.2 ≤ 14 ∧ exec (.collDone src c) s = .next (s.dev
        (z.2.endCtx n false z.1.1 z.1.2 (c.pay 6 2) (s.ctx n).record (some rack))))) ∧
  (∀ (s : State) (src : Src) (c : Cell) (n rack : Nat), c.type = tCtrl → c.op = 0x30 → s.domainOff .switch = false →
    s.openPair (bits (c.pay 2 2) 0 10) (c.pay 4 2) = some n → s.arrivedFrom src c = some rack →
    c.pay 0 1 = 1 → (∃ q ∈ (s.ctx n).targets, q.rack = rack) →
    ∃ t, exec (.collNak src c) s = .next t ∧ (∀ m, m ≠ n → t.ctx m = s.ctx m) ∧
      (t.ctx n).progressTick = s.tick ∧ { t.ctx n with
        targets := (s.ctx n).targets, resendAt := (s.ctx n).resendAt, progressTick := (s.ctx n).progressTick } = s.ctx n ∧
      (t.ctx n).resendAt = (s.ctx n).resendAt.map (fun _ => s.tick + (s.ctx n).resendInt) ∧
      (∀ q ∈ (t.ctx n).targets, q.rack = rack → ∃ w, q.busyAt = some (s.tick + w) ∧ q.busyInt = w) ∧
      (∀ q ∈ (t.ctx n).targets, q.rack ≠ rack → q ∈ (s.ctx n).targets) ∧ { t with ctxs := s.ctxs } = s) ∧
  (∀ (s : State) (n : CtxNo) (q : SpanTarget) (a : Nat), (s.ctx n.val).state = .collect → (s.ctx n.val).targets = [q] →
    q.busyAt = some a → a ≤ s.tick → exec (.busyRetry n) s = .next (s.dev ((s.toDev.setCtx n.val { s.ctx n.val with
      targets := [{ q with busyAt := none }] }).resendTo n.val q (fun _ => true)))) ∧
  (∀ (s : State) (n : CtxNo) (a : Nat), (s.ctx n.val).state = .collect → (s.ctx n.val).resendAt = some a → a ≤ s.tick →
    (s.ctx n.val).targets = [] →
    let w := min (2 * (s.ctx n.val).resendInt) (s.reg E.SPAN_RESEND_MAX)
    exec (.spanResend n) s = .next (s.dev ((s.toDev.setCtx n.val { s.ctx n.val with
      resendInt := w, resendAt := some (s.tick + w) }).count E.PARTIAL_RESENDS)))

/-- R331, R334, R335, R337 and R340: a chunk in CHECK leaves its unit by its route once the pipeline's ticks have passed, and not
before; freed frames go to the LOGGED chunk that is next, which replays its log and is open again.
Where the manual leaves it open the statement follows the model: log entries 3, 78 and 138. -/
def Obligations.ChunksAreReleasedAndRestored : Prop :=
  (∀ (s : State) (n : CtxNo) (c : BitVec 20), s.switchStill = true →
    exec (.releaseCheckDone n c) s = .next s ∧ exec (.chunkRestoreStart n c) s = .next s ∧ exec (.chunkRestoreEnd n c) s = .next s) ∧
  (∀ (s : State) (n : CtxNo) (c : BitVec 20) (z : Chunk), s.switchStill = false → s.chunkReads n.val c.toNat →
    tget (s.ctx n.val).chunks c.toNat = some z → z.state = .check →
    let r := (s.ctx n.val).rc
    let y := s.layout (s.ctx n.val).pack
    let w := if r.dup && r.fused = 0 then 3 else 2
    (z.completeTick + w ≤ s.tick → y.spanning = false → s.roleOf r = none →
      exec (.releaseCheckDone n c) s = .next (s.dev (s.toDev.releaseDirect n.val c.toNat))) ∧
    (z.completeTick + w ≤ s.tick → y.spanning = false → (s.roleOf r = some .gradient ∨ s.roleOf r = some .combine) →
      exec (.releaseCheckDone n c) s = .next (s.dev (s.toDev.releaseFused n.val c.toNat))) ∧
    (∀ h, z.completeTick + w ≤ s.tick → y.spanning = true → y.target (s.home y r c.toNat) = some h → s.roleOf r = none →
      exec (.releaseCheckDone n c) s = .next (s.dev (s.toDev.releasePartial n.val c.toNat h))) ∧
    (s.tick < z.completeTick + w → tget (s.ctx n.val).down c.toNat = none → exec (.releaseCheckDone n c) s = .next s)) ∧
  (∀ (s : State) (n : CtxNo) (c : BitVec 20), s.switchStill = false →
    s.nextRestore (unitOf n.val c.toNat) = some (n.val, c.toNat, false) →
    ∃ t, exec (.chunkRestoreStart n c) s = .next t ∧ ((t.ctx n.val).chunk c.toNat).state = .restore ∧
      ((t.ctx n.val).chunk c.toNat).log = ((s.ctx n.val).chunk c.toNat).log ∧ (∀ m, m ≠ n.val → t.ctx m = s.ctx m) ∧
      s.regsBut t [E.FRAMES_LOW (unitOf n.val c.toNat)] ∧
      (∀ w, w ∈ t.ueWords ↔ w ∈ s.ueWords ∧ w ≠ sramMark 1 (storeWord n.val c.toNat)) ∧
      { t with ctxs := s.ctxs, regs := s.regs, ueWords := s.ueWords } = s) ∧
  (∀ (s : State) (n : CtxNo) (c : BitVec 20), s.nextRestore (unitOf n.val c.toNat) ≠ some (n.val, c.toNat, false) →
    s.nextRestore (unitOf n.val c.toNat) ≠ some (n.val, c.toNat, true) → exec (.chunkRestoreStart n c) s = .next s) ∧
  (∀ (s : State) (n : CtxNo) (c : BitVec 20) (z : Chunk), s.switchStill = false → tget (s.ctx n.val).chunks c.toNat = some z →
    z.state = .restore →
    let d1 := (s.toDev.updChunk n.val c.toNat (fun y => { y with log := [] })).replayLog n.val c.toNat z.log
    (d1.ctx n.val).state = .collect → exec (.chunkRestoreEnd n c) s = .next (s.dev
      (((d1.updChunk n.val c.toNat (fun y => { y with state := .opened })).count
        (E.CHUNKS_RESTORED (unitOf n.val c.toNat))).completeChunk n.val c.toNat)))

/-- R373 and R374: with a TX1 parent port in UP a request goes out each period with the next sequence number and the time it left; a
request is answered with its own times and this switch's offset; and an answer to the request under way gives a sample, the
mean of the last eight and, from those, whether the clock is aligned.
Where the manual leaves it open the statement follows the model: log entries 3 and 82. -/
def Obligations.TimeTransfer : Prop :=
  (∀ s : State, s.reg E.TIME_PARENT_PORT ≠ 0xFF → (s.port (s.reg E.TIME_PARENT_PORT)).state = .up →
    s.peerKind (s.reg E.TIME_PARENT_PORT) = 2 →
    (s.time.lastSent = none ∨ ∃ a, s.time.lastSent = some a ∧ a + s.reg E.TIME_PERIOD_TICKS ≤ s.tick) →
    ∃ t f, exec .timeXferSend s = .next t ∧ f / 256 = s.tick ∧ t.time = { s.time with
        seq := (s.time.seq + 1) % 65536, t1 := some f, lastSent := some s.tick } ∧
      t = s.dev (({ s.toDev.drew with time := t.time }).emitPorts 0 133
        (mkCtl tCtrl (s.peerAddr (s.reg E.TIME_PARENT_PORT)) (s.ownAddr 0xFF) 0x40 0
          (timePayload 1 ((s.time.seq + 1) % 65536) f 0 0 0)) [s.reg E.TIME_PARENT_PORT])) ∧
  (∀ (s : State) (p : Port) (c : Cell) (t2 t3 : BitVec 64), c.type = tCtrl → c.op = 0x40 → c.pay 0 1 = 1 →
    (s.port p.val).state = .up →
    exec (.timeXferRequest p c t2 t3) s = .next (s.dev (s.toDev.emitPorts 0 133
      (mkCtl tCtrl (s.peerAddr p.val) (s.ownAddr 0xFF) 0x40 0
        (timePayload 2 (c.pay 2 2) (c.pay 4 8) t2.toNat t3.toNat (ofSigned 64 s.timeOffset))) [p.val]))) ∧
  (∀ (s : State) (p : Port) (c : Cell) (t4 : BitVec 64), c.type = tCtrl → c.op = 0x40 → c.pay 0 1 = 2 →
    c.pay 2 2 = s.time.seq → s.time.t1 = some (c.pay 4 8) → s.reg E.TIME_PARENT_PORT = p.val →
    let a : Int := (c.pay 12 8 : Int) - c.pay 4 8
    let b : Int := (t4.toNat : Int) - c.pay 20 8
    let x := toSigned 64 (c.pay 28 8) - ((a - b) / 2 - toSigned 32 (s.reg E.TIME_ASYM))
    let l := (x :: s.time.samples).take 8
    ∃ t, exec (.timeXferAnswer p c t4) s = .next t ∧ t.time.samples = l ∧ t.time.delay = (a + b) / 2 ∧
      t.time.offset = meanOf l ∧ t.time.t1 = none ∧
      (t.toDev.timeAligned = true ↔ l.length = 8 ∧ ∀ v ∈ l, -(s.reg E.TIME_ALIGN_TOL : Int) ≤ v ∧ v ≤ s.reg E.TIME_ALIGN_TOL) ∧
      { t with time := s.time } = s)

/-! ## The compute tier (R385 to R477) -/

/-- R407 to R413: an ARMED whistle at its threshold fires: the threshold is taken off, the fire counted, its action queued, and
after REPEAT fires it is SPENT; RAISE_INT raises its source in the fast domain; DMA_CHAIN starts its channel; and the end of an
action adds to the chained whistle, or spends this one with a report.
Where the manual leaves it open the statement follows the model: log entries 3, 87, 88, 113, 114 and 131. -/
def Obligations.WhistlesFire : Prop :=
  (∀ (s : State) (w : WhistleNo), s.domainOff .switch = false → (s.whistle w.val).state = .armed →
    (s.whistle w.val).threshold ≤ (s.whistle w.val).count → queued (s.actions (w.val / 4096)) < 1024 →
    1 ≤ (s.whistle w.val).code → (s.whistle w.val).code ≤ acINT →
    let x := s.whistle w.val
    ∃ t, exec (.whistleFire w) s = .next t ∧
      t.whistle w.val = { x with count := x.count - x.threshold, fires := x.fires + 1,
                                 state := (if x.repeats ≠ 0 ∧ x.fires + 1 = x.repeats then .spent else .armed) } ∧
      (∀ v, v ≠ w.val → t.whistle v = s.whistle v) ∧
      t.actions (w.val / 4096) = s.actions (w.val / 4096) ++
        [Machine.Action.mk w.val x.fires x.code x.cdie (x.address x.fires) x.arg2 .queued] ∧
      t.mem = s.mem ∧ s.regsBut t [E.QUEUE_PEAK]) ∧
  (∀ (s : State) (w : WhistleNo), (s.whistle w.val).state ≠ .armed ∨ (s.whistle w.val).count < (s.whistle w.val).threshold →
    exec (.whistleFire w) s = .next s) ∧
  (∀ (s : State) (sd : Sdie) (a : Machine.Action), s.actionReady sd.val acINT a →
    (0x80 ≤ a.arg2 % 256 → exec (.raiseInt sd) s = .next (s.dev
      (((s.toDev.startAction sd.val acINT a).arrive (.source (a.arg2 % 256))).actionEnded a true))) ∧
    (a.arg2 % 256 < 0x80 → exec (.raiseInt sd) s = .next (s.dev ((s.toDev.startAction sd.val acINT a).actionEnded a false)))) ∧
  (∀ (s : State) (sd : Sdie) (a : Machine.Action), s.actionReady sd.val acDMA a → a.arg2 ≤ 15 →
    let d1 := s.toDev.startAction sd.val acDMA a
    d1.dmaFull (16 * a.cdie + a.arg2) = false →
    exec (.dmaChain sd) s = .next (s.dev (d1.dmaStart (16 * a.cdie + a.arg2) ⟨a.addr, some (a.whistle, a.fire)⟩))) ∧
  (∀ (s : State) (w : WhistleNo) (a : Machine.Action) (r : List Machine.Action), s.actions (w.val / 4096) = a :: r → a.whistle = w.val →
    (a.stage = .succeeded → bits (s.whistle w.val).doneWhistle 15 1 = 0 →
      exec (.actionComplete w true) s = .next (s.dev (s.toDev.setActions (w.val / 4096) r))) ∧
    (a.stage = .succeeded → bits (s.whistle w.val).doneWhistle 15 1 = 1 →
      exec (.actionComplete w true) s = .next (s.dev ((s.toDev.setActions (w.val / 4096) r).addWhistle (doneOrigin (w.val / 4096) a)
        ((s.whistle w.val).doneWhistle % 8192) (s.whistle w.val).doneInc))) ∧
    (a.stage = .failed → (s.whistle w.val).state = .armed →
      ∃ t, exec (.actionComplete w false) s = .next t ∧ (t.whistle w.val).state = .spent ∧
        t.reg E.LAST_ACTION_FAIL = w.val ∧ t.actions (w.val / 4096) = r ∧ s.regsBut t [E.LAST_ACTION_FAIL] ∧
        t.sentry.reports = s.sentry.reports ++ [Report.mk s.sampledAt (bark 0x0710 accNone iniNone false a.addr w.val)]))

/-- R390, R395, R408 and R425: LAUNCH takes up a product whose descriptor passes, and fails one whose descriptor cannot lie in
memory; INJECT_START and SEND_CTL act on the cell that stands in memory at the action's address; and a product ends with its
action once its tiles are done.
Where the manual leaves it open the statement follows the model: log entries 3, 87, 88, 113 and 114. -/
def Obligations.ActionsRun : Prop :=
  (∀ (s : State) (sd : Sdie) (a : Machine.Action), s.actionReady sd.val acLAUNCH a →
    let d1 := s.toDev.startAction sd.val acLAUNCH a
    (d1.generalRange a.addr 96 = false →
      exec (.launch sd) s = .next (s.dev ((d1.launchFail a.addr 6 a.cdie 0).actionEnded a false))) ∧
    (∀ b d2, d1.generalRange a.addr 96 = true → d1.readMem a.addr 96 (d1.freeCore a.cdie) = (some b, d2) → pdKind b = 1 →
      d2.productRefused a.addr b = none →
      exec (.launch sd) s = .next (s.dev ({ d2 with
        products := tset d2.products d2.productNext
          { descAddr := a.addr, desc := b, cdie := a.cdie, whistle := a.whistle, fire := a.fire, start := d2.tick },
        productNext := d2.productNext + 1 }).worked))) ∧
  (∀ (s : State) (sd : Sdie) (a : Machine.Action) (b : List Byte) (d2 : Dev), s.actionReady sd.val acINJECT a →
    (s.toDev.startAction sd.val acINJECT a).generalRange a.addr 80 = true →
    (s.toDev.startAction sd.val acINJECT a).linkDown (4 * sd.val + tierCdie a.addr) = false →
    ((s.toDev.startAction sd.val acINJECT a).pkgTransfer (4 * sd.val + tierCdie a.addr)).readMem a.addr 80 iniNone =
      (some b, d2) →
    let c : Cell := ⟨BitVec.ofNat 96 (beNat (b.take 12)), slice b 12 64⟩
    let c1 := c.setFld 30 16 ((c.cseq + a.arg2 * a.fire) % 65536)
    c1.type = tStart → c1.malformedForm = false →
    exec (.injectStart sd) s = .next (s.dev ((d2.injectStart c1).2.actionEnded a (d2.injectStart c1).1))) ∧
  (∀ (s : State) (sd : Sdie) (a : Machine.Action) (b : List Byte) (d2 : Dev), s.actionReady sd.val acSEND a →
    (s.toDev.startAction sd.val acSEND a).generalRange a.addr 80 = true →
    (s.toDev.startAction sd.val acSEND a).readMem a.addr 80 iniNone = (some b, d2) →
    let c : Cell := ⟨BitVec.ofNat 96 (beNat (b.take 12)), slice b 12 64⟩
    c.type = tCtrl → localOp c.op = false → c.malformedForm = false →
    exec (.sendCtl sd) s = .next (s.dev ((d2.emitRouted sd.val (128 + tierCdie a.addr) c).actionEnded a true))) ∧
  (∀ (s : State) (id : BitVec 64) (p : Product), tget s.products id.toNat = some p → s.actionWaits acLAUNCH = false →
    (pdKind p.desc = 1 → exec (.productComplete id) s = .next (s.dev
      ((s.toDev.runProduct p).dev.endProduct id.toNat p (s.toDev.runProduct p).failed.isNone))) ∧
    (pdKind p.desc ≠ 1 → p.failed = none → (∀ e ∈ s.chains, ∀ z ∈ e.2.stash, z.prod ≠ some id.toNat) →
      exec (.productComplete id) s = .next (s.dev (s.toDev.endProduct id.toNat p true))) ∧
    (pdKind p.desc ≠ 1 → p.failed ≠ none →
      exec (.productComplete id) s = .next (s.dev (s.toDev.endProduct id.toNat p false)))) ∧
  (∀ (s : State) (id : BitVec 64), tget s.products id.toNat = none → exec (.productComplete id) s = .next s)

/-- R414, R426, R430 and R448: a chunk handed to a gradient chain without a low-rank step becomes its job and runs; the end of
a chunk raises the bindings of its chain once; and a COMMIT heel prepares once nothing of its step is busy.
Where the manual leaves it open the statement follows the model: log entries 3, 96 and 97. -/
def Obligations.ChainsRun : Prop :=
  (∀ (s : State) (n : CtxNo) (c : BitVec 20) (slot : Nat) (t0 : TierChunk), (s.ctx n.val).state = .collect →
    (s.ctx n.val).record.isSome = true → (s.ctx n.val).rc.heel = false → s.switchStill = false → s.computeOff = false → s.computeGated = false →
    s.chainSlotOf (s.ctx n.val).rc.fused = some slot →
    s.roleOf (s.ctx n.val).rc = some .gradient → tget (s.ctx n.val).tier c.toNat = some t0 →
    lowRank (s.chain slot).desc = none →
    let j := s.toDev.takeJob n.val slot c.toNat (inputOf (s.chain slot).desc t0.s) 0
    exec (.chainChunk n c) s = .next (s.dev (j.1.runJob slot j.2 none jobFuel))) ∧
  (∀ (s : State) (n : CtxNo) (c : BitVec 20),
    ((s.ctx n.val).state ≠ .collect ∨ s.switchStill = true ∨ s.computeOff = true ∨ s.computeGated = true) →
    exec (.chainChunk n c) s = .next s) ∧
  (∀ (s : State) (k : Fin 256) (c : BitVec 20), c.toNat ∈ (s.chain k.val).finished →
    exec (.opDone k c) s = .next (s.dev ((s.toDev.setChain k.val { s.chain k.val with
      finished := (s.chain k.val).finished.erase c.toNat }).bindEvent (.cdie (chainDie (s.chain k.val).desc)) bOP (chainIdOf (s.chain k.val).desc) c.toNat))) ∧
  (∀ (s : State) (k : Fin 256) (c : BitVec 20), c.toNat ∉ (s.chain k.val).finished → exec (.opDone k c) s = .next s) ∧
  (∀ (s : State) (n : CtxNo), (s.ctx n.val).state = .collect → (s.ctx n.val).rc.heel = true → (s.ctx n.val).rc.kind = 1 →
    (s.ctx n.val).commitCode ≠ 3 → s.stepBusy (s.ctx n.val).rc.step = false → (s.ctx n.val).rc.step ∉ s.stepFails →
    exec (.commitPrepare n) s = .next (s.dev (((s.toDev.moveSlots (s.ctx n.val).rc.step [stWRITING] stPREPARED).updCtx n.val
      (fun z => { z with commitCode := 3 })).heelOn n.val)))

/-! ## The host port, its queue pairs, and the DMA channels (R478 to R506) -/

/-- R480, R481, R483 and R485 to R491: what arrives while the host domain's clock stands wakes it and is held before anything of it
is processed; a packet with a wrong ICRC, or to a queue pair that is not in RTS, is counted and dropped; one
that needs C-dies that sleep, or follows one that waits, wakes them and is held; a CE mark is answered with a CNP; in its turn a WRITE lands in its window, or
in CONSUMED, a SEND joins the bridge, a READ is answered, and the response to a READ of one's own
lands where its descriptor says; an acknowledgement takes off what it covers; what no window allows, what the queue pair does not serve, and a
PSN out of turn are answered as R485 and R486 say.
Where the manual leaves it open the statement follows the model: log entries 3, 102, 107 and 108. -/
def Obligations.HostRequestsAct : Prop :=
  (∀ (i : Instr) (k : Nat) (m : RoceMsg) (s : State), packetOf i = some (k, m) →
    (s.toDev.hostUp = false → exec i s = .next s) ∧
    (s.toDev.hostUp = true → s.toDev.domainGated .host = true → exec i s = .next (s.dev
      { s.toDev.wake wkHOST with heldPkts := s.heldPkts ++ [.frame k m] })) ∧
    (s.toDev.hostUp = true → s.toDev.domainGated .host = false → m.icrcOk = false →
      exec i s = .next (s.dev (s.toDev.countErr E.ICRC_ERRORS))) ∧
    (s.toDev.hostUp = true → s.toDev.domainGated .host = false → m.icrcOk = true → (s.qp m.qp.val).state ≠ 1 →
      exec i s = .next (s.dev (s.toDev.count E.HOST_DROPS))) ∧
    (∀ d, s.packetIn m d → d.hostWaits k m = true → exec i s = .next (s.dev
      { d.wake wkHOST with heldPkts := d.heldPkts ++ [.packet k m] })) ∧
    (∀ d, s.packetIn m d → d.hostWaits k m = false → k ≤ 2 → m.invalid = true → m.psn.toNat = (s.qp m.qp.val).rqPsn →
      exec i s = .next (s.dev (d.nakError m.qp.val m.psn.toNat synINVALID))) ∧
    (∀ d, s.packetIn m d → d.hostWaits k m = false → k ≤ 1 → 2 ^ 23 ≤ psnAhead m.psn.toNat (s.qp m.qp.val).rqPsn →
      exec i s = .next (s.dev (d.sendAck m.qp.val (((s.qp m.qp.val).rqPsn + 2 ^ 24 - 1) % 2 ^ 24) synACK))) ∧
    (∀ d, s.packetIn m d → d.hostWaits k m = false → k ≤ 2 → 0 < psnAhead m.psn.toNat (s.qp m.qp.val).rqPsn →
      psnAhead m.psn.toNat (s.qp m.qp.val).rqPsn < 2 ^ 23 →
      ((s.qp m.qp.val).gapNak = true → exec i s = .next (s.dev d)) ∧
      ((s.qp m.qp.val).gapNak = false → exec i s = .next (s.dev
        ((d.setQp m.qp.val { d.qp m.qp.val with gapNak := true }).sendAck m.qp.val (s.qp m.qp.val).rqPsn synSEQ))))) ∧
  (∀ (s : State) (m : RoceMsg), s.toDev.hostUp = true →
    (m.ecn = false → s.toDev.cnpFor m = s.toDev) ∧
    (m.ecn = true → (∀ a, (s.qp m.qp.val).lastCnpSent = some a → a + 1250 ≤ s.tick) →
      (s.toDev.cnpFor m).out = s.out ++ [.host s.tick m.qp.val
        (bth 0x81 0 (s.reg (E.REMOTE_QPN m.qp.val)) 0 false ++ List.replicate 16 0)] ∧
      (s.toDev.cnpFor m).reg E.CNP_SENT = (s.reg E.CNP_SENT + 1) % 2 ^ 64 ∧
      (s.toDev.cnpFor m).qp m.qp.val = { s.qp m.qp.val with lastCnpSent := some s.tick })) ∧
  (∀ (s : State) (m : RoceMsg) (d : Dev) (r : QpRx) (w : Nat), s.packetDue 1 m d → s.sentry.inject = none →
    ((s.qp m.qp.val).rx = none ∧ m.first = true ∧ r = { kind := 1, rkey := m.rkey.toNat, va := m.va.toNat, len := m.dmaLen.toNat } ∨
      (s.qp m.qp.val).rx = some r ∧ m.first = false ∧ r.kind = 1) →
    (if m.last then r.taken + m.payload.length = r.len ∧ m.payload.length ≤ d.pathMtu
      else m.payload.length = d.pathMtu ∧ r.taken + m.payload.length ≤ r.len) → m.payload ≠ [] →
    d.windowOf r.rkey = some w → d.windowAllows w true r.va r.len = true → s.reg (E.WIN_ACCESS w) ≠ 4 →
    let q := m.qp.val
    let msn := if m.last then ((s.qp q).msn + 1) % 2 ^ 24 else (s.qp q).msn
    ∃ t, exec (.rdmaWrite m) s = .next t ∧
      t.mem = memPut s.mem (s.reg (E.WIN_BASE w) + r.va + r.taken) m.payload ∧
      t.qp q = { d.qp q with rqPsn := ((s.qp q).rqPsn + 1) % 2 ^ 24, msn := msn, gapNak := false,
                             rx := (if m.last then none else some { r with taken := r.taken + m.payload.length }) } ∧
      (∀ v, v ≠ q → t.qp v = s.qp v) ∧
      t.out = d.out ++ (if m.ackReq then [.host s.tick q (bth 0x11 0 (s.reg (E.REMOTE_QPN q)) m.psn.toNat false ++
        beBytes 1 synACK ++ beBytes 3 msn)] else []) ∧
      t.reg E.HOST_FRAMES = (s.reg E.HOST_FRAMES + 1) % 2 ^ 64 ∧ s.regsBut t [E.HOST_FRAMES, E.CNP_SENT] ∧
      { t with mem := s.mem, pageChecks := s.pageChecks, ueWords := s.ueWords, qps := s.qps, out := s.out, regs := s.regs } = s) ∧
  (∀ (s : State) (m : RoceMsg) (d : Dev), s.packetDue 1 m d → (s.qp m.qp.val).rx = none → m.first = true → m.last = true →
    m.payload.length = m.dmaLen.toNat → m.payload.length ≤ d.pathMtu →
    (∀ w, d.windowOf m.rkey.toNat = some w → s.reg (E.WIN_ACCESS w) = 4 →
      d.windowAllows w true m.va.toNat m.dmaLen.toNat = true →
      (beNat m.payload ≤ s.reg (E.PRODUCED (m.va.toNat / 8)) → exec (.rdmaWrite m) s = .next (s.dev
        (((d.writeConsumed (m.va.toNat / 8) (beNat m.payload)).took m.qp.val 1 true).ackIf m))) ∧
      (s.reg (E.PRODUCED (m.va.toNat / 8)) < beNat m.payload →
        exec (.rdmaWrite m) s = .next (s.dev ((d.took m.qp.val 1 true).ackIf m)))) ∧
    ((∀ w, d.windowOf m.rkey.toNat = some w → d.windowAllows w true m.va.toNat m.dmaLen.toNat = false) →
      exec (.rdmaWrite m) s = .next (s.dev (d.nakError m.qp.val m.psn.toNat synACCESS)))) ∧
  (∀ (s : State) (m : RoceMsg) (d : Dev) (data : List Byte), s.packetDue 0 m d →
    ((s.qp m.qp.val).rx = none ∧ m.first = true ∧ data = m.payload ∨
      ∃ r, (s.qp m.qp.val).rx = some r ∧ m.first = false ∧ r.kind = 0 ∧ data = r.data ++ m.payload) →
    let q := m.qp.val
    let n := data.length / 72
    (s.reg (E.QP_KIND q) = 1 → m.last = false → m.payload.length = d.pathMtu → exec (.sendMessage m) s = .next (s.dev
      (((d.setQp q { d.qp q with rx := some { kind := 0, data := data } }).took q 1 false).ackIf m))) ∧
    (s.reg (E.QP_KIND q) = 1 → m.last = true → data.length % 72 = 0 → m.payload.length ≤ d.pathMtu → s.bridge.length + n ≤ 4096 →
      exec (.sendMessage m) s = .next (s.dev ((({ d.setQp q { d.qp q with rx := none } with
        bridge := s.bridge ++ (chunksOf 72 data (n + 1)).map (bridgeRec q (s.qp q).msn) }.took q 1 true).ackIf m).bridgePump))) ∧
    (s.reg (E.QP_KIND q) = 1 → m.last = true → data.length % 72 = 0 → m.payload.length ≤ d.pathMtu → 4096 < s.bridge.length + n →
      exec (.sendMessage m) s = .next (s.dev ((d.count E.BRIDGE_RNR).sendAck q m.psn.toNat synRNR))) ∧
    (s.reg (E.QP_KIND q) ≠ 1 → exec (.sendMessage m) s = .next (s.dev (d.nakError q m.psn.toNat synINVALID)))) ∧
  (∀ (s : State) (m : RoceMsg) (d : Dev) (w : Nat), s.packetIn m d → d.hostWaits 2 m = false → d.windowOf m.rkey.toNat = some w →
    let q := m.qp.val
    let n := m.dmaLen.toNat
    let due := m.invalid = false ∧ (s.qp q).rx = none ∧ m.psn.toNat = (s.qp q).rqPsn
    let again := 2 ^ 23 ≤ psnAhead m.psn.toNat (s.qp q).rqPsn
    (∀ bs d1, d.windowAllows w false m.va.toNat n = true → d.readWindow w m.va.toNat n (iniQp q) = (some bs, d1) →
      (due → exec (.rdmaReadRequest m) s = .next (s.dev
        ((d1.took q (max 1 ((n + d1.pathMtu - 1) / d1.pathMtu)) true).sendResponses q m.psn.toNat bs))) ∧
      (again → exec (.rdmaReadRequest m) s = .next (s.dev (d1.sendResponses q m.psn.toNat bs)))) ∧
    (∀ d1, d.windowAllows w false m.va.toNat n = true → d.readWindow w m.va.toNat n (iniQp q) = (none, d1) → (due ∨ again) →
      exec (.rdmaReadRequest m) s = .next (s.dev (d1.nakError q m.psn.toNat synOPERATION))) ∧
    (d.windowAllows w false m.va.toNat n = false → (due ∨ again) →
      exec (.rdmaReadRequest m) s = .next (s.dev (d.nakError q m.psn.toNat synACCESS)))) ∧
  (∀ (s : State) (m : RoceMsg) (d : Dev) (r : QpReq) (ch : Nat), s.packetIn m d → d.hostWaits 3 m = false → s.sentry.inject = none →
    (s.qp m.qp.val).sent = [r] → (s.qp m.qp.val).queue = [] → r.op = 0x0C → r.npkts = 1 → r.use = .dma ch → m.psn.toNat = r.psn →
    (s.chan ch).state = .running → (s.chan ch).started = true →
    let bs := m.payload.take r.dmaLen
    ∃ t, exec (.rdmaReadResponse m) s = .next t ∧
      t.mem = memPut s.mem (leNat (slice (s.chan ch).desc 24 8) + (s.chan ch).got.length) bs ∧
      t.chan ch = { s.chan ch with got := (s.chan ch).got ++ bs } ∧
      t.qp m.qp.val = { d.qp m.qp.val with sent := [], retries := 0, rnrRetries := 0, sentAt := s.tick } ∧
      (∀ v, v ≠ m.qp.val → t.qp v = s.qp v) ∧ t.out = d.out ∧ t.regs = d.regs) ∧
  (∀ (s : State) (m : RoceMsg) (d : Dev) (r : QpReq), s.packetIn m d → d.hostWaits 4 m = false → (s.qp m.qp.val).sent = [r] →
    (s.qp m.qp.val).queue = [] → r.op ≠ 0x0C → m.psn.toNat = r.psn → bits m.syndrome.toNat 5 2 = 0 →
    exec (.acknowledge m) s = .next (s.dev (d.setQp m.qp.val
      { d.qp m.qp.val with sent := [], retries := 0, rnrRetries := 0, sentAt := s.tick })))

/-- R478 to R481, R486 and R487: the host port comes up at the highest PHY that both ends allow; a READ response in its turn
goes to its channel; an acknowledgement takes off what it covers, an RNR NAK and a sequence NAK send it again, another NAK ends
the queue pair; without an answer the queue pair retries, up to its limit; a CNP halves the rate, at most once in 1,250 ticks, and begins a new
period of 1,375 ticks, after which without one the rate rises; a frame that nothing serves is counted; and while the host
domain's clock stands what arrives wakes it and waits.
Where the manual leaves it open the statement follows the model: log entries 3, 102 and 108. -/
def Obligations.HostRequesterAndPort : Prop :=
  (∀ (s : State) (l : List HostMode) (ok : Bool), s.toDev.domainOff .host = false → s.toDev.fenced = false → s.reg E.HOST_MODE = 0 →
    let both := s.reg E.HOST_MAX_MODE ≠ 2 ∧ s.hostPort.only400 = false ∧ HostMode.cr4x800 ∈ l
    (both → ok = true → exec (.hostAutoneg l ok) s = .next (s.dev
      { s.toDev.setReg E.HOST_MODE 1 with hostPort := { s.hostPort with fails800 := 0 } })) ∧
    (both → ok = false → exec (.hostAutoneg l ok) s = .next (s.dev
      { s.toDev with hostPort := { s.hostPort with fails800 := s.hostPort.fails800 + 1, only400 := 2 ≤ s.hostPort.fails800 } })) ∧
    (¬ both → HostMode.cr4x400 ∈ l → ok = true → exec (.hostAutoneg l ok) s = .next (s.dev (s.toDev.setReg E.HOST_MODE 2))) ∧
    (¬ both → (HostMode.cr4x400 ∉ l ∨ ok = false) → exec (.hostAutoneg l ok) s = .next s)) ∧
  (∀ (s : State) (m : RoceMsg) (d : Dev) (r : QpReq) (rest : List QpReq) (ch : Nat), s.packetIn m d → d.hostWaits 3 m = false →
    (s.qp m.qp.val).sent.dropWhile (fun x => x.op != 0x0C) = r :: rest → r.use = .dma ch →
    let bs := m.payload.take r.dmaLen
    let left := if r.npkts ≤ 1 then rest else { r with
      psn := (r.psn + 1) % 2 ^ 24, npkts := r.npkts - 1, va := r.va + bs.length, dmaLen := r.dmaLen - bs.length } :: rest
    (m.psn.toNat = r.psn → exec (.rdmaReadResponse m) s = .next (s.dev (((d.setQp m.qp.val { d.qp m.qp.val with
      sent := left, retries := 0, rnrRetries := 0, sentAt := s.tick }).dmaTake ch bs).pump m.qp.val))) ∧
    (m.psn.toNat ≠ r.psn → exec (.rdmaReadResponse m) s = .next (s.dev d))) ∧
  (∀ (s : State) (m : RoceMsg) (d : Dev), s.packetIn m d → d.hostWaits 3 m = false → (∀ r ∈ (s.qp m.qp.val).sent, r.op ≠ 0x0C) →
    exec (.rdmaReadResponse m) s = .next (s.dev d)) ∧
  (∀ (s : State) (m : RoceMsg) (d : Dev), s.packetIn m d → d.hostWaits 4 m = false →
    let q := m.qp.val
    let b := d.acked q ((m.psn.toNat + 2 ^ 24 - 1) % 2 ^ 24)
    let kind := bits m.syndrome.toNat 5 2
    ((s.qp q).sent = [] → exec (.acknowledge m) s = .next (s.dev d)) ∧
    ((s.qp q).sent ≠ [] → kind = 0 → exec (.acknowledge m) s = .next (s.dev ((d.acked q m.psn.toNat).pump q))) ∧
    ((s.qp q).sent ≠ [] → kind = 1 → (s.reg (E.RNR_RETRY q) = 7 ∨ (b.qp q).rnrRetries < s.reg (E.RNR_RETRY q)) →
      exec (.acknowledge m) s = .next (s.dev ((b.setQp q { b.qp q with rnrRetries := (b.qp q).rnrRetries + 1 }).resendAll q))) ∧
    ((s.qp q).sent ≠ [] → kind = 1 → s.reg (E.RNR_RETRY q) ≠ 7 → s.reg (E.RNR_RETRY q) ≤ (b.qp q).rnrRetries →
      exec (.acknowledge m) s = .next (s.dev (b.qpError q m.psn.toNat))) ∧
    ((s.qp q).sent ≠ [] → kind = 3 → m.syndrome.toNat = synSEQ → exec (.acknowledge m) s = .next (s.dev (b.retry q))) ∧
    ((s.qp q).sent ≠ [] → kind = 3 → m.syndrome.toNat ≠ synSEQ →
      exec (.acknowledge m) s = .next (s.dev (b.qpError q m.psn.toNat)))) ∧
  (∀ (s : State) (q : QpNo) (r : QpReq) (rest : List QpReq), (s.qp q.val).state = 1 → (s.qp q.val).sent = r :: rest →
    (s.tick < (s.qp q.val).sentAt + s.reg (E.RETRY_TICKS q.val) → exec (.qpRetryTimeout q) s = .next s) ∧
    ((s.qp q.val).sentAt + s.reg (E.RETRY_TICKS q.val) ≤ s.tick → s.reg (E.RETRY_COUNT q.val) ≤ (s.qp q.val).retries →
      exec (.qpRetryTimeout q) s = .next (s.dev (s.toDev.qpError q.val r.psn))) ∧
    ((s.qp q.val).sentAt + s.reg (E.RETRY_TICKS q.val) ≤ s.tick → (s.qp q.val).retries < s.reg (E.RETRY_COUNT q.val) →
      ∃ t, exec (.qpRetryTimeout q) s = .next t ∧
        t.qp q.val = { s.qp q.val with retries := (s.qp q.val).retries + 1, sentAt := s.tick } ∧
        t.out = s.out ++ (if s.toDev.hostUp = true then (r :: rest).map (fun x => .host s.tick q.val (s.toDev.reqBytes q.val x)) else []) ∧
        (∀ v, v ≠ q.val → t.qp v = s.qp v) ∧ { t with qps := s.qps, out := s.out } = s)) ∧
  (∀ (s : State) (q : QpNo), ((s.qp q.val).state ≠ 1 ∨ (s.qp q.val).sent = []) → exec (.qpRetryTimeout q) s = .next s) ∧
  (∀ (s : State) (q : QpNo), s.toDev.hostUp = false → exec (.cnp q) s = .next s) ∧
  (∀ (s : State) (q : QpNo), s.toDev.hostUp = true → s.toDev.domainGated .host = true →
    exec (.cnp q) s = .next (s.dev { s.toDev.wake wkHOST with heldPkts := s.heldPkts ++ [.cnp q.val] })) ∧
  (∀ (s : State) (q : QpNo), s.toDev.hostUp = true → s.toDev.domainGated .host = false →
    let x := s.qp q.val
    let d := s.toDev.count E.HOST_FRAMES
    (x.state ≠ 1 → exec (.cnp q) s = .next (s.dev (s.toDev.count E.HOST_DROPS))) ∧
    (x.state = 1 → (∀ a, x.lastCnp = some a → a + 1250 ≤ s.tick) → exec (.cnp q) s = .next (s.dev
      (d.setQp q.val { x with rate := max 8 (x.rate / 2), lastCnp := some s.tick, lastRise := s.tick }))) ∧
    (∀ a, x.state = 1 → x.lastCnp = some a → s.tick < a + 1250 →
      exec (.cnp q) s = .next (s.dev (d.setQp q.val { x with lastRise := s.tick })))) ∧
  (∀ (s : State) (q : QpNo),
    ((s.qp q.val).lastRise + 1375 ≤ s.tick → exec (.qpRateRise q) s = .next (s.dev (s.toDev.setQp q.val { s.qp q.val with
      rate := min 256 ((s.qp q.val).rate + 16), lastRise := s.tick }))) ∧
    (s.tick < (s.qp q.val).lastRise + 1375 → exec (.qpRateRise q) s = .next s)) ∧
  (∀ (s : State) (f : List Byte),
    (s.toDev.hostUp = true → s.toDev.servesFrame f = false → s.toDev.domainGated .host = false →
      exec (.hostDrops f) s = .next (s.dev (s.toDev.count E.HOST_DROPS))) ∧
    (s.toDev.hostUp = true → s.toDev.domainGated .host = true → exec (.hostDrops f) s = .next (s.dev
      { s.toDev.wake wkHOST with heldPkts := s.heldPkts ++ [.raw f] })) ∧
    (s.toDev.hostUp = true → s.toDev.domainGated .host = false → s.toDev.servesFrame f = true → exec (.hostDrops f) s = .next s) ∧
    (s.toDev.hostUp = false → exec (.hostDrops f) s = .next s))

/-- R492, R495, R496, R497 and R504: at a descriptor's completion a COPY has moved its bytes, and a transfer its own; a wrong
CRC-64 or an uncorrectable error fails it; the last descriptor of a chain ends the count and frees the channel; a paused channel
resumes once the fill level has fallen; and the scrubber goes on word by word, counting and reporting what it meets, in the cell buffer too, whose marked words fail
what reads them.
Where the manual leaves it open the statement follows the model: log entries 3, 109, 112, 133 and 198. -/
def Obligations.DmaAndScrubber : Prop :=
  (∀ (s : State) (ch : ChanNo), (s.chan ch.val).state = .running → (s.chan ch.val).started = true → s.toDev.computeOff = false →
    let n := ch.val
    let c := s.chan n
    (∀ bs d1, ddOp c.desc = 1 → s.toDev.readMem (ddSrc c.desc) (ddLength c.desc) (iniDma n) = (some bs, d1) →
      exec (.dmaDescComplete ch) s = .next (s.dev ((d1.writeFrom (iniDma n) (ddDst c.desc) bs).dmaMoved n bs))) ∧
    (∀ d1, ddOp c.desc = 1 → s.toDev.readMem (ddSrc c.desc) (ddLength c.desc) (iniDma n) = (none, d1) →
      exec (.dmaDescComplete ch) s = .next (s.dev (d1.dmaFail n 5 accRead))) ∧
    (ddOp c.desc ≠ 1 → s.toDev.dmaOnQp n = false → (ddOp c.desc = 3 → c.got.length = ddLength c.desc) →
      exec (.dmaDescComplete ch) s = .next (s.dev (s.toDev.dmaMoved n c.got))) ∧
    (ddOp c.desc ≠ 1 → s.toDev.dmaOnQp n = true → exec (.dmaDescComplete ch) s = .next s)) ∧
  (∀ (d : Dev) (n : Nat) (bs : List Byte),
    let c := d.chan n
    (ddCheck c.desc = true → crc64 bs ≠ ddExpect c.desc →
      d.dmaMoved n bs = (d.countN (E.DMA_BYTES n) bs.length).dmaFail n 4 accWrite) ∧
    ((ddCheck c.desc = true → crc64 bs = ddExpect c.desc) → ddNext c.desc = 0 → c.queue = [] →
      d.dmaMoved n bs = (((d.countN (E.DMA_BYTES n) bs.length).endOfCount n).endAction c.action true).setChan n {})) ∧
  (∀ (s : State) (ch : ChanNo) (code : BitVec 8), ((s.chan ch.val).state = .running ∨ (s.chan ch.val).state = .paused) →
    (code = 5 → exec (.dmaDescFail ch code) s = .next (s.dev (s.toDev.dmaFail ch.val 5 accRead))) ∧
    (code = 3 → ddOp (s.chan ch.val).desc = 2 → exec (.dmaDescFail ch code) s = .next (s.dev (s.toDev.dmaFail ch.val 3 accWrite))) ∧
    (code = 3 → ddOp (s.chan ch.val).desc = 3 → exec (.dmaDescFail ch code) s = .next (s.dev (s.toDev.dmaFail ch.val 3 accRead)))) ∧
  (∀ (d : Dev) (n code acc : Nat), ((d.dmaFail n code acc).chan n).state = .error ∧ (d.dmaFail n code acc).reg (E.DMA_ERROR_CODE n) = code) ∧
  (∀ (s : State) (ch : ChanNo) (a : Nat), (s.chan ch.val).lowAt = some a → (s.chan ch.val).state = .paused →
    (a < s.tick → s.toDev.computeOff = false → exec (.dmaResume ch) s = .next (s.dev (s.toDev.dmaGo ch.val))) ∧
    (s.tick ≤ a → exec (.dmaResume ch) s = .next s)) ∧
  (∀ (s : State) (x : BitVec 64) (syn : BitVec 64), s.toDev.flag E.SCRUB_ENABLE = true → s.toDev.computeOff = false →
    s.toDev.computeGated = false →
    let a := x.toNat / 4 * 4
    s.toDev.tierExists a 4 = true → a % 4096 ≠ 4092 → s.sentry.inject = none → s.ueWords = [] →
    (tierSpace a = 0 → tierOffset a + 4 < stackBytes → exec (.scrubRead x .clean) s = .next (s.dev { s.toDev with scrubNext := a + 4 })) ∧
    (tierSpace a ≠ 0 → exec (.scrubRead x .clean) s = .next s) ∧
    (tierSpace a = 0 → exec (.scrubRead x (.corrected syn)) s = .next (s.dev (((s.toDev.countErr E.HBM_CORRECTED).report
      (bark 0x0902 accRead iniScrub false a syn.toNat)).scrubOn a))) ∧
    (tierSpace a = 0 → exec (.scrubRead x (.uncorrectable syn)) s = .next (s.dev
      (((({ s.toDev with ueWords := [a] }.countErr E.HBM_UNCORRECTED).setReg E.LAST_HBM_UE a).report
        (bark 0x0904 accRead iniScrub false a syn.toNat)).scrubOn a))) ∧
    (tierSpace a ≠ 0 → exec (.scrubRead x (.corrected syn)) s = .next (s.dev
      (s.toDev.report (bark 0x0901 accRead iniScrub false a syn.toNat)))) ∧
    (tierSpace a ≠ 0 → exec (.scrubRead x (.uncorrectable syn)) s = .next (s.dev
      ({ s.toDev with ueWords := [a] }.report (bark 0x0903 accRead iniScrub false a syn.toNat))))) ∧
  (∀ (s : State) (x : BitVec 64) (syn : BitVec 64), s.toDev.flag E.SCRUB_ENABLE = true → s.toDev.switchStill = false →
    tierSpace x.toNat = 3 → bits x.toNat 56 6 = 0 → bits x.toNat 0 56 < 2 * slotCount → s.ueWords = [] →
    let n := bits x.toNat 0 56
    exec (.scrubRead x (.corrected syn)) s = .next (s.dev (s.toDev.report (bark 0x0901 accRead iniScrub false n syn.toNat))) ∧
    exec (.scrubRead x (.uncorrectable syn)) s = .next (s.dev
      ({ s.toDev with ueWords := [sramMark 0 n] }.report (bark 0x0903 accRead iniScrub false n syn.toNat)))) ∧
  (∀ (d : Dev) (cls word ini : Nat), d.sentry.inject = none → sramMark cls word ∈ d.ueWords → (d.sramRead cls word ini).1 = false)

/-! ## The sentry, interrupts, and telemetry (R522 to R574) -/

/-- R522, R529, R532, R533 and R536: every report is appended to BARK_LOG, which holds the 64 most recent, and counted in BARKS and
by its class, an injected one as any other; it opens its class's record or merges into it and raises that class's source,
unless it is a corrected fault of a masked unit, which opens and merges into no record and raises no source; a FATAL one sets
the fence; and nothing else changes. -/
def Obligations.BarksAreRecorded : Prop :=
  ∀ (s : State) (b : BarkMsg), kindKnown b.kind.toNat = true →
   let cls := kindClass b.kind.toNat b.cls
   let src := classCode cls
   let masked := cls = .corrected ∧ maskHas (s.reg E.CORR_MASK) (b.kind.toNat / 256) = true
   ∃ t, exec (.bark (some b)) s = .next t ∧ t.reg E.BARKS = (s.reg E.BARKS + 1) % 2 ^ 64 ∧
     (let k := if cls = .corrected then E.CORR_FAULTS else if cls = .contained then E.UNC_FAULTS else E.FATAL_FAULTS
      (s.reg k < 0xFFFFFFFE → t.reg k = s.reg k + 1) ∧ s.regsBut t [E.BARKS, k, E.ANY_SATURATED, E.SATURATION_EVENTS]) ∧
     t.sentry.log = (let l := s.sentry.log ++ [Bark.mk s.tick { b with cls := cls }]; l.drop (l.length - 64)) ∧
     (masked → t.ints = s.ints ∧ t.sentry.record cls = s.sentry.record cls) ∧
     (¬ masked → t.sentry.record cls = openOrMerge (s.sentry.record cls) s.tick (s.escalateTicks cls) b ∧
       maskHas t.ints.pending (if src = 3 then 0 else if src = 2 then 1 else 2) = true) ∧
     t.sentry.fenceAt = (if cls = .fatal then some (s.sentry.fenceAt.getD (s.tick + 1)) else s.sentry.fenceAt) ∧
     (∀ c, c ≠ cls → t.sentry.record c = s.sentry.record c) ∧
     { t with regs := s.regs, sentry := s.sentry, ints := s.ints, tele := s.tele } = s

/-- R31, R534, R537 and R542: the sentry takes the reports that are due, first in precedence first; an open record at its
escalation tick barks one class higher, once; and once the events of the tick are sampled (R537) a group with marks is delivered after its hold-off.
Where the manual leaves it open the statement follows the model: log entries 3, 29 and 156. -/
def Obligations.FaultsAndDeliveries : Prop :=
  (∀ s : State,
    (∀ r, s.sentry.nextReport s.tick = some r → exec (.bark none) s = .next (s.dev
      ({ s.toDev with sentry := { s.sentry with reports := s.sentry.reports.erase r } }.sample r.msg))) ∧
    (s.sentry.nextReport s.tick = none → exec (.bark none) s = .next s)) ∧
  (∀ (s : State) (c n : FaultClass), (c = .corrected ∧ n = .contained ∨ c = .contained ∧ n = .fatal) →
    let r := s.sentry.record c
    (r.isOpen = true → r.escTick ≠ 0 → r.escTick ≤ s.tick →
      let d1 := s.toDev.sample (bark 0x0D01 accNone iniNone false r.firstTick (r.kind * 2 ^ 32 + r.count) n)
      exec (.escalation c) s = .next (s.dev (({ d1 with
        sentry := d1.sentry.setRecord c { d1.sentry.record c with escTick := 0 } }.countErr E.ESCALATIONS).raiseInt 0x03))) ∧
    (r.isOpen = false ∨ r.escTick = 0 ∨ s.tick < r.escTick → exec (.escalation c) s = .next s)) ∧
  (∀ s : State, exec (.escalation .fatal) s = .next s) ∧
  (∀ (s : State) (g : Fin 16), s.heard.alive = true → s.heard.power.resetLow = false →
    let e := s.heard
    let marked := bits e.ints.marked (16 * g.val) 16
    let n := tgetD e.ints.delivered g.val 0 + 1
    let way := e.reg (E.DELIVERY g.val)
    let d := { e with ints := { e.ints with
      marked := e.ints.marked - marked * 2 ^ (16 * g.val), delivered := tset e.ints.delivered g.val n,
      holdUntil := tset e.ints.holdUntil g.val (e.tick + e.reg (E.HOLDOFF_TICKS g.val)) } }.count (E.DELIVERIES g.val)
    (marked = 0 ∨ e.tick < tgetD e.ints.holdUntil g.val 0 → exec (.intGroupDeliver g) s = .next (s.dev e)) ∧
    (marked ≠ 0 → tgetD e.ints.holdUntil g.val 0 ≤ e.tick → maskHas (e.reg E.NOTIFY_MASK) g.val = false →
      (way = 0 → exec (.intGroupDeliver g) s = .next (s.dev d)) ∧
      (way = 1 → exec (.intGroupDeliver g) s = .next (s.dev (d.deliverRdma g.val (deliveryRecord e.tick g.val marked n)))) ∧
      (way = 2 → d.alertHolds = true → exec (.intGroupDeliver g) s = .next (s.dev (d.driveAlert true)))) ∧
    (marked ≠ 0 → tgetD e.ints.holdUntil g.val 0 ≤ e.tick → maskHas (e.reg E.NOTIFY_MASK) g.val = true → way = 0 →
      exec (.intGroupDeliver g) s = .next (s.dev
        ((((d.notifyOne 0 g.val).notifyOne 1 g.val).notifyOne 2 g.val).notifyOne 3 g.val))))

/-- R559, R560, R565, R567, R569 and R573: the boundary of TARGET_TICK is kept, and every counter and gauge as it stood there is copied into a shadow set, over the older
one where two are held, and four ticks later the set is complete; an endpoint's SNAP TAKEN is counted; at the end of its window
a congestion map is closed and the next one begins, and it goes to MAP_LATEST and, while HBM4 can be reached, to memory; and a sampled header passes to the ring, over the
oldest where it is full.
Where the manual leaves it open the statement follows the model: log entries 3, 142 and 144. -/
def Obligations.SnapshotsMapsAndSamples : Prop :=
  (∀ (s : State) (a : SnapArm), s.tele.arm = some a →
    (s.tele.copied = false → a.target ≤ s.tick → ∃ t, exec .snapCopy s = .next t ∧
      (let x : ShadowSet := { id := a.id, target := a.target, taken := false, image := s.boundary.getD s.toDev }
       x ∈ t.shadows ∧ (s.shadows.length < 2 → t.shadows = s.shadows ++ [x]) ∧
       (∀ y z, s.shadows = [y, z] → t.shadows = if y.target ≤ z.target then [x, z] else [y, x])) ∧
      t = { s with shadows := t.shadows, boundary := none, tele := { s.tele with copied := true } }) ∧
    (s.tele.copied = true ∨ s.tick < a.target → exec .snapCopy s = .next s) ∧
    (s.tele.copied = true → a.target + 4 ≤ s.tick → ∃ t, exec .snapTaken s = .next t ∧
      t.shadows = s.shadows.map (fun x => if x.id = a.id then { x with taken := true } else x) ∧
      t.tele = { s.tele with arm := none, copied := false, snapState := 2 } ∧ t.reg E.SNAPS_TAKEN = (s.reg E.SNAPS_TAKEN + 1) % 2 ^ 64 ∧
      s.regsBut t [E.SNAPS_TAKEN] ∧ { t with shadows := s.shadows, tele := s.tele, regs := s.regs } = s) ∧
    (s.tele.copied = false ∨ s.tick < a.target + 4 → exec .snapTaken s = .next s)) ∧
  (∀ (s : State) (p : Port) (c : Cell), c.pay 0 1 = 2 → c.pay 4 4 = s.tele.lastId → s.tele.lastId ≠ 0 →
    exec (.snapTakenCell p c) s = .next (s.dev { s.toDev with tele := { s.tele with
      epTaken := (s.tele.epTaken + 1) % 65536, epLate := if c.pay 1 1 = 1 then maskSet s.tele.epLate p.val else s.tele.epLate } })) ∧
  (∀ (s : State) (p : Port) (c : Cell), c.pay 4 4 ≠ s.tele.lastId → exec (.snapTakenCell p c) s = .next s) ∧
  (∀ (s : State) (t0 : Nat) (a : SnapArm), s.power.off = false → s.tele.arm = some a → s.tele.copied = false → s.boundary = none →
    s.heard.countTick.tick = t0 → a.target ≤ t0 → s.clock.boundary = some s.heard.countTick) ∧
  (∀ (s : State) (x : Sdie) (w : Nat) (b : List Byte) (rest : List (Nat × List Byte)), s.domainOff .switch = false →
    (s.tele.map x.val).closed = (w, b) :: rest →
    let d := (s.toDev.setMap x.val { s.tele.map x.val with closed := rest }).setBlob (if x.val = 0 then E.MAP_LATEST_0 else E.MAP_LATEST_1) b
    let a := s.reg E.MAP_ADDR + (2 * (w % s.reg E.MAP_RECORDS) + x.val) * 4096
    let still := s.domainOff (.compute (Fin.ofNat 4 (tierCdie (s.reg E.MAP_ADDR)))) = true ∨ s.fenced = true
    (¬ still → s.linkDown (4 * x.val + tierCdie a) = false → exec (.mapWindowEnd x) s = .next (s.dev
      (((d.pkgTransfer (4 * x.val + tierCdie a)).writeMem a b).count E.MAPS_WRITTEN))) ∧
    (still → exec (.mapWindowEnd x) s = .next (s.dev (d.countErr E.MAPS_SKIPPED)))) ∧
  (∀ (s : State) (x : Sdie), (s.tele.map x.val).closed = [] → exec (.mapWindowEnd x) s = .next s) ∧
  (∀ (d : Dev) (x : Sdie), d.flag E.MAP_ENABLE = true → d.domainOff .switch = false → (d.tele.map x.val).active = true →
    let m := d.tele.map x.val
    let w := d.reg E.MAP_PERIOD_TICKS
    (m.start + w ≤ d.tick → ((d.tickMap x.val).tele.map x.val).closed = m.closed ++ [(m.start / w, d.mapBytes x.val w)] ∧
      ((d.tickMap x.val).tele.map x.val).start = d.tick / w * w) ∧
    (d.tick < m.start + w → ((d.tickMap x.val).tele.map x.val).closed = m.closed ∧
      ((d.tickMap x.val).tele.map x.val).start = m.start)) ∧
  (∀ (s : State) (g : Fin 8) (x : List Byte) (rest : List (List Byte)), tgetD s.tele.tileQueues g.val [] = x :: rest →
    let t1 := { s.tele with
      tileQueues := tset s.tele.tileQueues g.val rest, tileNext := tset s.tele.tileNext g.val (s.tick + 256) }
    (s.tick < tgetD s.tele.tileNext g.val 0 → exec (.sampleTransfer g) s = .next s) ∧
    (tgetD s.tele.tileNext g.val 0 ≤ s.tick → s.tele.ring.length < 2560 → exec (.sampleTransfer g) s = .next (s.dev
      ({ s.toDev with tele := { t1 with ring := s.tele.ring ++ [x] } }.count E.SAMPLES_TAKEN))) ∧
    (tgetD s.tele.tileNext g.val 0 ≤ s.tick → 2560 ≤ s.tele.ring.length → exec (.sampleTransfer g) s = .next (s.dev
      (({ s.toDev with tele := { t1 with ring := s.tele.ring.drop 1 ++ [x] } }.count E.SAMPLES_TAKEN).countErr E.SAMPLES_LOST))))

/-! ## One-time storage, firmware and the test port (R575 to R597, R652) -/

/-- R576, R587, R589, R594 and R621: once its ticks have passed a word keeps its old bits and takes its new ones, the burn goes on
with the next word, or ends; a failing word ends it as FAILED; a trial that is not committed loses its mark; and the test port
takes its four instructions, EXTEST only in reset, shows what IDCODE and BYPASS put out, treats another as BYPASS, stops on it
where debug access is open or the part is not in FIELD, for the spec says nothing then, and without power takes none.
Where the manual leaves it open the statement follows the model: log entries 3, 27, 116 and 117. -/
def Obligations.BurnsTrialsAndTestPort : Prop :=
  (∀ (s : State) (b : Burn) (w v : Nat) (rest : List (Nat × Nat)), s.burn = some b → b.words = (w, v) :: rest →
    (∀ ok, s.tick < b.start + 18000 → exec (.otpWordBurned ok) s = .next s) ∧
    (b.start + 18000 ≤ s.tick → ∃ t, exec (.otpWordBurned true) s = .next t ∧ t.otpWord w = s.otpWord w ||| v ∧
      (∀ u, u ≠ w → t.otpWord u = s.otpWord u) ∧
      (rest = [] → t.burn = none ∧ t.burnState = (if b.kind = .spent then s.burnState else 2) ∧
        t.fw = (match b.kind with
          | .key 0 _ => { s.fw with pubkey0 := [] }
          | .key _ _ => { s.fw with pubkey1 := [] }
          | .profile _ _ | .rollback | .spent => s.fw)) ∧
      (rest ≠ [] → (∀ a, (some ResetKind.warm, a) ∈ s.power.resetPending → s.tick < a) →
        t.burn = some { b with words := rest, start := s.tick } ∧ t.burnState = s.burnState ∧ t.fw = s.fw) ∧
      (∀ a, rest ≠ [] → (some ResetKind.warm, a) ∈ s.power.resetPending → a ≤ s.tick →
        t.burn = none ∧ t.burnState = 3 ∧ t.fw = s.fw) ∧
      { t with otp := s.otp, burn := s.burn, burnState := s.burnState, fw := s.fw } = s) ∧
    (b.start + 18000 ≤ s.tick → ∃ t x, exec (.otpWordBurned false) s = .next t ∧ t.burn = none ∧ t.burnState = 3 ∧
      t.otpWord w = s.otpWord w ||| (v &&& x) ∧ (∀ u, u ≠ w → t.otpWord u = s.otpWord u) ∧
      { t with otp := s.otp, burn := s.burn, burnState := s.burnState, draws := s.draws } = s)) ∧
  (∀ (s : State) (a : Nat), s.fw.trialSince = some a →
    (a + s.reg E.FW_TRIAL_TICKS ≤ s.tick → exec .trialExpired s = .next (s.dev
      ({ s.toDev with fw := { s.fw with
        trial := if s.fw.trial = some s.fw.running then none else s.fw.trial, trialSince := none } }.setReg E.FW_STATUS 4))) ∧
    (s.tick < a + s.reg E.FW_TRIAL_TICKS → exec .trialExpired s = .next s)) ∧
  (∀ (s : State) (x : TestInstr), s.power.off = true → exec (.testPortInstruction x) s = .next s) ∧
  (∀ (s : State) (x : TestInstr), s.power.off = false → (x = .idcode ∨ x = .bypass ∨ x = .samplePreload) →
    exec (.testPortInstruction x) s = .next (s.dev (s.toDev.tapLoad x))) ∧
  (∀ s : State, s.power.off = false →
    (s.power.resetLow = true → exec (.testPortInstruction .extest) s = .next (s.dev (s.toDev.tapLoad .extest))) ∧
    (s.power.resetLow = false → exec (.testPortInstruction .extest) s = .next (s.dev (s.toDev.tapLoad .bypass))) ∧
    ∀ ir, (s.debugOpen = false → s.mfg.field = true → exec (.testPortInstruction (.other ir)) s = .next (s.dev (s.toDev.tapLoad .bypass))) ∧
      (s.debugOpen = true ∨ s.mfg.field = false → exec (.testPortInstruction (.other ir)) s = .fault .debugInstruction)) ∧
  (∀ (d : Dev) (x : TestInstr), let t := d.tapLoad x
    t.testPort = x ∧ { t with testPort := d.testPort, out := d.out } = d ∧
    (d.testPort ≠ .extest → t.out = d.out ++ (match x with
      | .idcode => [.tdo d.tick 32 (Config.idcode ||| 1)]
      | .bypass => [.tdo d.tick 1 0]
      | .extest => [.extest d.tick true]
      | .samplePreload | .other _ => [])) ∧
    (d.testPort = .extest → x ≠ .extest → (.extest d.tick false) ∈ t.out))

/-! ## Power, clocks, sleep and reset (R598 to R624) -/

/-- R601 and R603: each power fault barks once as FATAL with its sensor and its reading, and takes away the power that R601
says, HBM4 contents with it where memory goes; INPUT_UV and INPUT_OV leave the input out of range, OVERTEMP holds recovery
back until the TX1 has cooled; and readings within range do nothing.
Where the manual leaves it open the statement follows the model: log entries 126 and 127. -/
def Obligations.PowerFaults : Prop :=
  (∀ (s : State) (x : BitVec 32), s.power.off = false →
    let mv := x.toNat
    let d := fun (kind code : Nat) => s.toDev.sample (bark kind accNone iniNone false code mv)
    (mv < 34000 → exec (.inputUv x) s = .next (s.dev { d 0x0E01 0 with
      power := { (d 0x0E01 0).power with inputOut := true, selfRefresh := true } })) ∧
    (34000 ≤ mv → exec (.inputUv x) s = .next s) ∧
    (46000 < mv → exec (.inputOv x) s = .next (s.dev { (d 0x0E02 0).fastPowerOff with
      power := { (d 0x0E02 0).fastPowerOff.power with inputOut := true } })) ∧
    (mv ≤ 46000 → exec (.inputOv x) s = .next s) ∧
    (110000 < mv → exec (.overcurrent x) s = .next (s.dev (d 0x0E03 1).memoryPowerOff)) ∧
    (mv ≤ 110000 → exec (.overcurrent x) s = .next s) ∧
    (∀ r : Fin 16, (r.val < 5 ∨ 8 ≤ r.val) → exec (.railFault r x) s = .next (s.dev (d 0x0E05 (0x20 + r.val)).memoryPowerOff)) ∧
    (∀ r : Fin 16, 5 ≤ r.val → r.val < 8 → exec (.railFault r x) s = .next s)) ∧
  (∀ (s : State) (z : Sensor) (x : BitVec 32), s.power.off = false →
    (overtempAt z < x.toInt →
      let d := (s.toDev.sample (bark 0x0E04 accNone iniNone false (sensorShown z) (ofSigned 64 x.toInt))).fastPowerOff
      exec (.overtemp z x) s = .next (s.dev { d with power := { d.power with overtempHold := true } })) ∧
    (x.toInt ≤ overtempAt z → exec (.overtemp z x) s = .next s)) ∧
  (∀ d : Dev, d.fastPowerOff.power.fastOff = true ∧ (∀ c, d.fastPowerOff.domainOff (.compute c) = true) ∧ d.fastPowerOff.domainOff .switch = true ∧
    d.fastPowerOff.domainOff .host = true ∧ d.fastPowerOff.domainOff .lanes = true ∧ d.fastPowerOff.reg E.HOST_MODE = 0 ∧
    d.memoryPowerOff.mem = [] ∧ d.memoryPowerOff.power.memoryOff = true)

/-- R601 to R603 and R606 to R608: at each window's end the cap written comes into force, a mean outside the input's range is
noted, and n moves by one: down above the ceiling or with a hot compute sensor, up after four windows 150 W below it while no
sensor is within 5 °C of its point; a sensor past its throttle point is noted, and an S-die's halves the switch clock until
every sensor is 5 °C below; the first marker sets the counter; a later one that differs is counted; missing ones are
counted; and holdover begins without the rack clock, and ends at a marker 25,000 ticks after its return.
Where the manual leaves it open the statement follows the model: log entries 3, 121, 122, 123, 124 and 125. -/
def Obligations.CapsHeatAndRackClock : Prop :=
  (∀ (s : State) (x y : BitVec 32), s.power.off = false →
    let w := s.power
    let cap := w.capPending.getD w.capInForce
    let top := min (capWatts cap) (min 4000 (x.toNat / 10)) * 1000000
    let uw := x.toNat * y.toNat
    (s.tick % 256 ≠ 0 ∨ w.windowAt = some s.tick → exec (.governorWindow x y) s = .next s) ∧
    (s.tick % 256 = 0 → w.windowAt ≠ some s.tick → ∃ t, exec (.governorWindow x y) s = .next t ∧
      t.power.inputMv = x.toNat ∧ t.power.inputMa = y.toNat ∧ t.power.windowAt = some s.tick ∧ t.power.capInForce = cap ∧
      t.power.capPending = none ∧ (t.power.inputOut = true ↔ w.inputOut = true ∨ x.toNat < 36000 ∨ 44000 < x.toNat) ∧
      (top < uw ∨ w.hotCompute = true → t.power.step = max 4 (w.step - 1)) ∧
      (uw + 150000000 ≤ top → 3 ≤ w.lowRun → w.hotCompute = false → w.warm = [] → w.step < 16 → t.power.step = w.step + 1 ∧ t.power.lowRun = 0) ∧
      (uw ≤ top → top < uw + 150000000 → w.hotCompute = false → t.power.step = w.step ∧ t.power.lowRun = 0) ∧
      t.reg E.THROTTLE_WINDOWS = (if w.step < 16 ∨ w.switchHalved = true then (s.reg E.THROTTLE_WINDOWS + 1) % 2 ^ 64
        else s.reg E.THROTTLE_WINDOWS) ∧
      (w.capPending.isSome = true → maskHas t.ints.pending 7 = true) ∧
      s.regsBut t [E.THROTTLE_WINDOWS] ∧ { t with power := s.power, regs := s.regs, ints := s.ints } = s)) ∧
  (∀ (s : State) (z : Sensor) (x : BitVec 32) (at0 : Int), s.power.off = false → s.toDev.throttleAt z = some at0 →
    let w := s.power
    let c := sensorCode z
    let isS := ∃ i, z = .sdie i
    (at0 < x.toInt → ∃ t, exec (.thermalThrottle z x) s = .next t ∧ c ∈ t.power.hot ∧ (∀ k, k ≠ c → (k ∈ t.power.hot ↔ k ∈ w.hot)) ∧
      c ∈ t.power.warm ∧ (∀ k, k ≠ c → (k ∈ t.power.warm ↔ k ∈ w.warm)) ∧
      (t.power.switchHalved = true ↔ w.switchHalved = true ∨ isS) ∧
      (isS → w.switchHalved = false → maskHas t.ints.pending 7 = true) ∧
      { t with power := s.power, ints := s.ints } = s) ∧
    (x.toInt ≤ at0 - 5000 → ∃ t, exec (.thermalThrottle z x) s = .next t ∧ t.power.hot = w.hot.filter (· != c) ∧
      t.power.warm = w.warm.filter (· != c) ∧ (t.power.switchHalved = true ↔ w.switchHalved = true ∧ w.warm.filter (· != c) ≠ []) ∧
      { t with power := s.power, ints := s.ints } = s) ∧
    (at0 - 5000 < x.toInt → x.toInt ≤ at0 → ∃ t, exec (.thermalThrottle z x) s = .next t ∧ t.power.hot = w.hot.filter (· != c) ∧
      c ∈ t.power.warm ∧ (∀ k, k ≠ c → (k ∈ t.power.warm ↔ k ∈ w.warm)) ∧ t.power.switchHalved = w.switchHalved ∧
      t.power.step = w.step ∧ { t with power := s.power, ints := s.ints } = s)) ∧
  (∀ (s : State) (v : BitVec 64), s.power.off = false →
    let w := s.power
    let away := w.holdover = true ∧ w.rackclkSince + 25000 ≤ s.tick
    let d := { s.toDev with power := { w with lastMarker := s.tick } }
    let e := { s.toDev with power := { w with holdover := false, lastMarker := s.tick } }
    let mismatch := fun (x : Dev) => (x.countErr E.RSYNC_MISMATCHES).powerEvent 0x06 0 0
    exec (.rsyncMarker false v) s = .next s ∧
    (w.tickLocked = false →
      let d1 := (s.toDev.shiftDue v.toNat).rebase s.tick v.toNat
      let lock := fun (h : Bool) => { d1 with power := { d1.power with tickLocked := true, lastMarker := v.toNat, holdover := h } }.openPorts
      d1.tick = v.toNat ∧ (¬ away → exec (.rsyncMarker true v) s = .next (s.dev (lock w.holdover))) ∧
      (away → exec (.rsyncMarker true v) s = .next (s.dev ((lock false).powerEvent 0x05 0 0)))) ∧
    (w.tickLocked = true → ¬ away → v.toNat = s.tick → exec (.rsyncMarker true v) s = .next (s.dev d)) ∧
    (w.tickLocked = true → ¬ away → v.toNat ≠ s.tick → exec (.rsyncMarker true v) s = .next (s.dev (mismatch d))) ∧
    (w.tickLocked = true → away → v.toNat = s.tick → exec (.rsyncMarker true v) s = .next (s.dev (e.powerEvent 0x05 0 0))) ∧
    (w.tickLocked = true → away → v.toNat ≠ s.tick → v.toNat ≤ s.tick + 64 → s.tick ≤ v.toNat + 64 →
      ∃ t, exec (.rsyncMarker true v) s = .next t ∧ t.tick = v.toNat ∧ t.power.holdover = false ∧ t.power.lastMarker = v.toNat ∧
        t.arrivals = s.arrivals.map (fun a => { a with due := a.due + v.toNat - s.tick }) ∧
        t.sentry.fenceAt = s.sentry.fenceAt.map (fun a => a + v.toNat - s.tick)) ∧
    (w.tickLocked = true → away → (s.tick + 64 < v.toNat ∨ v.toNat + 64 < s.tick) →
      exec (.rsyncMarker true v) s = .next (s.dev ((mismatch e).powerEvent 0x05 0 0)))) ∧
  (∀ s : State, s.power.off = false →
    (s.power.tickLocked = true → s.power.lastMarker + 65537 ≤ s.tick → exec .rsyncMissing s = .next (s.dev
      (({ s.toDev with power := { s.power with lastMarker := s.tick } }.countErr E.RSYNC_MISSING).powerEvent 0x07 0 0))) ∧
    (s.power.tickLocked = false ∨ s.tick < s.power.lastMarker + 65537 → exec .rsyncMissing s = .next s) ∧
    (let d := { s.toDev with power := { s.power with holdover := true, rackclkSince := s.tick + 1 } }
     (s.power.holdover = true → exec .holdoverOn s = .next (s.dev d)) ∧
     (s.power.holdover = false → exec .holdoverOn s = .next (s.dev ((d.countErr E.HOLDOVERS).powerEvent 0x04 0 0)))))

/-- R613 to R617 and R648: IDLE and DOZE come of themselves once their conditions have held for their ticks, and never under
WAKE_N, and the lanes' coefficient sets are stored (R83); KEEPALIVE drains, sends PORT_SLEEP for tick t + 256 on every UP port, and powers off when all of them sleep, or is
abandoned; and a wake that is due ends in ACTIVE, counted, with what was held served in order.
Where the manual leaves it open the statement follows the model: log entries 3, 48, 152 and 154. -/
def Obligations.SleepAndWake : Prop :=
  (∀ s : State, (s.power.sleep = .active ∨ s.power.sleep = .idle) → s.power.bootStage = 3 → s.power.off = false →
    s.toDev.wakeLow = false →
    (s.power.sleep = .active → s.reg E.AUTO_IDLE_TICKS ≠ 0 → s.toDev.working = false →
      s.power.lastWork + s.reg E.AUTO_IDLE_TICKS ≤ s.tick → ∃ t, exec .autoIdle s = .next t ∧ t.power.sleep = .idle ∧
        t.domainGated .switch = (!t.toDev.domainOff .switch) ∧
        (∀ (p : Nat) (l : Lane), (t.lane p l).state = (s.lane p l).state ∧ ((s.lane p l).state = .active → (s.lane p l).rate = 2 →
          (t.lane p l).set200 = some ⟨(s.lane p l).peak, (s.lane p l).taps⟩)) ∧
        { t with power := s.power, ints := s.ints, ports := s.ports } = s) ∧
    (s.power.sleep = .idle ∨ s.reg E.AUTO_IDLE_TICKS = 0 ∨ s.toDev.working = true ∨
      s.tick < s.power.lastWork + s.reg E.AUTO_IDLE_TICKS → exec .autoIdle s = .next s) ∧
    (∀ a, s.reg E.AUTO_DOZE_TICKS ≠ 0 → s.toDev.dozeOk = true → s.power.dozeSince = some a →
      a + s.reg E.AUTO_DOZE_TICKS ≤ s.tick → ∃ t, exec .autoDoze s = .next t ∧ t.power.sleep = .doze ∧ t.power.selfRefresh = true ∧
        (t.toDev.cdieRuns 0 = false ∧ t.toDev.cdieRuns 1 = false ∧ t.toDev.cdieRuns 2 = false ∧ t.toDev.cdieRuns 3 = false) ∧
        { t with power := s.power, ints := s.ints, ports := s.ports } = s) ∧
    (s.reg E.AUTO_DOZE_TICKS = 0 ∨ s.toDev.dozeOk = false ∨ s.power.dozeSince = none → exec .autoDoze s = .next s)) ∧
  (∀ s : State, s.toDev.wakeLow = true → exec .autoIdle s = .next s ∧ exec .autoDoze s = .next s) ∧
  (∀ s : State, s.power.sleep = .entering → s.power.sleepTs = none →
    (s.toDev.drained = true → exec .keepaliveDrained s = .next (s.dev ((allPorts.filter (fun p => decide ((s.port p).state = .up))).foldl
      (fun a p => a.sleepPort p (s.tick + 256)) { s.toDev with power := { s.power with sleepTs := some (s.tick + 256) } }))) ∧
    (s.toDev.drained = false → exec .keepaliveDrained s = .next s) ∧
    (∀ a, s.power.entryStart = some a → a + s.reg E.KEEPALIVE_DRAIN_TICKS ≤ s.tick → s.power.wakeFrom ≠ .doze →
      ∃ t, exec .sleepAbandons s = .next t ∧ t.power.sleep = .active ∧ t.power.entryStart = none ∧ maskHas t.ints.pending 7 = true ∧
        (∀ p, (t.port p).withheld = [])) ∧
    (∀ a, s.power.entryStart = some a → s.tick < a + s.reg E.KEEPALIVE_DRAIN_TICKS → exec .sleepAbandons s = .next s)) ∧
  (∀ (s : State) (a : Nat), s.power.sleep = .entering → s.power.sleepTs = some a →
    (a ≤ s.tick → (∀ p, p < 256 → (s.port p).state ≠ .up) → ∃ t, exec .keepalivePowerOff s = .next t ∧ t.power.sleep = .keepalive ∧
      t.power.selfRefresh = true ∧ t.power.sleepTs = none ∧ t.kennel0 = {} ∧ t.kennel1 = {} ∧ t.reg E.HOST_MODE = 0 ∧
      (∀ (p : Nat) (l : Lane), (t.port p).state = (s.port p).state ∧
        (t.lane p l).state = (if l = 0 then (s.lane p l).state else .off)) ∧ s.regsBut t [E.HOST_MODE] ∧ t.mem = s.mem ∧ t.out = s.out) ∧
    (s.tick < a ∨ (∃ p, p < 256 ∧ (s.port p).state = .up) → exec .keepalivePowerOff s = .next s)) ∧
  (∀ s : State, s.power.wakePinFresh s.tick = false → exec .wakePin s = .next s) ∧
  (∀ s : State, s.power.off = false → (∀ a, s.power.wakePinAt = some a → a + 3 ≤ s.tick) →
    let d := { s.toDev with draws := s.draws + 1,
                            power := { s.power with wakePinAt := some s.tick, wakeUntil := s.tick + Config.freeChoice s.draws } }
    (s.power.sleep = .entering → s.power.sleepTs.isSome = true → exec .wakePin s = .next (s.dev ((d.wake wkPIN).unsleepPorts 256))) ∧
    (s.power.sleep ≠ .entering ∨ s.power.sleepTs = none → exec .wakePin s = .next (s.dev (d.wake wkPIN)))) ∧
  (∀ (s : State) (a : Nat), s.power.sleep = .waking → s.power.wakeDue = some a →
    (s.tick < a → exec .wakeComplete s = .next s) ∧
    (a ≤ s.tick → s.power.off = false →
      let w := { s.power with sleep := .active, wakeFrom := .active, wakeDue := none, selfRefresh := s.toDev.fenced, lastWork := s.tick }
      let d := ({ s.toDev with power := w }.count E.WAKES).powerEvent 0x0A 0 0
      (s.mgmt.heldReqs = [] → s.heldPkts = [] → s.mgmt.heldSols = [] → exec .wakeComplete s = .next (s.dev d)) ∧
      exec .wakeComplete s = .next (s.dev
        (({ d with mgmt := { d.mgmt with heldReqs := [] } }.releaseHeldPkts.releaseSols).requests s.shadows s.mgmt.heldReqs))))

/-- R578, R594, R598, R601 and R618 to R620: a reset asked for takes effect at its tick; a cold reset leaves the reset state with
the tick counter, memory and snapshots gone and OTP kept; a warm one keeps the tick counter, HBM4, the sentry's records and the
snapshots that are complete; one of the switch domain keeps the rest of the device; RESET_N resets by its length; the input
starts and stops the always-on domain; and firmware and boot end at their ticks.
Where the manual leaves it open the statement follows the model: log entries 3, 128, 129, 149 and 155. -/
def Obligations.ResetsAndBoot : Prop :=
  (∀ (s : State) (r : Option ResetKind) (a : Nat), s.power.dueReset s.tick = some (r, a) → s.power.off = false →
    s.power.resetLow = false → s.burn = none → s.power.overtempHold = false →
    ∃ t, exec .resetTakesEffect s = .next t ∧ t.otp = s.otp ∧ t.pending = s.pending ∧ t.mfg = s.mfg ∧
      (r = none → t.power.off = true ∧ t.mem = [] ∧ t.regs = [] ∧ t.shadows = []) ∧
      (r = some .cold → t.power.off = false ∧ t.power.bootStage = 1 ∧ t.power.lastReset = .cold ∧ t.power.resetTick = s.tick ∧
        t.tick = 0 ∧ t.mem = [] ∧ t.ports = [] ∧ t.shadows = [] ∧ t.sentry = {}) ∧
      (r = some .warm → t.power.off = false ∧ t.power.bootStage = 1 ∧ t.power.lastReset = .warm ∧ t.power.resetTick = s.tick ∧
        t.tick = s.tick ∧ t.mem = s.mem.filter (fun e => decide (tierSpace e.1 = 0)) ∧ t.ports = [] ∧ t.sentry = s.sentry.kept ∧
        t.reg E.ACTIVE_PROFILE = s.toDev.warmProfile ∧ t.shadows = s.shadows.filter (·.taken)) ∧
      (r = some .switch → t.power.lastReset = .switch ∧ t.power.resetTick = s.tick ∧ t.ctxs = [] ∧ t.packs = [] ∧ t.whistles = [] ∧
        t.shadows = s.shadows)) ∧
  (∀ s : State, s.power.dueReset s.tick = none ∨ s.power.resetLow = true → exec .resetTakesEffect s = .next s) ∧
  (∀ s : State, s.power.off = false → exec .resetNLow s = .next (s.dev
    (let d := (s.toDev.portsDark.hostDark).driveAlert false
     { d with power := { d.power with resetLow := true, selfRefresh := true } }))) ∧
  (∀ (s : State) (n : BitVec 64), s.power.alwaysOn = true → s.power.off = true → 1 ≤ n.toNat →
    exec (.resetNRise n) s = .next { s with toDev := s.toDev.coldReset, shadows := [], boundary := none }) ∧
  (∀ (s : State) (n : BitVec 64), s.power.alwaysOn = true → s.power.off = false →
    (1 ≤ n.toNat → s.power.memoryOff = true → exec (.resetNRise n) s = .next { s with toDev := s.toDev.coldReset, shadows := [], boundary := none }) ∧
    (n.toNat < 4 → s.power.memoryOff = false → exec (.resetNRise n) s = .next s) ∧
    (25000 ≤ n.toNat → exec (.resetNRise n) s = .next { s with toDev := s.toDev.coldReset, shadows := [], boundary := none }) ∧
    (4 ≤ n.toNat → n.toNat < 25000 → s.power.memoryOff = false → (s.power.inputOut = true ∨ s.power.overtempHold = true) →
      exec (.resetNRise n) s = .next (s.dev { s.toDev.endExtest with power := { s.power with heldWarm := true, resetLow := false } })) ∧
    (4 ≤ n.toNat → n.toNat < 25000 → s.power.memoryOff = false → s.power.inputOut = false → s.power.overtempHold = false →
      s.burn = none → exec (.resetNRise n) s = .next { s with
        toDev := s.toDev.warmReset, shadows := s.shadows.filter (·.taken), boundary := none })) ∧
  (∀ (s : State) (x : BitVec 32),
    (s.power.alwaysOn = false → 35000 ≤ x.toNat →
      let d := { s.toDev with tick := 0, testPort := .idcode }.coldReset
      exec (.inputRise x) s = .next { s with
        toDev := { d with power := { d.power with inputOut := decide (x.toNat < 36000 ∨ 44000 < x.toNat) } }, shadows := [], boundary := none }) ∧
    (s.power.alwaysOn = true ∨ x.toNat < 35000 → exec (.inputRise x) s = .next s) ∧
    (s.power.alwaysOn = true → x.toNat < 33000 → ∃ t, exec (.alwaysOnStop x) s = .next t ∧ t.power.alwaysOn = false ∧
      t.power.off = true ∧ t.regs = [] ∧ t.mem = [] ∧ t.shadows = [] ∧ t.pending = s.pending ∧ (s.burn = none → t.otp = s.otp)) ∧
    (s.power.alwaysOn = false ∨ 33000 ≤ x.toNat → exec (.alwaysOnStop x) s = .next s)) ∧
  (∀ (s : State) (x : BitVec 32), s.power.off = false → (s.power.heldWarm = false ∨ s.power.resetLow = true) →
    (36000 ≤ x.toNat → x.toNat ≤ 44000 → exec (.inputBackInRange x) s = .next { s with power := { s.power with inputOut := false } }) ∧
    (x.toNat < 36000 ∨ 44000 < x.toNat → exec (.inputBackInRange x) s = .next s) ∧
    exec .overtempRecovered s = .next { s with power := { s.power with overtempHold := false } }) ∧
  (∀ (s : State) (x : BitVec 32), s.power.off = false → s.power.heldWarm = true → s.power.resetLow = false → s.burn = none →
    (36000 ≤ x.toNat → x.toNat ≤ 44000 → s.power.overtempHold = false → exec (.inputBackInRange x) s = .next { s with
      toDev := { s.toDev with power := { s.power with inputOut := false } }.warmReset, shadows := s.shadows.filter (·.taken), boundary := none }) ∧
    (s.power.inputOut = false → exec .overtempRecovered s = .next { s with
      toDev := { s.toDev with power := { s.power with overtempHold := false } }.warmReset, shadows := s.shadows.filter (·.taken), boundary := none })) ∧
  (∀ s : State, s.power.off = false → s.power.resetLow = false → s.power.bootStage = 1 → s.fw.romOnly = false → s.burn = none →
    (s.tick < s.power.bootAt + 252500 + s.power.bootWait → exec .firmwareStart s = .next s) ∧
    (s.power.bootAt + 252500 + s.power.bootWait ≤ s.tick → s.toDev.fwValid s.fw.committed = true → s.fw.trial = none →
      ∃ t, exec .firmwareStart s = .next t ∧ t.power.bootStage = 2 ∧ t.fw.running = s.fw.committed ∧ t.reg E.FW_STATUS = 0 ∧
        s.regsBut t [E.FW_STATUS] ∧ { t with power := s.power, fw := s.fw, regs := s.regs } = s)) ∧
  (∀ s : State, s.power.off = false → s.power.resetLow = false → s.power.overtempHold = false → s.power.bootStage = 2 →
    (s.tick < s.power.bootAt + bootTicks s.power.bootKind + s.power.bootWait → exec .bootComplete s = .next s) ∧
    (s.power.bootAt + bootTicks s.power.bootKind + s.power.bootWait ≤ s.tick →
      let d := s.toDev.rwpDefaults.applyProfile
      exec .bootComplete s = .next (s.dev ({ d with
        staInForce := d.staWritten, power := { d.power with bootStage := 3, lastWork := s.tick } }.openPorts))))

/-! ## Discovery (R625 to R642) -/

/-- R633 to R636: the port whose IDENT came first is compared first. No common level is LEVELS, a number outside the window
COMPAT; one that fits its plan entry is a MATCH and is accepted; one whose place another port holds, and which holds that
port's, is a swap, accepted or refused by SWAP_POLICY; and any other is quarantined, as UNEXPECTED where none was expected.
Where the manual leaves it open the statement follows the model: log entries 3, 63 and 64. -/
def Obligations.DiscoveryCompares : Prop :=
  (∀ (s : State) (p : Port), s.toDev.awaitsVerdict p.val = true →
    (∀ q a b, q < 256 → q ≠ p.val → s.toDev.awaitsVerdict q = true → (s.port q).firstIdent = some a → (s.port p.val).firstIdent = some b →
      b < a ∨ b = a ∧ p.val < q) →
    let n := p.val
    let plan := s.planEntry (s.logical n)
    let common := (s.peerLevels n &&& ownLevels) ≠ 0
    let inside := s.compatFits (s.peerKind n) (s.peer n 21 2) = true
    (¬ common → exec (.discoveryCompare p) s = .next (s.dev ((s.toDev.outcome n 9 0xFF).setVerdict n 2))) ∧
    (common → ¬ inside → exec (.discoveryCompare p) s = .next (s.dev ((s.toDev.outcome n 8 0xFF).setVerdict n 2))) ∧
    (common → inside → s.toDev.fits n plan = true →
      exec (.discoveryCompare p) s = .next (s.dev ((s.toDev.outcome n 1 0xFF).setVerdict n 1))) ∧
    (common → inside → s.toDev.fits n plan = false → (∀ b, b < 256 → b ≠ n → s.toDev.fits n (s.planEntry (s.logical b)) = false) →
      exec (.discoveryCompare p) s = .next (s.dev ((s.toDev.outcome n (if planKind plan = 0 then 3 else 4) 0xFF).setVerdict n 2))) ∧
    (∀ b, common → inside → s.toDev.fits n plan = false → b < 256 → b ≠ n → s.toDev.fits n (s.planEntry (s.logical b)) = true →
      (∀ c, c < b → c ≠ n → s.toDev.fits n (s.planEntry (s.logical c)) = false) →
      (s.toDev.holdsIdent b = false ∨ s.toDev.fits b plan = false →
        exec (.discoveryCompare p) s = .next (s.dev ((s.toDev.outcome n 5 b).setVerdict n 2))) ∧
      (s.toDev.holdsIdent b = true → s.toDev.fits b plan = true →
        exec (.discoveryCompare p) s = .next (s.dev (s.toDev.swapRule n b))))) ∧
  (∀ (s : State) (p : Port), s.toDev.awaitsVerdict p.val = false → exec (.discoveryCompare p) s = .next s) ∧
  (∀ (d : Dev) (a b : Nat), a ≠ b → d.reg E.SWAP_POLICY = 1 → d.remapHeld a = false → d.remapHeld b = false →
    let r := d.swapRule a b
    r.logical a = d.logical b ∧ r.logical b = d.logical a ∧ (∀ c, c ≠ a → c ≠ b → r.logical c = d.logical c) ∧
    (tget r.discovery a).map (fun x => (x.outcome, x.other, x.differ)) = some (6, b, 0) ∧
    (tget r.discovery b).map (fun x => (x.outcome, x.other, x.differ)) = some (6, a, 0)) ∧
  (∀ (d : Dev) (a b : Nat), a ≠ b → (d.reg E.SWAP_POLICY ≠ 1 ∨ d.remapHeld a = true ∨ d.remapHeld b = true) →
    let r := d.swapRule a b
    (∀ c, r.logical c = d.logical c) ∧
    (tget r.discovery a).map (fun x => (x.outcome, x.other)) = some (7, b) ∧
    (tget r.discovery b).map (fun x => (x.outcome, x.other)) = some (7, a))

/-! ## Memory and exact sums (R252, R264 to R266, R386, R503, R504, R523) -/

/-- What is stored is read back, every other byte stays, memory keeps its canonical form, each page check that a store touches is
made anew, a read of sound words changes nothing, and the fence lets nothing be written to HBM4.
Where the manual leaves it open the statement follows the model: log entries 15, 17 and 18. -/
def Obligations.MemoryHoldsWhatIsStored : Prop :=
  (∀ (d : Dev) (a : Nat) (bs : List Byte), Memory.wf d.mem = true → (d.fenced = false ∨ tierSpace a ≠ 0) →
    let r := d.writeMem a bs
    Memory.wf r.mem = true ∧ memRead r.mem a bs.length = bs ∧
    (∀ i, (i < a ∨ a + bs.length ≤ i) → memGet r.mem i = memGet d.mem i) ∧
    (∀ e ∈ r.pageChecks, e.1 < a + bs.length → a < e.1 + 4096 → e.2 = pageResidue r.mem e.1) ∧
    (∀ e ∈ r.pageChecks, (a + bs.length ≤ e.1 ∨ e.1 + 4096 ≤ a) → e ∈ d.pageChecks) ∧
    (∀ w ∈ r.ueWords, w ∈ d.ueWords ∧ ¬ (a ≤ w ∧ w + 4 ≤ a + bs.length)) ∧
    { r with mem := d.mem, pageChecks := d.pageChecks, ueWords := d.ueWords } = d) ∧
  (∀ (d : Dev) (a : Nat) (bs : List Byte), d.fenced = true → tierSpace a = 0 → d.writeMem a bs = d) ∧
  (∀ (d : Dev) (a n ini : Nat), d.sentry.inject = none → (∀ w ∈ d.ueWords, a + n ≤ w ∨ w + 4 ≤ a) →
    d.readMem a n ini = (some (memRead d.mem a n), d)) ∧
  (∀ (d : Dev) (a n ini w : Nat), d.sentry.inject = none → w ∈ d.ueWords → w < a + n → a < w + 4 → (d.readMem a n ini).1 = none)

/-- The sum of exact values is the same in every order and every grouping, and starts from a value that changes none; the
residue of a sum is the sum of the residues, position by position and so over a chunk. -/
def Obligations.ExactSumsAndResidues : Prop :=
  (∀ x y z : Exact, x.add y = y.add x ∧ (x.add y).add z = x.add (y.add z) ∧ Exact.empty.add x = x) ∧
  (∀ x y : Exact, (x.add y).a = x.a + y.a ∧
    (x.add y).cls = (if x.cls = .nan ∨ y.cls = .nan then .nan
      else if x.cls = .posinf ∧ y.cls = .neginf ∨ x.cls = .neginf ∧ y.cls = .posinf then .nan
      else if x.cls = .posinf ∨ y.cls = .posinf then .posinf
      else if x.cls = .neginf ∨ y.cls = .neginf then .neginf
      else if x.cls = .negzero ∧ y.cls = .negzero then .negzero
      else .finite) ∧
    (x.addMakesNan y = true ↔ x.cls = .posinf ∧ y.cls = .neginf ∨ x.cls = .neginf ∧ y.cls = .posinf)) ∧
  (∀ (t : Nat) (l m : List Exact), l.Perm m → l.foldl (update pSUM t) (accInit pSUM t) = m.foldl (update pSUM t) (accInit pSUM t)) ∧
  (∀ (t : Nat) (l m : List Exact), (l ++ m).foldl (update pSUM t) (accInit pSUM t) =
    (l.foldl (update pSUM t) (accInit pSUM t)).add (m.foldl (update pSUM t) (accInit pSUM t))) ∧
  (∀ a b : Int, residueA (a + b) = resAdd (residueA a) (residueA b)) ∧
  (∀ a : Int, residueA (a * resP) = 0 ∧ residueA a < resP) ∧
  (∀ as bs : List Int, as.length = bs.length →
    residueList (List.zipWith (· + ·) as bs) = resAdd (residueList as) (residueList bs)) ∧
  (∀ (as : List Int) (i : Nat) (e : Int), i < as.length → ¬ (resP : Int) ∣ e →
    residueList (as.set i (as[i]! + e)) ≠ residueList as)
end

