-- ==== Sys2Proof/Laws/State.lean ====
section
/-! SUPPORT. One lemma for each field and each update of the state: an update leaves every field but its own. -/

namespace Sys2Proof.Machine

/-! ## Storing a numeric entry -/

@[simp] theorem Dev.setReg_tick (d : Dev) (k v : Nat) : (d.setReg k v).tick = d.tick := rfl
@[simp] theorem Dev.setReg_draws (d : Dev) (k v : Nat) : (d.setReg k v).draws = d.draws := rfl
@[simp] theorem Dev.setReg_blobs (d : Dev) (k v : Nat) : (d.setReg k v).blobs = d.blobs := rfl
@[simp] theorem Dev.setReg_mfg (d : Dev) (k v : Nat) : (d.setReg k v).mfg = d.mfg := rfl
@[simp] theorem Dev.setReg_ports (d : Dev) (k v : Nat) : (d.setReg k v).ports = d.ports := rfl
@[simp] theorem Dev.setReg_modules (d : Dev) (k v : Nat) : (d.setReg k v).modules = d.modules := rfl
@[simp] theorem Dev.setReg_siteEff (d : Dev) (k v : Nat) : (d.setReg k v).siteEff = d.siteEff := rfl
@[simp] theorem Dev.setReg_mgmt (d : Dev) (k v : Nat) : (d.setReg k v).mgmt = d.mgmt := rfl
@[simp] theorem Dev.setReg_sentry (d : Dev) (k v : Nat) : (d.setReg k v).sentry = d.sentry := rfl
@[simp] theorem Dev.setReg_ints (d : Dev) (k v : Nat) : (d.setReg k v).ints = d.ints := rfl
@[simp] theorem Dev.setReg_tele (d : Dev) (k v : Nat) : (d.setReg k v).tele = d.tele := rfl
@[simp] theorem Dev.setReg_power (d : Dev) (k v : Nat) : (d.setReg k v).power = d.power := rfl
@[simp] theorem Dev.setReg_kennel0 (d : Dev) (k v : Nat) : (d.setReg k v).kennel0 = d.kennel0 := rfl
@[simp] theorem Dev.setReg_kennel1 (d : Dev) (k v : Nat) : (d.setReg k v).kennel1 = d.kennel1 := rfl
@[simp] theorem Dev.setReg_kinject (d : Dev) (k v : Nat) : (d.setReg k v).kinject = d.kinject := rfl
@[simp] theorem Dev.setReg_routing (d : Dev) (k v : Nat) : (d.setReg k v).routing = d.routing := rfl
@[simp] theorem Dev.setReg_discovery (d : Dev) (k v : Nat) : (d.setReg k v).discovery = d.discovery := rfl
@[simp] theorem Dev.setReg_staInForce (d : Dev) (k v : Nat) : (d.setReg k v).staInForce = d.staInForce := rfl
@[simp] theorem Dev.setReg_dedOld (d : Dev) (k v : Nat) : (d.setReg k v).dedOld = d.dedOld := rfl
@[simp] theorem Dev.setReg_dedWait (d : Dev) (k v : Nat) : (d.setReg k v).dedWait = d.dedWait := rfl
@[simp] theorem Dev.setReg_packs (d : Dev) (k v : Nat) : (d.setReg k v).packs = d.packs := rfl
@[simp] theorem Dev.setReg_frontLeft (d : Dev) (k v : Nat) : (d.setReg k v).frontLeft = d.frontLeft := rfl
@[simp] theorem Dev.setReg_ctxs (d : Dev) (k v : Nat) : (d.setReg k v).ctxs = d.ctxs := rfl
@[simp] theorem Dev.setReg_heldCells (d : Dev) (k v : Nat) : (d.setReg k v).heldCells = d.heldCells := rfl
@[simp] theorem Dev.setReg_heels (d : Dev) (k v : Nat) : (d.setReg k v).heels = d.heels := rfl
@[simp] theorem Dev.setReg_stepFails (d : Dev) (k v : Nat) : (d.setReg k v).stepFails = d.stepFails := rfl
@[simp] theorem Dev.setReg_nanTrap (d : Dev) (k v : Nat) : (d.setReg k v).nanTrap = d.nanTrap := rfl
@[simp] theorem Dev.setReg_arrivals (d : Dev) (k v : Nat) : (d.setReg k v).arrivals = d.arrivals := rfl
@[simp] theorem Dev.setReg_time (d : Dev) (k v : Nat) : (d.setReg k v).time = d.time := rfl
@[simp] theorem Dev.setReg_mem (d : Dev) (k v : Nat) : (d.setReg k v).mem = d.mem := rfl
@[simp] theorem Dev.setReg_ueWords (d : Dev) (k v : Nat) : (d.setReg k v).ueWords = d.ueWords := rfl
@[simp] theorem Dev.setReg_pageChecks (d : Dev) (k v : Nat) : (d.setReg k v).pageChecks = d.pageChecks := rfl
@[simp] theorem Dev.setReg_whistles (d : Dev) (k v : Nat) : (d.setReg k v).whistles = d.whistles := rfl
@[simp] theorem Dev.setReg_actions0 (d : Dev) (k v : Nat) : (d.setReg k v).actions0 = d.actions0 := rfl
@[simp] theorem Dev.setReg_actions1 (d : Dev) (k v : Nat) : (d.setReg k v).actions1 = d.actions1 := rfl
@[simp] theorem Dev.setReg_products (d : Dev) (k v : Nat) : (d.setReg k v).products = d.products := rfl
@[simp] theorem Dev.setReg_productNext (d : Dev) (k v : Nat) : (d.setReg k v).productNext = d.productNext := rfl
@[simp] theorem Dev.setReg_cinject (d : Dev) (k v : Nat) : (d.setReg k v).cinject = d.cinject := rfl
@[simp] theorem Dev.setReg_chains (d : Dev) (k v : Nat) : (d.setReg k v).chains = d.chains := rfl
@[simp] theorem Dev.setReg_norms (d : Dev) (k v : Nat) : (d.setReg k v).norms = d.norms := rfl
@[simp] theorem Dev.setReg_routes (d : Dev) (k v : Nat) : (d.setReg k v).routes = d.routes := rfl
@[simp] theorem Dev.setReg_programs (d : Dev) (k v : Nat) : (d.setReg k v).programs = d.programs := rfl
@[simp] theorem Dev.setReg_hostPort (d : Dev) (k v : Nat) : (d.setReg k v).hostPort = d.hostPort := rfl
@[simp] theorem Dev.setReg_qps (d : Dev) (k v : Nat) : (d.setReg k v).qps = d.qps := rfl
@[simp] theorem Dev.setReg_bridge (d : Dev) (k v : Nat) : (d.setReg k v).bridge = d.bridge := rfl
@[simp] theorem Dev.setReg_heldPkts (d : Dev) (k v : Nat) : (d.setReg k v).heldPkts = d.heldPkts := rfl
@[simp] theorem Dev.setReg_dma (d : Dev) (k v : Nat) : (d.setReg k v).dma = d.dma := rfl
@[simp] theorem Dev.setReg_scrubNext (d : Dev) (k v : Nat) : (d.setReg k v).scrubNext = d.scrubNext := rfl
@[simp] theorem Dev.setReg_otp (d : Dev) (k v : Nat) : (d.setReg k v).otp = d.otp := rfl
@[simp] theorem Dev.setReg_burn (d : Dev) (k v : Nat) : (d.setReg k v).burn = d.burn := rfl
@[simp] theorem Dev.setReg_burnState (d : Dev) (k v : Nat) : (d.setReg k v).burnState = d.burnState := rfl
@[simp] theorem Dev.setReg_fw (d : Dev) (k v : Nat) : (d.setReg k v).fw = d.fw := rfl
@[simp] theorem Dev.setReg_debugOpen (d : Dev) (k v : Nat) : (d.setReg k v).debugOpen = d.debugOpen := rfl
@[simp] theorem Dev.setReg_testPort (d : Dev) (k v : Nat) : (d.setReg k v).testPort = d.testPort := rfl
@[simp] theorem Dev.setReg_out (d : Dev) (k v : Nat) : (d.setReg k v).out = d.out := rfl

/-! ## Storing a BOOL entry -/

@[simp] theorem Dev.setFlag_tick (d : Dev) (k : Nat) (b : Bool) : (d.setFlag k b).tick = d.tick := rfl
@[simp] theorem Dev.setFlag_draws (d : Dev) (k : Nat) (b : Bool) : (d.setFlag k b).draws = d.draws := rfl
@[simp] theorem Dev.setFlag_blobs (d : Dev) (k : Nat) (b : Bool) : (d.setFlag k b).blobs = d.blobs := rfl
@[simp] theorem Dev.setFlag_mfg (d : Dev) (k : Nat) (b : Bool) : (d.setFlag k b).mfg = d.mfg := rfl
@[simp] theorem Dev.setFlag_ports (d : Dev) (k : Nat) (b : Bool) : (d.setFlag k b).ports = d.ports := rfl
@[simp] theorem Dev.setFlag_modules (d : Dev) (k : Nat) (b : Bool) : (d.setFlag k b).modules = d.modules := rfl
@[simp] theorem Dev.setFlag_siteEff (d : Dev) (k : Nat) (b : Bool) : (d.setFlag k b).siteEff = d.siteEff := rfl
@[simp] theorem Dev.setFlag_mgmt (d : Dev) (k : Nat) (b : Bool) : (d.setFlag k b).mgmt = d.mgmt := rfl
@[simp] theorem Dev.setFlag_sentry (d : Dev) (k : Nat) (b : Bool) : (d.setFlag k b).sentry = d.sentry := rfl
@[simp] theorem Dev.setFlag_ints (d : Dev) (k : Nat) (b : Bool) : (d.setFlag k b).ints = d.ints := rfl
@[simp] theorem Dev.setFlag_tele (d : Dev) (k : Nat) (b : Bool) : (d.setFlag k b).tele = d.tele := rfl
@[simp] theorem Dev.setFlag_power (d : Dev) (k : Nat) (b : Bool) : (d.setFlag k b).power = d.power := rfl
@[simp] theorem Dev.setFlag_kennel0 (d : Dev) (k : Nat) (b : Bool) : (d.setFlag k b).kennel0 = d.kennel0 := rfl
@[simp] theorem Dev.setFlag_kennel1 (d : Dev) (k : Nat) (b : Bool) : (d.setFlag k b).kennel1 = d.kennel1 := rfl
@[simp] theorem Dev.setFlag_kinject (d : Dev) (k : Nat) (b : Bool) : (d.setFlag k b).kinject = d.kinject := rfl
@[simp] theorem Dev.setFlag_routing (d : Dev) (k : Nat) (b : Bool) : (d.setFlag k b).routing = d.routing := rfl
@[simp] theorem Dev.setFlag_discovery (d : Dev) (k : Nat) (b : Bool) : (d.setFlag k b).discovery = d.discovery := rfl
@[simp] theorem Dev.setFlag_staInForce (d : Dev) (k : Nat) (b : Bool) : (d.setFlag k b).staInForce = d.staInForce := rfl
@[simp] theorem Dev.setFlag_dedOld (d : Dev) (k : Nat) (b : Bool) : (d.setFlag k b).dedOld = d.dedOld := rfl
@[simp] theorem Dev.setFlag_dedWait (d : Dev) (k : Nat) (b : Bool) : (d.setFlag k b).dedWait = d.dedWait := rfl
@[simp] theorem Dev.setFlag_packs (d : Dev) (k : Nat) (b : Bool) : (d.setFlag k b).packs = d.packs := rfl
@[simp] theorem Dev.setFlag_frontLeft (d : Dev) (k : Nat) (b : Bool) : (d.setFlag k b).frontLeft = d.frontLeft := rfl
@[simp] theorem Dev.setFlag_ctxs (d : Dev) (k : Nat) (b : Bool) : (d.setFlag k b).ctxs = d.ctxs := rfl
@[simp] theorem Dev.setFlag_heldCells (d : Dev) (k : Nat) (b : Bool) : (d.setFlag k b).heldCells = d.heldCells := rfl
@[simp] theorem Dev.setFlag_heels (d : Dev) (k : Nat) (b : Bool) : (d.setFlag k b).heels = d.heels := rfl
@[simp] theorem Dev.setFlag_stepFails (d : Dev) (k : Nat) (b : Bool) : (d.setFlag k b).stepFails = d.stepFails := rfl
@[simp] theorem Dev.setFlag_nanTrap (d : Dev) (k : Nat) (b : Bool) : (d.setFlag k b).nanTrap = d.nanTrap := rfl
@[simp] theorem Dev.setFlag_arrivals (d : Dev) (k : Nat) (b : Bool) : (d.setFlag k b).arrivals = d.arrivals := rfl
@[simp] theorem Dev.setFlag_time (d : Dev) (k : Nat) (b : Bool) : (d.setFlag k b).time = d.time := rfl
@[simp] theorem Dev.setFlag_mem (d : Dev) (k : Nat) (b : Bool) : (d.setFlag k b).mem = d.mem := rfl
@[simp] theorem Dev.setFlag_ueWords (d : Dev) (k : Nat) (b : Bool) : (d.setFlag k b).ueWords = d.ueWords := rfl
@[simp] theorem Dev.setFlag_pageChecks (d : Dev) (k : Nat) (b : Bool) : (d.setFlag k b).pageChecks = d.pageChecks := rfl
@[simp] theorem Dev.setFlag_whistles (d : Dev) (k : Nat) (b : Bool) : (d.setFlag k b).whistles = d.whistles := rfl
@[simp] theorem Dev.setFlag_actions0 (d : Dev) (k : Nat) (b : Bool) : (d.setFlag k b).actions0 = d.actions0 := rfl
@[simp] theorem Dev.setFlag_actions1 (d : Dev) (k : Nat) (b : Bool) : (d.setFlag k b).actions1 = d.actions1 := rfl
@[simp] theorem Dev.setFlag_products (d : Dev) (k : Nat) (b : Bool) : (d.setFlag k b).products = d.products := rfl
@[simp] theorem Dev.setFlag_productNext (d : Dev) (k : Nat) (b : Bool) : (d.setFlag k b).productNext = d.productNext := rfl
@[simp] theorem Dev.setFlag_cinject (d : Dev) (k : Nat) (b : Bool) : (d.setFlag k b).cinject = d.cinject := rfl
@[simp] theorem Dev.setFlag_chains (d : Dev) (k : Nat) (b : Bool) : (d.setFlag k b).chains = d.chains := rfl
@[simp] theorem Dev.setFlag_norms (d : Dev) (k : Nat) (b : Bool) : (d.setFlag k b).norms = d.norms := rfl
@[simp] theorem Dev.setFlag_routes (d : Dev) (k : Nat) (b : Bool) : (d.setFlag k b).routes = d.routes := rfl
@[simp] theorem Dev.setFlag_programs (d : Dev) (k : Nat) (b : Bool) : (d.setFlag k b).programs = d.programs := rfl
@[simp] theorem Dev.setFlag_hostPort (d : Dev) (k : Nat) (b : Bool) : (d.setFlag k b).hostPort = d.hostPort := rfl
@[simp] theorem Dev.setFlag_qps (d : Dev) (k : Nat) (b : Bool) : (d.setFlag k b).qps = d.qps := rfl
@[simp] theorem Dev.setFlag_bridge (d : Dev) (k : Nat) (b : Bool) : (d.setFlag k b).bridge = d.bridge := rfl
@[simp] theorem Dev.setFlag_heldPkts (d : Dev) (k : Nat) (b : Bool) : (d.setFlag k b).heldPkts = d.heldPkts := rfl
@[simp] theorem Dev.setFlag_dma (d : Dev) (k : Nat) (b : Bool) : (d.setFlag k b).dma = d.dma := rfl
@[simp] theorem Dev.setFlag_scrubNext (d : Dev) (k : Nat) (b : Bool) : (d.setFlag k b).scrubNext = d.scrubNext := rfl
@[simp] theorem Dev.setFlag_otp (d : Dev) (k : Nat) (b : Bool) : (d.setFlag k b).otp = d.otp := rfl
@[simp] theorem Dev.setFlag_burn (d : Dev) (k : Nat) (b : Bool) : (d.setFlag k b).burn = d.burn := rfl
@[simp] theorem Dev.setFlag_burnState (d : Dev) (k : Nat) (b : Bool) : (d.setFlag k b).burnState = d.burnState := rfl
@[simp] theorem Dev.setFlag_fw (d : Dev) (k : Nat) (b : Bool) : (d.setFlag k b).fw = d.fw := rfl
@[simp] theorem Dev.setFlag_debugOpen (d : Dev) (k : Nat) (b : Bool) : (d.setFlag k b).debugOpen = d.debugOpen := rfl
@[simp] theorem Dev.setFlag_testPort (d : Dev) (k : Nat) (b : Bool) : (d.setFlag k b).testPort = d.testPort := rfl
@[simp] theorem Dev.setFlag_out (d : Dev) (k : Nat) (b : Bool) : (d.setFlag k b).out = d.out := rfl

/-! ## Storing an OCTETS or STR entry -/

@[simp] theorem Dev.setBlob_tick (d : Dev) (k : Nat) (v : List Byte) : (d.setBlob k v).tick = d.tick := rfl
@[simp] theorem Dev.setBlob_draws (d : Dev) (k : Nat) (v : List Byte) : (d.setBlob k v).draws = d.draws := rfl
@[simp] theorem Dev.setBlob_regs (d : Dev) (k : Nat) (v : List Byte) : (d.setBlob k v).regs = d.regs := rfl
@[simp] theorem Dev.setBlob_mfg (d : Dev) (k : Nat) (v : List Byte) : (d.setBlob k v).mfg = d.mfg := rfl
@[simp] theorem Dev.setBlob_ports (d : Dev) (k : Nat) (v : List Byte) : (d.setBlob k v).ports = d.ports := rfl
@[simp] theorem Dev.setBlob_modules (d : Dev) (k : Nat) (v : List Byte) : (d.setBlob k v).modules = d.modules := rfl
@[simp] theorem Dev.setBlob_siteEff (d : Dev) (k : Nat) (v : List Byte) : (d.setBlob k v).siteEff = d.siteEff := rfl
@[simp] theorem Dev.setBlob_mgmt (d : Dev) (k : Nat) (v : List Byte) : (d.setBlob k v).mgmt = d.mgmt := rfl
@[simp] theorem Dev.setBlob_sentry (d : Dev) (k : Nat) (v : List Byte) : (d.setBlob k v).sentry = d.sentry := rfl
@[simp] theorem Dev.setBlob_ints (d : Dev) (k : Nat) (v : List Byte) : (d.setBlob k v).ints = d.ints := rfl
@[simp] theorem Dev.setBlob_tele (d : Dev) (k : Nat) (v : List Byte) : (d.setBlob k v).tele = d.tele := rfl
@[simp] theorem Dev.setBlob_power (d : Dev) (k : Nat) (v : List Byte) : (d.setBlob k v).power = d.power := rfl
@[simp] theorem Dev.setBlob_kennel0 (d : Dev) (k : Nat) (v : List Byte) : (d.setBlob k v).kennel0 = d.kennel0 := rfl
@[simp] theorem Dev.setBlob_kennel1 (d : Dev) (k : Nat) (v : List Byte) : (d.setBlob k v).kennel1 = d.kennel1 := rfl
@[simp] theorem Dev.setBlob_kinject (d : Dev) (k : Nat) (v : List Byte) : (d.setBlob k v).kinject = d.kinject := rfl
@[simp] theorem Dev.setBlob_routing (d : Dev) (k : Nat) (v : List Byte) : (d.setBlob k v).routing = d.routing := rfl
@[simp] theorem Dev.setBlob_discovery (d : Dev) (k : Nat) (v : List Byte) : (d.setBlob k v).discovery = d.discovery := rfl
@[simp] theorem Dev.setBlob_staInForce (d : Dev) (k : Nat) (v : List Byte) : (d.setBlob k v).staInForce = d.staInForce := rfl
@[simp] theorem Dev.setBlob_dedOld (d : Dev) (k : Nat) (v : List Byte) : (d.setBlob k v).dedOld = d.dedOld := rfl
@[simp] theorem Dev.setBlob_dedWait (d : Dev) (k : Nat) (v : List Byte) : (d.setBlob k v).dedWait = d.dedWait := rfl
@[simp] theorem Dev.setBlob_packs (d : Dev) (k : Nat) (v : List Byte) : (d.setBlob k v).packs = d.packs := rfl
@[simp] theorem Dev.setBlob_frontLeft (d : Dev) (k : Nat) (v : List Byte) : (d.setBlob k v).frontLeft = d.frontLeft := rfl
@[simp] theorem Dev.setBlob_ctxs (d : Dev) (k : Nat) (v : List Byte) : (d.setBlob k v).ctxs = d.ctxs := rfl
@[simp] theorem Dev.setBlob_heldCells (d : Dev) (k : Nat) (v : List Byte) : (d.setBlob k v).heldCells = d.heldCells := rfl
@[simp] theorem Dev.setBlob_heels (d : Dev) (k : Nat) (v : List Byte) : (d.setBlob k v).heels = d.heels := rfl
@[simp] theorem Dev.setBlob_stepFails (d : Dev) (k : Nat) (v : List Byte) : (d.setBlob k v).stepFails = d.stepFails := rfl
@[simp] theorem Dev.setBlob_nanTrap (d : Dev) (k : Nat) (v : List Byte) : (d.setBlob k v).nanTrap = d.nanTrap := rfl
@[simp] theorem Dev.setBlob_arrivals (d : Dev) (k : Nat) (v : List Byte) : (d.setBlob k v).arrivals = d.arrivals := rfl
@[simp] theorem Dev.setBlob_time (d : Dev) (k : Nat) (v : List Byte) : (d.setBlob k v).time = d.time := rfl
@[simp] theorem Dev.setBlob_mem (d : Dev) (k : Nat) (v : List Byte) : (d.setBlob k v).mem = d.mem := rfl
@[simp] theorem Dev.setBlob_ueWords (d : Dev) (k : Nat) (v : List Byte) : (d.setBlob k v).ueWords = d.ueWords := rfl
@[simp] theorem Dev.setBlob_pageChecks (d : Dev) (k : Nat) (v : List Byte) : (d.setBlob k v).pageChecks = d.pageChecks := rfl
@[simp] theorem Dev.setBlob_whistles (d : Dev) (k : Nat) (v : List Byte) : (d.setBlob k v).whistles = d.whistles := rfl
@[simp] theorem Dev.setBlob_actions0 (d : Dev) (k : Nat) (v : List Byte) : (d.setBlob k v).actions0 = d.actions0 := rfl
@[simp] theorem Dev.setBlob_actions1 (d : Dev) (k : Nat) (v : List Byte) : (d.setBlob k v).actions1 = d.actions1 := rfl
@[simp] theorem Dev.setBlob_products (d : Dev) (k : Nat) (v : List Byte) : (d.setBlob k v).products = d.products := rfl
@[simp] theorem Dev.setBlob_productNext (d : Dev) (k : Nat) (v : List Byte) : (d.setBlob k v).productNext = d.productNext := rfl
@[simp] theorem Dev.setBlob_cinject (d : Dev) (k : Nat) (v : List Byte) : (d.setBlob k v).cinject = d.cinject := rfl
@[simp] theorem Dev.setBlob_chains (d : Dev) (k : Nat) (v : List Byte) : (d.setBlob k v).chains = d.chains := rfl
@[simp] theorem Dev.setBlob_norms (d : Dev) (k : Nat) (v : List Byte) : (d.setBlob k v).norms = d.norms := rfl
@[simp] theorem Dev.setBlob_routes (d : Dev) (k : Nat) (v : List Byte) : (d.setBlob k v).routes = d.routes := rfl
@[simp] theorem Dev.setBlob_programs (d : Dev) (k : Nat) (v : List Byte) : (d.setBlob k v).programs = d.programs := rfl
@[simp] theorem Dev.setBlob_hostPort (d : Dev) (k : Nat) (v : List Byte) : (d.setBlob k v).hostPort = d.hostPort := rfl
@[simp] theorem Dev.setBlob_qps (d : Dev) (k : Nat) (v : List Byte) : (d.setBlob k v).qps = d.qps := rfl
@[simp] theorem Dev.setBlob_bridge (d : Dev) (k : Nat) (v : List Byte) : (d.setBlob k v).bridge = d.bridge := rfl
@[simp] theorem Dev.setBlob_heldPkts (d : Dev) (k : Nat) (v : List Byte) : (d.setBlob k v).heldPkts = d.heldPkts := rfl
@[simp] theorem Dev.setBlob_dma (d : Dev) (k : Nat) (v : List Byte) : (d.setBlob k v).dma = d.dma := rfl
@[simp] theorem Dev.setBlob_scrubNext (d : Dev) (k : Nat) (v : List Byte) : (d.setBlob k v).scrubNext = d.scrubNext := rfl
@[simp] theorem Dev.setBlob_otp (d : Dev) (k : Nat) (v : List Byte) : (d.setBlob k v).otp = d.otp := rfl
@[simp] theorem Dev.setBlob_burn (d : Dev) (k : Nat) (v : List Byte) : (d.setBlob k v).burn = d.burn := rfl
@[simp] theorem Dev.setBlob_burnState (d : Dev) (k : Nat) (v : List Byte) : (d.setBlob k v).burnState = d.burnState := rfl
@[simp] theorem Dev.setBlob_fw (d : Dev) (k : Nat) (v : List Byte) : (d.setBlob k v).fw = d.fw := rfl
@[simp] theorem Dev.setBlob_debugOpen (d : Dev) (k : Nat) (v : List Byte) : (d.setBlob k v).debugOpen = d.debugOpen := rfl
@[simp] theorem Dev.setBlob_testPort (d : Dev) (k : Nat) (v : List Byte) : (d.setBlob k v).testPort = d.testPort := rfl
@[simp] theorem Dev.setBlob_out (d : Dev) (k : Nat) (v : List Byte) : (d.setBlob k v).out = d.out := rfl

/-! ## Replacing a port -/

@[simp] theorem Dev.setPort_tick (d : Dev) (p : Nat) (x : PortSt) : (d.setPort p x).tick = d.tick := rfl
@[simp] theorem Dev.setPort_draws (d : Dev) (p : Nat) (x : PortSt) : (d.setPort p x).draws = d.draws := rfl
@[simp] theorem Dev.setPort_regs (d : Dev) (p : Nat) (x : PortSt) : (d.setPort p x).regs = d.regs := rfl
@[simp] theorem Dev.setPort_blobs (d : Dev) (p : Nat) (x : PortSt) : (d.setPort p x).blobs = d.blobs := rfl
@[simp] theorem Dev.setPort_mfg (d : Dev) (p : Nat) (x : PortSt) : (d.setPort p x).mfg = d.mfg := rfl
@[simp] theorem Dev.setPort_modules (d : Dev) (p : Nat) (x : PortSt) : (d.setPort p x).modules = d.modules := rfl
@[simp] theorem Dev.setPort_siteEff (d : Dev) (p : Nat) (x : PortSt) : (d.setPort p x).siteEff = d.siteEff := rfl
@[simp] theorem Dev.setPort_mgmt (d : Dev) (p : Nat) (x : PortSt) : (d.setPort p x).mgmt = d.mgmt := rfl
@[simp] theorem Dev.setPort_sentry (d : Dev) (p : Nat) (x : PortSt) : (d.setPort p x).sentry = d.sentry := rfl
@[simp] theorem Dev.setPort_ints (d : Dev) (p : Nat) (x : PortSt) : (d.setPort p x).ints = d.ints := rfl
@[simp] theorem Dev.setPort_tele (d : Dev) (p : Nat) (x : PortSt) : (d.setPort p x).tele = d.tele := rfl
@[simp] theorem Dev.setPort_power (d : Dev) (p : Nat) (x : PortSt) : (d.setPort p x).power = d.power := rfl
@[simp] theorem Dev.setPort_kennel0 (d : Dev) (p : Nat) (x : PortSt) : (d.setPort p x).kennel0 = d.kennel0 := rfl
@[simp] theorem Dev.setPort_kennel1 (d : Dev) (p : Nat) (x : PortSt) : (d.setPort p x).kennel1 = d.kennel1 := rfl
@[simp] theorem Dev.setPort_kinject (d : Dev) (p : Nat) (x : PortSt) : (d.setPort p x).kinject = d.kinject := rfl
@[simp] theorem Dev.setPort_routing (d : Dev) (p : Nat) (x : PortSt) : (d.setPort p x).routing = d.routing := rfl
@[simp] theorem Dev.setPort_discovery (d : Dev) (p : Nat) (x : PortSt) : (d.setPort p x).discovery = d.discovery := rfl
@[simp] theorem Dev.setPort_staInForce (d : Dev) (p : Nat) (x : PortSt) : (d.setPort p x).staInForce = d.staInForce := rfl
@[simp] theorem Dev.setPort_dedOld (d : Dev) (p : Nat) (x : PortSt) : (d.setPort p x).dedOld = d.dedOld := rfl
@[simp] theorem Dev.setPort_dedWait (d : Dev) (p : Nat) (x : PortSt) : (d.setPort p x).dedWait = d.dedWait := rfl
@[simp] theorem Dev.setPort_packs (d : Dev) (p : Nat) (x : PortSt) : (d.setPort p x).packs = d.packs := rfl
@[simp] theorem Dev.setPort_frontLeft (d : Dev) (p : Nat) (x : PortSt) : (d.setPort p x).frontLeft = d.frontLeft := rfl
@[simp] theorem Dev.setPort_ctxs (d : Dev) (p : Nat) (x : PortSt) : (d.setPort p x).ctxs = d.ctxs := rfl
@[simp] theorem Dev.setPort_heldCells (d : Dev) (p : Nat) (x : PortSt) : (d.setPort p x).heldCells = d.heldCells := rfl
@[simp] theorem Dev.setPort_heels (d : Dev) (p : Nat) (x : PortSt) : (d.setPort p x).heels = d.heels := rfl
@[simp] theorem Dev.setPort_stepFails (d : Dev) (p : Nat) (x : PortSt) : (d.setPort p x).stepFails = d.stepFails := rfl
@[simp] theorem Dev.setPort_nanTrap (d : Dev) (p : Nat) (x : PortSt) : (d.setPort p x).nanTrap = d.nanTrap := rfl
@[simp] theorem Dev.setPort_arrivals (d : Dev) (p : Nat) (x : PortSt) : (d.setPort p x).arrivals = d.arrivals := rfl
@[simp] theorem Dev.setPort_time (d : Dev) (p : Nat) (x : PortSt) : (d.setPort p x).time = d.time := rfl
@[simp] theorem Dev.setPort_mem (d : Dev) (p : Nat) (x : PortSt) : (d.setPort p x).mem = d.mem := rfl
@[simp] theorem Dev.setPort_ueWords (d : Dev) (p : Nat) (x : PortSt) : (d.setPort p x).ueWords = d.ueWords := rfl
@[simp] theorem Dev.setPort_pageChecks (d : Dev) (p : Nat) (x : PortSt) : (d.setPort p x).pageChecks = d.pageChecks := rfl
@[simp] theorem Dev.setPort_whistles (d : Dev) (p : Nat) (x : PortSt) : (d.setPort p x).whistles = d.whistles := rfl
@[simp] theorem Dev.setPort_actions0 (d : Dev) (p : Nat) (x : PortSt) : (d.setPort p x).actions0 = d.actions0 := rfl
@[simp] theorem Dev.setPort_actions1 (d : Dev) (p : Nat) (x : PortSt) : (d.setPort p x).actions1 = d.actions1 := rfl
@[simp] theorem Dev.setPort_products (d : Dev) (p : Nat) (x : PortSt) : (d.setPort p x).products = d.products := rfl
@[simp] theorem Dev.setPort_productNext (d : Dev) (p : Nat) (x : PortSt) : (d.setPort p x).productNext = d.productNext := rfl
@[simp] theorem Dev.setPort_cinject (d : Dev) (p : Nat) (x : PortSt) : (d.setPort p x).cinject = d.cinject := rfl
@[simp] theorem Dev.setPort_chains (d : Dev) (p : Nat) (x : PortSt) : (d.setPort p x).chains = d.chains := rfl
@[simp] theorem Dev.setPort_norms (d : Dev) (p : Nat) (x : PortSt) : (d.setPort p x).norms = d.norms := rfl
@[simp] theorem Dev.setPort_routes (d : Dev) (p : Nat) (x : PortSt) : (d.setPort p x).routes = d.routes := rfl
@[simp] theorem Dev.setPort_programs (d : Dev) (p : Nat) (x : PortSt) : (d.setPort p x).programs = d.programs := rfl
@[simp] theorem Dev.setPort_hostPort (d : Dev) (p : Nat) (x : PortSt) : (d.setPort p x).hostPort = d.hostPort := rfl
@[simp] theorem Dev.setPort_qps (d : Dev) (p : Nat) (x : PortSt) : (d.setPort p x).qps = d.qps := rfl
@[simp] theorem Dev.setPort_bridge (d : Dev) (p : Nat) (x : PortSt) : (d.setPort p x).bridge = d.bridge := rfl
@[simp] theorem Dev.setPort_heldPkts (d : Dev) (p : Nat) (x : PortSt) : (d.setPort p x).heldPkts = d.heldPkts := rfl
@[simp] theorem Dev.setPort_dma (d : Dev) (p : Nat) (x : PortSt) : (d.setPort p x).dma = d.dma := rfl
@[simp] theorem Dev.setPort_scrubNext (d : Dev) (p : Nat) (x : PortSt) : (d.setPort p x).scrubNext = d.scrubNext := rfl
@[simp] theorem Dev.setPort_otp (d : Dev) (p : Nat) (x : PortSt) : (d.setPort p x).otp = d.otp := rfl
@[simp] theorem Dev.setPort_burn (d : Dev) (p : Nat) (x : PortSt) : (d.setPort p x).burn = d.burn := rfl
@[simp] theorem Dev.setPort_burnState (d : Dev) (p : Nat) (x : PortSt) : (d.setPort p x).burnState = d.burnState := rfl
@[simp] theorem Dev.setPort_fw (d : Dev) (p : Nat) (x : PortSt) : (d.setPort p x).fw = d.fw := rfl
@[simp] theorem Dev.setPort_debugOpen (d : Dev) (p : Nat) (x : PortSt) : (d.setPort p x).debugOpen = d.debugOpen := rfl
@[simp] theorem Dev.setPort_testPort (d : Dev) (p : Nat) (x : PortSt) : (d.setPort p x).testPort = d.testPort := rfl
@[simp] theorem Dev.setPort_out (d : Dev) (p : Nat) (x : PortSt) : (d.setPort p x).out = d.out := rfl

/-! ## Changing a port -/

@[simp] theorem Dev.updPort_tick (d : Dev) (p : Nat) (f : PortSt → PortSt) : (d.updPort p f).tick = d.tick := rfl
@[simp] theorem Dev.updPort_draws (d : Dev) (p : Nat) (f : PortSt → PortSt) : (d.updPort p f).draws = d.draws := rfl
@[simp] theorem Dev.updPort_regs (d : Dev) (p : Nat) (f : PortSt → PortSt) : (d.updPort p f).regs = d.regs := rfl
@[simp] theorem Dev.updPort_blobs (d : Dev) (p : Nat) (f : PortSt → PortSt) : (d.updPort p f).blobs = d.blobs := rfl
@[simp] theorem Dev.updPort_mfg (d : Dev) (p : Nat) (f : PortSt → PortSt) : (d.updPort p f).mfg = d.mfg := rfl
@[simp] theorem Dev.updPort_modules (d : Dev) (p : Nat) (f : PortSt → PortSt) : (d.updPort p f).modules = d.modules := rfl
@[simp] theorem Dev.updPort_siteEff (d : Dev) (p : Nat) (f : PortSt → PortSt) : (d.updPort p f).siteEff = d.siteEff := rfl
@[simp] theorem Dev.updPort_mgmt (d : Dev) (p : Nat) (f : PortSt → PortSt) : (d.updPort p f).mgmt = d.mgmt := rfl
@[simp] theorem Dev.updPort_sentry (d : Dev) (p : Nat) (f : PortSt → PortSt) : (d.updPort p f).sentry = d.sentry := rfl
@[simp] theorem Dev.updPort_ints (d : Dev) (p : Nat) (f : PortSt → PortSt) : (d.updPort p f).ints = d.ints := rfl
@[simp] theorem Dev.updPort_tele (d : Dev) (p : Nat) (f : PortSt → PortSt) : (d.updPort p f).tele = d.tele := rfl
@[simp] theorem Dev.updPort_power (d : Dev) (p : Nat) (f : PortSt → PortSt) : (d.updPort p f).power = d.power := rfl
@[simp] theorem Dev.updPort_kennel0 (d : Dev) (p : Nat) (f : PortSt → PortSt) : (d.updPort p f).kennel0 = d.kennel0 := rfl
@[simp] theorem Dev.updPort_kennel1 (d : Dev) (p : Nat) (f : PortSt → PortSt) : (d.updPort p f).kennel1 = d.kennel1 := rfl
@[simp] theorem Dev.updPort_kinject (d : Dev) (p : Nat) (f : PortSt → PortSt) : (d.updPort p f).kinject = d.kinject := rfl
@[simp] theorem Dev.updPort_routing (d : Dev) (p : Nat) (f : PortSt → PortSt) : (d.updPort p f).routing = d.routing := rfl
@[simp] theorem Dev.updPort_discovery (d : Dev) (p : Nat) (f : PortSt → PortSt) : (d.updPort p f).discovery = d.discovery := rfl
@[simp] theorem Dev.updPort_staInForce (d : Dev) (p : Nat) (f : PortSt → PortSt) : (d.updPort p f).staInForce = d.staInForce := rfl
@[simp] theorem Dev.updPort_dedOld (d : Dev) (p : Nat) (f : PortSt → PortSt) : (d.updPort p f).dedOld = d.dedOld := rfl
@[simp] theorem Dev.updPort_dedWait (d : Dev) (p : Nat) (f : PortSt → PortSt) : (d.updPort p f).dedWait = d.dedWait := rfl
@[simp] theorem Dev.updPort_packs (d : Dev) (p : Nat) (f : PortSt → PortSt) : (d.updPort p f).packs = d.packs := rfl
@[simp] theorem Dev.updPort_frontLeft (d : Dev) (p : Nat) (f : PortSt → PortSt) : (d.updPort p f).frontLeft = d.frontLeft := rfl
@[simp] theorem Dev.updPort_ctxs (d : Dev) (p : Nat) (f : PortSt → PortSt) : (d.updPort p f).ctxs = d.ctxs := rfl
@[simp] theorem Dev.updPort_heldCells (d : Dev) (p : Nat) (f : PortSt → PortSt) : (d.updPort p f).heldCells = d.heldCells := rfl
@[simp] theorem Dev.updPort_heels (d : Dev) (p : Nat) (f : PortSt → PortSt) : (d.updPort p f).heels = d.heels := rfl
@[simp] theorem Dev.updPort_stepFails (d : Dev) (p : Nat) (f : PortSt → PortSt) : (d.updPort p f).stepFails = d.stepFails := rfl
@[simp] theorem Dev.updPort_nanTrap (d : Dev) (p : Nat) (f : PortSt → PortSt) : (d.updPort p f).nanTrap = d.nanTrap := rfl
@[simp] theorem Dev.updPort_arrivals (d : Dev) (p : Nat) (f : PortSt → PortSt) : (d.updPort p f).arrivals = d.arrivals := rfl
@[simp] theorem Dev.updPort_time (d : Dev) (p : Nat) (f : PortSt → PortSt) : (d.updPort p f).time = d.time := rfl
@[simp] theorem Dev.updPort_mem (d : Dev) (p : Nat) (f : PortSt → PortSt) : (d.updPort p f).mem = d.mem := rfl
@[simp] theorem Dev.updPort_ueWords (d : Dev) (p : Nat) (f : PortSt → PortSt) : (d.updPort p f).ueWords = d.ueWords := rfl
@[simp] theorem Dev.updPort_pageChecks (d : Dev) (p : Nat) (f : PortSt → PortSt) : (d.updPort p f).pageChecks = d.pageChecks := rfl
@[simp] theorem Dev.updPort_whistles (d : Dev) (p : Nat) (f : PortSt → PortSt) : (d.updPort p f).whistles = d.whistles := rfl
@[simp] theorem Dev.updPort_actions0 (d : Dev) (p : Nat) (f : PortSt → PortSt) : (d.updPort p f).actions0 = d.actions0 := rfl
@[simp] theorem Dev.updPort_actions1 (d : Dev) (p : Nat) (f : PortSt → PortSt) : (d.updPort p f).actions1 = d.actions1 := rfl
@[simp] theorem Dev.updPort_products (d : Dev) (p : Nat) (f : PortSt → PortSt) : (d.updPort p f).products = d.products := rfl
@[simp] theorem Dev.updPort_productNext (d : Dev) (p : Nat) (f : PortSt → PortSt) : (d.updPort p f).productNext = d.productNext := rfl
@[simp] theorem Dev.updPort_cinject (d : Dev) (p : Nat) (f : PortSt → PortSt) : (d.updPort p f).cinject = d.cinject := rfl
@[simp] theorem Dev.updPort_chains (d : Dev) (p : Nat) (f : PortSt → PortSt) : (d.updPort p f).chains = d.chains := rfl
@[simp] theorem Dev.updPort_norms (d : Dev) (p : Nat) (f : PortSt → PortSt) : (d.updPort p f).norms = d.norms := rfl
@[simp] theorem Dev.updPort_routes (d : Dev) (p : Nat) (f : PortSt → PortSt) : (d.updPort p f).routes = d.routes := rfl
@[simp] theorem Dev.updPort_programs (d : Dev) (p : Nat) (f : PortSt → PortSt) : (d.updPort p f).programs = d.programs := rfl
@[simp] theorem Dev.updPort_hostPort (d : Dev) (p : Nat) (f : PortSt → PortSt) : (d.updPort p f).hostPort = d.hostPort := rfl
@[simp] theorem Dev.updPort_qps (d : Dev) (p : Nat) (f : PortSt → PortSt) : (d.updPort p f).qps = d.qps := rfl
@[simp] theorem Dev.updPort_bridge (d : Dev) (p : Nat) (f : PortSt → PortSt) : (d.updPort p f).bridge = d.bridge := rfl
@[simp] theorem Dev.updPort_heldPkts (d : Dev) (p : Nat) (f : PortSt → PortSt) : (d.updPort p f).heldPkts = d.heldPkts := rfl
@[simp] theorem Dev.updPort_dma (d : Dev) (p : Nat) (f : PortSt → PortSt) : (d.updPort p f).dma = d.dma := rfl
@[simp] theorem Dev.updPort_scrubNext (d : Dev) (p : Nat) (f : PortSt → PortSt) : (d.updPort p f).scrubNext = d.scrubNext := rfl
@[simp] theorem Dev.updPort_otp (d : Dev) (p : Nat) (f : PortSt → PortSt) : (d.updPort p f).otp = d.otp := rfl
@[simp] theorem Dev.updPort_burn (d : Dev) (p : Nat) (f : PortSt → PortSt) : (d.updPort p f).burn = d.burn := rfl
@[simp] theorem Dev.updPort_burnState (d : Dev) (p : Nat) (f : PortSt → PortSt) : (d.updPort p f).burnState = d.burnState := rfl
@[simp] theorem Dev.updPort_fw (d : Dev) (p : Nat) (f : PortSt → PortSt) : (d.updPort p f).fw = d.fw := rfl
@[simp] theorem Dev.updPort_debugOpen (d : Dev) (p : Nat) (f : PortSt → PortSt) : (d.updPort p f).debugOpen = d.debugOpen := rfl
@[simp] theorem Dev.updPort_testPort (d : Dev) (p : Nat) (f : PortSt → PortSt) : (d.updPort p f).testPort = d.testPort := rfl
@[simp] theorem Dev.updPort_out (d : Dev) (p : Nat) (f : PortSt → PortSt) : (d.updPort p f).out = d.out := rfl

/-! ## Changing a lane -/

@[simp] theorem Dev.updLane_tick (d : Dev) (p : Nat) (l : Lane) (f : LaneSt → LaneSt) : (d.updLane p l f).tick = d.tick := rfl
@[simp] theorem Dev.updLane_draws (d : Dev) (p : Nat) (l : Lane) (f : LaneSt → LaneSt) : (d.updLane p l f).draws = d.draws := rfl
@[simp] theorem Dev.updLane_regs (d : Dev) (p : Nat) (l : Lane) (f : LaneSt → LaneSt) : (d.updLane p l f).regs = d.regs := rfl
@[simp] theorem Dev.updLane_blobs (d : Dev) (p : Nat) (l : Lane) (f : LaneSt → LaneSt) : (d.updLane p l f).blobs = d.blobs := rfl
@[simp] theorem Dev.updLane_mfg (d : Dev) (p : Nat) (l : Lane) (f : LaneSt → LaneSt) : (d.updLane p l f).mfg = d.mfg := rfl
@[simp] theorem Dev.updLane_modules (d : Dev) (p : Nat) (l : Lane) (f : LaneSt → LaneSt) : (d.updLane p l f).modules = d.modules := rfl
@[simp] theorem Dev.updLane_siteEff (d : Dev) (p : Nat) (l : Lane) (f : LaneSt → LaneSt) : (d.updLane p l f).siteEff = d.siteEff := rfl
@[simp] theorem Dev.updLane_mgmt (d : Dev) (p : Nat) (l : Lane) (f : LaneSt → LaneSt) : (d.updLane p l f).mgmt = d.mgmt := rfl
@[simp] theorem Dev.updLane_sentry (d : Dev) (p : Nat) (l : Lane) (f : LaneSt → LaneSt) : (d.updLane p l f).sentry = d.sentry := rfl
@[simp] theorem Dev.updLane_ints (d : Dev) (p : Nat) (l : Lane) (f : LaneSt → LaneSt) : (d.updLane p l f).ints = d.ints := rfl
@[simp] theorem Dev.updLane_tele (d : Dev) (p : Nat) (l : Lane) (f : LaneSt → LaneSt) : (d.updLane p l f).tele = d.tele := rfl
@[simp] theorem Dev.updLane_power (d : Dev) (p : Nat) (l : Lane) (f : LaneSt → LaneSt) : (d.updLane p l f).power = d.power := rfl
@[simp] theorem Dev.updLane_kennel0 (d : Dev) (p : Nat) (l : Lane) (f : LaneSt → LaneSt) : (d.updLane p l f).kennel0 = d.kennel0 := rfl
@[simp] theorem Dev.updLane_kennel1 (d : Dev) (p : Nat) (l : Lane) (f : LaneSt → LaneSt) : (d.updLane p l f).kennel1 = d.kennel1 := rfl
@[simp] theorem Dev.updLane_kinject (d : Dev) (p : Nat) (l : Lane) (f : LaneSt → LaneSt) : (d.updLane p l f).kinject = d.kinject := rfl
@[simp] theorem Dev.updLane_routing (d : Dev) (p : Nat) (l : Lane) (f : LaneSt → LaneSt) : (d.updLane p l f).routing = d.routing := rfl
@[simp] theorem Dev.updLane_discovery (d : Dev) (p : Nat) (l : Lane) (f : LaneSt → LaneSt) : (d.updLane p l f).discovery = d.discovery := rfl
@[simp] theorem Dev.updLane_staInForce (d : Dev) (p : Nat) (l : Lane) (f : LaneSt → LaneSt) : (d.updLane p l f).staInForce = d.staInForce := rfl
@[simp] theorem Dev.updLane_dedOld (d : Dev) (p : Nat) (l : Lane) (f : LaneSt → LaneSt) : (d.updLane p l f).dedOld = d.dedOld := rfl
@[simp] theorem Dev.updLane_dedWait (d : Dev) (p : Nat) (l : Lane) (f : LaneSt → LaneSt) : (d.updLane p l f).dedWait = d.dedWait := rfl
@[simp] theorem Dev.updLane_packs (d : Dev) (p : Nat) (l : Lane) (f : LaneSt → LaneSt) : (d.updLane p l f).packs = d.packs := rfl
@[simp] theorem Dev.updLane_frontLeft (d : Dev) (p : Nat) (l : Lane) (f : LaneSt → LaneSt) : (d.updLane p l f).frontLeft = d.frontLeft := rfl
@[simp] theorem Dev.updLane_ctxs (d : Dev) (p : Nat) (l : Lane) (f : LaneSt → LaneSt) : (d.updLane p l f).ctxs = d.ctxs := rfl
@[simp] theorem Dev.updLane_heldCells (d : Dev) (p : Nat) (l : Lane) (f : LaneSt → LaneSt) : (d.updLane p l f).heldCells = d.heldCells := rfl
@[simp] theorem Dev.updLane_heels (d : Dev) (p : Nat) (l : Lane) (f : LaneSt → LaneSt) : (d.updLane p l f).heels = d.heels := rfl
@[simp] theorem Dev.updLane_stepFails (d : Dev) (p : Nat) (l : Lane) (f : LaneSt → LaneSt) : (d.updLane p l f).stepFails = d.stepFails := rfl
@[simp] theorem Dev.updLane_nanTrap (d : Dev) (p : Nat) (l : Lane) (f : LaneSt → LaneSt) : (d.updLane p l f).nanTrap = d.nanTrap := rfl
@[simp] theorem Dev.updLane_arrivals (d : Dev) (p : Nat) (l : Lane) (f : LaneSt → LaneSt) : (d.updLane p l f).arrivals = d.arrivals := rfl
@[simp] theorem Dev.updLane_time (d : Dev) (p : Nat) (l : Lane) (f : LaneSt → LaneSt) : (d.updLane p l f).time = d.time := rfl
@[simp] theorem Dev.updLane_mem (d : Dev) (p : Nat) (l : Lane) (f : LaneSt → LaneSt) : (d.updLane p l f).mem = d.mem := rfl
@[simp] theorem Dev.updLane_ueWords (d : Dev) (p : Nat) (l : Lane) (f : LaneSt → LaneSt) : (d.updLane p l f).ueWords = d.ueWords := rfl
@[simp] theorem Dev.updLane_pageChecks (d : Dev) (p : Nat) (l : Lane) (f : LaneSt → LaneSt) : (d.updLane p l f).pageChecks = d.pageChecks := rfl
@[simp] theorem Dev.updLane_whistles (d : Dev) (p : Nat) (l : Lane) (f : LaneSt → LaneSt) : (d.updLane p l f).whistles = d.whistles := rfl
@[simp] theorem Dev.updLane_actions0 (d : Dev) (p : Nat) (l : Lane) (f : LaneSt → LaneSt) : (d.updLane p l f).actions0 = d.actions0 := rfl
@[simp] theorem Dev.updLane_actions1 (d : Dev) (p : Nat) (l : Lane) (f : LaneSt → LaneSt) : (d.updLane p l f).actions1 = d.actions1 := rfl
@[simp] theorem Dev.updLane_products (d : Dev) (p : Nat) (l : Lane) (f : LaneSt → LaneSt) : (d.updLane p l f).products = d.products := rfl
@[simp] theorem Dev.updLane_productNext (d : Dev) (p : Nat) (l : Lane) (f : LaneSt → LaneSt) : (d.updLane p l f).productNext = d.productNext := rfl
@[simp] theorem Dev.updLane_cinject (d : Dev) (p : Nat) (l : Lane) (f : LaneSt → LaneSt) : (d.updLane p l f).cinject = d.cinject := rfl
@[simp] theorem Dev.updLane_chains (d : Dev) (p : Nat) (l : Lane) (f : LaneSt → LaneSt) : (d.updLane p l f).chains = d.chains := rfl
@[simp] theorem Dev.updLane_norms (d : Dev) (p : Nat) (l : Lane) (f : LaneSt → LaneSt) : (d.updLane p l f).norms = d.norms := rfl
@[simp] theorem Dev.updLane_routes (d : Dev) (p : Nat) (l : Lane) (f : LaneSt → LaneSt) : (d.updLane p l f).routes = d.routes := rfl
@[simp] theorem Dev.updLane_programs (d : Dev) (p : Nat) (l : Lane) (f : LaneSt → LaneSt) : (d.updLane p l f).programs = d.programs := rfl
@[simp] theorem Dev.updLane_hostPort (d : Dev) (p : Nat) (l : Lane) (f : LaneSt → LaneSt) : (d.updLane p l f).hostPort = d.hostPort := rfl
@[simp] theorem Dev.updLane_qps (d : Dev) (p : Nat) (l : Lane) (f : LaneSt → LaneSt) : (d.updLane p l f).qps = d.qps := rfl
@[simp] theorem Dev.updLane_bridge (d : Dev) (p : Nat) (l : Lane) (f : LaneSt → LaneSt) : (d.updLane p l f).bridge = d.bridge := rfl
@[simp] theorem Dev.updLane_heldPkts (d : Dev) (p : Nat) (l : Lane) (f : LaneSt → LaneSt) : (d.updLane p l f).heldPkts = d.heldPkts := rfl
@[simp] theorem Dev.updLane_dma (d : Dev) (p : Nat) (l : Lane) (f : LaneSt → LaneSt) : (d.updLane p l f).dma = d.dma := rfl
@[simp] theorem Dev.updLane_scrubNext (d : Dev) (p : Nat) (l : Lane) (f : LaneSt → LaneSt) : (d.updLane p l f).scrubNext = d.scrubNext := rfl
@[simp] theorem Dev.updLane_otp (d : Dev) (p : Nat) (l : Lane) (f : LaneSt → LaneSt) : (d.updLane p l f).otp = d.otp := rfl
@[simp] theorem Dev.updLane_burn (d : Dev) (p : Nat) (l : Lane) (f : LaneSt → LaneSt) : (d.updLane p l f).burn = d.burn := rfl
@[simp] theorem Dev.updLane_burnState (d : Dev) (p : Nat) (l : Lane) (f : LaneSt → LaneSt) : (d.updLane p l f).burnState = d.burnState := rfl
@[simp] theorem Dev.updLane_fw (d : Dev) (p : Nat) (l : Lane) (f : LaneSt → LaneSt) : (d.updLane p l f).fw = d.fw := rfl
@[simp] theorem Dev.updLane_debugOpen (d : Dev) (p : Nat) (l : Lane) (f : LaneSt → LaneSt) : (d.updLane p l f).debugOpen = d.debugOpen := rfl
@[simp] theorem Dev.updLane_testPort (d : Dev) (p : Nat) (l : Lane) (f : LaneSt → LaneSt) : (d.updLane p l f).testPort = d.testPort := rfl
@[simp] theorem Dev.updLane_out (d : Dev) (p : Nat) (l : Lane) (f : LaneSt → LaneSt) : (d.updLane p l f).out = d.out := rfl

/-! ## Appending an output -/

@[simp] theorem Dev.emit_tick (d : Dev) (o : Out) : (d.emit o).tick = d.tick := rfl
@[simp] theorem Dev.emit_draws (d : Dev) (o : Out) : (d.emit o).draws = d.draws := rfl
@[simp] theorem Dev.emit_regs (d : Dev) (o : Out) : (d.emit o).regs = d.regs := rfl
@[simp] theorem Dev.emit_blobs (d : Dev) (o : Out) : (d.emit o).blobs = d.blobs := rfl
@[simp] theorem Dev.emit_mfg (d : Dev) (o : Out) : (d.emit o).mfg = d.mfg := rfl
@[simp] theorem Dev.emit_ports (d : Dev) (o : Out) : (d.emit o).ports = d.ports := rfl
@[simp] theorem Dev.emit_modules (d : Dev) (o : Out) : (d.emit o).modules = d.modules := rfl
@[simp] theorem Dev.emit_siteEff (d : Dev) (o : Out) : (d.emit o).siteEff = d.siteEff := rfl
@[simp] theorem Dev.emit_mgmt (d : Dev) (o : Out) : (d.emit o).mgmt = d.mgmt := rfl
@[simp] theorem Dev.emit_sentry (d : Dev) (o : Out) : (d.emit o).sentry = d.sentry := rfl
@[simp] theorem Dev.emit_ints (d : Dev) (o : Out) : (d.emit o).ints = d.ints := rfl
@[simp] theorem Dev.emit_tele (d : Dev) (o : Out) : (d.emit o).tele = d.tele := rfl
@[simp] theorem Dev.emit_power (d : Dev) (o : Out) : (d.emit o).power = d.power := rfl
@[simp] theorem Dev.emit_kennel0 (d : Dev) (o : Out) : (d.emit o).kennel0 = d.kennel0 := rfl
@[simp] theorem Dev.emit_kennel1 (d : Dev) (o : Out) : (d.emit o).kennel1 = d.kennel1 := rfl
@[simp] theorem Dev.emit_kinject (d : Dev) (o : Out) : (d.emit o).kinject = d.kinject := rfl
@[simp] theorem Dev.emit_routing (d : Dev) (o : Out) : (d.emit o).routing = d.routing := rfl
@[simp] theorem Dev.emit_discovery (d : Dev) (o : Out) : (d.emit o).discovery = d.discovery := rfl
@[simp] theorem Dev.emit_staInForce (d : Dev) (o : Out) : (d.emit o).staInForce = d.staInForce := rfl
@[simp] theorem Dev.emit_dedOld (d : Dev) (o : Out) : (d.emit o).dedOld = d.dedOld := rfl
@[simp] theorem Dev.emit_dedWait (d : Dev) (o : Out) : (d.emit o).dedWait = d.dedWait := rfl
@[simp] theorem Dev.emit_packs (d : Dev) (o : Out) : (d.emit o).packs = d.packs := rfl
@[simp] theorem Dev.emit_frontLeft (d : Dev) (o : Out) : (d.emit o).frontLeft = d.frontLeft := rfl
@[simp] theorem Dev.emit_ctxs (d : Dev) (o : Out) : (d.emit o).ctxs = d.ctxs := rfl
@[simp] theorem Dev.emit_heldCells (d : Dev) (o : Out) : (d.emit o).heldCells = d.heldCells := rfl
@[simp] theorem Dev.emit_heels (d : Dev) (o : Out) : (d.emit o).heels = d.heels := rfl
@[simp] theorem Dev.emit_stepFails (d : Dev) (o : Out) : (d.emit o).stepFails = d.stepFails := rfl
@[simp] theorem Dev.emit_nanTrap (d : Dev) (o : Out) : (d.emit o).nanTrap = d.nanTrap := rfl
@[simp] theorem Dev.emit_arrivals (d : Dev) (o : Out) : (d.emit o).arrivals = d.arrivals := rfl
@[simp] theorem Dev.emit_time (d : Dev) (o : Out) : (d.emit o).time = d.time := rfl
@[simp] theorem Dev.emit_mem (d : Dev) (o : Out) : (d.emit o).mem = d.mem := rfl
@[simp] theorem Dev.emit_ueWords (d : Dev) (o : Out) : (d.emit o).ueWords = d.ueWords := rfl
@[simp] theorem Dev.emit_pageChecks (d : Dev) (o : Out) : (d.emit o).pageChecks = d.pageChecks := rfl
@[simp] theorem Dev.emit_whistles (d : Dev) (o : Out) : (d.emit o).whistles = d.whistles := rfl
@[simp] theorem Dev.emit_actions0 (d : Dev) (o : Out) : (d.emit o).actions0 = d.actions0 := rfl
@[simp] theorem Dev.emit_actions1 (d : Dev) (o : Out) : (d.emit o).actions1 = d.actions1 := rfl
@[simp] theorem Dev.emit_products (d : Dev) (o : Out) : (d.emit o).products = d.products := rfl
@[simp] theorem Dev.emit_productNext (d : Dev) (o : Out) : (d.emit o).productNext = d.productNext := rfl
@[simp] theorem Dev.emit_cinject (d : Dev) (o : Out) : (d.emit o).cinject = d.cinject := rfl
@[simp] theorem Dev.emit_chains (d : Dev) (o : Out) : (d.emit o).chains = d.chains := rfl
@[simp] theorem Dev.emit_norms (d : Dev) (o : Out) : (d.emit o).norms = d.norms := rfl
@[simp] theorem Dev.emit_routes (d : Dev) (o : Out) : (d.emit o).routes = d.routes := rfl
@[simp] theorem Dev.emit_programs (d : Dev) (o : Out) : (d.emit o).programs = d.programs := rfl
@[simp] theorem Dev.emit_hostPort (d : Dev) (o : Out) : (d.emit o).hostPort = d.hostPort := rfl
@[simp] theorem Dev.emit_qps (d : Dev) (o : Out) : (d.emit o).qps = d.qps := rfl
@[simp] theorem Dev.emit_bridge (d : Dev) (o : Out) : (d.emit o).bridge = d.bridge := rfl
@[simp] theorem Dev.emit_heldPkts (d : Dev) (o : Out) : (d.emit o).heldPkts = d.heldPkts := rfl
@[simp] theorem Dev.emit_dma (d : Dev) (o : Out) : (d.emit o).dma = d.dma := rfl
@[simp] theorem Dev.emit_scrubNext (d : Dev) (o : Out) : (d.emit o).scrubNext = d.scrubNext := rfl
@[simp] theorem Dev.emit_otp (d : Dev) (o : Out) : (d.emit o).otp = d.otp := rfl
@[simp] theorem Dev.emit_burn (d : Dev) (o : Out) : (d.emit o).burn = d.burn := rfl
@[simp] theorem Dev.emit_burnState (d : Dev) (o : Out) : (d.emit o).burnState = d.burnState := rfl
@[simp] theorem Dev.emit_fw (d : Dev) (o : Out) : (d.emit o).fw = d.fw := rfl
@[simp] theorem Dev.emit_debugOpen (d : Dev) (o : Out) : (d.emit o).debugOpen = d.debugOpen := rfl
@[simp] theorem Dev.emit_testPort (d : Dev) (o : Out) : (d.emit o).testPort = d.testPort := rfl

/-! ## Counting a free value -/

@[simp] theorem Dev.drew_tick (d : Dev) : (d.drew).tick = d.tick := rfl
@[simp] theorem Dev.drew_regs (d : Dev) : (d.drew).regs = d.regs := rfl
@[simp] theorem Dev.drew_blobs (d : Dev) : (d.drew).blobs = d.blobs := rfl
@[simp] theorem Dev.drew_mfg (d : Dev) : (d.drew).mfg = d.mfg := rfl
@[simp] theorem Dev.drew_ports (d : Dev) : (d.drew).ports = d.ports := rfl
@[simp] theorem Dev.drew_modules (d : Dev) : (d.drew).modules = d.modules := rfl
@[simp] theorem Dev.drew_siteEff (d : Dev) : (d.drew).siteEff = d.siteEff := rfl
@[simp] theorem Dev.drew_mgmt (d : Dev) : (d.drew).mgmt = d.mgmt := rfl
@[simp] theorem Dev.drew_sentry (d : Dev) : (d.drew).sentry = d.sentry := rfl
@[simp] theorem Dev.drew_ints (d : Dev) : (d.drew).ints = d.ints := rfl
@[simp] theorem Dev.drew_tele (d : Dev) : (d.drew).tele = d.tele := rfl
@[simp] theorem Dev.drew_power (d : Dev) : (d.drew).power = d.power := rfl
@[simp] theorem Dev.drew_kennel0 (d : Dev) : (d.drew).kennel0 = d.kennel0 := rfl
@[simp] theorem Dev.drew_kennel1 (d : Dev) : (d.drew).kennel1 = d.kennel1 := rfl
@[simp] theorem Dev.drew_kinject (d : Dev) : (d.drew).kinject = d.kinject := rfl
@[simp] theorem Dev.drew_routing (d : Dev) : (d.drew).routing = d.routing := rfl
@[simp] theorem Dev.drew_discovery (d : Dev) : (d.drew).discovery = d.discovery := rfl
@[simp] theorem Dev.drew_staInForce (d : Dev) : (d.drew).staInForce = d.staInForce := rfl
@[simp] theorem Dev.drew_dedOld (d : Dev) : (d.drew).dedOld = d.dedOld := rfl
@[simp] theorem Dev.drew_dedWait (d : Dev) : (d.drew).dedWait = d.dedWait := rfl
@[simp] theorem Dev.drew_packs (d : Dev) : (d.drew).packs = d.packs := rfl
@[simp] theorem Dev.drew_frontLeft (d : Dev) : (d.drew).frontLeft = d.frontLeft := rfl
@[simp] theorem Dev.drew_ctxs (d : Dev) : (d.drew).ctxs = d.ctxs := rfl
@[simp] theorem Dev.drew_heldCells (d : Dev) : (d.drew).heldCells = d.heldCells := rfl
@[simp] theorem Dev.drew_heels (d : Dev) : (d.drew).heels = d.heels := rfl
@[simp] theorem Dev.drew_stepFails (d : Dev) : (d.drew).stepFails = d.stepFails := rfl
@[simp] theorem Dev.drew_nanTrap (d : Dev) : (d.drew).nanTrap = d.nanTrap := rfl
@[simp] theorem Dev.drew_arrivals (d : Dev) : (d.drew).arrivals = d.arrivals := rfl
@[simp] theorem Dev.drew_time (d : Dev) : (d.drew).time = d.time := rfl
@[simp] theorem Dev.drew_mem (d : Dev) : (d.drew).mem = d.mem := rfl
@[simp] theorem Dev.drew_ueWords (d : Dev) : (d.drew).ueWords = d.ueWords := rfl
@[simp] theorem Dev.drew_pageChecks (d : Dev) : (d.drew).pageChecks = d.pageChecks := rfl
@[simp] theorem Dev.drew_whistles (d : Dev) : (d.drew).whistles = d.whistles := rfl
@[simp] theorem Dev.drew_actions0 (d : Dev) : (d.drew).actions0 = d.actions0 := rfl
@[simp] theorem Dev.drew_actions1 (d : Dev) : (d.drew).actions1 = d.actions1 := rfl
@[simp] theorem Dev.drew_products (d : Dev) : (d.drew).products = d.products := rfl
@[simp] theorem Dev.drew_productNext (d : Dev) : (d.drew).productNext = d.productNext := rfl
@[simp] theorem Dev.drew_cinject (d : Dev) : (d.drew).cinject = d.cinject := rfl
@[simp] theorem Dev.drew_chains (d : Dev) : (d.drew).chains = d.chains := rfl
@[simp] theorem Dev.drew_norms (d : Dev) : (d.drew).norms = d.norms := rfl
@[simp] theorem Dev.drew_routes (d : Dev) : (d.drew).routes = d.routes := rfl
@[simp] theorem Dev.drew_programs (d : Dev) : (d.drew).programs = d.programs := rfl
@[simp] theorem Dev.drew_hostPort (d : Dev) : (d.drew).hostPort = d.hostPort := rfl
@[simp] theorem Dev.drew_qps (d : Dev) : (d.drew).qps = d.qps := rfl
@[simp] theorem Dev.drew_bridge (d : Dev) : (d.drew).bridge = d.bridge := rfl
@[simp] theorem Dev.drew_heldPkts (d : Dev) : (d.drew).heldPkts = d.heldPkts := rfl
@[simp] theorem Dev.drew_dma (d : Dev) : (d.drew).dma = d.dma := rfl
@[simp] theorem Dev.drew_scrubNext (d : Dev) : (d.drew).scrubNext = d.scrubNext := rfl
@[simp] theorem Dev.drew_otp (d : Dev) : (d.drew).otp = d.otp := rfl
@[simp] theorem Dev.drew_burn (d : Dev) : (d.drew).burn = d.burn := rfl
@[simp] theorem Dev.drew_burnState (d : Dev) : (d.drew).burnState = d.burnState := rfl
@[simp] theorem Dev.drew_fw (d : Dev) : (d.drew).fw = d.fw := rfl
@[simp] theorem Dev.drew_debugOpen (d : Dev) : (d.drew).debugOpen = d.debugOpen := rfl
@[simp] theorem Dev.drew_testPort (d : Dev) : (d.drew).testPort = d.testPort := rfl
@[simp] theorem Dev.drew_out (d : Dev) : (d.drew).out = d.out := rfl

/-! ## Replacing a context -/

@[simp] theorem Dev.setCtx_tick (d : Dev) (n : Nat) (x : Ctx) : (d.setCtx n x).tick = d.tick := rfl
@[simp] theorem Dev.setCtx_draws (d : Dev) (n : Nat) (x : Ctx) : (d.setCtx n x).draws = d.draws := rfl
@[simp] theorem Dev.setCtx_regs (d : Dev) (n : Nat) (x : Ctx) : (d.setCtx n x).regs = d.regs := rfl
@[simp] theorem Dev.setCtx_blobs (d : Dev) (n : Nat) (x : Ctx) : (d.setCtx n x).blobs = d.blobs := rfl
@[simp] theorem Dev.setCtx_mfg (d : Dev) (n : Nat) (x : Ctx) : (d.setCtx n x).mfg = d.mfg := rfl
@[simp] theorem Dev.setCtx_ports (d : Dev) (n : Nat) (x : Ctx) : (d.setCtx n x).ports = d.ports := rfl
@[simp] theorem Dev.setCtx_modules (d : Dev) (n : Nat) (x : Ctx) : (d.setCtx n x).modules = d.modules := rfl
@[simp] theorem Dev.setCtx_siteEff (d : Dev) (n : Nat) (x : Ctx) : (d.setCtx n x).siteEff = d.siteEff := rfl
@[simp] theorem Dev.setCtx_mgmt (d : Dev) (n : Nat) (x : Ctx) : (d.setCtx n x).mgmt = d.mgmt := rfl
@[simp] theorem Dev.setCtx_sentry (d : Dev) (n : Nat) (x : Ctx) : (d.setCtx n x).sentry = d.sentry := rfl
@[simp] theorem Dev.setCtx_ints (d : Dev) (n : Nat) (x : Ctx) : (d.setCtx n x).ints = d.ints := rfl
@[simp] theorem Dev.setCtx_tele (d : Dev) (n : Nat) (x : Ctx) : (d.setCtx n x).tele = d.tele := rfl
@[simp] theorem Dev.setCtx_power (d : Dev) (n : Nat) (x : Ctx) : (d.setCtx n x).power = d.power := rfl
@[simp] theorem Dev.setCtx_kennel0 (d : Dev) (n : Nat) (x : Ctx) : (d.setCtx n x).kennel0 = d.kennel0 := rfl
@[simp] theorem Dev.setCtx_kennel1 (d : Dev) (n : Nat) (x : Ctx) : (d.setCtx n x).kennel1 = d.kennel1 := rfl
@[simp] theorem Dev.setCtx_kinject (d : Dev) (n : Nat) (x : Ctx) : (d.setCtx n x).kinject = d.kinject := rfl
@[simp] theorem Dev.setCtx_routing (d : Dev) (n : Nat) (x : Ctx) : (d.setCtx n x).routing = d.routing := rfl
@[simp] theorem Dev.setCtx_discovery (d : Dev) (n : Nat) (x : Ctx) : (d.setCtx n x).discovery = d.discovery := rfl
@[simp] theorem Dev.setCtx_staInForce (d : Dev) (n : Nat) (x : Ctx) : (d.setCtx n x).staInForce = d.staInForce := rfl
@[simp] theorem Dev.setCtx_dedOld (d : Dev) (n : Nat) (x : Ctx) : (d.setCtx n x).dedOld = d.dedOld := rfl
@[simp] theorem Dev.setCtx_dedWait (d : Dev) (n : Nat) (x : Ctx) : (d.setCtx n x).dedWait = d.dedWait := rfl
@[simp] theorem Dev.setCtx_packs (d : Dev) (n : Nat) (x : Ctx) : (d.setCtx n x).packs = d.packs := rfl
@[simp] theorem Dev.setCtx_frontLeft (d : Dev) (n : Nat) (x : Ctx) : (d.setCtx n x).frontLeft = d.frontLeft := rfl
@[simp] theorem Dev.setCtx_heldCells (d : Dev) (n : Nat) (x : Ctx) : (d.setCtx n x).heldCells = d.heldCells := rfl
@[simp] theorem Dev.setCtx_heels (d : Dev) (n : Nat) (x : Ctx) : (d.setCtx n x).heels = d.heels := rfl
@[simp] theorem Dev.setCtx_stepFails (d : Dev) (n : Nat) (x : Ctx) : (d.setCtx n x).stepFails = d.stepFails := rfl
@[simp] theorem Dev.setCtx_nanTrap (d : Dev) (n : Nat) (x : Ctx) : (d.setCtx n x).nanTrap = d.nanTrap := rfl
@[simp] theorem Dev.setCtx_arrivals (d : Dev) (n : Nat) (x : Ctx) : (d.setCtx n x).arrivals = d.arrivals := rfl
@[simp] theorem Dev.setCtx_time (d : Dev) (n : Nat) (x : Ctx) : (d.setCtx n x).time = d.time := rfl
@[simp] theorem Dev.setCtx_mem (d : Dev) (n : Nat) (x : Ctx) : (d.setCtx n x).mem = d.mem := rfl
@[simp] theorem Dev.setCtx_ueWords (d : Dev) (n : Nat) (x : Ctx) : (d.setCtx n x).ueWords = d.ueWords := rfl
@[simp] theorem Dev.setCtx_pageChecks (d : Dev) (n : Nat) (x : Ctx) : (d.setCtx n x).pageChecks = d.pageChecks := rfl
@[simp] theorem Dev.setCtx_whistles (d : Dev) (n : Nat) (x : Ctx) : (d.setCtx n x).whistles = d.whistles := rfl
@[simp] theorem Dev.setCtx_actions0 (d : Dev) (n : Nat) (x : Ctx) : (d.setCtx n x).actions0 = d.actions0 := rfl
@[simp] theorem Dev.setCtx_actions1 (d : Dev) (n : Nat) (x : Ctx) : (d.setCtx n x).actions1 = d.actions1 := rfl
@[simp] theorem Dev.setCtx_products (d : Dev) (n : Nat) (x : Ctx) : (d.setCtx n x).products = d.products := rfl
@[simp] theorem Dev.setCtx_productNext (d : Dev) (n : Nat) (x : Ctx) : (d.setCtx n x).productNext = d.productNext := rfl
@[simp] theorem Dev.setCtx_cinject (d : Dev) (n : Nat) (x : Ctx) : (d.setCtx n x).cinject = d.cinject := rfl
@[simp] theorem Dev.setCtx_chains (d : Dev) (n : Nat) (x : Ctx) : (d.setCtx n x).chains = d.chains := rfl
@[simp] theorem Dev.setCtx_norms (d : Dev) (n : Nat) (x : Ctx) : (d.setCtx n x).norms = d.norms := rfl
@[simp] theorem Dev.setCtx_routes (d : Dev) (n : Nat) (x : Ctx) : (d.setCtx n x).routes = d.routes := rfl
@[simp] theorem Dev.setCtx_programs (d : Dev) (n : Nat) (x : Ctx) : (d.setCtx n x).programs = d.programs := rfl
@[simp] theorem Dev.setCtx_hostPort (d : Dev) (n : Nat) (x : Ctx) : (d.setCtx n x).hostPort = d.hostPort := rfl
@[simp] theorem Dev.setCtx_qps (d : Dev) (n : Nat) (x : Ctx) : (d.setCtx n x).qps = d.qps := rfl
@[simp] theorem Dev.setCtx_bridge (d : Dev) (n : Nat) (x : Ctx) : (d.setCtx n x).bridge = d.bridge := rfl
@[simp] theorem Dev.setCtx_heldPkts (d : Dev) (n : Nat) (x : Ctx) : (d.setCtx n x).heldPkts = d.heldPkts := rfl
@[simp] theorem Dev.setCtx_dma (d : Dev) (n : Nat) (x : Ctx) : (d.setCtx n x).dma = d.dma := rfl
@[simp] theorem Dev.setCtx_scrubNext (d : Dev) (n : Nat) (x : Ctx) : (d.setCtx n x).scrubNext = d.scrubNext := rfl
@[simp] theorem Dev.setCtx_otp (d : Dev) (n : Nat) (x : Ctx) : (d.setCtx n x).otp = d.otp := rfl
@[simp] theorem Dev.setCtx_burn (d : Dev) (n : Nat) (x : Ctx) : (d.setCtx n x).burn = d.burn := rfl
@[simp] theorem Dev.setCtx_burnState (d : Dev) (n : Nat) (x : Ctx) : (d.setCtx n x).burnState = d.burnState := rfl
@[simp] theorem Dev.setCtx_fw (d : Dev) (n : Nat) (x : Ctx) : (d.setCtx n x).fw = d.fw := rfl
@[simp] theorem Dev.setCtx_debugOpen (d : Dev) (n : Nat) (x : Ctx) : (d.setCtx n x).debugOpen = d.debugOpen := rfl
@[simp] theorem Dev.setCtx_testPort (d : Dev) (n : Nat) (x : Ctx) : (d.setCtx n x).testPort = d.testPort := rfl
@[simp] theorem Dev.setCtx_out (d : Dev) (n : Nat) (x : Ctx) : (d.setCtx n x).out = d.out := rfl

/-! ## Changing a context -/

@[simp] theorem Dev.updCtx_tick (d : Dev) (n : Nat) (f : Ctx → Ctx) : (d.updCtx n f).tick = d.tick := rfl
@[simp] theorem Dev.updCtx_draws (d : Dev) (n : Nat) (f : Ctx → Ctx) : (d.updCtx n f).draws = d.draws := rfl
@[simp] theorem Dev.updCtx_regs (d : Dev) (n : Nat) (f : Ctx → Ctx) : (d.updCtx n f).regs = d.regs := rfl
@[simp] theorem Dev.updCtx_blobs (d : Dev) (n : Nat) (f : Ctx → Ctx) : (d.updCtx n f).blobs = d.blobs := rfl
@[simp] theorem Dev.updCtx_mfg (d : Dev) (n : Nat) (f : Ctx → Ctx) : (d.updCtx n f).mfg = d.mfg := rfl
@[simp] theorem Dev.updCtx_ports (d : Dev) (n : Nat) (f : Ctx → Ctx) : (d.updCtx n f).ports = d.ports := rfl
@[simp] theorem Dev.updCtx_modules (d : Dev) (n : Nat) (f : Ctx → Ctx) : (d.updCtx n f).modules = d.modules := rfl
@[simp] theorem Dev.updCtx_siteEff (d : Dev) (n : Nat) (f : Ctx → Ctx) : (d.updCtx n f).siteEff = d.siteEff := rfl
@[simp] theorem Dev.updCtx_mgmt (d : Dev) (n : Nat) (f : Ctx → Ctx) : (d.updCtx n f).mgmt = d.mgmt := rfl
@[simp] theorem Dev.updCtx_sentry (d : Dev) (n : Nat) (f : Ctx → Ctx) : (d.updCtx n f).sentry = d.sentry := rfl
@[simp] theorem Dev.updCtx_ints (d : Dev) (n : Nat) (f : Ctx → Ctx) : (d.updCtx n f).ints = d.ints := rfl
@[simp] theorem Dev.updCtx_tele (d : Dev) (n : Nat) (f : Ctx → Ctx) : (d.updCtx n f).tele = d.tele := rfl
@[simp] theorem Dev.updCtx_power (d : Dev) (n : Nat) (f : Ctx → Ctx) : (d.updCtx n f).power = d.power := rfl
@[simp] theorem Dev.updCtx_kennel0 (d : Dev) (n : Nat) (f : Ctx → Ctx) : (d.updCtx n f).kennel0 = d.kennel0 := rfl
@[simp] theorem Dev.updCtx_kennel1 (d : Dev) (n : Nat) (f : Ctx → Ctx) : (d.updCtx n f).kennel1 = d.kennel1 := rfl
@[simp] theorem Dev.updCtx_kinject (d : Dev) (n : Nat) (f : Ctx → Ctx) : (d.updCtx n f).kinject = d.kinject := rfl
@[simp] theorem Dev.updCtx_routing (d : Dev) (n : Nat) (f : Ctx → Ctx) : (d.updCtx n f).routing = d.routing := rfl
@[simp] theorem Dev.updCtx_discovery (d : Dev) (n : Nat) (f : Ctx → Ctx) : (d.updCtx n f).discovery = d.discovery := rfl
@[simp] theorem Dev.updCtx_staInForce (d : Dev) (n : Nat) (f : Ctx → Ctx) : (d.updCtx n f).staInForce = d.staInForce := rfl
@[simp] theorem Dev.updCtx_dedOld (d : Dev) (n : Nat) (f : Ctx → Ctx) : (d.updCtx n f).dedOld = d.dedOld := rfl
@[simp] theorem Dev.updCtx_dedWait (d : Dev) (n : Nat) (f : Ctx → Ctx) : (d.updCtx n f).dedWait = d.dedWait := rfl
@[simp] theorem Dev.updCtx_packs (d : Dev) (n : Nat) (f : Ctx → Ctx) : (d.updCtx n f).packs = d.packs := rfl
@[simp] theorem Dev.updCtx_frontLeft (d : Dev) (n : Nat) (f : Ctx → Ctx) : (d.updCtx n f).frontLeft = d.frontLeft := rfl
@[simp] theorem Dev.updCtx_heldCells (d : Dev) (n : Nat) (f : Ctx → Ctx) : (d.updCtx n f).heldCells = d.heldCells := rfl
@[simp] theorem Dev.updCtx_heels (d : Dev) (n : Nat) (f : Ctx → Ctx) : (d.updCtx n f).heels = d.heels := rfl
@[simp] theorem Dev.updCtx_stepFails (d : Dev) (n : Nat) (f : Ctx → Ctx) : (d.updCtx n f).stepFails = d.stepFails := rfl
@[simp] theorem Dev.updCtx_nanTrap (d : Dev) (n : Nat) (f : Ctx → Ctx) : (d.updCtx n f).nanTrap = d.nanTrap := rfl
@[simp] theorem Dev.updCtx_arrivals (d : Dev) (n : Nat) (f : Ctx → Ctx) : (d.updCtx n f).arrivals = d.arrivals := rfl
@[simp] theorem Dev.updCtx_time (d : Dev) (n : Nat) (f : Ctx → Ctx) : (d.updCtx n f).time = d.time := rfl
@[simp] theorem Dev.updCtx_mem (d : Dev) (n : Nat) (f : Ctx → Ctx) : (d.updCtx n f).mem = d.mem := rfl
@[simp] theorem Dev.updCtx_ueWords (d : Dev) (n : Nat) (f : Ctx → Ctx) : (d.updCtx n f).ueWords = d.ueWords := rfl
@[simp] theorem Dev.updCtx_pageChecks (d : Dev) (n : Nat) (f : Ctx → Ctx) : (d.updCtx n f).pageChecks = d.pageChecks := rfl
@[simp] theorem Dev.updCtx_whistles (d : Dev) (n : Nat) (f : Ctx → Ctx) : (d.updCtx n f).whistles = d.whistles := rfl
@[simp] theorem Dev.updCtx_actions0 (d : Dev) (n : Nat) (f : Ctx → Ctx) : (d.updCtx n f).actions0 = d.actions0 := rfl
@[simp] theorem Dev.updCtx_actions1 (d : Dev) (n : Nat) (f : Ctx → Ctx) : (d.updCtx n f).actions1 = d.actions1 := rfl
@[simp] theorem Dev.updCtx_products (d : Dev) (n : Nat) (f : Ctx → Ctx) : (d.updCtx n f).products = d.products := rfl
@[simp] theorem Dev.updCtx_productNext (d : Dev) (n : Nat) (f : Ctx → Ctx) : (d.updCtx n f).productNext = d.productNext := rfl
@[simp] theorem Dev.updCtx_cinject (d : Dev) (n : Nat) (f : Ctx → Ctx) : (d.updCtx n f).cinject = d.cinject := rfl
@[simp] theorem Dev.updCtx_chains (d : Dev) (n : Nat) (f : Ctx → Ctx) : (d.updCtx n f).chains = d.chains := rfl
@[simp] theorem Dev.updCtx_norms (d : Dev) (n : Nat) (f : Ctx → Ctx) : (d.updCtx n f).norms = d.norms := rfl
@[simp] theorem Dev.updCtx_routes (d : Dev) (n : Nat) (f : Ctx → Ctx) : (d.updCtx n f).routes = d.routes := rfl
@[simp] theorem Dev.updCtx_programs (d : Dev) (n : Nat) (f : Ctx → Ctx) : (d.updCtx n f).programs = d.programs := rfl
@[simp] theorem Dev.updCtx_hostPort (d : Dev) (n : Nat) (f : Ctx → Ctx) : (d.updCtx n f).hostPort = d.hostPort := rfl
@[simp] theorem Dev.updCtx_qps (d : Dev) (n : Nat) (f : Ctx → Ctx) : (d.updCtx n f).qps = d.qps := rfl
@[simp] theorem Dev.updCtx_bridge (d : Dev) (n : Nat) (f : Ctx → Ctx) : (d.updCtx n f).bridge = d.bridge := rfl
@[simp] theorem Dev.updCtx_heldPkts (d : Dev) (n : Nat) (f : Ctx → Ctx) : (d.updCtx n f).heldPkts = d.heldPkts := rfl
@[simp] theorem Dev.updCtx_dma (d : Dev) (n : Nat) (f : Ctx → Ctx) : (d.updCtx n f).dma = d.dma := rfl
@[simp] theorem Dev.updCtx_scrubNext (d : Dev) (n : Nat) (f : Ctx → Ctx) : (d.updCtx n f).scrubNext = d.scrubNext := rfl
@[simp] theorem Dev.updCtx_otp (d : Dev) (n : Nat) (f : Ctx → Ctx) : (d.updCtx n f).otp = d.otp := rfl
@[simp] theorem Dev.updCtx_burn (d : Dev) (n : Nat) (f : Ctx → Ctx) : (d.updCtx n f).burn = d.burn := rfl
@[simp] theorem Dev.updCtx_burnState (d : Dev) (n : Nat) (f : Ctx → Ctx) : (d.updCtx n f).burnState = d.burnState := rfl
@[simp] theorem Dev.updCtx_fw (d : Dev) (n : Nat) (f : Ctx → Ctx) : (d.updCtx n f).fw = d.fw := rfl
@[simp] theorem Dev.updCtx_debugOpen (d : Dev) (n : Nat) (f : Ctx → Ctx) : (d.updCtx n f).debugOpen = d.debugOpen := rfl
@[simp] theorem Dev.updCtx_testPort (d : Dev) (n : Nat) (f : Ctx → Ctx) : (d.updCtx n f).testPort = d.testPort := rfl
@[simp] theorem Dev.updCtx_out (d : Dev) (n : Nat) (f : Ctx → Ctx) : (d.updCtx n f).out = d.out := rfl

/-! ## Replacing a whistle -/

@[simp] theorem Dev.setWhistle_tick (d : Dev) (w : Nat) (x : Whistle) : (d.setWhistle w x).tick = d.tick := rfl
@[simp] theorem Dev.setWhistle_draws (d : Dev) (w : Nat) (x : Whistle) : (d.setWhistle w x).draws = d.draws := rfl
@[simp] theorem Dev.setWhistle_regs (d : Dev) (w : Nat) (x : Whistle) : (d.setWhistle w x).regs = d.regs := rfl
@[simp] theorem Dev.setWhistle_blobs (d : Dev) (w : Nat) (x : Whistle) : (d.setWhistle w x).blobs = d.blobs := rfl
@[simp] theorem Dev.setWhistle_mfg (d : Dev) (w : Nat) (x : Whistle) : (d.setWhistle w x).mfg = d.mfg := rfl
@[simp] theorem Dev.setWhistle_ports (d : Dev) (w : Nat) (x : Whistle) : (d.setWhistle w x).ports = d.ports := rfl
@[simp] theorem Dev.setWhistle_modules (d : Dev) (w : Nat) (x : Whistle) : (d.setWhistle w x).modules = d.modules := rfl
@[simp] theorem Dev.setWhistle_siteEff (d : Dev) (w : Nat) (x : Whistle) : (d.setWhistle w x).siteEff = d.siteEff := rfl
@[simp] theorem Dev.setWhistle_mgmt (d : Dev) (w : Nat) (x : Whistle) : (d.setWhistle w x).mgmt = d.mgmt := rfl
@[simp] theorem Dev.setWhistle_sentry (d : Dev) (w : Nat) (x : Whistle) : (d.setWhistle w x).sentry = d.sentry := rfl
@[simp] theorem Dev.setWhistle_ints (d : Dev) (w : Nat) (x : Whistle) : (d.setWhistle w x).ints = d.ints := rfl
@[simp] theorem Dev.setWhistle_tele (d : Dev) (w : Nat) (x : Whistle) : (d.setWhistle w x).tele = d.tele := rfl
@[simp] theorem Dev.setWhistle_power (d : Dev) (w : Nat) (x : Whistle) : (d.setWhistle w x).power = d.power := rfl
@[simp] theorem Dev.setWhistle_kennel0 (d : Dev) (w : Nat) (x : Whistle) : (d.setWhistle w x).kennel0 = d.kennel0 := rfl
@[simp] theorem Dev.setWhistle_kennel1 (d : Dev) (w : Nat) (x : Whistle) : (d.setWhistle w x).kennel1 = d.kennel1 := rfl
@[simp] theorem Dev.setWhistle_kinject (d : Dev) (w : Nat) (x : Whistle) : (d.setWhistle w x).kinject = d.kinject := rfl
@[simp] theorem Dev.setWhistle_routing (d : Dev) (w : Nat) (x : Whistle) : (d.setWhistle w x).routing = d.routing := rfl
@[simp] theorem Dev.setWhistle_discovery (d : Dev) (w : Nat) (x : Whistle) : (d.setWhistle w x).discovery = d.discovery := rfl
@[simp] theorem Dev.setWhistle_staInForce (d : Dev) (w : Nat) (x : Whistle) : (d.setWhistle w x).staInForce = d.staInForce := rfl
@[simp] theorem Dev.setWhistle_dedOld (d : Dev) (w : Nat) (x : Whistle) : (d.setWhistle w x).dedOld = d.dedOld := rfl
@[simp] theorem Dev.setWhistle_dedWait (d : Dev) (w : Nat) (x : Whistle) : (d.setWhistle w x).dedWait = d.dedWait := rfl
@[simp] theorem Dev.setWhistle_packs (d : Dev) (w : Nat) (x : Whistle) : (d.setWhistle w x).packs = d.packs := rfl
@[simp] theorem Dev.setWhistle_frontLeft (d : Dev) (w : Nat) (x : Whistle) : (d.setWhistle w x).frontLeft = d.frontLeft := rfl
@[simp] theorem Dev.setWhistle_ctxs (d : Dev) (w : Nat) (x : Whistle) : (d.setWhistle w x).ctxs = d.ctxs := rfl
@[simp] theorem Dev.setWhistle_heldCells (d : Dev) (w : Nat) (x : Whistle) : (d.setWhistle w x).heldCells = d.heldCells := rfl
@[simp] theorem Dev.setWhistle_heels (d : Dev) (w : Nat) (x : Whistle) : (d.setWhistle w x).heels = d.heels := rfl
@[simp] theorem Dev.setWhistle_stepFails (d : Dev) (w : Nat) (x : Whistle) : (d.setWhistle w x).stepFails = d.stepFails := rfl
@[simp] theorem Dev.setWhistle_nanTrap (d : Dev) (w : Nat) (x : Whistle) : (d.setWhistle w x).nanTrap = d.nanTrap := rfl
@[simp] theorem Dev.setWhistle_arrivals (d : Dev) (w : Nat) (x : Whistle) : (d.setWhistle w x).arrivals = d.arrivals := rfl
@[simp] theorem Dev.setWhistle_time (d : Dev) (w : Nat) (x : Whistle) : (d.setWhistle w x).time = d.time := rfl
@[simp] theorem Dev.setWhistle_mem (d : Dev) (w : Nat) (x : Whistle) : (d.setWhistle w x).mem = d.mem := rfl
@[simp] theorem Dev.setWhistle_ueWords (d : Dev) (w : Nat) (x : Whistle) : (d.setWhistle w x).ueWords = d.ueWords := rfl
@[simp] theorem Dev.setWhistle_pageChecks (d : Dev) (w : Nat) (x : Whistle) : (d.setWhistle w x).pageChecks = d.pageChecks := rfl
@[simp] theorem Dev.setWhistle_actions0 (d : Dev) (w : Nat) (x : Whistle) : (d.setWhistle w x).actions0 = d.actions0 := rfl
@[simp] theorem Dev.setWhistle_actions1 (d : Dev) (w : Nat) (x : Whistle) : (d.setWhistle w x).actions1 = d.actions1 := rfl
@[simp] theorem Dev.setWhistle_products (d : Dev) (w : Nat) (x : Whistle) : (d.setWhistle w x).products = d.products := rfl
@[simp] theorem Dev.setWhistle_productNext (d : Dev) (w : Nat) (x : Whistle) : (d.setWhistle w x).productNext = d.productNext := rfl
@[simp] theorem Dev.setWhistle_cinject (d : Dev) (w : Nat) (x : Whistle) : (d.setWhistle w x).cinject = d.cinject := rfl
@[simp] theorem Dev.setWhistle_chains (d : Dev) (w : Nat) (x : Whistle) : (d.setWhistle w x).chains = d.chains := rfl
@[simp] theorem Dev.setWhistle_norms (d : Dev) (w : Nat) (x : Whistle) : (d.setWhistle w x).norms = d.norms := rfl
@[simp] theorem Dev.setWhistle_routes (d : Dev) (w : Nat) (x : Whistle) : (d.setWhistle w x).routes = d.routes := rfl
@[simp] theorem Dev.setWhistle_programs (d : Dev) (w : Nat) (x : Whistle) : (d.setWhistle w x).programs = d.programs := rfl
@[simp] theorem Dev.setWhistle_hostPort (d : Dev) (w : Nat) (x : Whistle) : (d.setWhistle w x).hostPort = d.hostPort := rfl
@[simp] theorem Dev.setWhistle_qps (d : Dev) (w : Nat) (x : Whistle) : (d.setWhistle w x).qps = d.qps := rfl
@[simp] theorem Dev.setWhistle_bridge (d : Dev) (w : Nat) (x : Whistle) : (d.setWhistle w x).bridge = d.bridge := rfl
@[simp] theorem Dev.setWhistle_heldPkts (d : Dev) (w : Nat) (x : Whistle) : (d.setWhistle w x).heldPkts = d.heldPkts := rfl
@[simp] theorem Dev.setWhistle_dma (d : Dev) (w : Nat) (x : Whistle) : (d.setWhistle w x).dma = d.dma := rfl
@[simp] theorem Dev.setWhistle_scrubNext (d : Dev) (w : Nat) (x : Whistle) : (d.setWhistle w x).scrubNext = d.scrubNext := rfl
@[simp] theorem Dev.setWhistle_otp (d : Dev) (w : Nat) (x : Whistle) : (d.setWhistle w x).otp = d.otp := rfl
@[simp] theorem Dev.setWhistle_burn (d : Dev) (w : Nat) (x : Whistle) : (d.setWhistle w x).burn = d.burn := rfl
@[simp] theorem Dev.setWhistle_burnState (d : Dev) (w : Nat) (x : Whistle) : (d.setWhistle w x).burnState = d.burnState := rfl
@[simp] theorem Dev.setWhistle_fw (d : Dev) (w : Nat) (x : Whistle) : (d.setWhistle w x).fw = d.fw := rfl
@[simp] theorem Dev.setWhistle_debugOpen (d : Dev) (w : Nat) (x : Whistle) : (d.setWhistle w x).debugOpen = d.debugOpen := rfl
@[simp] theorem Dev.setWhistle_testPort (d : Dev) (w : Nat) (x : Whistle) : (d.setWhistle w x).testPort = d.testPort := rfl
@[simp] theorem Dev.setWhistle_out (d : Dev) (w : Nat) (x : Whistle) : (d.setWhistle w x).out = d.out := rfl

/-! ## Replacing a chain slot -/

@[simp] theorem Dev.setChain_tick (d : Dev) (i : Nat) (x : ChainSlot) : (d.setChain i x).tick = d.tick := rfl
@[simp] theorem Dev.setChain_draws (d : Dev) (i : Nat) (x : ChainSlot) : (d.setChain i x).draws = d.draws := rfl
@[simp] theorem Dev.setChain_regs (d : Dev) (i : Nat) (x : ChainSlot) : (d.setChain i x).regs = d.regs := rfl
@[simp] theorem Dev.setChain_blobs (d : Dev) (i : Nat) (x : ChainSlot) : (d.setChain i x).blobs = d.blobs := rfl
@[simp] theorem Dev.setChain_mfg (d : Dev) (i : Nat) (x : ChainSlot) : (d.setChain i x).mfg = d.mfg := rfl
@[simp] theorem Dev.setChain_ports (d : Dev) (i : Nat) (x : ChainSlot) : (d.setChain i x).ports = d.ports := rfl
@[simp] theorem Dev.setChain_modules (d : Dev) (i : Nat) (x : ChainSlot) : (d.setChain i x).modules = d.modules := rfl
@[simp] theorem Dev.setChain_siteEff (d : Dev) (i : Nat) (x : ChainSlot) : (d.setChain i x).siteEff = d.siteEff := rfl
@[simp] theorem Dev.setChain_mgmt (d : Dev) (i : Nat) (x : ChainSlot) : (d.setChain i x).mgmt = d.mgmt := rfl
@[simp] theorem Dev.setChain_sentry (d : Dev) (i : Nat) (x : ChainSlot) : (d.setChain i x).sentry = d.sentry := rfl
@[simp] theorem Dev.setChain_ints (d : Dev) (i : Nat) (x : ChainSlot) : (d.setChain i x).ints = d.ints := rfl
@[simp] theorem Dev.setChain_tele (d : Dev) (i : Nat) (x : ChainSlot) : (d.setChain i x).tele = d.tele := rfl
@[simp] theorem Dev.setChain_power (d : Dev) (i : Nat) (x : ChainSlot) : (d.setChain i x).power = d.power := rfl
@[simp] theorem Dev.setChain_kennel0 (d : Dev) (i : Nat) (x : ChainSlot) : (d.setChain i x).kennel0 = d.kennel0 := rfl
@[simp] theorem Dev.setChain_kennel1 (d : Dev) (i : Nat) (x : ChainSlot) : (d.setChain i x).kennel1 = d.kennel1 := rfl
@[simp] theorem Dev.setChain_kinject (d : Dev) (i : Nat) (x : ChainSlot) : (d.setChain i x).kinject = d.kinject := rfl
@[simp] theorem Dev.setChain_routing (d : Dev) (i : Nat) (x : ChainSlot) : (d.setChain i x).routing = d.routing := rfl
@[simp] theorem Dev.setChain_discovery (d : Dev) (i : Nat) (x : ChainSlot) : (d.setChain i x).discovery = d.discovery := rfl
@[simp] theorem Dev.setChain_staInForce (d : Dev) (i : Nat) (x : ChainSlot) : (d.setChain i x).staInForce = d.staInForce := rfl
@[simp] theorem Dev.setChain_dedOld (d : Dev) (i : Nat) (x : ChainSlot) : (d.setChain i x).dedOld = d.dedOld := rfl
@[simp] theorem Dev.setChain_dedWait (d : Dev) (i : Nat) (x : ChainSlot) : (d.setChain i x).dedWait = d.dedWait := rfl
@[simp] theorem Dev.setChain_packs (d : Dev) (i : Nat) (x : ChainSlot) : (d.setChain i x).packs = d.packs := rfl
@[simp] theorem Dev.setChain_frontLeft (d : Dev) (i : Nat) (x : ChainSlot) : (d.setChain i x).frontLeft = d.frontLeft := rfl
@[simp] theorem Dev.setChain_ctxs (d : Dev) (i : Nat) (x : ChainSlot) : (d.setChain i x).ctxs = d.ctxs := rfl
@[simp] theorem Dev.setChain_heldCells (d : Dev) (i : Nat) (x : ChainSlot) : (d.setChain i x).heldCells = d.heldCells := rfl
@[simp] theorem Dev.setChain_heels (d : Dev) (i : Nat) (x : ChainSlot) : (d.setChain i x).heels = d.heels := rfl
@[simp] theorem Dev.setChain_stepFails (d : Dev) (i : Nat) (x : ChainSlot) : (d.setChain i x).stepFails = d.stepFails := rfl
@[simp] theorem Dev.setChain_nanTrap (d : Dev) (i : Nat) (x : ChainSlot) : (d.setChain i x).nanTrap = d.nanTrap := rfl
@[simp] theorem Dev.setChain_arrivals (d : Dev) (i : Nat) (x : ChainSlot) : (d.setChain i x).arrivals = d.arrivals := rfl
@[simp] theorem Dev.setChain_time (d : Dev) (i : Nat) (x : ChainSlot) : (d.setChain i x).time = d.time := rfl
@[simp] theorem Dev.setChain_mem (d : Dev) (i : Nat) (x : ChainSlot) : (d.setChain i x).mem = d.mem := rfl
@[simp] theorem Dev.setChain_ueWords (d : Dev) (i : Nat) (x : ChainSlot) : (d.setChain i x).ueWords = d.ueWords := rfl
@[simp] theorem Dev.setChain_pageChecks (d : Dev) (i : Nat) (x : ChainSlot) : (d.setChain i x).pageChecks = d.pageChecks := rfl
@[simp] theorem Dev.setChain_whistles (d : Dev) (i : Nat) (x : ChainSlot) : (d.setChain i x).whistles = d.whistles := rfl
@[simp] theorem Dev.setChain_actions0 (d : Dev) (i : Nat) (x : ChainSlot) : (d.setChain i x).actions0 = d.actions0 := rfl
@[simp] theorem Dev.setChain_actions1 (d : Dev) (i : Nat) (x : ChainSlot) : (d.setChain i x).actions1 = d.actions1 := rfl
@[simp] theorem Dev.setChain_products (d : Dev) (i : Nat) (x : ChainSlot) : (d.setChain i x).products = d.products := rfl
@[simp] theorem Dev.setChain_productNext (d : Dev) (i : Nat) (x : ChainSlot) : (d.setChain i x).productNext = d.productNext := rfl
@[simp] theorem Dev.setChain_cinject (d : Dev) (i : Nat) (x : ChainSlot) : (d.setChain i x).cinject = d.cinject := rfl
@[simp] theorem Dev.setChain_norms (d : Dev) (i : Nat) (x : ChainSlot) : (d.setChain i x).norms = d.norms := rfl
@[simp] theorem Dev.setChain_routes (d : Dev) (i : Nat) (x : ChainSlot) : (d.setChain i x).routes = d.routes := rfl
@[simp] theorem Dev.setChain_programs (d : Dev) (i : Nat) (x : ChainSlot) : (d.setChain i x).programs = d.programs := rfl
@[simp] theorem Dev.setChain_hostPort (d : Dev) (i : Nat) (x : ChainSlot) : (d.setChain i x).hostPort = d.hostPort := rfl
@[simp] theorem Dev.setChain_qps (d : Dev) (i : Nat) (x : ChainSlot) : (d.setChain i x).qps = d.qps := rfl
@[simp] theorem Dev.setChain_bridge (d : Dev) (i : Nat) (x : ChainSlot) : (d.setChain i x).bridge = d.bridge := rfl
@[simp] theorem Dev.setChain_heldPkts (d : Dev) (i : Nat) (x : ChainSlot) : (d.setChain i x).heldPkts = d.heldPkts := rfl
@[simp] theorem Dev.setChain_dma (d : Dev) (i : Nat) (x : ChainSlot) : (d.setChain i x).dma = d.dma := rfl
@[simp] theorem Dev.setChain_scrubNext (d : Dev) (i : Nat) (x : ChainSlot) : (d.setChain i x).scrubNext = d.scrubNext := rfl
@[simp] theorem Dev.setChain_otp (d : Dev) (i : Nat) (x : ChainSlot) : (d.setChain i x).otp = d.otp := rfl
@[simp] theorem Dev.setChain_burn (d : Dev) (i : Nat) (x : ChainSlot) : (d.setChain i x).burn = d.burn := rfl
@[simp] theorem Dev.setChain_burnState (d : Dev) (i : Nat) (x : ChainSlot) : (d.setChain i x).burnState = d.burnState := rfl
@[simp] theorem Dev.setChain_fw (d : Dev) (i : Nat) (x : ChainSlot) : (d.setChain i x).fw = d.fw := rfl
@[simp] theorem Dev.setChain_debugOpen (d : Dev) (i : Nat) (x : ChainSlot) : (d.setChain i x).debugOpen = d.debugOpen := rfl
@[simp] theorem Dev.setChain_testPort (d : Dev) (i : Nat) (x : ChainSlot) : (d.setChain i x).testPort = d.testPort := rfl
@[simp] theorem Dev.setChain_out (d : Dev) (i : Nat) (x : ChainSlot) : (d.setChain i x).out = d.out := rfl

/-! ## Replacing a queue pair -/

@[simp] theorem Dev.setQp_tick (d : Dev) (q : Nat) (x : Qp) : (d.setQp q x).tick = d.tick := rfl
@[simp] theorem Dev.setQp_draws (d : Dev) (q : Nat) (x : Qp) : (d.setQp q x).draws = d.draws := rfl
@[simp] theorem Dev.setQp_regs (d : Dev) (q : Nat) (x : Qp) : (d.setQp q x).regs = d.regs := rfl
@[simp] theorem Dev.setQp_blobs (d : Dev) (q : Nat) (x : Qp) : (d.setQp q x).blobs = d.blobs := rfl
@[simp] theorem Dev.setQp_mfg (d : Dev) (q : Nat) (x : Qp) : (d.setQp q x).mfg = d.mfg := rfl
@[simp] theorem Dev.setQp_ports (d : Dev) (q : Nat) (x : Qp) : (d.setQp q x).ports = d.ports := rfl
@[simp] theorem Dev.setQp_modules (d : Dev) (q : Nat) (x : Qp) : (d.setQp q x).modules = d.modules := rfl
@[simp] theorem Dev.setQp_siteEff (d : Dev) (q : Nat) (x : Qp) : (d.setQp q x).siteEff = d.siteEff := rfl
@[simp] theorem Dev.setQp_mgmt (d : Dev) (q : Nat) (x : Qp) : (d.setQp q x).mgmt = d.mgmt := rfl
@[simp] theorem Dev.setQp_sentry (d : Dev) (q : Nat) (x : Qp) : (d.setQp q x).sentry = d.sentry := rfl
@[simp] theorem Dev.setQp_ints (d : Dev) (q : Nat) (x : Qp) : (d.setQp q x).ints = d.ints := rfl
@[simp] theorem Dev.setQp_tele (d : Dev) (q : Nat) (x : Qp) : (d.setQp q x).tele = d.tele := rfl
@[simp] theorem Dev.setQp_power (d : Dev) (q : Nat) (x : Qp) : (d.setQp q x).power = d.power := rfl
@[simp] theorem Dev.setQp_kennel0 (d : Dev) (q : Nat) (x : Qp) : (d.setQp q x).kennel0 = d.kennel0 := rfl
@[simp] theorem Dev.setQp_kennel1 (d : Dev) (q : Nat) (x : Qp) : (d.setQp q x).kennel1 = d.kennel1 := rfl
@[simp] theorem Dev.setQp_kinject (d : Dev) (q : Nat) (x : Qp) : (d.setQp q x).kinject = d.kinject := rfl
@[simp] theorem Dev.setQp_routing (d : Dev) (q : Nat) (x : Qp) : (d.setQp q x).routing = d.routing := rfl
@[simp] theorem Dev.setQp_discovery (d : Dev) (q : Nat) (x : Qp) : (d.setQp q x).discovery = d.discovery := rfl
@[simp] theorem Dev.setQp_staInForce (d : Dev) (q : Nat) (x : Qp) : (d.setQp q x).staInForce = d.staInForce := rfl
@[simp] theorem Dev.setQp_dedOld (d : Dev) (q : Nat) (x : Qp) : (d.setQp q x).dedOld = d.dedOld := rfl
@[simp] theorem Dev.setQp_dedWait (d : Dev) (q : Nat) (x : Qp) : (d.setQp q x).dedWait = d.dedWait := rfl
@[simp] theorem Dev.setQp_packs (d : Dev) (q : Nat) (x : Qp) : (d.setQp q x).packs = d.packs := rfl
@[simp] theorem Dev.setQp_frontLeft (d : Dev) (q : Nat) (x : Qp) : (d.setQp q x).frontLeft = d.frontLeft := rfl
@[simp] theorem Dev.setQp_ctxs (d : Dev) (q : Nat) (x : Qp) : (d.setQp q x).ctxs = d.ctxs := rfl
@[simp] theorem Dev.setQp_heldCells (d : Dev) (q : Nat) (x : Qp) : (d.setQp q x).heldCells = d.heldCells := rfl
@[simp] theorem Dev.setQp_heels (d : Dev) (q : Nat) (x : Qp) : (d.setQp q x).heels = d.heels := rfl
@[simp] theorem Dev.setQp_stepFails (d : Dev) (q : Nat) (x : Qp) : (d.setQp q x).stepFails = d.stepFails := rfl
@[simp] theorem Dev.setQp_nanTrap (d : Dev) (q : Nat) (x : Qp) : (d.setQp q x).nanTrap = d.nanTrap := rfl
@[simp] theorem Dev.setQp_arrivals (d : Dev) (q : Nat) (x : Qp) : (d.setQp q x).arrivals = d.arrivals := rfl
@[simp] theorem Dev.setQp_time (d : Dev) (q : Nat) (x : Qp) : (d.setQp q x).time = d.time := rfl
@[simp] theorem Dev.setQp_mem (d : Dev) (q : Nat) (x : Qp) : (d.setQp q x).mem = d.mem := rfl
@[simp] theorem Dev.setQp_ueWords (d : Dev) (q : Nat) (x : Qp) : (d.setQp q x).ueWords = d.ueWords := rfl
@[simp] theorem Dev.setQp_pageChecks (d : Dev) (q : Nat) (x : Qp) : (d.setQp q x).pageChecks = d.pageChecks := rfl
@[simp] theorem Dev.setQp_whistles (d : Dev) (q : Nat) (x : Qp) : (d.setQp q x).whistles = d.whistles := rfl
@[simp] theorem Dev.setQp_actions0 (d : Dev) (q : Nat) (x : Qp) : (d.setQp q x).actions0 = d.actions0 := rfl
@[simp] theorem Dev.setQp_actions1 (d : Dev) (q : Nat) (x : Qp) : (d.setQp q x).actions1 = d.actions1 := rfl
@[simp] theorem Dev.setQp_products (d : Dev) (q : Nat) (x : Qp) : (d.setQp q x).products = d.products := rfl
@[simp] theorem Dev.setQp_productNext (d : Dev) (q : Nat) (x : Qp) : (d.setQp q x).productNext = d.productNext := rfl
@[simp] theorem Dev.setQp_cinject (d : Dev) (q : Nat) (x : Qp) : (d.setQp q x).cinject = d.cinject := rfl
@[simp] theorem Dev.setQp_chains (d : Dev) (q : Nat) (x : Qp) : (d.setQp q x).chains = d.chains := rfl
@[simp] theorem Dev.setQp_norms (d : Dev) (q : Nat) (x : Qp) : (d.setQp q x).norms = d.norms := rfl
@[simp] theorem Dev.setQp_routes (d : Dev) (q : Nat) (x : Qp) : (d.setQp q x).routes = d.routes := rfl
@[simp] theorem Dev.setQp_programs (d : Dev) (q : Nat) (x : Qp) : (d.setQp q x).programs = d.programs := rfl
@[simp] theorem Dev.setQp_hostPort (d : Dev) (q : Nat) (x : Qp) : (d.setQp q x).hostPort = d.hostPort := rfl
@[simp] theorem Dev.setQp_bridge (d : Dev) (q : Nat) (x : Qp) : (d.setQp q x).bridge = d.bridge := rfl
@[simp] theorem Dev.setQp_heldPkts (d : Dev) (q : Nat) (x : Qp) : (d.setQp q x).heldPkts = d.heldPkts := rfl
@[simp] theorem Dev.setQp_dma (d : Dev) (q : Nat) (x : Qp) : (d.setQp q x).dma = d.dma := rfl
@[simp] theorem Dev.setQp_scrubNext (d : Dev) (q : Nat) (x : Qp) : (d.setQp q x).scrubNext = d.scrubNext := rfl
@[simp] theorem Dev.setQp_otp (d : Dev) (q : Nat) (x : Qp) : (d.setQp q x).otp = d.otp := rfl
@[simp] theorem Dev.setQp_burn (d : Dev) (q : Nat) (x : Qp) : (d.setQp q x).burn = d.burn := rfl
@[simp] theorem Dev.setQp_burnState (d : Dev) (q : Nat) (x : Qp) : (d.setQp q x).burnState = d.burnState := rfl
@[simp] theorem Dev.setQp_fw (d : Dev) (q : Nat) (x : Qp) : (d.setQp q x).fw = d.fw := rfl
@[simp] theorem Dev.setQp_debugOpen (d : Dev) (q : Nat) (x : Qp) : (d.setQp q x).debugOpen = d.debugOpen := rfl
@[simp] theorem Dev.setQp_testPort (d : Dev) (q : Nat) (x : Qp) : (d.setQp q x).testPort = d.testPort := rfl
@[simp] theorem Dev.setQp_out (d : Dev) (q : Nat) (x : Qp) : (d.setQp q x).out = d.out := rfl

/-! ## Replacing a DMA channel -/

@[simp] theorem Dev.setChan_tick (d : Dev) (n : Nat) (x : DmaCh) : (d.setChan n x).tick = d.tick := rfl
@[simp] theorem Dev.setChan_draws (d : Dev) (n : Nat) (x : DmaCh) : (d.setChan n x).draws = d.draws := rfl
@[simp] theorem Dev.setChan_regs (d : Dev) (n : Nat) (x : DmaCh) : (d.setChan n x).regs = d.regs := rfl
@[simp] theorem Dev.setChan_blobs (d : Dev) (n : Nat) (x : DmaCh) : (d.setChan n x).blobs = d.blobs := rfl
@[simp] theorem Dev.setChan_mfg (d : Dev) (n : Nat) (x : DmaCh) : (d.setChan n x).mfg = d.mfg := rfl
@[simp] theorem Dev.setChan_ports (d : Dev) (n : Nat) (x : DmaCh) : (d.setChan n x).ports = d.ports := rfl
@[simp] theorem Dev.setChan_modules (d : Dev) (n : Nat) (x : DmaCh) : (d.setChan n x).modules = d.modules := rfl
@[simp] theorem Dev.setChan_siteEff (d : Dev) (n : Nat) (x : DmaCh) : (d.setChan n x).siteEff = d.siteEff := rfl
@[simp] theorem Dev.setChan_mgmt (d : Dev) (n : Nat) (x : DmaCh) : (d.setChan n x).mgmt = d.mgmt := rfl
@[simp] theorem Dev.setChan_sentry (d : Dev) (n : Nat) (x : DmaCh) : (d.setChan n x).sentry = d.sentry := rfl
@[simp] theorem Dev.setChan_ints (d : Dev) (n : Nat) (x : DmaCh) : (d.setChan n x).ints = d.ints := rfl
@[simp] theorem Dev.setChan_tele (d : Dev) (n : Nat) (x : DmaCh) : (d.setChan n x).tele = d.tele := rfl
@[simp] theorem Dev.setChan_power (d : Dev) (n : Nat) (x : DmaCh) : (d.setChan n x).power = d.power := rfl
@[simp] theorem Dev.setChan_kennel0 (d : Dev) (n : Nat) (x : DmaCh) : (d.setChan n x).kennel0 = d.kennel0 := rfl
@[simp] theorem Dev.setChan_kennel1 (d : Dev) (n : Nat) (x : DmaCh) : (d.setChan n x).kennel1 = d.kennel1 := rfl
@[simp] theorem Dev.setChan_kinject (d : Dev) (n : Nat) (x : DmaCh) : (d.setChan n x).kinject = d.kinject := rfl
@[simp] theorem Dev.setChan_routing (d : Dev) (n : Nat) (x : DmaCh) : (d.setChan n x).routing = d.routing := rfl
@[simp] theorem Dev.setChan_discovery (d : Dev) (n : Nat) (x : DmaCh) : (d.setChan n x).discovery = d.discovery := rfl
@[simp] theorem Dev.setChan_staInForce (d : Dev) (n : Nat) (x : DmaCh) : (d.setChan n x).staInForce = d.staInForce := rfl
@[simp] theorem Dev.setChan_dedOld (d : Dev) (n : Nat) (x : DmaCh) : (d.setChan n x).dedOld = d.dedOld := rfl
@[simp] theorem Dev.setChan_dedWait (d : Dev) (n : Nat) (x : DmaCh) : (d.setChan n x).dedWait = d.dedWait := rfl
@[simp] theorem Dev.setChan_packs (d : Dev) (n : Nat) (x : DmaCh) : (d.setChan n x).packs = d.packs := rfl
@[simp] theorem Dev.setChan_frontLeft (d : Dev) (n : Nat) (x : DmaCh) : (d.setChan n x).frontLeft = d.frontLeft := rfl
@[simp] theorem Dev.setChan_ctxs (d : Dev) (n : Nat) (x : DmaCh) : (d.setChan n x).ctxs = d.ctxs := rfl
@[simp] theorem Dev.setChan_heldCells (d : Dev) (n : Nat) (x : DmaCh) : (d.setChan n x).heldCells = d.heldCells := rfl
@[simp] theorem Dev.setChan_heels (d : Dev) (n : Nat) (x : DmaCh) : (d.setChan n x).heels = d.heels := rfl
@[simp] theorem Dev.setChan_stepFails (d : Dev) (n : Nat) (x : DmaCh) : (d.setChan n x).stepFails = d.stepFails := rfl
@[simp] theorem Dev.setChan_nanTrap (d : Dev) (n : Nat) (x : DmaCh) : (d.setChan n x).nanTrap = d.nanTrap := rfl
@[simp] theorem Dev.setChan_arrivals (d : Dev) (n : Nat) (x : DmaCh) : (d.setChan n x).arrivals = d.arrivals := rfl
@[simp] theorem Dev.setChan_time (d : Dev) (n : Nat) (x : DmaCh) : (d.setChan n x).time = d.time := rfl
@[simp] theorem Dev.setChan_mem (d : Dev) (n : Nat) (x : DmaCh) : (d.setChan n x).mem = d.mem := rfl
@[simp] theorem Dev.setChan_ueWords (d : Dev) (n : Nat) (x : DmaCh) : (d.setChan n x).ueWords = d.ueWords := rfl
@[simp] theorem Dev.setChan_pageChecks (d : Dev) (n : Nat) (x : DmaCh) : (d.setChan n x).pageChecks = d.pageChecks := rfl
@[simp] theorem Dev.setChan_whistles (d : Dev) (n : Nat) (x : DmaCh) : (d.setChan n x).whistles = d.whistles := rfl
@[simp] theorem Dev.setChan_actions0 (d : Dev) (n : Nat) (x : DmaCh) : (d.setChan n x).actions0 = d.actions0 := rfl
@[simp] theorem Dev.setChan_actions1 (d : Dev) (n : Nat) (x : DmaCh) : (d.setChan n x).actions1 = d.actions1 := rfl
@[simp] theorem Dev.setChan_products (d : Dev) (n : Nat) (x : DmaCh) : (d.setChan n x).products = d.products := rfl
@[simp] theorem Dev.setChan_productNext (d : Dev) (n : Nat) (x : DmaCh) : (d.setChan n x).productNext = d.productNext := rfl
@[simp] theorem Dev.setChan_cinject (d : Dev) (n : Nat) (x : DmaCh) : (d.setChan n x).cinject = d.cinject := rfl
@[simp] theorem Dev.setChan_chains (d : Dev) (n : Nat) (x : DmaCh) : (d.setChan n x).chains = d.chains := rfl
@[simp] theorem Dev.setChan_norms (d : Dev) (n : Nat) (x : DmaCh) : (d.setChan n x).norms = d.norms := rfl
@[simp] theorem Dev.setChan_routes (d : Dev) (n : Nat) (x : DmaCh) : (d.setChan n x).routes = d.routes := rfl
@[simp] theorem Dev.setChan_programs (d : Dev) (n : Nat) (x : DmaCh) : (d.setChan n x).programs = d.programs := rfl
@[simp] theorem Dev.setChan_hostPort (d : Dev) (n : Nat) (x : DmaCh) : (d.setChan n x).hostPort = d.hostPort := rfl
@[simp] theorem Dev.setChan_qps (d : Dev) (n : Nat) (x : DmaCh) : (d.setChan n x).qps = d.qps := rfl
@[simp] theorem Dev.setChan_bridge (d : Dev) (n : Nat) (x : DmaCh) : (d.setChan n x).bridge = d.bridge := rfl
@[simp] theorem Dev.setChan_heldPkts (d : Dev) (n : Nat) (x : DmaCh) : (d.setChan n x).heldPkts = d.heldPkts := rfl
@[simp] theorem Dev.setChan_scrubNext (d : Dev) (n : Nat) (x : DmaCh) : (d.setChan n x).scrubNext = d.scrubNext := rfl
@[simp] theorem Dev.setChan_otp (d : Dev) (n : Nat) (x : DmaCh) : (d.setChan n x).otp = d.otp := rfl
@[simp] theorem Dev.setChan_burn (d : Dev) (n : Nat) (x : DmaCh) : (d.setChan n x).burn = d.burn := rfl
@[simp] theorem Dev.setChan_burnState (d : Dev) (n : Nat) (x : DmaCh) : (d.setChan n x).burnState = d.burnState := rfl
@[simp] theorem Dev.setChan_fw (d : Dev) (n : Nat) (x : DmaCh) : (d.setChan n x).fw = d.fw := rfl
@[simp] theorem Dev.setChan_debugOpen (d : Dev) (n : Nat) (x : DmaCh) : (d.setChan n x).debugOpen = d.debugOpen := rfl
@[simp] theorem Dev.setChan_testPort (d : Dev) (n : Nat) (x : DmaCh) : (d.setChan n x).testPort = d.testPort := rfl
@[simp] theorem Dev.setChan_out (d : Dev) (n : Nat) (x : DmaCh) : (d.setChan n x).out = d.out := rfl

/-! ## Replacing an S-die's crossbar -/

@[simp] theorem Dev.setKennel_tick (d : Dev) (s : Nat) (k : Kennel) : (d.setKennel s k).tick = d.tick := by
  unfold Dev.setKennel; split <;> rfl
@[simp] theorem Dev.setKennel_draws (d : Dev) (s : Nat) (k : Kennel) : (d.setKennel s k).draws = d.draws := by
  unfold Dev.setKennel; split <;> rfl
@[simp] theorem Dev.setKennel_regs (d : Dev) (s : Nat) (k : Kennel) : (d.setKennel s k).regs = d.regs := by
  unfold Dev.setKennel; split <;> rfl
@[simp] theorem Dev.setKennel_blobs (d : Dev) (s : Nat) (k : Kennel) : (d.setKennel s k).blobs = d.blobs := by
  unfold Dev.setKennel; split <;> rfl
@[simp] theorem Dev.setKennel_mfg (d : Dev) (s : Nat) (k : Kennel) : (d.setKennel s k).mfg = d.mfg := by
  unfold Dev.setKennel; split <;> rfl
@[simp] theorem Dev.setKennel_ports (d : Dev) (s : Nat) (k : Kennel) : (d.setKennel s k).ports = d.ports := by
  unfold Dev.setKennel; split <;> rfl
@[simp] theorem Dev.setKennel_modules (d : Dev) (s : Nat) (k : Kennel) : (d.setKennel s k).modules = d.modules := by
  unfold Dev.setKennel; split <;> rfl
@[simp] theorem Dev.setKennel_siteEff (d : Dev) (s : Nat) (k : Kennel) : (d.setKennel s k).siteEff = d.siteEff := by
  unfold Dev.setKennel; split <;> rfl
@[simp] theorem Dev.setKennel_mgmt (d : Dev) (s : Nat) (k : Kennel) : (d.setKennel s k).mgmt = d.mgmt := by
  unfold Dev.setKennel; split <;> rfl
@[simp] theorem Dev.setKennel_sentry (d : Dev) (s : Nat) (k : Kennel) : (d.setKennel s k).sentry = d.sentry := by
  unfold Dev.setKennel; split <;> rfl
@[simp] theorem Dev.setKennel_ints (d : Dev) (s : Nat) (k : Kennel) : (d.setKennel s k).ints = d.ints := by
  unfold Dev.setKennel; split <;> rfl
@[simp] theorem Dev.setKennel_tele (d : Dev) (s : Nat) (k : Kennel) : (d.setKennel s k).tele = d.tele := by
  unfold Dev.setKennel; split <;> rfl
@[simp] theorem Dev.setKennel_power (d : Dev) (s : Nat) (k : Kennel) : (d.setKennel s k).power = d.power := by
  unfold Dev.setKennel; split <;> rfl
@[simp] theorem Dev.setKennel_kinject (d : Dev) (s : Nat) (k : Kennel) : (d.setKennel s k).kinject = d.kinject := by
  unfold Dev.setKennel; split <;> rfl
@[simp] theorem Dev.setKennel_routing (d : Dev) (s : Nat) (k : Kennel) : (d.setKennel s k).routing = d.routing := by
  unfold Dev.setKennel; split <;> rfl
@[simp] theorem Dev.setKennel_discovery (d : Dev) (s : Nat) (k : Kennel) : (d.setKennel s k).discovery = d.discovery := by
  unfold Dev.setKennel; split <;> rfl
@[simp] theorem Dev.setKennel_staInForce (d : Dev) (s : Nat) (k : Kennel) : (d.setKennel s k).staInForce = d.staInForce := by
  unfold Dev.setKennel; split <;> rfl
@[simp] theorem Dev.setKennel_dedOld (d : Dev) (s : Nat) (k : Kennel) : (d.setKennel s k).dedOld = d.dedOld := by
  unfold Dev.setKennel; split <;> rfl
@[simp] theorem Dev.setKennel_dedWait (d : Dev) (s : Nat) (k : Kennel) : (d.setKennel s k).dedWait = d.dedWait := by
  unfold Dev.setKennel; split <;> rfl
@[simp] theorem Dev.setKennel_packs (d : Dev) (s : Nat) (k : Kennel) : (d.setKennel s k).packs = d.packs := by
  unfold Dev.setKennel; split <;> rfl
@[simp] theorem Dev.setKennel_frontLeft (d : Dev) (s : Nat) (k : Kennel) : (d.setKennel s k).frontLeft = d.frontLeft := by
  unfold Dev.setKennel; split <;> rfl
@[simp] theorem Dev.setKennel_ctxs (d : Dev) (s : Nat) (k : Kennel) : (d.setKennel s k).ctxs = d.ctxs := by
  unfold Dev.setKennel; split <;> rfl
@[simp] theorem Dev.setKennel_heldCells (d : Dev) (s : Nat) (k : Kennel) : (d.setKennel s k).heldCells = d.heldCells := by
  unfold Dev.setKennel; split <;> rfl
@[simp] theorem Dev.setKennel_heels (d : Dev) (s : Nat) (k : Kennel) : (d.setKennel s k).heels = d.heels := by
  unfold Dev.setKennel; split <;> rfl
@[simp] theorem Dev.setKennel_stepFails (d : Dev) (s : Nat) (k : Kennel) : (d.setKennel s k).stepFails = d.stepFails := by
  unfold Dev.setKennel; split <;> rfl
@[simp] theorem Dev.setKennel_nanTrap (d : Dev) (s : Nat) (k : Kennel) : (d.setKennel s k).nanTrap = d.nanTrap := by
  unfold Dev.setKennel; split <;> rfl
@[simp] theorem Dev.setKennel_arrivals (d : Dev) (s : Nat) (k : Kennel) : (d.setKennel s k).arrivals = d.arrivals := by
  unfold Dev.setKennel; split <;> rfl
@[simp] theorem Dev.setKennel_time (d : Dev) (s : Nat) (k : Kennel) : (d.setKennel s k).time = d.time := by
  unfold Dev.setKennel; split <;> rfl
@[simp] theorem Dev.setKennel_mem (d : Dev) (s : Nat) (k : Kennel) : (d.setKennel s k).mem = d.mem := by
  unfold Dev.setKennel; split <;> rfl
@[simp] theorem Dev.setKennel_ueWords (d : Dev) (s : Nat) (k : Kennel) : (d.setKennel s k).ueWords = d.ueWords := by
  unfold Dev.setKennel; split <;> rfl
@[simp] theorem Dev.setKennel_pageChecks (d : Dev) (s : Nat) (k : Kennel) : (d.setKennel s k).pageChecks = d.pageChecks := by
  unfold Dev.setKennel; split <;> rfl
@[simp] theorem Dev.setKennel_whistles (d : Dev) (s : Nat) (k : Kennel) : (d.setKennel s k).whistles = d.whistles := by
  unfold Dev.setKennel; split <;> rfl
@[simp] theorem Dev.setKennel_actions0 (d : Dev) (s : Nat) (k : Kennel) : (d.setKennel s k).actions0 = d.actions0 := by
  unfold Dev.setKennel; split <;> rfl
@[simp] theorem Dev.setKennel_actions1 (d : Dev) (s : Nat) (k : Kennel) : (d.setKennel s k).actions1 = d.actions1 := by
  unfold Dev.setKennel; split <;> rfl
@[simp] theorem Dev.setKennel_products (d : Dev) (s : Nat) (k : Kennel) : (d.setKennel s k).products = d.products := by
  unfold Dev.setKennel; split <;> rfl
@[simp] theorem Dev.setKennel_productNext (d : Dev) (s : Nat) (k : Kennel) : (d.setKennel s k).productNext = d.productNext := by
  unfold Dev.setKennel; split <;> rfl
@[simp] theorem Dev.setKennel_cinject (d : Dev) (s : Nat) (k : Kennel) : (d.setKennel s k).cinject = d.cinject := by
  unfold Dev.setKennel; split <;> rfl
@[simp] theorem Dev.setKennel_chains (d : Dev) (s : Nat) (k : Kennel) : (d.setKennel s k).chains = d.chains := by
  unfold Dev.setKennel; split <;> rfl
@[simp] theorem Dev.setKennel_norms (d : Dev) (s : Nat) (k : Kennel) : (d.setKennel s k).norms = d.norms := by
  unfold Dev.setKennel; split <;> rfl
@[simp] theorem Dev.setKennel_routes (d : Dev) (s : Nat) (k : Kennel) : (d.setKennel s k).routes = d.routes := by
  unfold Dev.setKennel; split <;> rfl
@[simp] theorem Dev.setKennel_programs (d : Dev) (s : Nat) (k : Kennel) : (d.setKennel s k).programs = d.programs := by
  unfold Dev.setKennel; split <;> rfl
@[simp] theorem Dev.setKennel_hostPort (d : Dev) (s : Nat) (k : Kennel) : (d.setKennel s k).hostPort = d.hostPort := by
  unfold Dev.setKennel; split <;> rfl
@[simp] theorem Dev.setKennel_qps (d : Dev) (s : Nat) (k : Kennel) : (d.setKennel s k).qps = d.qps := by
  unfold Dev.setKennel; split <;> rfl
@[simp] theorem Dev.setKennel_bridge (d : Dev) (s : Nat) (k : Kennel) : (d.setKennel s k).bridge = d.bridge := by
  unfold Dev.setKennel; split <;> rfl
@[simp] theorem Dev.setKennel_heldPkts (d : Dev) (s : Nat) (k : Kennel) : (d.setKennel s k).heldPkts = d.heldPkts := by
  unfold Dev.setKennel; split <;> rfl
@[simp] theorem Dev.setKennel_dma (d : Dev) (s : Nat) (k : Kennel) : (d.setKennel s k).dma = d.dma := by
  unfold Dev.setKennel; split <;> rfl
@[simp] theorem Dev.setKennel_scrubNext (d : Dev) (s : Nat) (k : Kennel) : (d.setKennel s k).scrubNext = d.scrubNext := by
  unfold Dev.setKennel; split <;> rfl
@[simp] theorem Dev.setKennel_otp (d : Dev) (s : Nat) (k : Kennel) : (d.setKennel s k).otp = d.otp := by
  unfold Dev.setKennel; split <;> rfl
@[simp] theorem Dev.setKennel_burn (d : Dev) (s : Nat) (k : Kennel) : (d.setKennel s k).burn = d.burn := by
  unfold Dev.setKennel; split <;> rfl
@[simp] theorem Dev.setKennel_burnState (d : Dev) (s : Nat) (k : Kennel) : (d.setKennel s k).burnState = d.burnState := by
  unfold Dev.setKennel; split <;> rfl
@[simp] theorem Dev.setKennel_fw (d : Dev) (s : Nat) (k : Kennel) : (d.setKennel s k).fw = d.fw := by
  unfold Dev.setKennel; split <;> rfl
@[simp] theorem Dev.setKennel_debugOpen (d : Dev) (s : Nat) (k : Kennel) : (d.setKennel s k).debugOpen = d.debugOpen := by
  unfold Dev.setKennel; split <;> rfl
@[simp] theorem Dev.setKennel_testPort (d : Dev) (s : Nat) (k : Kennel) : (d.setKennel s k).testPort = d.testPort := by
  unfold Dev.setKennel; split <;> rfl
@[simp] theorem Dev.setKennel_out (d : Dev) (s : Nat) (k : Kennel) : (d.setKennel s k).out = d.out := by
  unfold Dev.setKennel; split <;> rfl

/-! ## What each update sets -/

@[simp] theorem Dev.setReg_regs (d : Dev) (k v : Nat) : (d.setReg k v).regs = tset d.regs k v := rfl
@[simp] theorem Dev.setBlob_blobs (d : Dev) (k : Nat) (v : List Byte) : (d.setBlob k v).blobs = tset d.blobs k v := rfl
@[simp] theorem Dev.setPort_ports (d : Dev) (p : Nat) (x : PortSt) : (d.setPort p x).ports = tset d.ports p x := rfl
@[simp] theorem Dev.emit_out (d : Dev) (o : Out) : (d.emit o).out = d.out ++ [o] := rfl
@[simp] theorem Dev.setCtx_ctxs (d : Dev) (n : Nat) (x : Ctx) : (d.setCtx n x).ctxs = tset d.ctxs n x := rfl
@[simp] theorem Dev.setChain_chains (d : Dev) (i : Nat) (x : ChainSlot) : (d.setChain i x).chains = tset d.chains i x := rfl
@[simp] theorem Dev.setQp_qps (d : Dev) (q : Nat) (x : Qp) : (d.setQp q x).qps = tset d.qps q x := rfl
@[simp] theorem Dev.setChan_dma (d : Dev) (n : Nat) (x : DmaCh) : (d.setChan n x).dma = tset d.dma n x := rfl
@[simp] theorem Dev.setWhistle_whistles (d : Dev) (w : Nat) (x : Whistle) : (d.setWhistle w x).whistles = tset d.whistles w x := rfl
@[simp] theorem Dev.drew_draws (d : Dev) : d.drew.draws = d.draws + 1 := rfl

/-! ## A change of the device alone -/

@[simp] theorem State.onDev_toDev (s : State) (f : Dev → Dev) : (s.onDev f).toDev = f s.toDev := rfl
@[simp] theorem State.onDev_shadows (s : State) (f : Dev → Dev) : (s.onDev f).shadows = s.shadows := rfl
@[simp] theorem State.onDev_boundary (s : State) (f : Dev → Dev) : (s.onDev f).boundary = s.boundary := rfl
@[simp] theorem State.onDev_pending (s : State) (f : Dev → Dev) : (s.onDev f).pending = s.pending := rfl

end Sys2Proof.Machine
end

