-- ==== Sys2Proof/Laws/Tables.lean ====
section
/-! SUPPORT. Sparse tables and dictionary registers: what a read gives after a write, and that a table's keys stay rising. -/

namespace Sys2Proof.Machine

variable {α : Type}

/-- A table whose keys rise strictly from a bound. -/
def risesFrom (lo : Nat) : Tbl α → Prop
  | [] => True
  | (k, _) :: r => lo ≤ k ∧ risesFrom (k + 1) r

@[simp] theorem tget_nil (k : Nat) : tget ([] : Tbl α) k = none := rfl

theorem tget_tset_same (t : Tbl α) (k : Nat) (v : α) : tget (tset t k v) k = some v := by
  induction t with
  | nil => simp [tset, tget]
  | cons e r ih =>
    obtain ⟨j, w⟩ := e
    by_cases h : j < k
    · have : ¬ j = k := by omega
      simp [tset, tget, h, this, ih]
    · by_cases h2 : j = k <;> simp [tset, tget, h, h2]

theorem tget_tset_other (t : Tbl α) {k i : Nat} (v : α) (hne : i ≠ k) : tget (tset t k v) i = tget t i := by
  induction t with
  | nil => simp [tset, tget, Ne.symm hne]
  | cons e r ih =>
    obtain ⟨j, w⟩ := e
    by_cases h : j < k
    · simp [tset, tget, h, ih]
    · by_cases h2 : j = k
      · subst h2
        simp [tset, tget, Ne.symm hne]
      · simp [tset, tget, h, h2, Ne.symm hne]

/-- A read after keeping the keys that pass a test. -/
theorem tget_filter (f : Nat → Bool) (t : Tbl α) (i : Nat) : tget (t.filter (fun e => f e.1)) i = if f i then tget t i else none := by
  induction t with
  | nil => simp [tget]
  | cons e r ih =>
    obtain ⟨j, w⟩ := e
    by_cases hj : f j = true
    · by_cases h : j = i
      · subst h; simp [tget, hj]
      · simp [tget, hj, h, ih]
    · by_cases h : j = i
      · subst h; simp [hj, ih]
      · simp [tget, hj, h, ih]

/-- A read after a key is taken out. -/
theorem tget_terase (t : Tbl α) (k i : Nat) : tget (terase t k) i = if i = k then none else tget t i := by
  rw [terase, tget_filter (fun j => j != k)]
  by_cases h : i = k <;> simp [h]

/-- A read after a write, whatever the key. -/
theorem tget_tset (t : Tbl α) (k i : Nat) (v : α) : tget (tset t k v) i = if i = k then some v else tget t i := by
  by_cases h : i = k
  · subst h; simp [tget_tset_same]
  · simp [h, tget_tset_other t v h]

theorem risesFrom_mono {lo lo' : Nat} {t : Tbl α} (hl : lo' ≤ lo) (h : risesFrom lo t) : risesFrom lo' t := by
  cases t with
  | nil => trivial
  | cons e r => exact ⟨Nat.le_trans hl h.1, h.2⟩

/-- Setting a key keeps the keys rising. -/
theorem risesFrom_tset {lo k : Nat} {t : Tbl α} (v : α) (hk : lo ≤ k) (h : risesFrom lo t) : risesFrom lo (tset t k v) := by
  induction t generalizing lo with
  | nil => exact ⟨hk, trivial⟩
  | cons e r ih =>
    obtain ⟨j, w⟩ := e
    obtain ⟨h1, h2⟩ := h
    by_cases hlt : j < k
    · simp only [tset, hlt, if_true]
      exact ⟨h1, ih (by omega) h2⟩
    · by_cases heq : j = k
      · subst heq
        simp only [tset, Nat.lt_irrefl, if_false, if_true]
        exact ⟨h1, h2⟩
      · simp only [tset, hlt, heq, if_false]
        exact ⟨hk, by omega, h2⟩

@[simp] theorem Dev.reg_setReg_same (d : Dev) (k v : Nat) : (d.setReg k v).reg k = v := by
  simp [Dev.reg, tget_tset_same]

theorem Dev.reg_setReg_other (d : Dev) {k i : Nat} (v : Nat) (h : i ≠ k) : (d.setReg k v).reg i = d.reg i := by
  simp [Dev.reg, tget_tset_other _ _ h]

/-- A register read after a register write. -/
theorem Dev.reg_setReg (d : Dev) (k i v : Nat) : (d.setReg k v).reg i = if i = k then v else d.reg i := by
  by_cases h : i = k
  · subst h; simp
  · simp [h, Dev.reg_setReg_other d v h]

@[simp] theorem Dev.blob_setBlob_same (d : Dev) (k : Nat) (v : List Byte) : (d.setBlob k v).blob k = v := by
  simp [Dev.blob, tget_tset_same]

theorem Dev.blob_setBlob_other (d : Dev) {k i : Nat} (v : List Byte) (h : i ≠ k) : (d.setBlob k v).blob i = d.blob i := by
  simp [Dev.blob, tget_tset_other _ _ h]

@[simp] theorem Dev.port_setPort_same (d : Dev) (p : Nat) (x : PortSt) : (d.setPort p x).port p = x := by
  simp [Dev.port, tgetD, tget_tset_same]

theorem Dev.port_setPort_other (d : Dev) {p q : Nat} (x : PortSt) (h : q ≠ p) : (d.setPort p x).port q = d.port q := by
  simp [Dev.port, tgetD, tget_tset_other _ _ h]

@[simp] theorem Dev.port_updPort_same (d : Dev) (p : Nat) (f : PortSt → PortSt) : (d.updPort p f).port p = f (d.port p) := by
  simp [Dev.updPort]

theorem Dev.port_updPort_other (d : Dev) {p q : Nat} (f : PortSt → PortSt) (h : q ≠ p) :
    (d.updPort p f).port q = d.port q := by
  simp [Dev.updPort, Dev.port_setPort_other _ _ h]

@[simp] theorem PortSt.lane_setLane_same (x : PortSt) (l : Lane) (v : LaneSt) : (x.setLane l v).lane l = v := by
  match l with
  | 0 => rfl
  | 1 => rfl
  | 2 => rfl
  | 3 => rfl

theorem PortSt.lane_setLane_other (x : PortSt) {l m : Lane} (v : LaneSt) (h : m ≠ l) : (x.setLane l v).lane m = x.lane m := by
  match l, m with
  | 0, 0 => exact absurd rfl h
  | 1, 1 => exact absurd rfl h
  | 2, 2 => exact absurd rfl h
  | 3, 3 => exact absurd rfl h
  | 0, 1 => rfl
  | 0, 2 => rfl
  | 0, 3 => rfl
  | 1, 0 => rfl
  | 1, 2 => rfl
  | 1, 3 => rfl
  | 2, 0 => rfl
  | 2, 1 => rfl
  | 2, 3 => rfl
  | 3, 0 => rfl
  | 3, 1 => rfl
  | 3, 2 => rfl

@[simp] theorem Dev.lane_updLane_same (d : Dev) (p : Nat) (l : Lane) (f : LaneSt → LaneSt) :
    (d.updLane p l f).lane p l = f (d.lane p l) := by
  simp [Dev.lane, Dev.updLane]

@[simp] theorem Dev.reg_drew (d : Dev) (k : Nat) : d.drew.reg k = d.reg k := rfl
@[simp] theorem Dev.reg_emit (d : Dev) (o : Out) (k : Nat) : (d.emit o).reg k = d.reg k := rfl
@[simp] theorem Dev.reg_setPort (d : Dev) (p : Nat) (x : PortSt) (k : Nat) : (d.setPort p x).reg k = d.reg k := rfl
@[simp] theorem Dev.reg_updPort (d : Dev) (p : Nat) (f : PortSt → PortSt) (k : Nat) : (d.updPort p f).reg k = d.reg k := rfl
@[simp] theorem Dev.port_setReg (d : Dev) (k v p : Nat) : (d.setReg k v).port p = d.port p := rfl

end Sys2Proof.Machine
end

