-- ==== Sys2Proof/Laws/Flags.lean ====
section
/-! SUPPORT. The shared operations that raise flags: each with one lemma that says which fields of the device it can change. -/

namespace Sys2Proof.Machine

/-- A count changes the registers alone, and of them the counter. -/
theorem Dev.count_eq (d : Dev) (k : Nat) : d.count k = d.setReg k ((d.reg k + 1) % 2 ^ 64) := rfl

theorem Dev.reg_count (d : Dev) (k i : Nat) : (d.count k).reg i = if i = k then (d.reg k + 1) % 2 ^ 64 else d.reg i := by
  rw [Dev.count_eq, Dev.reg_setReg]

/-- A saturation event changes registers and the saturated list. -/
theorem Dev.saturate_frame (d : Dev) (k : Nat) :
    d.saturate k = { d with regs := (d.saturate k).regs, tele := (d.saturate k).tele } := rfl

/-- An error count changes registers and the saturated list. -/
theorem Dev.countErr_frame (d : Dev) (k : Nat) :
    d.countErr k = { d with regs := (d.countErr k).regs, tele := (d.countErr k).tele } := by
  unfold Dev.countErr
  simp only []
  split
  · rfl
  · split <;> rfl

/-- Several error counts at once change registers and the saturated list. -/
theorem Dev.countErrN_frame (d : Dev) (k n : Nat) :
    d.countErrN k n = { d with regs := (d.countErrN k n).regs, tele := (d.countErrN k n).tele } := by
  unfold Dev.countErrN
  simp only []
  split
  · rfl
  · split <;> rfl

/-- Below its largest value an error counter counts (R549, R552). -/
theorem Dev.reg_countErr_same (d : Dev) (k : Nat) (h : d.reg k < 0xFFFFFFFE) : (d.countErr k).reg k = d.reg k + 1 := by
  have h1 : ¬ d.reg k = 0xFFFFFFFF := by omega
  have h2 : ¬ d.reg k + 1 = 0xFFFFFFFF := by omega
  simp [Dev.countErr, h1, h2]

/-- An error counter at its largest value stays there (R549). -/
theorem Dev.countErr_stuck (d : Dev) (k : Nat) (h : d.reg k = 0xFFFFFFFF) : d.countErr k = d := by
  simp [Dev.countErr, h]

/-- A raise of a source changes the interrupt controller alone. -/
theorem Dev.raiseInt_frame (d : Dev) (n : Nat) : d.raiseInt n = { d with ints := (d.raiseInt n).ints } := rfl

/-- An event on its way to the interrupt controller changes its arrivals and the count of free values. -/
theorem Dev.arrive_frame (d : Dev) (w : ArrivalKind) :
    d.arrive w = { d with arrivals := (d.arrive w).arrivals, draws := d.draws + 1 } := rfl

/-- A power event changes its record and the interrupt controller. -/
theorem Dev.powerEvent_frame (d : Dev) (code sensor : Nat) (x : Int) :
    d.powerEvent code sensor x = { d with power := (d.powerEvent code sensor x).power, ints := (d.powerEvent code sensor x).ints } := rfl

/-- A report on its way to the sentry changes the sentry's inbox and the count of free values. -/
theorem Dev.report_frame (d : Dev) (b : BarkMsg) :
    d.report b = { d with sentry := (d.report b).sentry, draws := d.draws + 1 } := rfl

theorem Dev.report_reports (d : Dev) (b : BarkMsg) :
    (d.report b).sentry.reports = d.sentry.reports ++ [Report.mk d.sampledAt b] := rfl

/-- A sampled bark changes registers, the saturated list, the sentry and the interrupt controller. -/
theorem Dev.sample_frame (d : Dev) (b : BarkMsg) :
    d.sample b = { d with regs := (d.sample b).regs, tele := (d.sample b).tele, sentry := (d.sample b).sentry,
                          ints := (d.sample b).ints } := by
  unfold Dev.sample
  simp only []
  split
  · rw [Dev.countErr_frame]; rfl
  · rw [Dev.raiseInt_frame]
    simp only []
    rw [Dev.countErr_frame]; rfl

/-- Taking an injection changes FAULT_INJECT_LEFT and the armed injection. -/
theorem Dev.takeInject_frame (d : Dev) (c t : Nat) :
    (d.takeInject c t).2 = { d with regs := (d.takeInject c t).2.regs, sentry := (d.takeInject c t).2.sentry } := by
  unfold Dev.takeInject
  split
  · rfl
  · simp only []
    split
    · split <;> rfl
    · rfl

/-- With nothing armed no injection is taken (R544). -/
theorem Dev.takeInject_none (d : Dev) (c t : Nat) (h : d.sentry.inject = none) : d.takeInject c t = (false, d) := by
  simp [Dev.takeInject, h]

/-- Noting work changes the power state's idle clock alone (R613). -/
theorem Dev.worked_frame (d : Dev) : d.worked = { d with power := { d.power with lastWork := d.tick } } := rfl

end Sys2Proof.Machine
end

