-- ==== Sys2Proof/Laws/Memory.lean ====
section
/-! SUPPORT. Memory: every operation keeps the canonical form, what a read gives after a write, and that an access with no
error armed is a plain one. -/

namespace Sys2Proof.Machine

theorem memWfFrom_mono {lo lo' : Nat} {m : List Host.Cell} (h : lo' ≤ lo) (w : memWfFrom lo m = true) :
    memWfFrom lo' m = true := by
  cases m with
  | nil => rfl
  | cons e r =>
    obtain ⟨k, v⟩ := e
    simp only [memWfFrom, Bool.and_eq_true, decide_eq_true_eq] at w ⊢
    exact ⟨⟨Nat.le_trans h w.1.1, w.1.2⟩, w.2⟩

theorem memWf_cons {lo k : Nat} {v : Byte} {r : List Host.Cell} (w : memWfFrom lo ((k, v) :: r) = true) :
    lo ≤ k ∧ v ≠ memDefault ∧ memWfFrom (k + 1) r = true := by
  simpa [memWfFrom, and_assoc] using w

/-- Below its first key a memory reads as the default. -/
theorem memGet_below {lo a : Nat} {m : List Host.Cell} (w : memWfFrom lo m = true) (h : a < lo) : memGet m a = memDefault := by
  cases m with
  | nil => rfl
  | cons e r =>
    obtain ⟨k, v⟩ := e
    obtain ⟨h1, -, -⟩ := memWf_cons w
    have h2 : ¬ k = a := by omega
    have h3 : a < k := by omega
    simp [memGet, h2, h3]

theorem memWfFrom_memSet {lo a : Nat} {b : Byte} {m : List Host.Cell} (ha : lo ≤ a) (w : memWfFrom lo m = true) :
    memWfFrom lo (memSet m a b) = true := by
  induction m generalizing lo with
  | nil => by_cases hb : b = memDefault <;> simp [memSet, hb, memWfFrom, ha]
  | cons e r ih =>
    obtain ⟨k, v⟩ := e
    obtain ⟨h1, h2, h3⟩ := memWf_cons w
    by_cases hlt : k < a
    · simp [memSet, hlt, memWfFrom, h1, h2, ih (Nat.succ_le_of_lt hlt) h3]
    · by_cases heq : k = a
      · subst heq
        by_cases hb : b = memDefault
        · simpa [memSet, hb] using memWfFrom_mono (by omega) h3
        · simp [memSet, hb, memWfFrom, h1, h3]
      · by_cases hb : b = memDefault
        · simpa [memSet, hlt, heq, hb] using w
        · have : a + 1 ≤ k := by omega
          simp [memSet, hlt, heq, hb, memWfFrom, ha, h2, h3, this]

/-- Storing one byte keeps the canonical form. -/
theorem Memory.wf_memSet {m : List Host.Cell} (a : Nat) (b : Byte) (w : Memory.wf m = true) : Memory.wf (memSet m a b) = true :=
  memWfFrom_memSet (Nat.zero_le a) w

theorem memWfFrom_memFrom {lo a : Nat} {m : List Host.Cell} (w : memWfFrom lo m = true) : memWfFrom (max lo a) (memFrom m a) = true := by
  induction m generalizing lo with
  | nil => rfl
  | cons e r ih =>
    obtain ⟨k, v⟩ := e
    obtain ⟨h1, h2, h3⟩ := memWf_cons w
    by_cases h : k < a
    · have := ih h3
      simp only [memFrom, h, if_true]
      exact memWfFrom_mono (by omega) this
    · simp only [memFrom, h, if_false, memWfFrom, Bool.and_eq_true, decide_eq_true_eq, bne_iff_ne]
      exact ⟨⟨by omega, h2⟩, h3⟩

theorem memWfFrom_memLay {lo a : Nat} {bs : List Byte} {rest : List Host.Cell} (ha : lo ≤ a)
    (w : memWfFrom (a + bs.length) rest = true) : memWfFrom lo (memLay a bs rest) = true := by
  induction bs generalizing lo a with
  | nil => exact memWfFrom_mono (by simpa using ha) w
  | cons b r ih =>
    have w' : memWfFrom (a + 1 + r.length) rest = true := by
      have : a + 1 + r.length = a + (b :: r).length := by simp; omega
      rw [this]; exact w
    by_cases hb : b = memDefault
    · simpa [memLay, hb] using ih (lo := lo) (a := a + 1) (by omega) w'
    · simp [memLay, hb, memWfFrom, ha, ih (lo := a + 1) (a := a + 1) (Nat.le_refl _) w']

theorem memWfFrom_memPut {lo a : Nat} {bs : List Byte} {m : List Host.Cell} (ha : lo ≤ a) (w : memWfFrom lo m = true) :
    memWfFrom lo (memPut m a bs) = true := by
  induction m generalizing lo with
  | nil => exact memWfFrom_memLay ha rfl
  | cons e r ih =>
    obtain ⟨k, v⟩ := e
    obtain ⟨h1, h2, h3⟩ := memWf_cons w
    by_cases h : k < a
    · simp only [memPut, h, if_true, memWfFrom, Bool.and_eq_true, decide_eq_true_eq, bne_iff_ne]
      exact ⟨⟨h1, h2⟩, ih (Nat.succ_le_of_lt h) h3⟩
    · simp only [memPut, h, if_false]
      exact memWfFrom_memLay ha (memWfFrom_mono (by omega) (memWfFrom_memFrom (a := a + bs.length) w))

/-- Storing bytes keeps the canonical form. -/
theorem Memory.wf_memPut {m : List Host.Cell} (a : Nat) (bs : List Byte) (w : Memory.wf m = true) :
    Memory.wf (memPut m a bs) = true :=
  memWfFrom_memPut (Nat.zero_le a) w

/-- Keeping some entries keeps the canonical form. -/
theorem memWfFrom_filter {lo : Nat} {m : List Host.Cell} (f : Host.Cell → Bool) (w : memWfFrom lo m = true) :
    memWfFrom lo (m.filter f) = true := by
  induction m generalizing lo with
  | nil => rfl
  | cons e r ih =>
    obtain ⟨k, v⟩ := e
    obtain ⟨h1, h2, h3⟩ := memWf_cons w
    by_cases h : f (k, v) = true
    · simp [h, memWfFrom, h1, h2, ih h3]
    · simp only [h, List.filter_cons, Bool.false_eq_true, if_false]
      exact memWfFrom_mono (by omega) (ih h3)

/-- The byte read at any address after one byte is stored. -/
theorem memGet_memSet {lo : Nat} {m : List Host.Cell} (a i : Nat) (b : Byte) (w : memWfFrom lo m = true) :
    memGet (memSet m a b) i = if i = a then b else memGet m i := by
  induction m generalizing lo with
  | nil =>
    by_cases hb : b = memDefault
    · subst hb; simp [memSet, memGet]
    · by_cases hi : i = a
      · subst hi; simp [memSet, hb, memGet]
      · simp [memSet, hb, memGet, hi, Ne.symm hi]
  | cons e r ih =>
    obtain ⟨k, v⟩ := e
    obtain ⟨h1, h2, h3⟩ := memWf_cons w
    by_cases hlt : k < a
    · by_cases hk : k = i
      · subst hk
        have : ¬ k = a := by omega
        simp [memSet, hlt, memGet, this]
      · by_cases hik : i < k
        · have : ¬ i = a := by omega
          simp [memSet, hlt, memGet, hk, hik, this]
        · simp [memSet, hlt, memGet, hk, hik, ih h3]
    · by_cases heq : k = a
      · subst heq
        by_cases hb : b = memDefault
        · subst hb
          by_cases hi : i = k
          · subst hi; simp [memSet, memGet_below h3 (Nat.lt_succ_self _)]
          · by_cases hik : i < k
            · simp [memSet, memGet, hi, Ne.symm hi, hik, memGet_below h3 (by omega : i < k + 1)]
            · simp [memSet, memGet, hi, Ne.symm hi, hik]
        · by_cases hi : i = k
          · subst hi; simp [memSet, hb, memGet]
          · simp [memSet, hb, memGet, hi, Ne.symm hi]
      · have hak : a < k := by omega
        by_cases hb : b = memDefault
        · subst hb
          by_cases hi : i = a
          · subst hi; simp [memSet, hlt, heq, memGet, hak]
          · simp [memSet, hlt, heq, hi]
        · by_cases hi : i = a
          · subst hi; simp [memSet, hlt, heq, hb, memGet]
          · by_cases hia : i < a
            · have h4 : ¬ k = i := by omega
              have h5 : i < k := by omega
              simp [memSet, hlt, heq, hb, memGet, hi, Ne.symm hi, hia, h4, h5]
            · simp [memSet, hlt, heq, hb, memGet, hi, Ne.symm hi, hia]

/-- The byte at any address of the entries from one up. -/
theorem memGet_memFrom {lo : Nat} {m : List Host.Cell} (c i : Nat) (w : memWfFrom lo m = true) :
    memGet (memFrom m c) i = if i < c then memDefault else memGet m i := by
  induction m generalizing lo with
  | nil => simp [memFrom, memGet]
  | cons e r ih =>
    obtain ⟨k, v⟩ := e
    obtain ⟨h1, h2, h3⟩ := memWf_cons w
    by_cases h : k < c
    · by_cases hi : i < c
      · simpa [memFrom, h, hi] using ih h3
      · have h4 : ¬ k = i := by omega
        have h5 : ¬ i < k := by omega
        simpa [memFrom, h, hi, memGet, h4, h5] using ih h3
    · by_cases hi : i < c
      · have h4 : ¬ k = i := by omega
        have h5 : i < k := by omega
        simp [memFrom, h, hi, memGet, h4, h5]
      · simp [memFrom, h, hi]

/-- The byte at any address of bytes listed before a rest. -/
theorem memGet_memLay {bs : List Byte} {rest : List Host.Cell} {a : Nat} (i : Nat) (w : memWfFrom (a + bs.length) rest = true) :
    memGet (memLay a bs rest) i = if a ≤ i ∧ i < a + bs.length then bs.getD (i - a) memDefault else memGet rest i := by
  induction bs generalizing a with
  | nil => have : ¬ (a ≤ i ∧ i < a + 0) := by omega
           simp only [memLay, List.length_nil, this, if_false]
  | cons b r ih =>
    have hl : a + 1 + r.length = a + (b :: r).length := by simp; omega
    have w' : memWfFrom (a + 1 + r.length) rest = true := by rw [hl]; exact w
    have ih' := ih w'
    rw [hl] at ih'
    have hpos : a < a + (b :: r).length := by simp
    by_cases hia : i = a
    · subst hia
      have hrest : memGet rest i = memDefault := memGet_below w hpos
      by_cases hb : b = memDefault
      · have : ¬ (i + 1 ≤ i ∧ i < i + (b :: r).length) := by omega
        simp only [memLay, hb, if_true] at ih' ⊢
        subst hb
        simp only [this, if_false] at ih'
        simp [ih', hrest]
      · simp [memLay, hb, memGet]
    · have hiff : (a + 1 ≤ i ∧ i < a + (b :: r).length) ↔ (a ≤ i ∧ i < a + (b :: r).length) := by omega
      have hget : ∀ h : a + 1 ≤ i, (b :: r).getD (i - a) memDefault = r.getD (i - (a + 1)) memDefault := by
        intro h
        have : i - a = (i - (a + 1)) + 1 := by omega
        rw [this]; rfl
      have key : memGet (memLay (a + 1) r rest) i =
          if a ≤ i ∧ i < a + (b :: r).length then (b :: r).getD (i - a) memDefault else memGet rest i := by
        rw [ih']
        by_cases h : a + 1 ≤ i ∧ i < a + (b :: r).length
        · rw [if_pos h, if_pos (hiff.mp h), hget h.1]
        · rw [if_neg h, if_neg (fun x => h (hiff.mpr x))]
      by_cases hb : b = memDefault
      · rw [← key]; simp [memLay, hb]
      · rw [← key]
        by_cases hlt : i < a
        · have h1 : memGet (memLay (a + 1) r rest) i = memDefault :=
            memGet_below (memWfFrom_memLay (Nat.le_refl _) w') (by omega)
          have h2 : ¬ a = i := by omega
          simp [memLay, hb, memGet, h2, hlt, h1]
        · have h2 : ¬ a = i := by omega
          simp [memLay, hb, memGet, h2, hlt]

/-- The byte read at any address after bytes are stored: theirs in their range, the old one outside. -/
theorem memGet_memPut {lo : Nat} {m : List Host.Cell} (a i : Nat) (bs : List Byte) (w : memWfFrom lo m = true) :
    memGet (memPut m a bs) i = if a ≤ i ∧ i < a + bs.length then bs.getD (i - a) memDefault else memGet m i := by
  induction m generalizing lo with
  | nil => exact memGet_memLay i rfl
  | cons e r ih =>
    obtain ⟨k, v⟩ := e
    obtain ⟨h1, h2, h3⟩ := memWf_cons w
    by_cases h : k < a
    · by_cases hk : k = i
      · have hn : ¬ (a ≤ i ∧ i < a + bs.length) := by omega
        rw [if_neg hn]
        subst hk
        simp [memPut, h, memGet]
      · by_cases hik : i < k
        · have hn : ¬ (a ≤ i ∧ i < a + bs.length) := by omega
          rw [if_neg hn]
          simp [memPut, h, memGet, hk, hik]
        · simpa [memPut, h, memGet, hk, hik] using ih h3
    · have wf' : memWfFrom (a + bs.length) (memFrom ((k, v) :: r) (a + bs.length)) = true :=
        memWfFrom_mono (by omega) (memWfFrom_memFrom (a := a + bs.length) w)
      simp only [memPut, h, if_false]
      rw [memGet_memLay i wf', memGet_memFrom _ _ w]
      by_cases hr : a ≤ i ∧ i < a + bs.length
      · rw [if_pos hr, if_pos hr]
      · rw [if_neg hr, if_neg hr]
        by_cases hi : i < a + bs.length
        · have hb : i < k := by omega
          rw [if_pos hi, memGet_below (lo := k) (by
            simp only [memWfFrom, Bool.and_eq_true, decide_eq_true_eq, bne_iff_ne]; exact ⟨⟨Nat.le_refl _, h2⟩, h3⟩) hb]
        · rw [if_neg hi]

/-- A read of a run of bytes is the bytes one by one. -/
theorem memTake_eq {lo : Nat} {m : List Host.Cell} (a n : Nat) (w : memWfFrom lo m = true) (h : a ≤ lo) :
    memTake m a n = (List.range n).map (fun i => memGet m (a + i)) := by
  induction n generalizing m a lo with
  | zero => cases m <;> rfl
  | succ c ih =>
    rw [List.range_succ_eq_map, List.map_cons, List.map_map]
    have hshift : (fun i => memGet m (a + i)) ∘ Nat.succ = fun i => memGet m (a + 1 + i) := by
      funext i; simp only [Function.comp_apply]; congr 1; omega
    rw [hshift, Nat.add_zero]
    cases m with
    | nil =>
      have := ih (m := []) (lo := lo + 1) (a + 1) rfl (by omega)
      simpa [memTake, memGet] using this
    | cons e r =>
      obtain ⟨k, v⟩ := e
      obtain ⟨h1, h2, h3⟩ := memWf_cons w
      by_cases hk : k = a
      · subst hk
        have := ih (m := r) (lo := k + 1) (k + 1) h3 (Nat.le_refl _)
        simp only [memTake, if_true, memGet]
        rw [this]
        have hmap : (List.range c).map (fun i => memGet r (k + 1 + i)) =
            (List.range c).map (fun i => memGet ((k, v) :: r) (k + 1 + i)) := by
          apply List.map_congr_left
          intro i _
          have e1 : ¬ k = k + 1 + i := by omega
          have e2 : ¬ k + 1 + i < k := by omega
          simp [memGet, e1, e2]
        rw [hmap]
        simp [memGet]
      · have hlt : a < k := by omega
        have w' : memWfFrom k ((k, v) :: r) = true := by
          simp only [memWfFrom, Bool.and_eq_true, decide_eq_true_eq, bne_iff_ne]; exact ⟨⟨Nat.le_refl _, h2⟩, h3⟩
        have := ih (m := (k, v) :: r) (lo := k) (a + 1) w' (by omega)
        simp only [memTake, hk, if_false]
        rw [this]
        simp [memGet, hk, hlt]

/-- Reading `n` bytes gives the bytes one by one. -/
theorem memRead_eq {m : List Host.Cell} (a n : Nat) (w : Memory.wf m = true) :
    memRead m a n = (List.range n).map (fun i => memGet m (a + i)) := by
  have w' := memWfFrom_memFrom (lo := 0) (a := a) w
  rw [memRead, memTake_eq a n w' (by omega)]
  apply List.map_congr_left
  intro i _
  rw [memGet_memFrom _ _ w, if_neg (by omega)]

/-- Every store of the device keeps the canonical form (R523: the fence keeps the memory itself). -/
theorem Dev.writeMem_wf (d : Dev) (a : Nat) (bs : List Byte) (w : Memory.wf d.mem = true) :
    Memory.wf (d.writeMem a bs).mem = true := by
  unfold Dev.writeMem
  split
  · exact w
  · exact Memory.wf_memPut a bs w

/-- What a store of the device leaves at every address. -/
theorem Dev.writeMem_get (d : Dev) (a i : Nat) (bs : List Byte) (w : Memory.wf d.mem = true)
    (h : (d.fenced && decide (tierSpace a = 0)) = false) :
    memGet (d.writeMem a bs).mem i = if a ≤ i ∧ i < a + bs.length then bs.getD (i - a) memDefault else memGet d.mem i := by
  have h' : ¬ (d.fenced = true ∧ tierSpace a = 0) := by simpa using h
  simp only [Dev.writeMem, Bool.and_eq_true, decide_eq_true_eq, h', if_false]
  exact memGet_memPut a i bs w

/-- While no error is armed a transfer over a package link changes nothing (R23, R544). -/
theorem Dev.pkgTransfer_unarmed {d : Dev} (h : d.sentry.inject = none) (n : Nat) : d.pkgTransfer n = d := by
  simp only [Dev.pkgTransfer, h]

theorem Dev.cross_unarmed {d : Dev} (h : d.sentry.inject = none) (l : List Nat) : d.cross l = d := by
  induction l with
  | nil => rfl
  | cons n l ih => rw [Dev.cross, List.foldl_cons, Dev.pkgTransfer_unarmed h, ← Dev.cross, ih]

/-- While no error is armed an access reaches its C-die with nothing changed (R27, R387). -/
theorem Dev.travel_unarmed {d : Dev} (h : d.sentry.inject = none) (ini a : Nat) : d.travel ini a = d :=
  Dev.cross_unarmed h _

theorem Dev.takeInject_unarmed {d : Dev} (h : d.sentry.inject = none) (checker target : Nat) :
    d.takeInject checker target = (false, d) := by
  simp only [Dev.takeInject, h]

/-- While no error is armed what passes package links arrives (R23). -/
theorem Dev.arrives_unarmed {d : Dev} (h : d.sentry.inject = none) (l : List Nat) : d.arrives l = true := by
  simp [Dev.arrives, Dev.linkDown, h]

theorem Dev.reaches_unarmed {d : Dev} (h : d.sentry.inject = none) (ini a : Nat) : d.reaches ini a = true :=
  Dev.arrives_unarmed h _

/-- While no error is armed a read of HBM4 that meets no uncorrectable word gives its bytes and changes nothing (R387, R504). -/
theorem Dev.readMem_unarmed {d : Dev} {a n : Nat} (h : d.sentry.inject = none) (ht : tierSpace a = 0)
    (hu : d.ueIn a n = false) (ini : Nat) : d.readMem a n ini = (some (memRead d.mem a n), d) := by
  simp only [Dev.readMem, Dev.travel_unarmed h, Dev.reaches_unarmed h, Dev.takeInject_unarmed h, ht, hu, Bool.not_true,
    if_false, Bool.false_eq_true]

end Sys2Proof.Machine
end

