-- ==== Sys2Proof/Laws/Outcomes.lean ====
section
/-! SUPPORT. What the shared shapes of a meaning can answer. -/

namespace Sys2Proof.Machine

/-- A change of the device alone answers a next state with that device, the same shadows and the same queue. -/
theorem run_eq (s : State) (f : Dev → Dev) : run s f = .next { s with toDev := f s.toDev } := rfl

@[simp] theorem run_next (s t : State) (f : Dev → Dev) : run s f = .next t ↔ s.onDev f = t := by
  simp [run]

@[simp] theorem done_next (s t : State) : done s = .next t ↔ s = t := by
  simp [done]

/-- A request always answers a next state: the device once what is due is sampled and it is answered, with the same shadows and
queue. -/
theorem State.request_next (s : State) (op : Nat) (q : Req) :
    s.request op q = .next { s with toDev := s.toDev.sampleEvents.request s.shadows op q false } := rfl

/-- Where neither a report nor an event is under way, nothing is sampled (R31, R537). -/
theorem Dev.sampleEvents_idle {d : Dev} (hr : d.sentry.reports = []) (ha : d.arrivals = []) : d.sampleEvents = d := by
  cases d with
  | mk =>
    rename Sentry => x
    cases x
    simp only at hr ha
    subst hr ha
    rfl

/-- A write row is a WRITE request to its entry. -/
theorem State.writeRow_eq (s : State) (q : Req) (k : Nat) (pl : List Byte) :
    s.writeRow q k pl =
      s.request opWRITE { q with index := BitVec.ofNat 16 (k / 256), sub := BitVec.ofNat 8 (k % 256), payload := pl } := rfl

/-- Without a context a loss of ports has nothing to end (R304, R368). -/
theorem Dev.settle_of_no_ctxs {d : Dev} (h : d.ctxs = []) (was : Dev) : d.settle was = d := by
  simp [Dev.settle, h]

/-- Where every port that was in UP or RECOVER still is, and no ring group was cut, nothing is lost (R304, R368). -/
theorem Dev.settle_of_no_loss {d was : Dev} (h : ∀ p ∈ allPorts, portLost (was.port p).state (d.port p).state = false)
    (hc : d.groupCut was = false) : d.settle was = d := by
  have hg : allPorts.filter (fun p => portLost (was.port p).state (d.port p).state) = [] :=
    List.filter_eq_nil_iff.mpr (fun p hp => by simp [h p hp])
  simp [Dev.settle, hg, hc]

/-- A meaning whose outcome is settled answers the next state with its losses carried to the contexts. -/
theorem settled_next (s t : State) : settled s (.next t) = .next (t.onDev (fun d => d.settle s.toDev)) := rfl

end Sys2Proof.Machine
end

