-- ==== Sys2Proof/WellFormed.lean ====
section
/-! DEFINITION. Which commands are well formed: what the types of their operands leave to check. -/

namespace Sys2Proof

open Sys2Proof.Machine

/-- A request's payload fits the 2-byte LENGTH of R46. -/
def reqOk (q : Req) : Bool := q.payload.length ≤ 65535

/-- A cell has the 64-byte payload of R115. -/
def cellOk (c : Cell) : Bool := c.payload.length = 64

/-- A packet's payload fits the host port's longest frame of 4,200 bytes (R478). -/
def msgOk (m : RoceMsg) : Bool := m.payload.length ≤ 4096

/-- A crossbar port that R164 lists for an S-die. -/
def xportOk (d x : Nat) : Bool := x < 133 || (x = 133 && d = 0) || (136 ≤ x && x < 144)
/-- An owner of a slot on an S-die: a crossbar port it has, or the replay side of a fabric port (R178). -/
def ownerOk (d o : Nat) : Bool := if o < 256 then xportOk d o else o < 384

/-- A cell enters at a fabric port or at an internal crossbar port of R164. -/
def srcOk (s : Src) : Bool :=
  match s with
  | .fabric _ => true
  | .internal d x => 128 ≤ x.val && xportOk d.val x.val

/-- A rail that R601 names. -/
def railOk (r : Nat) : Bool := r < 5 || 8 ≤ r

/-- A bark has a kind of R525 to R527. -/
def barkOk (m : Option BarkMsg) : Bool :=
  match m with
  | none => true
  | some b => kindKnown b.kind.toNat

/-- The well-formed commands. -/
def WellFormed (i : Instr) : Bool :=
  match i with
  | .read q => reqOk q
  | .write q => reqOk q
  | .readSeg q => reqOk q
  | .writeSegStart q => reqOk q
  | .writeSeg q => reqOk q
  | .writeSegCommit q => reqOk q
  | .challenge q => reqOk q
  | .answer q => reqOk q
  | .close q => reqOk q
  | .notifyAck q => reqOk q
  | .badFrames _ bytes => bytes.length ≤ 65535
  | .udpChecksumDrop _ => true
  | .notifyRepeat _ _ => true
  | .handleExpiry _ => true
  | .nonceExpiry _ _ => true
  | .sessionIdleExpiry _ => true
  | .endSessions q => reqOk q
  | .neighbourSolicitation _ _ _ => true
  | .plcaBeacon => true
  | .plcaCollision => true
  | .los _ _ _ => true
  | .lol _ _ _ => true
  | .marginWindowEnd _ _ _ _ _ _ => true
  | .peakPeriod _ _ => true
  | .peakWatchEnd _ _ => true
  | .coeffSetStore _ _ => true
  | .laneRateReqSend _ _ => true
  | .laneRateReq _ c => cellOk c
  | .laneRateAns _ c => cellOk c
  | .handoverRetry _ _ => true
  | .handoverPark _ => true
  | .laneReadySend _ => true
  | .laneReady _ c => cellOk c
  | .handoverJoin _ => true
  | .restoreTrialEnd _ _ => true
  | .maxRateWrite q _ => reqOk q
  | .peakSet q _ _ => reqOk q
  | .elecClassWrite q _ => reqOk q
  | .testModeWrite q _ _ => reqOk q
  | .loopWrite q _ _ => reqOk q
  | .injectBit q _ _ => reqOk q
  | .injectRxFecCorr q _ _ => reqOk q
  | .injectRxFecUncorr q _ _ => reqOk q
  | .injectTxFecCorr q _ _ => reqOk q
  | .injectTxFecUncorr q _ _ => reqOk q
  | .injectTxSquelch q _ _ => reqOk q
  | .txSquelchEnd _ _ => true
  | .moduleInterrupt _ => true
  | .modulePresence _ _ _ => true
  | .moduleDatapathReady _ => true
  | .cellReceive _ _ bytes => bytes.length = 80
  | .linkCell _ c => cellOk c
  | .linkSend _ => true
  | .replayTimeout _ => true
  | .parkCell _ _ c => cellOk c
  | .portLossTimeout _ => true
  | .trainCell _ _ c _ => cellOk c
  | .identSend _ => true
  | .identCell _ c => cellOk c
  | .identTimeout _ => true
  | .lanesStart _ => true
  | .lanesTimeout _ => true
  | .lanesStall _ => true
  | .portAbsent _ => true
  | .portEnableWrite q _ => reqOk q
  | .retrain q _ => reqOk q
  | .keepCell _ c => cellOk c
  | .keepSend _ => true
  | .portSleepSend _ _ => true
  | .portSleep _ c => cellOk c
  | .portSleepTs _ => true
  | .wakeRequest _ c => cellOk c
  | .wakeRequestSend _ => true
  | .wakeAck _ c => cellOk c
  | .wakeReadySend _ => true
  | .wakeReady _ c => cellOk c
  | .wakeLanesStart _ => true
  | .crossbarCycle _ => true
  | .cellExpired d input _ => xportOk d.val input.val
  | .allocate d _ owner => ownerOk d.val owner.val
  | .release d _ owner => ownerOk d.val owner.val
  | .handover d _ owner newOwner _ => ownerOk d.val owner.val && ownerOk d.val newOwner.val
  | .freelistRebuildDone _ => true
  | .auditVisit _ => true
  | .strayReclaim q => reqOk q
  | .kennelInjectPtrRange q => reqOk q
  | .kennelInjectPtrAlign q => reqOk q
  | .kennelInjectOwnerMismatch q => reqOk q
  | .kennelInjectFreelistLink q => reqOk q
  | .kennelInjectLeak q => reqOk q
  | .flipTickWrite q => reqOk q
  | .epochFlip => true
  | .bankRetire q => reqOk q
  | .drainStuck _ => true
  | .e2eTimeout _ _ => true
  | .leashUp _ => true
  | .activate q _ => reqOk q
  | .deactivate q _ => reqOk q
  | .packAbort q _ => reqOk q
  | .startCell src c => srcOk src && cellOk c
  | .dataCell src c => srcOk src && cellOk c
  | .promoCell src c => srcOk src && cellOk c
  | .checkCell src c => srcOk src && cellOk c
  | .heel src c => srcOk src && cellOk c
  | .heelRelease src c => srcOk src && cellOk c
  | .heelReleaseTick _ => true
  | .ctxIdleTimeout _ => true
  | .contextComplete _ => true
  | .collNak src c => srcOk src && cellOk c
  | .busyRetry _ => true
  | .releaseCheckDone _ _ => true
  | .chunkRestoreStart _ _ => true
  | .chunkRestoreEnd _ _ => true
  | .spanResend _ => true
  | .collDone src c => srcOk src && cellOk c
  | .timeXferSend => true
  | .timeXferRequest _ c _ _ => cellOk c
  | .timeXferAnswer _ c _ => cellOk c
  | .whistleFire _ => true
  | .dmaChain _ => true
  | .launch _ => true
  | .injectStart _ => true
  | .sendCtl _ => true
  | .raiseInt _ => true
  | .actionComplete _ _ => true
  | .productComplete _ => true
  | .arm q => reqOk q
  | .disarm q => reqOk q
  | .whistleCountWrite q => reqOk q
  | .computeInjectAbftColumn q => reqOk q
  | .computeInjectAbftRow q => reqOk q
  | .computeInjectConversion q => reqOk q
  | .computeInjectDup q => reqOk q
  | .chainLoad q => reqOk q
  | .chainUnload q => reqOk q
  | .chainInit q => reqOk q
  | .chainChunk _ _ => true
  | .opDone _ _ => true
  | .commitPrepare _ => true
  | .stepAbort q => reqOk q
  | .stepCommit q => reqOk q
  | .stepRollback q => reqOk q
  | .progLoad q => reqOk q
  | .progUnload q => reqOk q
  | .hostAutoneg _ _ => true
  | .sendMessage m => msgOk m
  | .rdmaWrite m => msgOk m
  | .rdmaReadRequest m => msgOk m
  | .rdmaReadResponse m => msgOk m
  | .acknowledge m => msgOk m
  | .cnp _ => true
  | .qpRetryTimeout _ => true
  | .qpRateRise _ => true
  | .qpReset q _ => reqOk q
  | .qpRts q _ => reqOk q
  | .hostDrops bytes => bytes.length ≤ 65535
  | .dmaStart q _ => reqOk q
  | .dmaReset q _ => reqOk q
  | .dmaDescComplete _ => true
  | .dmaDescFail _ _ => true
  | .dmaResume _ => true
  | .consumedWrite q _ => reqOk q
  | .scrubRead _ _ => true
  | .bark m => barkOk m
  | .escalation _ => true
  | .faultAck q => reqOk q
  | .intGroupDeliver _ => true
  | .hkpWatchdog => true
  | .faultInjectCellCrc q => reqOk q
  | .faultInjectPkgLinkCrc q => reqOk q
  | .faultInjectResContrib q => reqOk q
  | .faultInjectResSum q => reqOk q
  | .faultInjectResRounding q => reqOk q
  | .faultInjectResLanes q => reqOk q
  | .faultInjectResDup q => reqOk q
  | .faultInjectSramCe q => reqOk q
  | .faultInjectSramUe q => reqOk q
  | .faultInjectHbmCe q => reqOk q
  | .faultInjectHbmUe q => reqOk q
  | .faultInjectPageCheck q => reqOk q
  | .faultInjectLedgerCrc q => reqOk q
  | .faultInjectResultCheckOut q => reqOk q
  | .counterClear q => reqOk q
  | .counterClearAll q => reqOk q
  | .snapCmd q => reqOk q
  | .snapCancel q => reqOk q
  | .snapCopy => true
  | .snapTaken => true
  | .snapTakenCell _ c => cellOk c
  | .mapWindowEnd _ => true
  | .sampleTransfer _ => true
  | .sampleConfigWrite q => reqOk q
  | .save q => reqOk q
  | .otpWordBurned _ => true
  | .keyBurn q => reqOk q
  | .ownerPubkeyWrite q => reqOk q
  | .fwData q => reqOk q
  | .verify q => reqOk q
  | .fwActivate q => reqOk q
  | .fwCommit q => reqOk q
  | .erase q => reqOk q
  | .trialExpired => true
  | .attestNonce q => reqOk q
  | .testPortInstruction _ => true
  | .inputRise _ => true
  | .inputUv _ => true
  | .alwaysOnStop _ => true
  | .inputOv _ => true
  | .overcurrent _ => true
  | .railFault rail _ => railOk rail.val
  | .overtemp _ _ => true
  | .thermalThrottle _ _ => true
  | .governorWindow _ _ => true
  | .rsyncMarker _ _ => true
  | .rsyncMissing => true
  | .holdoverOn => true
  | .sleepActive q => reqOk q
  | .sleepIdle q => reqOk q
  | .sleepDoze q => reqOk q
  | .sleepKeepalive q => reqOk q
  | .autoIdle => true
  | .autoDoze => true
  | .keepaliveDrained => true
  | .sleepAbandons => true
  | .keepalivePowerOff => true
  | .wakeComplete => true
  | .wakePin => true
  | .resetNLow => true
  | .resetNRise _ => true
  | .resetCmdWarm q => reqOk q
  | .resetCmdSwitch q => reqOk q
  | .resetCmdOff q => reqOk q
  | .resetTakesEffect => true
  | .firmwareStart => true
  | .bootComplete => true
  | .discoveryCompare _ => true
  | .planNeighbourWrite q => reqOk q
  | .releasePort q => reqOk q
  | .remapClear q => reqOk q
  | .badOpcode q _ => reqOk q
  | .responseExpiry _ => true
  | .checkerLock _ _ _ _ _ => true
  | .hostPortDown => true
  | .inputBackInRange _ => true
  | .overtempRecovered => true

end Sys2Proof
end

