-- ==== Sys2Proof/Tests/Slice0.lean ====
section
/-! SUPPORT. Small checks of the model: ill-formed terms that WellFormed refuses, worked values of the manual, and for every
statement with hypotheses a state that meets them. -/

open Sys2Proof Sys2Proof.Machine

namespace Sys2Proof.Tests

set_option Elab.async false

/-! ## States and requests that the checks use -/

/-- A booted device at tick 1,000,000. -/
def booted : State := { State.reset with tick := 1000000, power := { bootStage := 3 } }

/-- A request from one host on the T1S path, and the same in an OWNER session. -/
def rq : Req := ⟨.t1s, 1, 29420, 2, 5, 0, 0, 0, 0, []⟩
def rqO : Req := { rq with session := 7 }

/-- The booted device with that session open. -/
def owned : State := { booted with mgmt := { sessions := [⟨7, .t1s, 1, .owner, 1000000⟩] } }

/-- The device that serves a request. -/
def srv (s : State) (q : Req) : Dev := (s.toDev.received q.path).useSession q

/-- The booted device with port 3 as given, and with lane 1 of an UP port 3 as given. -/
def withPort3 (x : PortSt) : State := { booted with ports := [(3, x)] }
def good : LaneSt := { state := .active, rate := 2, los := false, lol := false }
def upPort : PortSt := { state := .up, since := 5, lane0 := good, lane1 := good, lane2 := good, lane3 := good }
def withLane1 (x : LaneSt) : State := withPort3 { upPort with lane1 := x }
def up : State := withPort3 upPort

/-- A cell of a type, with its payload's first bytes. -/
def cellOf (t : Nat) (pay : List Byte) : Cell := mkLinkCell t 0 pay


/-- What holds of everything in a list that is empty. -/
theorem none_in {α : Type} {P : α → Prop} {l : List α} (h : l = []) : ∀ x ∈ l, P x := by
  subst h; intro x hx; cases hx
/-- What holds of the content of an option that is none. -/
theorem none_some {α : Type} {P : α → Prop} {x : Option α} (h : x = none) : ∀ a, x = some a → P a := by
  intro a ha; rw [h] at ha; cases ha

/-- Whichever lane a port picks, it is one of the four. -/
theorem sends_any {s : State} {p : Nat} (h : ∀ l : Lane, s.txIdle p l = false) : s.txIdle p (s.pickLane p) = false := h _

/-- The state after a step. -/
def after (o : Host.Outcome State Fault Refusal) : State :=
  match o with
  | .next t => t
  | _ => booted

/-- A device with two taken snapshots, and one that sleeps in IDLE, has filled its bark log, has answered, is open for a
segmented transfer, or has its host port up. -/
def shot : State := { booted with shadows := [⟨1, 9, true, booted.toDev⟩, ⟨2, 10, true, booted.toDev⟩] }
def idle : State := { booted with power := { bootStage := 3, sleep := .idle } }
def aBark : BarkMsg := ⟨0x0101, .corrected, 0, 0, false, 0, 0⟩
def many : State := { booted with sentry := { log := List.replicate 64 ⟨1, aBark⟩ } }
def answered : State := { booted with mgmt := { cache := [⟨⟨.t1s, 1, 29420, 5⟩, opREAD, 0, 0, 0, [7], 999999⟩] } }
def handling (h : Handle) : State := { booted with mgmt := { handles := [h] } }
def hosted : State := { booted with regs := [(E.HOST_MODE, 1)] }

theorem longFrame : 4200 < (List.replicate 4201 (0 : Byte)).length := by
  rw [List.length_replicate]; decide
/-- A signature made outside the model: RSASSA-PSS with a salt of zeros, by the prime modulus 2^3072 - 1103717, over
nonce 1, serial number 0 and the vendor scope. -/
def proof : Nat :=
  0xa4922e0ba9cfe72dc77a50bbe46633a901a17b4f55c3d2c969fd7e0e8d9960f9ce760ade4b35da4d4a9f4d56cc6b1776 * 2 ^ 2688 +
  0x91f07fc52f18797f0c204aca9dd6c9595673802763e7d857059f01059b787501a708d8110ab40b62870f1c568387cbd6 * 2 ^ 2304 +
  0x2ab0597526f7e420dd11c45b390bcc5801d47d12b936b758f05509c58904e9d313312c86932cca83cc486d82c053d34b * 2 ^ 1920 +
  0xb0769abc6525a46a379d03e16718d0a04a01c1cc6b14f11747444885d3fcc59ba2287b735f5e8eefa046f0e4c87ecec2 * 2 ^ 1536 +
  0x2bac4e4e664d36e55d95510c79be929277d74d43b3a492f4396dbaf92f58feb9b8dd93bba42c1aec10cc85135b6facfb * 2 ^ 1152 +
  0x18218d1e17be3cf32e43434e3a958ccbe798d634222d3ea2d9ddcc90eaa89b08db98797db4bc8419593c5b5e6f861264 * 2 ^ 768 +
  0x6f3234e46ebc9adfa83e745657468db5288325b880eb740ed0eda0319d653491d3da1fde0c8113eab68b4ad2d46b7e2b * 2 ^ 384 +
  0x36c59db20d42bccf239b4e6416e32284322612b7ea8948385e891182edeefb0507b346e9d5d3f6daf766aad65c2597fc * 2 ^ 0

/-- A device that holds that key and waits for the answer to nonce 1; and the same with four sessions open. -/
def signed : State :=
  { booted with
    mfg := { vendorModulus := beBytes 384 (2 ^ 3072 - 1103717), vendorKeyHash := sha256 (beBytes 384 (2 ^ 3072 - 1103717)) }
    mgmt := { nonces := [⟨.t1s, 1, .vendor, 1, 1000000⟩] } }
def crowded : State :=
  { signed with mgmt := { signed.mgmt with sessions := List.replicate 4 ⟨9, .t1s, 2, .owner, 1000000⟩ } }
theorem at_rest (p : Nat) (l : Lane) : (booted.port p).handover = none ∧ (booted.lane p l).inject = none :=
  ⟨rfl, by fin_cases l <;> rfl⟩

/-- Port 3 in DETECT, IDENT or LANES; an optical module present at its site; UP without a fence.
Lanes that hold a watch, a low run or an injection. -/
def darkPort (x : PortState) : State := withPort3 { upPort with state := x, since := 0 }
def regs (l : List (Nat × Nat)) : State := { up with regs := l }
def lowLane : LaneSt := { good with lowSince := some 5 }
def handing (h : Handover) : State := withPort3 { upPort with handover := some h }
def linkC (pay : List Byte) : Cell := mkLinkCell tLink 0 pay
def pingC : Cell := mkCell (hdrTop tCtrl 5 0 0 0 0 + 2 ^ 14) []
def opticPort : State := { booted with regs := [(E.ELEC_CLASS 224, 1)], modules := [(0, { present := true })] }
def ready : LaneSt := { good with state := .train, rxReady := true, peerReady := true }

/-- A state in an OWNER session; descriptors of a chain that clips a group and of one with momentum at address 0; the
device with one pack ACTIVE, with a context of it in COLLECT, with a stateful chain whose first slot is COMMITTED at step
5; a program of one END. -/
def own (s : State) : State := { s with mgmt := { s.mgmt with sessions := [⟨7, .t1s, 1, .owner, 1000000⟩] } }
def clipDesc : List Byte :=
  [1, 0, 0, 0, 1, 0, 0, 1, 0, 0, 0, 0, 0, 0, 0x80, 0x3F] ++ List.replicate 48 0 ++
  [1, 1, 0, 0, 0, 0, 0, 0, 0, 0, 0, 0, 0, 0, 0x80, 0x3F] ++ List.replicate 48 0
def momDesc : List Byte := [1, 0, 0, 0, 1, 0, 0, 1] ++ List.replicate 56 0 ++ [2] ++ List.replicate 63 0
def withMem (l : List Byte) : State := { up with mem := memPut [] 0 l }
def packed : State := { up with packs := [(5, ⟨[0], 0, 8, 0⟩)] }
def collecting : State := { packed with ctxs := [(0, { pack := 5, state := .collect })] }
def stepped : State := { withMem [5, 0, 0, 0, 0, 0, stCOMMITTED] with chains := [(0, { desc := momDesc })] }
def clipping : State :=
  { collecting with
    chains := [(0, { desc := clipDesc })]
    ctxs := [(0, { pack := 5, state := .collect, record := some { fused := 1 } })] }
def endProg : List Byte := [1, 0, 0, 0, 1, 0, 0, 0, 0, 0, 0, 0]
def progDesc : List Byte := clipDesc.take 64 ++ [9, 0, 0, 0, 0, 0, 0, 0, 1, 0, 0, 0] ++ List.replicate 52 0

/-- A cell whose lifetime has run out, and one to another plane. -/
def oldC : Cell := mkCell (hdrTop tCtrl 5 0 0 0 57 + 2 ^ 14) []
def farC : Cell := mkCell (hdrTop tCtrl 5 0 0 0 0 + (2 ^ 20 - 1) * 2 ^ 42) []

/-- A rack: ports 3 and 4 lead to endpoints and are the members of pack 5, whose contexts are 0 and 1; a START, its record,
and context 0 in COLLECT with the record; the same pack over two racks of a row, this one rack 0, port 7 toward rack 16. -/
def ident (k : Nat) : List Byte := List.replicate 16 0 ++ beBytes 1 k ++ List.replicate 47 0
def rack : State :=
  { booted with
    ports := [(3, upPort), (4, upPort)]
    blobs := [(E.PEER_IDENT 3, ident 1), (E.PEER_IDENT 4, ident 1)]
    packs := [(5, ⟨[0, 1], 0, 24, 0⟩)] }
def collC (t : Nat) (pay : List Byte) : Cell := mkColl t cCUP 0 0 0 5 0 0 0 0 0 pay
def startC : Cell := collC tStart [1, 1, 1, 0x40, 0, 0, 0, 0, 16]
def rec5 : CollRec := startRecord startC
def opened (x : Ctx) : State := { rack with ctxs := [(0, x)] }
def ctx5 : Ctx := { pack := 5, state := .collect, record := some rec5, validated := [4] }
def both5 : Ctx := { ctx5 with validated := [3, 4] }
def withChunk (z : Chunk) : Ctx := { both5 with chunks := [(0, z)] }
def heelC (kind : Byte) : Cell := mkCtl tCtrl 0 0 0x10 0 [0, 5, 0, 0, 0, 0, 0, 0, 0, 0, kind]
def heel5 (kind step : Nat) : CollRec := { heel := true, collType := 6, step := step, kind := kind }
def spans (x : Ctx) : State :=
  { rack with
    regs := [(E.PLAN_NX, 2), (E.PLAN_NY, 1)]
    blobs := tset (tset ((E.PEER_IDENT 7, ident 2) :: rack.blobs) (E.HIER_RECORD 1) ([0, 3, 0, 1] ++ List.replicate 12 0 ++ [2] ++ List.replicate 15 0 ++ [2] ++
      List.replicate 239 0)) (groupKey 0) ([0x80] ++ List.replicate 131 0)
    packs := [(5, ⟨[0, 1], 0, 24, 1⟩)]
    ctxs := [(0, x)] }

/-- A PROMO payload with no promoted element; a product of no element, a START and a CTRL cell as they stand in memory; a
device with one action queued and such bytes at address 0. -/
def promoPay : List Byte := []
def emptyProduct : List Byte :=
  [1, 6, 6, 1, 0, 3, 0, 0, 1, 0, 0, 0, 1, 0, 0, 0, 1] ++ List.replicate 79 0
def injectBytes : List Byte := cellBytes startC
def sendBytes : List Byte := cellBytes (mkCtl tCtrl 0 0 0x40 0 [])
def withAct (a : Machine.Action) (l : List Byte) : State := { rack with actions0 := [a], mem := memPut [] 0 l }

/-- A device with queue pair 3 in RTS and window 0 open at rkey 7, of an access kind; a packet to it; the device once the
packet has been counted. -/
def rtsQp (x : Qp) (kind : Nat) : State :=
  { up with
    regs := [(E.HOST_MODE, 1), (E.WIN_ACCESS 0, kind), (E.WIN_RKEY 0, 7), (E.WIN_LENGTH 0, 4096)]
    qps := [(3, x)] }
def rts : State := rtsQp { state := 1 } 3
def bridged : State := { rts with regs := (E.QP_KIND 3, 1) :: rts.regs }
def msg (pay : List Byte) : RoceMsg :=
  { qp := 3, psn := 0, first := true, last := true, ackReq := false, rkey := 7, va := 0, dmaLen := 8, syndrome := 0,
    ecn := false, icrcOk := true, invalid := false, payload := pay }
abbrev counted (s : State) (m : RoceMsg) : Dev := (s.toDev.count E.HOST_FRAMES).cnpFor m
def asked : QpReq := { op := 0x0C, use := .dma 2, dmaLen := 8 }
def sentQp (x : Qp) : State := rtsQp { x with state := 1, sent := [asked] } 3
/-- A DMA channel that runs a descriptor of an operation; interrupt group 1 with source 16 marked, its delivery by way. -/
def chan (x : DmaCh) : State := { up with dma := [(3, x)] }
def copying : DmaCh := { state := .running, started := true, desc := 1 :: List.replicate 63 0 }
def marked (way : Nat) : State :=
  { booted with ints := { marked := 65536, pending := 65536, enable := 65536 }, regs := [(E.DELIVERY 1, way)] }
def sampled : State := { booted with tele := { tileQueues := [(2, [[1], [2]])] } }
def mapping (t : Nat) : State := { booted with tele := { map0 := { active := true, start := t } } }
def noRetry (x : Qp) : State := { sentQp x with regs := (E.RNR_RETRY 3, 2) :: (sentQp x).regs }
def ddOne : List Byte := [1, 0, 0, 0, 0, 0, 0, 0, 4] ++ List.replicate 55 0
def ddSum : List Byte := [1, 2] ++ List.replicate 62 0

/-- The bridge holds 4,096 records. -/
def fullBridge : State := { bridged with bridge := List.replicate 4096 ⟨3, 0, 0, 0, 0, [], 0, none⟩ }
theorem fullBridge_holds {n : Nat} (h : 0 < n) : 4096 < fullBridge.toDev.bridge.length + n := by
  have e : fullBridge.toDev.bridge.length = 4096 := List.length_replicate
  omega

/-- A device in a sleep, boot or power state; ports in IDENT with an identity received. -/
def inPower (p : Power) : State := { booted with power := p }
def running : Power := { bootStage := 3 }
def identOf (kind levels : Nat) : List Byte := List.replicate 16 0 ++ beBytes 1 kind ++ beBytes 1 levels ++ List.replicate 46 0
def comparing (l : List (Nat × List Byte)) (ps : List (Nat × PortSt)) : State := { booted with ports := ps, blobs := l }
def named (t : Nat) : PortSt := { upPort with state := .ident, firstIdent := some t }
def planOf (k : Nat) : List Byte := List.replicate 16 0 ++ beBytes 1 k ++ List.replicate 7 0
theorem alone {s : State} {p : Nat} (h : ∀ q, q < 256 → q ≠ p → s.toDev.awaitsVerdict q = false) :
    ∀ q a b, q < 256 → q ≠ p → s.toDev.awaitsVerdict q = true → (s.port q).firstIdent = some a →
      (s.port p).firstIdent = some b → b < a ∨ b = a ∧ p < q := by
  intro q a b hq hn hw
  rw [h q hq hn] at hw; cases hw

/-- Whichever core reads a descriptor (log entry 134), LOAD takes the one at address 0. -/
theorem load_any :
    ((srv (withMem clipDesc) rq).chainLoad ((srv (withMem clipDesc) rq).reg E.CHAIN_SLOT)).1 = none := by
  have e : (srv (withMem clipDesc) rq).chain ((srv (withMem clipDesc) rq).reg E.CHAIN_SLOT) = {} := by decide +kernel
  unfold Dev.chainLoad
  rw [e]
  dsimp only
  rw [Dev.readMem_unarmed rfl rfl (by decide +kernel)]
  dsimp only
  rw [Dev.readMem_unarmed rfl rfl (by decide +kernel)]
  decide +kernel
/-- The start of a frame on the host path with a dictionary request to the port's link-local address. -/
def served : List Byte :=
  List.replicate 12 0 ++ [0x86, 0xDD] ++ List.replicate 6 0 ++ [17] ++ List.replicate 17 0 ++ linkLocal 0 ++ [0, 0] ++ beBytes 2 29420

/-! ## Ill-formed commands -/

/-- Bytes beyond every 2-byte length, and beyond the host port's frames. -/
def long : List Byte := List.replicate 65536 0
theorem long_length : long.length = 65536 := List.length_replicate

/-- A payload beyond the 2-byte LENGTH of R46. -/
theorem test_illFormed_request : WellFormed (.read { rq with payload := long }) = false := by
  show decide (long.length ≤ 65535) = false
  rw [long_length]; rfl

/-- A cell without its 64 payload bytes (R115). -/
theorem test_illFormed_cell : WellFormed (.laneReady 3 ⟨0, []⟩) = false := by decide

/-- Bytes that are no cell's 80 (R115). -/
theorem test_illFormed_cellBytes : WellFormed (.cellReceive 3 0 [1, 2]) = false := by decide

/-- A packet longer than the host port's frames (R478). -/
theorem test_illFormed_packet :
    WellFormed (.rdmaWrite ⟨0, 0, true, true, true, 0, 0, 0, 0, false, true, false, long⟩) = false := by
  show decide (long.length ≤ 4096) = false
  rw [long_length]; rfl

/-- A datagram longer than its length field. -/
theorem test_illFormed_frame : WellFormed (.badFrames .t1s long) = false := by
  show decide (long.length ≤ 65535) = false
  rw [long_length]; rfl

/-- A host frame longer than that. -/
theorem test_illFormed_hostFrame : WellFormed (.hostDrops long) = false := by
  show decide (long.length ≤ 65535) = false
  rw [long_length]; rfl

/-- A crossbar port that S-die 1 lacks (R164), as a source and as an owner. -/
theorem test_illFormed_source : WellFormed (.startCell (.internal 1 133) (mkCell 0 [])) = false := by decide
theorem test_illFormed_owner : WellFormed (.allocate 1 .shr 134) = false := by decide

/-- A rail that R601 does not name. -/
theorem test_illFormed_rail : WellFormed (.railFault 7 0) = false := by decide

/-- A bark of no kind of R525 to R527. -/
theorem test_illFormed_bark : WellFormed (.bark (some ⟨0x0103, .corrected, 0, 0, false, 0, 0⟩)) = false := by decide

/-! ## Worked values of the manual -/

/-- The check string of R116. -/
theorem test_crc32c : crc32c [0x31, 0x32, 0x33, 0x34, 0x35, 0x36, 0x37, 0x38, 0x39] = 0xE3069283 := by decide +kernel

/-- The check string of R269. -/
theorem test_crc64 : crc64 [0x31, 0x32, 0x33, 0x34, 0x35, 0x36, 0x37, 0x38, 0x39] = 0x6C40DF5F0B497347 := by decide +kernel

/-- The header of the DATA cell that the link layer's text works out. -/
theorem test_header :
    (cellBytes ((mkColl tData cCUP 2 1 0x15 0x02A 5 0x0100 0x00010 0 0x00 []).setFld 62 14 0x0123)).take 12 =
      [0xA6, 0xA1, 0x50, 0x48, 0xC2, 0xA1, 0x40, 0x40, 0x00, 0x00, 0x40, 0x00] := by decide +kernel

/-- The worked residue check: member A, member B and the rounded result, from their BF16 codes. -/
theorem test_residues :
    residueList ([0x3FC0, 0xC000, 0x4040].map (fun v => (widen eBF16 v).a)) = 0x1238E4000000 ∧
    residueList ([0x3B80, 0x3E80, 0xBF80].map (fun v => (widen eBF16 v).a)) = 0x1FFFF9DBCB27FFFF ∧
    residueList ([0x3FC0, 0xBFE0, 0x4000].map (fun v => (widen eBF16 v).a)) = 0xC14AE000000 := by decide +kernel

/-- Its sums, rounded to BF16 by RNE (R257, R258). -/
theorem test_rounding :
    [385, -448, 512].map (fun k : Int => (convert eBF16 0 0 false ⟨.finite, k * 2 ^ 141⟩).bits) = [0x3FC0, 0xBFE0, 0x4000] := by
  decide +kernel

/-- The packed exact form of the same three values. -/
theorem test_packed :
    (packedPayload 0 ([385, -448, 512].map (fun k : Int => ⟨.finite, k * 2 ^ 141⟩))).take 11 =
      [0x00, 0x00, 0x00, 0x30, 0x5A, 0x34, 0x30, 0x39, 0x01, 0x00, 0x00] := by decide +kernel

/-- EXP of 1.0. -/
theorem test_exp : exp32 0x3F800000 = 0x402DF854 := by decide +kernel

/-- The worked time exchange: one sample of −76 units. -/
theorem test_timeSample :
    let s := { booted with time := { seq := 1, t1 := some 256000000 }, regs := [(E.TIME_PARENT_PORT, 3)] }
    let c := mkCtl tCtrl 0 0 0x40 0 (timePayload 2 1 256000000 256016100 256016612 (2 ^ 64 - 20))
    let r := after (exec (.timeXferAnswer 3 c 256032600) s)
    let t := r.time
    t.samples = [-76] ∧ t.delay = 16044 ∧ r.timeAligned = false := by decide +kernel

/-- The fault of an outcome. -/
def faultOf (o : Host.Outcome State Fault Refusal) : Option Fault :=
  match o with
  | .fault f => some f
  | _ => none

/-- A further instruction of the test port, once debug is open, is a fault (R589). -/
theorem test_debugInstruction :
    faultOf (exec (.testPortInstruction (.other 0x33)) { booted with debugOpen := true }) = some .debugInstruction := by
  decide +kernel

/-- The command at the front runs, the next waits. -/
theorem test_stepOrder :
    (after (step { booted with pending := [.holdoverOn, .epochFlip] })).pending = [.epochFlip] ∧
    (after (step { booted with pending := [.holdoverOn, .epochFlip] })).power.holdover = true := by decide +kernel

/-! ## Every statement has states that meet its hypotheses -/

/-- The hypotheses of EmptyQueueTicks are met, clause by clause. -/
theorem test_meetsEmptyQueueTicks :
    (∃ (s : State), s.pending = [] ∧ s.power.off = true) ∧
    (∃ (s : State), s.pending = [] ∧ s.power.off = false ∧ s.arrivals = [] ∧ s.sentry.reports = [] ∧ s.tele.arm = none
       ∧ s.heldCells = [] ∧ s.power.wakePorts = [] ∧ (∀ (p : Nat) (l : Lane), (s.port p).handover = none ∧ (s.lane p
       l).inject = none)) :=
  ⟨⟨{ booted with power := { off := true } }, by decide +kernel⟩,
   ⟨booted, by decide +kernel, by decide +kernel, by decide +kernel, by decide +kernel, by decide +kernel, by
      decide +kernel, by decide +kernel, at_rest⟩⟩

/-- The hypotheses of StepTakesOneCommand are met, clause by clause. -/
theorem test_meetsStepTakesOneCommand :
    (∃ (s : State) (t : State), step s = .next t) :=
  ⟨booted, after (step booted), rfl⟩

/-- The hypotheses of StepKeepsAtMostTwoSnapshots are met, clause by clause. -/
theorem test_meetsStepKeepsAtMostTwoSnapshots :
    (∃ (s : State) (t : State), s.shadows.length ≤ 2 ∧ step s = .next t) :=
  ⟨shot, after (step shot), by decide +kernel, rfl⟩

/-- The hypotheses of TakenSnapshotsStay are met, clause by clause. -/
theorem test_meetsTakenSnapshotsStay :
    (∃ (s : State) (t : State) (x : ShadowSet), x ∈ s.shadows ∧ x.taken = true ∧ step s = .next t) :=
  ⟨shot, after (step shot), ⟨1, 9, true, booted.toDev⟩, List.mem_cons_self .., by decide +kernel, rfl⟩

/-- The hypotheses of AcceptedWritesApply are met, clause by clause. -/
theorem test_meetsAcceptedWritesApply :
    (∃ (i : Instr) (s : State) (q : Req) (k : Nat) (pl : List Byte) (role : Option Scope) (d : Dev) (d1 : Dev),
       writeOf i = some (q, k, pl) ∧ s.mayWrite q k pl role d ∧ d.tryWrite s.shadows false q.session (k / 256) (k % 256)
       pl = (none, d1)) :=
  ⟨.write { rq with index := 0x2000, sub := 2, payload := [0x20] }, booted,
    { rq with index := 0x2000, sub := 2, payload := [0x20] }, E.MARGIN_LOW, [0x20], none, srv booted rq, (srv booted
    rq).setReg E.MARGIN_LOW 0x20, by decide +kernel⟩

/-- The hypotheses of RefusedWritesAnswerTheirStatus are met, clause by clause. -/
theorem test_meetsRefusedWritesAnswerTheirStatus :
    (∃ (i : Instr) (s : State) (q : Req) (k : Nat) (pl : List Byte) (role : Option Scope) (d : Dev) (st : _) (d1 : _),
       writeOf i = some (q, k, pl) ∧ s.mayWrite q k pl role d ∧ d.tryWrite s.shadows false q.session (k / 256) (k % 256)
       pl = (some st, d1)) ∧
    (∃ (i : Instr) (s : State) (q : Req) (k : Nat) (pl : List Byte) (role : Option Scope) (d : Dev) (st : _), writeOf
       i = some (q, k, pl) ∧ s.asks opWRITE (q.at k pl) role d ∧ d.refuseAccess role q.path true (k / 256) (k % 256) =
       some st) ∧
    (∃ (i : Instr) (s : State) (q : Req) (k : Nat) (pl : List Byte) (role : Option Scope) (d : Dev), writeOf i = some
       (q, k, pl) ∧ s.asks opWRITE (q.at k pl) role d ∧ vendorIndex (k / 256) = false ∧ d.refuseAccess role q.path true
       (k / 256) (k % 256) = none ∧ d.waitsFor (k / 256) (k % 256) = true) :=
  ⟨⟨.write { rq with index := 0x2000, sub := 2, payload := [1, 2] }, booted,
      { rq with index := 0x2000, sub := 2, payload := [1, 2] }, E.MARGIN_LOW, [1, 2], none, srv booted rq, .badLength,
      srv booted rq, by decide +kernel⟩,
   ⟨.write { rq with index := 0x1010, sub := 1, payload := [0] }, booted,
      { rq with index := 0x1010, sub := 1, payload := [0] }, 0x101001, [0], none, srv booted rq, .accessDenied, by
      decide +kernel⟩,
   ⟨.bankRetire { rq with payload := [0] }, idle, { rq with payload := [0] }, E.BANK_RETIRE, [0], none, srv idle rq,
      by decide +kernel⟩⟩

/-- The hypotheses of ReadAnswersTheValue are met, clause by clause. -/
theorem test_meetsReadAnswersTheValue :
    (∃ (s : State) (q : Req) (role : Option Scope) (d : Dev), s.asks opREAD q role d ∧ d.refuseAccess role q.path
       false q.index.toNat q.sub.toNat = none ∧ d.waitsFor q.index.toNat q.sub.toNat = false ∧ d.refuseRead s.shadows
       q.index.toNat q.sub.toNat = none ∧ (d.readEntry s.shadows q.index.toNat q.sub.toNat).length ≤ payloadLimit
       q.version.toNat) ∧
    (∃ (s : State) (q : Req) (role : Option Scope) (d : Dev), s.asks opREAD q role d ∧ d.refuseAccess role q.path
       false q.index.toNat q.sub.toNat = none ∧ d.waitsFor q.index.toNat q.sub.toNat = false ∧ d.refuseRead s.shadows
       q.index.toNat q.sub.toNat = none ∧ payloadLimit q.version.toNat < (d.readEntry s.shadows q.index.toNat
       q.sub.toNat).length ∧ d.mgmt.handles.length < 8) :=
  ⟨⟨booted, { rq with index := 0x2000, sub := 2 }, none, srv booted rq, by decide +kernel⟩,
   ⟨many, { rq with index := 0x7010, sub := 1 }, none, srv many rq, by decide +kernel⟩⟩

/-- The hypotheses of RepeatedRequestsAreNotExecuted are met, clause by clause. -/
theorem test_meetsRepeatedRequestsAreNotExecuted :
    (∃ (i : Instr) (s : State) (op : Nat) (q : Req) (c : Cached), requestOf i = some (op, q) ∧ op ≠ opNOTIFYACK ∧
       s.heard.hears q ∧ (s.heard.received q.path).mgmt.cache.find? (fun c => c.same op q) = some c) :=
  ⟨.read rq, answered, opREAD, rq, ⟨⟨.t1s, 1, 29420, 5⟩, opREAD, 0, 0, 0, [7], 999999⟩, by decide +kernel⟩

/-- The hypotheses of SegmentedTransfers are met, clause by clause. -/
theorem test_meetsSegmentedTransfers :
    (∃ (s : State) (q : Req) (role : Option Scope) (d : Dev) (h : Handle), s.asks opREADSEG q role d ∧
       q.payload.length = 2 ∧ d.handleOf q false = some h ∧ q.seg.toNat ≤ h.data.length / payloadLimit q.version.toNat) ∧
    (∃ (s : State) (q : Req) (role : Option Scope) (d : Dev), s.asks opWSEGSTART q role d ∧ q.payload.length = 4 ∧
       d.refuseAccess role q.path true q.index.toNat q.sub.toNat = none ∧ d.waitsFor q.index.toNat q.sub.toNat = false ∧
       0 < beNat q.payload ∧ beNat q.payload ≤ 65536 ∧ totalFits q.index.toNat q.sub.toNat (beNat q.payload) = true ∧
       d.mgmt.handles.length < 8) ∧
    (∃ (s : State) (q : Req) (role : Option Scope) (d : Dev) (h : Handle), s.asks opWSEG q role d ∧ d.handleOf q true
       = some h ∧ q.seg.toNat < h.count ∧ 2 ≤ q.payload.length ∧ q.payload.length - 2 = (if q.seg.toNat + 1 = h.count
       then h.total - 1022 * q.seg.toNat else 1022)) ∧
    (∃ (s : State) (q : Req) (role : Option Scope) (d : Dev) (d1 : Dev) (h : Handle) (v : List Byte), s.asks
       opWSEGCOMMIT q role d ∧ q.payload.length = 6 ∧ d.handleOf q true = some h ∧ h.staged (beNat (q.payload.drop 2)) =
       some v ∧ d.refuseAccess role q.path true h.index h.sub = none ∧ vendorIndex h.index = false ∧ d.waitsFor h.index
       h.sub = false ∧ (d.dropHandle h.id).refuseAccess role q.path true h.index h.sub = none ∧ (d.dropHandle
       h.id).waitsFor h.index h.sub = false ∧ (d.dropHandle h.id).tryWrite s.shadows false q.session h.index h.sub v =
       (none, d1)) :=
  ⟨⟨handling (⟨9, .t1s, 1, 29420, 1000000, false, 0x2000, 2, 3, [1, 2, 3], []⟩), { rq with payload := [0, 9] }, none,
      srv (handling (⟨9, .t1s, 1, 29420, 1000000, false, 0x2000, 2, 3, [1, 2, 3], []⟩)) rq, ⟨9, .t1s, 1, 29420, 1000000,
      false, 0x2000, 2, 3, [1, 2, 3], []⟩, by decide +kernel⟩,
   ⟨booted, { rq with index := 0x2000, sub := 2, payload := [0, 0, 0, 1] }, none, srv booted rq, by decide +kernel⟩,
   ⟨handling (⟨9, .t1s, 1, 29420, 1000000, true, 0x2000, 2, 1, [], []⟩), { rq with payload := [0, 9, 0x20] }, none,
      srv (handling (⟨9, .t1s, 1, 29420, 1000000, true, 0x2000, 2, 1, [], []⟩)) rq, ⟨9, .t1s, 1, 29420, 1000000, true,
      0x2000, 2, 1, [], []⟩, by decide +kernel⟩,
   ⟨handling (⟨9, .t1s, 1, 29420, 1000000, true, 0x2000, 2, 1, [], [(0, [0x20])]⟩),
      { rq with payload := [0, 9] ++ beBytes 4 (crc32c [0x20]) }, none, srv (handling (⟨9, .t1s, 1, 29420, 1000000,
      true, 0x2000, 2, 1, [], [(0, [0x20])]⟩)) rq, ((srv (handling (⟨9, .t1s, 1, 29420, 1000000, true, 0x2000, 2, 1, [],
      [(0, [0x20])]⟩)) rq).dropHandle 9).setReg E.MARGIN_LOW 0x20, ⟨9, .t1s, 1, 29420, 1000000, true, 0x2000, 2, 1, [],
      [(0, [0x20])]⟩, [0x20], by decide +kernel⟩⟩

/-- The hypotheses of SessionsOpenAndClose are met, clause by clause. -/
theorem test_meetsSessionsOpenAndClose :
    (∃ (s : State) (q : Req) (role : Option Scope) (d : Dev) (b : Byte) (sc : Scope), s.asks opCHALLENGE q role d ∧
       q.payload = [b] ∧ scopeOf b.toNat = some sc) ∧
    (∃ (s : State) (q : Req) (role : Option Scope) (d : Dev) (n : Nonce) (sc : Scope), s.asks opANSWER q role d ∧
       q.payload.length = 385 ∧ scopeOf (beNat (q.payload.take 1)) = some sc ∧ d.mgmt.nonces.find? (fun n => n.path =
       q.path && n.addr = q.addr) = some n ∧ n.scope = sc ∧ d.answerVerifies sc n.value (q.payload.drop 1) = true ∧
       d.mgmt.sessions.length < 4) ∧
    (∃ (s : State) (q : Req) (role : Option Scope) (d : Dev) (n : Nonce) (sc : Scope), s.asks opANSWER q role d ∧
       q.payload.length = 385 ∧ scopeOf (beNat (q.payload.take 1)) = some sc ∧ d.mgmt.nonces.find? (fun n => n.path =
       q.path && n.addr = q.addr) = some n ∧ n.scope = sc ∧ d.answerVerifies sc n.value (q.payload.drop 1) = true ∧ 4 ≤
       d.mgmt.sessions.length) ∧
    (∃ (s : State) (q : Req) (role : Option Scope) (d : Dev) (n : Nonce) (sc : Scope), s.asks opANSWER q role d ∧
       q.payload.length = 385 ∧ scopeOf (beNat (q.payload.take 1)) = some sc ∧ d.mgmt.nonces.find? (fun n => n.path =
       q.path && n.addr = q.addr) = some n ∧ (¬ (n.scope = sc ∧ d.answerVerifies sc n.value (q.payload.drop 1) = true))) ∧
    (∃ (s : State) (q : Req) (role : Option Scope) (d : Dev), s.asks opCLOSE q role d) :=
  ⟨⟨booted, { rq with payload := [1] }, none, srv booted rq, 1, .owner, by decide +kernel⟩,
   ⟨signed, { rq with payload := 2 :: beBytes 384 proof }, none, srv signed rq, ⟨.t1s, 1, .vendor, 1, 1000000⟩,
      .vendor, by decide +kernel⟩,
   ⟨crowded, { rq with payload := 2 :: beBytes 384 proof }, none, srv crowded rq, ⟨.t1s, 1, .vendor, 1, 1000000⟩,
      .vendor, by decide +kernel⟩,
   ⟨signed, { rq with payload := List.replicate 385 2 }, none, srv signed rq, ⟨.t1s, 1, .vendor, 1, 1000000⟩,
      .vendor, by decide +kernel⟩,
   ⟨booted, rq, none, srv booted rq, by decide +kernel⟩⟩

/-- The hypotheses of FramesWithoutARequest are met, clause by clause. -/
theorem test_meetsFramesWithoutARequest :
    (∃ (s : State) (q : Req), s.heard.hears q ∧ q.version = 2) ∧
    (∃ (s : State) (q : Req) (op : BitVec 8), s.heard.hears q ∧ opcodeOk q.version.toNat op.toNat = false ∧ (¬
       (op.toNat = opNOTIFYACK ∧ q.version = 2)) ∧ s.heard.unanswered op.toNat q) ∧
    (∃ (i : Instr) (s : State) (op : Nat) (q : Req), requestOf i = some (op, q) ∧ q.path = .host ∧ s.heard.listens
       .host = true ∧ s.heard.domainGated .host = false ∧ (s.heard.flag E.INBAND_ENABLE = false ∨ 4200 < q.frameLength)) ∧
    (∃ (s : State) (bytes : List Byte), s.toDev.listens .t1s = true ∧ parseFrame bytes = none) ∧
    (∃ (s : State) (bytes : List Byte), s.toDev.listens .host = true ∧ s.toDev.flag E.INBAND_ENABLE = true ∧
       s.toDev.domainGated .host = false ∧ parseFrame bytes = none) ∧
    (∃ (s : State) (p : Path), (p = .host → s.toDev.domainGated .host = false)) :=
  ⟨⟨booted, rq, by decide +kernel⟩,
   ⟨booted, rq, 0x55, by decide +kernel⟩,
   ⟨.read { rq with path := .host }, { hosted with regs := [(E.HOST_MODE, 1), (E.INBAND_ENABLE, 0)] }, opREAD,
      { rq with path := .host }, by decide +kernel, by decide +kernel, by decide +kernel, by decide +kernel, Or.inl (by
      decide +kernel)⟩,
   ⟨booted, [3], by decide +kernel⟩,
   ⟨hosted, [3], by decide +kernel⟩,
   ⟨booted, .host, by decide +kernel⟩⟩

/-- The hypotheses of NotifyRepeats are met, clause by clause. -/
theorem test_meetsNotifyRepeats :
    (∃ (s : State) (txn : BitVec 16) (dest : Fin 4) (n : Notify), s.mgmt.notifies.find? (fun n => n.txn = txn &&
       n.dest = dest) = some n ∧ n.sentAt + 2500000 ≤ s.tick ∧ s.toDev.listens .t1s = true ∧ n.repeats < 3 ∧
       s.toDev.notifyBlocked (destPath (beBytes 16 n.addr.toNat)) = false) ∧
    (∃ (s : State) (txn : BitVec 16) (dest : Fin 4) (n : Notify), s.mgmt.notifies.find? (fun n => n.txn = txn &&
       n.dest = dest) = some n ∧ n.sentAt + 2500000 ≤ s.tick ∧ s.toDev.listens .t1s = true ∧ (3 ≤ n.repeats ∨
       s.toDev.notifyBlocked (destPath (beBytes 16 n.addr.toNat)) = true)) :=
  ⟨⟨{ booted with tick := 2500000, mgmt := { notifies := [⟨1, 0, 0xFE80 <<< 112, 9, [1, 2], 0, 2⟩] } }, 1, 0, ⟨1, 0,
      0xFE80 <<< 112, 9, [1, 2], 0, 2⟩, by decide +kernel⟩,
   ⟨{ booted with tick := 2500000, mgmt := { notifies := [⟨1, 0, 0xFE80 <<< 112, 9, [1, 2], 0, 3⟩] } }, 1, 0, ⟨1, 0,
      0xFE80 <<< 112, 9, [1, 2], 0, 3⟩, by decide +kernel, by decide +kernel, by decide +kernel, Or.inl (by
      decide +kernel)⟩⟩

/-- The hypotheses of SegmentAndHostLinkEvents are met, clause by clause. -/
theorem test_meetsSegmentAndHostLinkEvents :
    (∃ (s : State) (p : Path) (target : BitVec 128), s.toDev.listens p = true ∧ (p = .host → s.toDev.domainGated .host
       = false) ∧ s.toDev.holdsAddr p target = true) ∧
    (∃ (s : State), s.toDev.listens .t1s = true) ∧
    (∃ (s : State), s.toDev.listens .t1s = true ∧ s.reg E.PLCA_COLLISIONS < 2 ^ 32 - 2) ∧
    (∃ (s : State), s.reg E.HOST_MODE ≠ 0) ∧
    (∃ (s : State) (l : List HostMode), s.toDev.domainOff .host = false ∧ s.toDev.fenced = false ∧ s.reg E.HOST_MODE =
       0 ∧ s.reg E.HOST_MAX_MODE ≠ 2 ∧ s.hostPort.only400 = false ∧ HostMode.cr4x800 ∈ l) ∧
    (∃ (s : State) (l : List HostMode), s.toDev.domainOff .host = false ∧ s.toDev.fenced = false ∧ s.reg E.HOST_MODE =
       0 ∧ (s.reg E.HOST_MAX_MODE = 2 ∨ s.hostPort.only400 = true ∨ HostMode.cr4x800 ∉ l) ∧ HostMode.cr4x400 ∈ l) ∧
    (∃ (s : State) (f : List Byte), s.toDev.hostUp = true ∧ s.toDev.domainGated .host = false ∧ 4200 < f.length) ∧
    (∃ (s : State) (q : QpNo), s.toDev.hostUp = true ∧ s.toDev.domainGated .host = false ∧ (s.qp q.val).state = 1 ∧ (∀
       a, (s.qp q.val).lastCnp = some a → a + 1250 ≤ s.tick)) ∧
    (∃ (s : State) (q : QpNo) (a : Nat), s.toDev.hostUp = true ∧ s.toDev.domainGated .host = false ∧ (s.qp
       q.val).state = 1 ∧ (s.qp q.val).lastCnp = some a ∧ s.tick < a + 1250) ∧
    (∃ (s : State) (q : QpNo), (s.qp q.val).lastRise + 1375 ≤ s.tick) ∧
    (∃ (s : State) (q : QpNo) (r : QpReq), (s.qp q.val).state = 1 ∧ (s.qp q.val).sent = [r] ∧ (s.qp q.val).sentAt +
       s.reg (E.RETRY_TICKS q.val) ≤ s.tick ∧ (s.qp q.val).retries < s.reg (E.RETRY_COUNT q.val) ∧ s.toDev.hostUp = true) ∧
    (∃ (s : State) (q : QpNo) (r : QpReq), (s.qp q.val).state = 1 ∧ (s.qp q.val).sent.head? = some r ∧ (s.qp
       q.val).sentAt + s.reg (E.RETRY_TICKS q.val) ≤ s.tick ∧ s.reg (E.RETRY_COUNT q.val) ≤ (s.qp q.val).retries) ∧
    (∃ (s : State) (q : QpNo), s.tick < (s.qp q.val).sentAt + s.reg (E.RETRY_TICKS q.val)) :=
  ⟨⟨booted, .t1s, BitVec.ofNat 128 (beNat (linkLocal 0)), by decide +kernel⟩,
   ⟨booted, by decide +kernel⟩,
   ⟨booted, by decide +kernel⟩,
   ⟨hosted, by decide +kernel⟩,
   ⟨booted, [.cr4x400, .cr4x800], by decide +kernel⟩,
   ⟨booted, [.cr4x400], by decide +kernel, by decide +kernel, by decide +kernel, Or.inr (Or.inr (by decide +kernel)),
      by decide +kernel⟩,
   ⟨hosted, List.replicate 4201 0, by decide +kernel, by decide +kernel, longFrame⟩,
   ⟨rts, 3, by decide +kernel, by decide +kernel, by decide +kernel, none_some rfl⟩,
   ⟨rtsQp { state := 1, lastCnp := some 998751 } 3, 3, 998751, by decide +kernel⟩,
   ⟨rts, 3, by decide +kernel⟩,
   ⟨sentQp { sentAt := 5 }, 3, asked, by decide +kernel⟩,
   ⟨sentQp { sentAt := 5, retries := 9 }, 3, asked, by decide +kernel⟩,
   ⟨sentQp { sentAt := 1000000 }, 3, by decide +kernel⟩⟩

/-- The hypotheses of DetectorEvents are met, clause by clause. -/
theorem test_meetsDetectorEvents :
    (∃ (s : State) (p : Port) (l : Lane), (s.lane p.val l).los = true) ∧
    (∃ (s : State) (p : Port) (l : Lane), (s.lane p.val l).lol = true) ∧
    (∃ (s : State) (p : Port), s.isModule p.val = true ∧ s.modulePresent p.val = false) ∧
    (∃ (s : State) (p : Port) (l : Lane), (s.port p.val).state ≠ .detect ∧ (s.port p.val).state ≠ .absent ∧
       (s.isModule p.val = false ∨ s.modulePresent p.val = true) ∧ l ≠ 0) ∧
    (∃ (s : State) (p : Port), (s.port p.val).state ≠ .detect ∧ (s.port p.val).state ≠ .absent ∧ (s.isModule p.val =
       false ∨ s.modulePresent p.val = true)) ∧
    (∃ (s : State) (p : Port) (l : Lane) (k : Lane), (s.lane p.val l).state = .active ∧ (s.port p.val).striping ≠ [l]
       ∧ k ≠ l ∧ (s.lane p.val k).los = false ∧ l ≠ 0 ∧ (s.lane p.val l).los = false ∧ s.reg (E.LOS_EVENTS p.val l.val)
       < 0xFFFFFFFE) ∧
    (∃ (s : State) (p : Port) (l : Lane) (k : Lane), (s.lane p.val l).state = .active ∧ (s.port p.val).striping ≠ [l]
       ∧ k ≠ l ∧ (s.lane p.val k).los = false ∧ (s.lane p.val l).lol = false ∧ s.reg (E.LOL_EVENTS p.val l.val) <
       0xFFFFFFFE) ∧
    (∃ (s : State) (p : Port), (s.lane p.val 0).los = false ∧ (s.port p.val).state = .up ∧ s.queuedTo p.val = false ∧
       (∀ k ∈ (s.port p.val).kept, k.slot = none) ∧ s.ctxs = []) :=
  ⟨⟨withLane1 { good with los := true }, 3, 1, by decide +kernel⟩,
   ⟨withLane1 { good with lol := true }, 3, 1, by decide +kernel⟩,
   ⟨booted, 224, by decide +kernel⟩,
   ⟨up, 3, 1, by decide +kernel⟩,
   ⟨up, 3, by decide +kernel⟩,
   ⟨up, 3, 1, 2, by decide +kernel⟩,
   ⟨up, 3, 1, 2, by decide +kernel⟩,
   ⟨up, 3, by decide +kernel⟩⟩

/-- The hypotheses of MarginAndPeaking are met, clause by clause. -/
theorem test_meetsMarginAndPeaking :
    (∃ (s : State) (p : Port) (l : Lane) (u : BitVec 16), s.tick % 256 = 0 ∧ (s.lane p.val l).state ≠ .off ∧ (s.lane
       p.val l).lol = false ∧ s.reg (E.FEC_UNCORR_CW p.val l.val) + u.toNat < 0xFFFFFFFF) ∧
    (∃ (s : State) (p : Port) (l : Lane) (w : PeakWatch), (s.lane p.val l).watch = some w ∧ w.start + s.reg
       E.PEAK_WATCH_TICKS ≤ s.tick) ∧
    (∃ (s : State) (p : Port) (l : Lane) (t0 : Nat), (s.lane p.val l).goodSince = some t0 ∧ t0 + 25000 ≤ s.tick ∧
       (s.lane p.val l).state = .active ∧ (s.lane p.val l).rate = 2) ∧
    (∃ (s : State) (p : Port) (l : Lane) (b : Nat), (s.port p.val).peakBase = some b ∧ s.tick < b + (if l = 0 then
       s.reg E.PEAK_PERIOD_TICKS else l.val * s.reg E.PEAK_PERIOD_TICKS / 4)) ∧
    (∃ (s : State) (p : Port) (l : Lane) (x : PortSt), (s.port p.val).beginPeriod l (s.reg E.PEAK_PERIOD_TICKS) s.tick
       = some x ∧ s.flag E.PEAK_ADAPT = true ∧ (x.lane l).state = .active ∧ x.handover = none ∧ (x.lane l).trialEnd =
       none ∧ (x.lane l).watch = none ∧ (∀ up, (x.lane l).peakOpen up = false)) ∧
    (∃ (s : State) (p : Port) (l : Lane) (x : PortSt), (s.port p.val).beginPeriod l (s.reg E.PEAK_PERIOD_TICKS) s.tick
       = some x ∧ s.flag E.PEAK_ADAPT = true ∧ (x.lane l).state = .active ∧ x.handover = none ∧ (x.lane l).trialEnd =
       none ∧ (x.lane l).watch = none ∧ (x.lane l).lastUp = none ∧ (x.lane l).blockUp = 0 ∧ (x.lane l).peak < 31) :=
  ⟨⟨{ up with tick := 1000192 }, 3, 1, 1, by decide +kernel⟩,
   ⟨withLane1 { good with watch := some ⟨5, ⟨1, .mainCursor⟩, 3, 0, true, 0⟩ }, 3, 1, ⟨5, ⟨1, .mainCursor⟩, 3, 0,
      true, 0⟩, by decide +kernel⟩,
   ⟨withLane1 { good with goodSince := some 5 }, 3, 1, 5, by decide +kernel⟩,
   ⟨withPort3 { upPort with peakBase := some 1000000 }, 3, 1, 1000000, by decide +kernel⟩,
   ⟨{ withPort3 { upPort with peakBase := some 5, lane1 := { good with blockUp := 3, blockDown := 3 } } with regs := [(E.PEAK_ADAPT, 1)] },
      3, 1,
      { upPort with peakBase := some 5, lane1 := { good with blockUp := 3, blockDown := 3, periodAt := some (5 + 1 * booted.reg E.PEAK_PERIOD_TICKS / 4) } },
      by decide +kernel⟩,
   ⟨{ withPort3 { upPort with peakBase := some 5 } with regs := [(E.PEAK_ADAPT, 1)] }, 3, 1,
      { upPort with peakBase := some 5, lane1 := { good with periodAt := some (5 + 1 * booted.reg E.PEAK_PERIOD_TICKS / 4) } },
      by decide +kernel⟩⟩

/-- The hypotheses of RateHandOverRequests are met, clause by clause. -/
theorem test_meetsRateHandOverRequests :
    (∃ (s : State) (p : Port) (l : Lane) (t0 : Nat), (s.port p.val).state = .up ∧ (s.port p.val).handover = none ∧
       (s.port p.val).sleepTs = none ∧ s.power.sleep ≠ .entering ∧ s.reg (E.FABRIC_LEVEL p.val) ≠ 2 ∧ (s.port
       p.val).striping ≠ [l] ∧ (s.lane p.val l).state = .active ∧ (s.lane p.val l).rate = 2 ∧ (s.lane p.val l).askOff =
       false ∧ s.flag E.LANE_AUTO_RATE = true ∧ s.moduleBoth p.val = true ∧ (s.lane p.val l).lowSince = some t0 ∧ t0 +
       s.reg E.DROP_HOLD_TICKS ≤ s.tick ∧ (s.lane p.val l).retryAt = none) ∧
    (∃ (s : State) (p : Port) (l : Lane) (t0 : Nat) (r : _), (s.port p.val).state = .up ∧ (s.port p.val).handover =
       none ∧ (s.port p.val).sleepTs = none ∧ s.power.sleep ≠ .entering ∧ s.reg (E.FABRIC_LEVEL p.val) ≠ 2 ∧ (s.port
       p.val).striping ≠ [l] ∧ (s.lane p.val l).state = .active ∧ (s.lane p.val l).rate = 2 ∧ (s.lane p.val l).askOff =
       false ∧ s.flag E.LANE_AUTO_RATE = true ∧ s.moduleBoth p.val = true ∧ (s.lane p.val l).lowSince = some t0 ∧ t0 +
       s.reg E.DROP_HOLD_TICKS ≤ s.tick ∧ (s.lane p.val l).retryAt = some r ∧ r ≤ s.tick) ∧
    (∃ (s : State) (p : Port) (h : Handover) (t0 : Nat), (s.port p.val).handover = some h ∧ h.sendAt = some t0 ∧
       s.tick < t0) ∧
    (∃ (s : State) (p : Port) (h : Handover) (t0 : Nat), (s.port p.val).handover = some h ∧ h.sendAt = some t0 ∧ t0 ≤
       s.tick ∧ s.canSend p.val = true ∧ (s.port p.val).kept.length < 1024 ∧ s.fenced = false ∧ s.txIdle p.val
       (s.pickLane p.val) = false) ∧
    (∃ (s : State) (p : Port) (h : Handover), (s.port p.val).handover = some h ∧ h.initiator = true ∧ h.accepted =
       false ∧ s.peerSerial p.val < s.ownSerial) ∧
    (∃ (c : Cell), targetOf (c.pay 1 1) = none) ∧
    (∃ (s : State) (p : Port) (c : Cell) (g : RateTarget), targetOf (c.pay 1 1) = some g ∧ ((s.toDev.yieldRequest
       p.val).rateAnswer p.val (Fin.ofNat 4 (c.pay 0 1)) g (c.pay 2 8)) = 0) ∧
    (∃ (s : State) (p : Port) (c : Cell) (g : RateTarget), targetOf (c.pay 1 1) = some g ∧ ((s.toDev.yieldRequest
       p.val).rateAnswer p.val (Fin.ofNat 4 (c.pay 0 1)) g (c.pay 2 8)) ≠ 0) ∧
    (∃ (s : State) (p : Port) (c : Cell) (h : Handover), (s.port p.val).handover = some h ∧ h.initiator = true ∧
       h.accepted = false ∧ h.sendAt = none ∧ h.lane.val = c.pay 0 1 ∧ c.pay 1 1 = 0) ∧
    (∃ (s : State) (p : Port) (c : Cell) (h : Handover), (s.port p.val).handover = some h ∧ h.initiator = true ∧
       h.accepted = false ∧ h.sendAt = none ∧ h.lane.val = c.pay 0 1 ∧ (c.pay 1 1 = 1 ∨ c.pay 1 1 = 2)) ∧
    (∃ (s : State) (p : Port) (c : Cell) (h : Handover), (s.port p.val).handover = some h ∧ h.initiator = true ∧
       h.accepted = false ∧ h.sendAt = none ∧ h.lane.val = c.pay 0 1 ∧ c.pay 1 1 = 3 ∧ h.target = .g200) ∧
    (∃ (s : State) (p : Port) (c : Cell) (h : Handover), (s.port p.val).handover = some h ∧ h.initiator = true ∧
       h.accepted = false ∧ h.sendAt = none ∧ h.lane.val = c.pay 0 1 ∧ c.pay 1 1 = 3 ∧ h.target = .g100) :=
  ⟨⟨{ withLane1 lowLane with regs := [(E.LANE_AUTO_RATE, 1)] }, 3, 1, 5, by decide +kernel⟩,
   ⟨{ withLane1 { lowLane with retryAt := some 6 } with regs := [(E.LANE_AUTO_RATE, 1)] }, 3, 1, 5, 6, by
      decide +kernel⟩,
   ⟨handing ⟨1, .g100, 5, true, false, some 1000001, none, false, false, false⟩, 3, ⟨1, .g100, 5, true, false, some
      1000001, none, false, false, false⟩, 1000001, by decide +kernel⟩,
   ⟨handing ⟨1, .g100, 5, true, false, some 1000000, none, false, false, false⟩, 3, ⟨1, .g100, 5, true, false, some
      1000000, none, false, false, false⟩, 1000000, by decide +kernel, by decide +kernel, by decide +kernel, by
      decide +kernel, by decide +kernel, by decide +kernel, sends_any (by decide +kernel)⟩,
   ⟨{ handing ⟨1, .g100, 5, true, false, none, none, false, false, false⟩ with mfg := { serial := 5 } }, 3, ⟨1,
      .g100, 5, true, false, none, none, false, false, false⟩, by decide +kernel⟩,
   ⟨linkC [1, 9], by decide +kernel⟩,
   ⟨up, 3, linkC ([1, 1] ++ beBytes 8 1000016), .g100, by decide +kernel⟩,
   ⟨withPort3 { upPort with sleepTs := some 9 }, 3, linkC [1, 1], .g100, by decide +kernel⟩,
   ⟨handing ⟨1, .g100, 5, true, false, none, none, false, false, false⟩, 3, linkC [1, 0], ⟨1, .g100, 5, true, false,
      none, none, false, false, false⟩, by decide +kernel⟩,
   ⟨handing ⟨1, .g100, 5, true, false, none, none, false, false, false⟩, 3, linkC [1, 2], ⟨1, .g100, 5, true, false,
      none, none, false, false, false⟩, by decide +kernel⟩,
   ⟨handing ⟨1, .g200, 5, true, false, none, none, false, false, false⟩, 3, linkC [1, 3], ⟨1, .g200, 5, true, false,
      none, none, false, false, false⟩, by decide +kernel⟩,
   ⟨handing ⟨1, .g100, 5, true, false, none, none, false, false, false⟩, 3, linkC [1, 3], ⟨1, .g100, 5, true, false,
      none, none, false, false, false⟩, by decide +kernel⟩⟩

/-- The hypotheses of RateHandOverSwitches are met, clause by clause. -/
theorem test_meetsRateHandOverSwitches :
    (∃ (s : State) (p : Port) (h : Handover), (s.port p.val).handover = some h ∧ h.tj = none ∧ h.ts ≤ s.tick ∧
       h.accepted = false ∧ (s.lane p.val h.lane).state = .active) ∧
    (∃ (s : State) (p : Port) (h : Handover), (s.port p.val).handover = some h ∧ h.tj = none ∧ h.ts ≤ s.tick ∧
       h.accepted = false ∧ (s.lane p.val h.lane).state ≠ .active) ∧
    (∃ (s : State) (p : Port) (h : Handover), (s.port p.val).handover = some h ∧ h.tj = none ∧ h.ts ≤ s.tick ∧
       h.accepted = true ∧ h.target = .off) ∧
    (∃ (s : State) (p : Port) (h : Handover), (s.port p.val).handover = some h ∧ h.tj = none ∧ h.ts ≤ s.tick ∧
       h.accepted = true ∧ h.target ≠ .off ∧ s.isModule p.val = false) ∧
    (∃ (s : State) (p : Port) (h : Handover) (tj : Nat), (s.port p.val).handover = some h ∧ h.tj = some tj ∧
       h.readySent = false ∧ (s.lane p.val h.lane).lol = false ∧ 0 < (s.lane p.val h.lane).windows ∧ s.reg E.MARGIN_LOW
       ≤ (s.lane p.val h.lane).margin) ∧
    (∃ (s : State) (p : Port) (h : Handover) (tj : Nat), (s.port p.val).handover = some h ∧ h.tj = some tj ∧ tj ≤
       s.tick ∧ h.readySent = true ∧ h.readyRcvd = true ∧ h.target = .g100) ∧
    (∃ (s : State) (p : Port) (h : Handover) (tj : Nat), (s.port p.val).handover = some h ∧ h.tj = some tj ∧ tj ≤
       s.tick ∧ h.readySent = true ∧ h.readyRcvd = true ∧ h.target = .g200) ∧
    (∃ (s : State) (p : Port) (h : Handover) (tj : Nat), (s.port p.val).handover = some h ∧ h.tj = some tj ∧ tj ≤
       s.tick ∧ (h.readySent && h.readyRcvd) = false ∧ h.target = .g200 ∧ s.isModule p.val = false) ∧
    (∃ (s : State) (p : Port) (h : Handover) (tj : Nat), (s.port p.val).handover = some h ∧ h.tj = some tj ∧ tj ≤
       s.tick ∧ (h.readySent && h.readyRcvd) = false ∧ h.target = .g100) ∧
    (∃ (s : State) (p : Port) (c : Cell) (h : Handover), (s.port p.val).handover = some h ∧ h.lane.val = c.pay 0 1) ∧
    (∃ (s : State) (p : Port) (l : Lane) (e : Nat), (s.lane p.val l).trialEnd = some e ∧ e ≤ s.tick) :=
  ⟨⟨handing ⟨1, .g100, 1000000, true, false, none, none, false, false, false⟩, 3, ⟨1, .g100, 1000000, true, false,
      none, none, false, false, false⟩, by decide +kernel⟩,
   ⟨withPort3
      { upPort with lane1 := { good with state := .failed }, handover := some ⟨1, .g100, 1000000, true, false, none, none, false, false, false⟩ },
      3, ⟨1, .g100, 1000000, true, false, none, none, false, false, false⟩, by decide +kernel⟩,
   ⟨handing ⟨1, .off, 1000000, true, true, none, none, false, false, false⟩, 3, ⟨1, .off, 1000000, true, true, none,
      none, false, false, false⟩, by decide +kernel⟩,
   ⟨handing ⟨1, .g100, 1000000, true, true, none, none, false, false, false⟩, 3, ⟨1, .g100, 1000000, true, true,
      none, none, false, false, false⟩, by decide +kernel⟩,
   ⟨withPort3
      { upPort with lane1 := { good with windows := 1, margin := 200 }, handover := some ⟨1, .g100, 5, true, true, none, some 2000000, false, false, false⟩ },
      3, ⟨1, .g100, 5, true, true, none, some 2000000, false, false, false⟩, 2000000, by decide +kernel⟩,
   ⟨handing ⟨1, .g100, 5, true, true, none, some 1000000, true, true, false⟩, 3, ⟨1, .g100, 5, true, true, none, some
      1000000, true, true, false⟩, 1000000, by decide +kernel⟩,
   ⟨handing ⟨1, .g200, 5, true, true, none, some 1000000, true, true, false⟩, 3, ⟨1, .g200, 5, true, true, none, some
      1000000, true, true, false⟩, 1000000, by decide +kernel⟩,
   ⟨handing ⟨1, .g200, 5, true, true, none, some 1000000, true, false, false⟩, 3, ⟨1, .g200, 5, true, true, none,
      some 1000000, true, false, false⟩, 1000000, by decide +kernel⟩,
   ⟨handing ⟨1, .g100, 5, true, true, none, some 1000000, false, true, false⟩, 3, ⟨1, .g100, 5, true, true, none,
      some 1000000, false, true, false⟩, 1000000, by decide +kernel⟩,
   ⟨handing ⟨1, .g100, 5, true, true, none, some 1000000, false, false, false⟩, 3, linkC [1], ⟨1, .g100, 5, true,
      true, none, some 1000000, false, false, false⟩, by decide +kernel⟩,
   ⟨withLane1 { good with trialEnd := some 1000000 }, 3, 1, 1000000, by decide +kernel⟩⟩

/-- The hypotheses of TestLanesAndModules are met, clause by clause. -/
theorem test_meetsTestLanesAndModules :
    (∃ (s : State) (p : Port) (l : Lane) (j : LaneInject), (s.lane p.val l).inject = some j ∧ j.kind = 6 ∧ j.count ≤
       j.done) ∧
    (∃ (s : State) (p : Port) (l : Lane) (j : LaneInject), (s.lane p.val l).inject = some j ∧ j.kind = 6 ∧ j.done <
       j.count) ∧
    (∃ (s : State) (p : Port) (l : Lane) (j : LaneInject), (s.lane p.val l).inject = some j ∧ j.kind = 2 ∧ j.done <
       j.count) ∧
    (∃ (s : State) (p : Port) (l : Lane), (s.lane p.val l).state = .test ∧ bits (s.reg (E.TEST_MODE p.val l.val)) 1 1
       = 1 ∧ s.reg (E.CHECK_LOCK p.val l.val) = 0) ∧
    (∃ (s : State) (p : Port) (l : Lane) (e : BitVec 32), (s.lane p.val l).state = .test ∧ bits (s.reg (E.TEST_MODE
       p.val l.val)) 1 1 = 1 ∧ s.reg (E.CHECK_LOCK p.val l.val) ≠ 0 ∧ s.reg (E.CHECK_ERRORS p.val l.val) + (if
       s.nearLoop p.val l = true then (s.lane p.val l).flips else e.toNat) < 0xFFFFFFFF) ∧
    (∃ (s : State) (m : Fin 32) (p : Nat), s.portOfSite m.val = some p ∧ s.isModule p = true ∧ (tgetD s.modules m.val
       {}).present = true) ∧
    (∃ (s : State) (m : Fin 32) (p : Nat), s.portOfSite m.val = some p ∧ s.isModule p = true) ∧
    (∃ (s : State) (m : Fin 32) (p : Nat), s.portOfSite m.val = some p ∧ s.isModule p = true) ∧
    (∃ (s : State) (m : Fin 32), s.portOfSite m.val = none) ∧
    (∃ (s : State) (p : Port) (m : Nat), s.siteOf p.val = some m ∧ (tgetD s.modules m {}).present = true) :=
  ⟨⟨withLane1 { good with inject := some ⟨6, 0, 10, 0, 10⟩ }, 3, 1, ⟨6, 0, 10, 0, 10⟩, by decide +kernel⟩,
   ⟨withLane1 { good with inject := some ⟨6, 0, 10, 0, 4⟩ }, 3, 1, ⟨6, 0, 10, 0, 4⟩, by decide +kernel⟩,
   ⟨withLane1 { good with inject := some ⟨2, 3, 10, 0, 4⟩ }, 3, 1, ⟨2, 3, 10, 0, 4⟩, by decide +kernel⟩,
   ⟨{ withLane1 { good with state := .test } with regs := [(E.TEST_MODE 3 1, 2)] }, 3, 1, by decide +kernel⟩,
   ⟨{ withLane1 { good with state := .test } with regs := [(E.TEST_MODE 3 1, 2), (E.CHECK_LOCK 3 1, 1)] }, 3, 1, 0,
      by decide +kernel⟩,
   ⟨opticPort, 0, 224, by decide +kernel⟩,
   ⟨opticPort, 0, 224, by decide +kernel⟩,
   ⟨opticPort, 0, 224, by decide +kernel⟩,
   ⟨{ booted with siteEff := [(224, 0)] }, 0, by decide +kernel⟩,
   ⟨opticPort, 224, 0, by decide +kernel⟩⟩

/-- The hypotheses of CellReception are met, clause by clause. -/
theorem test_meetsCellReception :
    (∃ (s : State) (p : Port) (l : Lane) (bytes : List Byte), (s.port p.val).state ≠ .off ∧ s.sentry.inject = none ∧
       (s.lane p.val l).state ≠ .test ∧ (s.lane p.val l).inject = none ∧ parseCell bytes = none ∧ s.reg (E.CRC_ERRORS
       p.val) < 0xFFFFFFFE) ∧
    (∃ (s : State) (p : Port) (l : Lane) (bytes : List Byte) (c : _), (s.port p.val).state ≠ .off ∧ s.sentry.inject =
       none ∧ (s.lane p.val l).state ≠ .test ∧ (s.lane p.val l).inject = none ∧ parseCell bytes = some c ∧ (s.port
       p.val).carries l = true ∧ (s.port p.val).checkLane = l ∧ c.malformedForm = false ∧ c.sequenced = false ∧ c.type ≠
       tNull ∧ c.type ≠ tPark) ∧
    (∃ (s : State) (p : Port) (l : Lane) (bytes : List Byte) (c : _), (s.port p.val).state ≠ .off ∧ s.sentry.inject =
       none ∧ (s.lane p.val l).state ≠ .test ∧ (s.lane p.val l).inject = none ∧ parseCell bytes = some c ∧ (s.port
       p.val).carries l = true ∧ (s.port p.val).checkLane = l ∧ c.malformedForm = false ∧ c.sequenced = true ∧
       c.linkLocal = true ∧ c.takesCredit = false ∧ c.lseq = (s.port p.val).rxNext ∧ (s.port p.val).held = [] ∧ s.reg
       E.SAMPLE_SHIFT = 0 ∧ s.levelForbids p.val c = false ∧ s.formForbids p.val c = false ∧ snapCommand c = false) ∧
    (∃ (s : State) (p : Port), s.fenced = false ∧ ((s.port p.val).state = .up ∨ (s.port p.val).state = .keepalive ∨
       (s.port p.val).state = .quarantine) ∧ (s.port p.val).lastLink + 64 ≤ s.tick ∧ s.txIdle p.val (s.port
       p.val).checkLane = false) ∧
    (∃ (s : State) (p : Port), s.fenced = false ∧ (s.port p.val).state = .up ∧ (∀ l : Lane, (s.lane p.val l).state ≠
       .train) ∧ (∀ l ∈ (s.port p.val).striping, s.txIdle p.val l = false)) ∧
    (∃ (s : State) (p : Port) (c : Cell), c.type = tPark ∧ (s.port p.val).gapOpen = true) ∧
    (∃ (s : State) (p : Port) (c : Cell) (k : Kept), ((s.port p.val).state = .up ∨ (s.port p.val).state = .keepalive ∨
       (s.port p.val).state = .quarantine) ∧ (s.port p.val).kept = [k] ∧ k.slot = none ∧ (s.port p.val).txq = [] ∧ c.pay
       2 2 = (s.port p.val).peerNak) ∧
    (∃ (s : State) (p : Port), (s.port p.val).state = .lanes ∧ (s.port p.val).lanesEndSent = true ∧ (s.port
       p.val).kept = [] ∧ (s.port p.val).txq = []) :=
  ⟨⟨up, 3, 1, [], by decide +kernel⟩,
   ⟨up, 3, 0, cellBytes (linkC []), linkC [], by decide +kernel⟩,
   ⟨up, 3, 0, cellBytes pingC, pingC, by decide +kernel⟩,
   ⟨up, 3, by decide +kernel⟩,
   ⟨up, 3, by decide +kernel⟩,
   ⟨withPort3 { upPort with gapOpen := true }, 3, mkLinkCell tPark 0 [], by decide +kernel⟩,
   ⟨withPort3 { upPort with kept := [⟨0, pingC, 5, none⟩] }, 3, linkC [], ⟨0, pingC, 5, none⟩, by decide +kernel⟩,
   ⟨withPort3 { upPort with state := .lanes, lanesEndSent := true }, 3, by decide +kernel⟩⟩

/-- The hypotheses of ReplayAndPortTimeouts are met, clause by clause. -/
theorem test_meetsReplayAndPortTimeouts :
    (∃ (s : State) (p : Port) (k : Kept) (r : List Kept), (s.port p.val).state = .up ∧ (s.port p.val).kept = k :: r ∧
       k.sentAt + s.replayTimeout p.val ≤ s.tick ∧ (s.port p.val).resends + 1 < s.reg E.REPLAY_LIMIT ∧ s.reg
       E.SAMPLE_SHIFT = 0 ∧ s.fenced = false ∧ s.sentry.inject = none ∧ (s.port p.val).striping ≠ [] ∧ (∀ l ∈ (s.port
       p.val).striping, s.txIdle p.val l = false)) ∧
    (∃ (s : State) (p : Port), s.queuedTo p.val = false ∧ (∀ k ∈ (s.port p.val).kept, k.slot = none) ∧ (s.port
       p.val).state.lossApplies = true ∧ (s.port p.val).lastGood + 192 ≤ s.tick ∧ s.ctxs = [] ∧ s.reg (E.PORT_LOSSES
       p.val) < 0xFFFFFFFE) ∧
    (∃ (s : State) (p : Port), s.queuedTo p.val = false ∧ (∀ k ∈ (s.port p.val).kept, k.slot = none) ∧ (s.port
       p.val).state = .ident ∧ (s.port p.val).lastIdent + s.reg E.IDENT_TIMEOUT_TICKS ≤ s.tick) ∧
    (∃ (s : State) (p : Port), s.queuedTo p.val = false ∧ (∀ k ∈ (s.port p.val).kept, k.slot = none) ∧ (s.port
       p.val).state = .lanes ∧ (s.port p.val).lanesEndSent = true ∧ s.ctxs = []) ∧
    (∃ (s : State) (p : Port), s.queuedTo p.val = false ∧ (∀ k ∈ (s.port p.val).kept, k.slot = none) ∧ (s.port
       p.val).since + s.reg E.LANES_TIMEOUT_TICKS ≤ s.tick ∧ s.ctxs = [] ∧ ((s.port p.val).state = .recover ∨ (s.port
       p.val).state = .lanes ∧ (s.port p.val).lanesEndSent = false ∧ (s.port p.val).lane0.bothReady = false)) ∧
    (∃ (s : State) (p : Port), (s.port p.val).state = .detect ∧ (s.port p.val).since + s.reg E.ABSENT_TICKS ≤ s.tick ∧
       planKind (s.planEntry (s.logical p.val)) ≠ 0) :=
  ⟨⟨withPort3 { upPort with kept := [⟨0, pingC, 5, none⟩] }, 3, ⟨0, pingC, 5, none⟩, [], by decide +kernel⟩,
   ⟨up, 3, by decide +kernel⟩,
   ⟨darkPort .ident, 3, by decide +kernel⟩,
   ⟨withPort3 { upPort with state := .lanes, since := 0, lanesEndSent := true }, 3, by decide +kernel⟩,
   ⟨withPort3 { upPort with state := .recover, since := 0 }, 3, by decide +kernel⟩,
   ⟨{ darkPort .detect with tick := 10 ^ 9, blobs := [(E.PLAN_NEIGHBOUR 3, List.replicate 16 0 ++ [2])] }, 3, by
      decide +kernel⟩⟩

/-- The hypotheses of IdentityAndTraining are met, clause by clause. -/
theorem test_meetsIdentityAndTraining :
    (∃ (s : State) (p : Port), (s.port p.val).state = .detect ∧ (s.port p.val).lane0.los = false ∧ (s.port
       p.val).lane0.lol = false ∧ (s.port p.val).lane0.state ≠ .test ∧ (s.port p.val).trainRun + 1 < 8) ∧
    (∃ (s : State) (p : Port), (s.port p.val).state = .detect ∧ (s.port p.val).lane0.los = false ∧ (s.port
       p.val).lane0.lol = false ∧ (s.port p.val).lane0.state ≠ .test ∧ 8 ≤ (s.port p.val).trainRun + 1 ∧ s.queuedTo
       p.val = false) ∧
    (∃ (s : State) (p : Port), (s.port p.val).state = .ident ∧ (s.port p.val).verdict = 0 ∧ s.fenced = false ∧
       ((s.port p.val).identSent = none ∨ ∃ e, (s.port p.val).identSent = some e ∧ e + 16 ≤ s.tick) ∧ s.txIdle p.val 0 =
       false) ∧
    (∃ (s : State) (p : Port), (s.port p.val).state = .ident ∧ (s.port p.val).verdict = 0) ∧
    (∃ (s : State) (p : Port) (c : Cell), (s.port p.val).state = .ident ∧ (s.port p.val).verdict = 1 ∧ c.pay 25 1 = 1
       ∧ (s.port p.val).acceptSent = true ∧ (s.port p.val).bothAccept = none ∧ s.power.sleep = .active) ∧
    (∃ (s : State) (p : Port) (c : Cell), (s.port p.val).state = .ident ∧ (s.port p.val).verdict = 1 ∧ c.pay 25 1 = 2
       ∧ s.queuedTo p.val = false) ∧
    (∃ (s : State) (p : Port) (t0 : Nat), (s.port p.val).state = .ident ∧ (s.port p.val).bothAccept = some t0 ∧ t0 +
       512 ≤ s.tick ∧ s.moduleReady p.val = true ∧ s.domainOff .lanes = false) ∧
    (∃ (s : State) (p : Port) (k : Lane), (s.port p.val).state = .lanes ∧ (s.port p.val).lanesEndSent = false ∧
       (s.port p.val).progress + 25000 ≤ s.tick ∧ (s.lane p.val 0).bothReady = true ∧ k ≠ 0 ∧ (s.lane p.val k).bothReady
       = true) :=
  ⟨⟨darkPort .detect, 3, by decide +kernel⟩,
   ⟨withPort3 { upPort with state := .detect, trainRun := 7 }, 3, by decide +kernel⟩,
   ⟨darkPort .ident, 3, by decide +kernel, by decide +kernel, by decide +kernel, Or.inl (by decide +kernel), by
      decide +kernel⟩,
   ⟨darkPort .ident, 3, by decide +kernel⟩,
   ⟨withPort3 { upPort with state := .ident, verdict := 1, acceptSent := true }, 3, linkC (List.replicate 25 0 ++
      [1]), by decide +kernel⟩,
   ⟨withPort3 { upPort with state := .ident, verdict := 1 }, 3, linkC (List.replicate 25 0 ++ [2]), by
      decide +kernel⟩,
   ⟨withPort3 { upPort with state := .ident, bothAccept := some 999488 }, 3, 999488, by decide +kernel⟩,
   ⟨withPort3 { upPort with state := .lanes, lane0 := ready, lane1 := ready }, 3, 1, by decide +kernel⟩⟩

/-- The hypotheses of KeepAndPortSleep are met, clause by clause. -/
theorem test_meetsKeepAndPortSleep :
    (∃ (s : State) (p : Port) (c : Cell), (s.port p.val).state = .up ∧ c.pay 0 16 = s.peerSerial p.val ∧ c.pay 16 1 =
       s.peer p.val 20 1) ∧
    (∃ (s : State) (p : Port) (c : Cell), (s.port p.val).state = .up ∧ (c.pay 0 16 ≠ s.peerSerial p.val ∨ c.pay 16 1 ≠
       s.peer p.val 20 1) ∧ s.queuedTo p.val = false) ∧
    (∃ (s : State) (p : Port), ((s.port p.val).state = .keepalive ∨ (s.port p.val).state = .quarantine)) ∧
    (∃ (s : State) (p : Port) (ts : BitVec 64), (s.port p.val).state = .up ∧ (s.port p.val).handover = none ∧ s.tick +
       256 ≤ ts.toNat) ∧
    (∃ (s : State) (p : Port), (s.port p.val).state = .up) ∧
    (∃ (s : State) (p : Port) (t0 : Nat), (s.port p.val).state = .up ∧ (s.port p.val).sleepTs = some t0 ∧ t0 ≤ s.tick
       ∧ s.ctxs = []) :=
  ⟨⟨up, 3, linkC [], by decide +kernel⟩,
   ⟨up, 3, linkC [1], by decide +kernel⟩,
   ⟨darkPort .keepalive, 3, by decide +kernel⟩,
   ⟨up, 3, 1000256, by decide +kernel⟩,
   ⟨up, 3, by decide +kernel⟩,
   ⟨withPort3 { upPort with sleepTs := some 1000000 }, 3, 1000000, by decide +kernel⟩⟩

/-- The hypotheses of PortWakes are met, clause by clause. -/
theorem test_meetsPortWakes :
    (∃ (s : State) (p : Port) (c : Cell), c.pay 0 1 = 1 ∧ s.power.sleep = .active ∧ (s.port p.val).state = .keepalive) ∧
    (∃ (s : State) (p : Port) (c : Cell), c.pay 0 1 = 1 ∧ s.power.sleep = .active ∧ (s.port p.val).state = .up ∧
       (s.port p.val).sleepTs ≠ none) ∧
    (∃ (s : State) (p : Port), (s.port p.val).state = .keepalive ∧ (s.port p.val).wakeReqSent = false ∧ s.queuedTo
       p.val = true) ∧
    (∃ (s : State) (p : Port) (c : Cell), (s.port p.val).state = .keepalive ∧ c.pay 0 1 = 2) ∧
    (∃ (s : State) (p : Port), (s.port p.val).state = .keepalive ∧ (s.port p.val).wakeReadySent = false ∧ (s.port
       p.val).wakeReqSent = true ∧ (s.port p.val).wakeReadyRcvd = false ∧ s.domainOff .lanes = false) ∧
    (∃ (s : State) (p : Port) (c : Cell), (s.port p.val).state = .keepalive ∧ c.pay 0 1 = 3) ∧
    (∃ (s : State) (p : Port) (t0 : Nat), (s.port p.val).state = .keepalive ∧ (s.port p.val).wakeBoth = some t0 ∧ t0 +
       256 ≤ s.tick) :=
  ⟨⟨darkPort .keepalive, 3, linkC [1], by decide +kernel⟩,
   ⟨withPort3 { upPort with sleepTs := some 5 }, 3, linkC [1], by decide +kernel⟩,
   ⟨{ darkPort .keepalive with kennel0 := { queues := [(3 * 16, [7])] } }, 3, by decide +kernel⟩,
   ⟨darkPort .keepalive, 3, linkC [2], by decide +kernel⟩,
   ⟨withPort3 { upPort with state := .keepalive, wakeReqSent := true }, 3, by decide +kernel⟩,
   ⟨darkPort .keepalive, 3, linkC [3], by decide +kernel⟩,
   ⟨withPort3 { upPort with state := .keepalive, wakeBoth := some 999744 }, 3, 999744, by decide +kernel⟩⟩

/-- The hypotheses of LaneWrites are met, clause by clause. -/
theorem test_meetsLaneWrites :
    (∃ (s : State) (d : Dev) (p : Port) (l : Lane) (pl : List Byte) (q : Req) (role : Option Scope), pl.length = 4 ∧ 1
       ≤ bits (beNat pl) 28 4 ∧ bits (beNat pl) 28 4 ≤ 6 ∧ bits (beNat pl) 0 24 ≠ 0 ∧ (bits (beNat pl) 28 4 = 2 ∨ bits
       (beNat pl) 28 4 = 4 → bits (beNat pl) 24 4 ≠ 0) ∧ d.injectLeft p.val l = 0 ∧ (d.lane p.val l).state ≠ .off ∧
       (bits (beNat pl) 28 4 = 1 → (d.lane p.val l).state = .test) ∧ s.mayWrite q (E.INJECT p.val l.val) pl role d) ∧
    (∃ (s : State) (d : Dev) (p : Port) (l : Lane) (pl : List Byte) (q : Req) (role : Option Scope), pl.length = 4 ∧ 1
       ≤ bits (beNat pl) 28 4 ∧ bits (beNat pl) 28 4 ≤ 6 ∧ bits (beNat pl) 0 24 ≠ 0 ∧ (bits (beNat pl) 28 4 = 2 ∨ bits
       (beNat pl) 28 4 = 4 → bits (beNat pl) 24 4 ≠ 0) ∧ d.injectLeft p.val l ≠ 0 ∧ s.mayWrite q (E.INJECT p.val l.val)
       pl role d) ∧
    (∃ (s : State) (d : Dev) (p : Port) (l : Lane) (b : Byte) (q : Req) (role : Option Scope), b.toNat ≤ 31 ∧ d.flag
       E.PEAK_ADAPT = false ∧ s.mayWrite q (E.PEAK_SET p.val l.val) [b] role d) ∧
    (∃ (s : State) (d : Dev) (p : Port) (l : Lane) (q : Req) (role : Option Scope), (d.lane p.val l).state = .off ∧
       patternSuits (d.reg (E.PATTERN p.val l.val)) (d.reg (E.TEST_RATE p.val l.val)) = true ∧ s.mayWrite q (E.TEST_MODE
       p.val l.val) [3] role d) ∧
    (∃ (s : State) (d : Dev) (p : Port) (l : Lane) (q : Req) (role : Option Scope), (d.lane p.val l).state = .off ∧
       d.reg (E.TEST_MODE p.val l.val) = 0 ∧ s.mayWrite q (E.LOOP p.val l.val) [1] role d) ∧
    (∃ (s : State) (d : Dev) (p : Port) (l : Lane) (q : Req) (role : Option Scope), (d.lane p.val l).state = .test ∧
       d.reg (E.TEST_MODE p.val l.val) = 0 ∧ s.mayWrite q (E.LOOP p.val l.val) [0] role d) ∧
    (∃ (s : State) (d : Dev) (p : Port) (q : Req) (role : Option Scope), d.reg (E.MAX_RATE p.val) = 1 ∧ s.mayWrite q
       (E.MAX_RATE p.val) [2] role d) ∧
    (∃ (s : State) (d : Dev) (p : Port) (q : Req) (role : Option Scope), (∀ l : Lane, (d.lane p.val l).state = .off) ∧
       s.mayWrite q (E.ELEC_CLASS p.val) [0] role d) ∧
    (∃ (s : State) (d : Dev) (p : Port) (q : Req) (role : Option Scope), (d.lane p.val 0).state ≠ .off ∧ s.mayWrite q
       (E.ELEC_CLASS p.val) [0] role d) :=
  ⟨⟨up, srv up rq, 3, 1, [0x21, 0, 0, 1], rq, none, by decide +kernel⟩,
   ⟨withLane1 { good with inject := some ⟨3, 16, 100, 0, 0⟩ }, srv (withLane1
      { good with inject := some ⟨3, 16, 100, 0, 0⟩ }) rq, 3, 1, [0x21, 0, 0, 1], rq, none, by decide +kernel⟩,
   ⟨regs [(E.PEAK_ADAPT, 0)], srv (regs [(E.PEAK_ADAPT, 0)]) rq, 3, 1, 31, rq, none, by decide +kernel⟩,
   ⟨booted, srv booted rq, 3, 1, rq, none, by decide +kernel⟩,
   ⟨booted, srv booted rq, 3, 1, rq, none, by decide +kernel⟩,
   ⟨withLane1 { good with state := .test }, srv (withLane1 { good with state := .test }) rq, 3, 1, rq, none, by
      decide +kernel⟩,
   ⟨regs [(E.MAX_RATE 3, 1)], srv (regs [(E.MAX_RATE 3, 1)]) rq, 3, rq, none, by decide +kernel⟩,
   ⟨booted, srv booted rq, 3, rq, none, by decide +kernel⟩,
   ⟨up, srv up rq, 3, rq, none, by decide +kernel⟩⟩

/-- The hypotheses of PortAndSwitchWrites are met, clause by clause. -/
theorem test_meetsPortAndSwitchWrites :
    (∃ (s : State) (d : Dev) (p : Port) (q : Req) (role : Option Scope), d.ctxs = [] ∧ d.queuedTo p.val = false ∧ (∀ k
       ∈ (d.port p.val).kept, k.slot = none) ∧ (d.port p.val).state = .off ∧ s.mayWrite q (E.PORT_ENABLE p.val) [0] role
       d) ∧
    (∃ (s : State) (d : Dev) (p : Port) (q : Req) (role : Option Scope), d.ctxs = [] ∧ d.queuedTo p.val = false ∧ (∀ k
       ∈ (d.port p.val).kept, k.slot = none) ∧ (d.port p.val).state = .up ∧ s.mayWrite q (E.PORT_ENABLE p.val) [0] role
       d) ∧
    (∃ (s : State) (d : Dev) (p : Port) (q : Req) (role : Option Scope), d.ctxs = [] ∧ d.queuedTo p.val = false ∧ (∀ k
       ∈ (d.port p.val).kept, k.slot = none) ∧ (d.port p.val).state = .off ∧ (d.setReg (E.PORT_ENABLE p.val)
       1).mayLeaveOff p.val = true ∧ s.mayWrite q (E.PORT_ENABLE p.val) [1] role d) ∧
    (∃ (s : State) (d : Dev) (p : Port) (q : Req) (role : Option Scope), d.ctxs = [] ∧ d.queuedTo p.val = false ∧ (∀ k
       ∈ (d.port p.val).kept, k.slot = none) ∧ (d.port p.val).state = .up ∧ s.mayWrite q (E.RETRAIN p.val) [1] role d) ∧
    (∃ (s : State) (d : Dev) (p : Port) (q : Req) (role : Option Scope), d.ctxs = [] ∧ d.queuedTo p.val = false ∧ (∀ k
       ∈ (d.port p.val).kept, k.slot = none) ∧ (d.port p.val).state = .quarantine ∧ s.mayWrite q (E.RELEASE p.val) [1]
       role d) ∧
    (∃ (s : State) (d : Dev) (p : Port) (q : Req) (role : Option Scope), d.ctxs = [] ∧ d.queuedTo p.val = false ∧ (∀ k
       ∈ (d.port p.val).kept, k.slot = none) ∧ (d.port p.val).state ≠ .quarantine ∧ s.mayWrite q (E.RELEASE p.val) [1]
       role d) ∧
    (∃ (s : State) (d : Dev) (q : Req) (role : Option Scope), s.mayWrite q E.STRAY_RECLAIM [0, 0, 0, 1] role d) ∧
    (∃ (s : State) (d : Dev) (pl : List Byte) (q : Req) (role : Option Scope), pl.length = 4 ∧ 1 ≤ bits (beNat pl) 28
       4 ∧ bits (beNat pl) 28 4 ≤ 5 ∧ bits (beNat pl) 16 11 = 0 ∧ bits (beNat pl) 0 16 ≠ 0 ∧ d.reg E.KENNEL_INJECT_LEFT
       = 0 ∧ s.mayWrite q E.KENNEL_INJECT pl role d) ∧
    (∃ (s : State) (d : Dev) (pl : List Byte) (q : Req) (role : Option Scope), pl.length = 4 ∧ 1 ≤ bits (beNat pl) 28
       4 ∧ bits (beNat pl) 28 4 ≤ 5 ∧ bits (beNat pl) 16 11 = 0 ∧ bits (beNat pl) 0 16 ≠ 0 ∧ d.reg E.KENNEL_INJECT_LEFT
       ≠ 0 ∧ s.mayWrite q E.KENNEL_INJECT pl role d) ∧
    (∃ (s : State) (d : Dev) (t : BitVec 64) (q : Req) (role : Option Scope), d.tick + 64 ≤ t.toNat ∧ 0 < t.toNat ∧
       d.routing.flipTick = none ∧ d.bank (1 - d.ingressEpoch) = .idle ∧ s.mayWrite q E.FLIP_TICK (beBytes 8 t.toNat)
       role d) ∧
    (∃ (s : State) (d : Dev) (q : Req) (role : Option Scope), s.mayWrite q E.FLIP_TICK (List.replicate 8 0) role d) ∧
    (∃ (s : State) (d : Dev) (b : Fin 2) (q : Req) (role : Option Scope), d.bank b.val = .draining ∧ d.drainCount
       b.val = 0 ∧ s.mayWrite q E.BANK_RETIRE (beBytes 1 b.val) role d) ∧
    (∃ (s : State) (d : Dev) (b : Fin 2) (q : Req) (role : Option Scope), d.bank b.val = .draining ∧ d.drainCount
       b.val ≠ 0 ∧ s.mayWrite q E.BANK_RETIRE (beBytes 1 b.val) role d) ∧
    (∃ (s : State) (d : Dev) (n : Port) (v : List Byte) (q : Req) (role : Option Scope), v.length = 24 ∧ planKind v ≤
       3 ∧ beNat (slice v 20 4) = 0 ∧ beNat (slice v 17 1) ≤ 1 ∧ planReach v = planReach (d.planEntry n.val) ∧ (d.port
       (d.physical n.val)).state ≠ .detect ∧ s.mayWrite q (E.PLAN_NEIGHBOUR n.val) v role d) ∧
    (∃ (s : State) (d : Dev) (q : Req) (role : Option Scope), d.remapped = [] ∧ s.mayWrite q E.REMAP_CLEAR [1] role d) :=
  ⟨⟨booted, srv booted rq, 3, rq, none, by decide +kernel⟩,
   ⟨up, srv up rq, 3, rq, none, by decide +kernel⟩,
   ⟨{ booted with power := { booted.power with tickLocked := true } }, srv
      ({ booted with power := { booted.power with tickLocked := true } }) rq, 3, rq, none, by decide +kernel⟩,
   ⟨up, srv up rq, 3, rq, none, by decide +kernel⟩,
   ⟨darkPort .quarantine, srv (darkPort .quarantine) rq, 3, rq, none, by decide +kernel⟩,
   ⟨up, srv up rq, 3, rq, none, by decide +kernel⟩,
   ⟨booted, srv booted rq, rq, none, by decide +kernel⟩,
   ⟨up, srv up rq, [0x10, 0, 0, 1], rq, none, by decide +kernel⟩,
   ⟨regs [(E.KENNEL_INJECT_LEFT, 1)], srv (regs [(E.KENNEL_INJECT_LEFT, 1)]) rq, [0x50, 0, 0xFF, 0xFF], rq, none, by
      decide +kernel⟩,
   ⟨up, srv up rq, 1000064, rq, none, by decide +kernel⟩,
   ⟨up, srv up rq, rq, none, by decide +kernel⟩,
   ⟨{ booted with routing := { bank1 := .draining } }, srv ({ booted with routing := { bank1 := .draining } }) rq, 1,
      rq, none, by decide +kernel⟩,
   ⟨{ booted with routing := { bank0 := .draining, bank1 := .live }, kennel0 := { slots := [(7, { pool := .ded, owner := 3, cell := some pingC })], queues := [(48, [7])] } },
      srv
      ({ booted with routing := { bank0 := .draining, bank1 := .live }, kennel0 := { slots := [(7, { pool := .ded, owner := 3, cell := some pingC })], queues := [(48, [7])] } })
      rq, 0, rq, none, by decide +kernel⟩,
   ⟨up, srv up rq, 3, List.replicate 16 0 ++ [3] ++ List.replicate 7 0, rq, none, by decide +kernel⟩,
   ⟨booted, srv booted rq, rq, none, by decide +kernel⟩⟩

/-- The hypotheses of PackAndWhistleWrites are met, clause by clause. -/
theorem test_meetsPackAndWhistleWrites :
    (∃ (s : State) (d : Dev) (p : PackNo) (q : Req) (role : Option Scope), d.refuseActivate p.val = none ∧ s.mayWrite
       q (E.PACK_CMD p.val) [1] role d) ∧
    (∃ (s : State) (d : Dev) (p : PackNo) (q : Req) (role : Option Scope), tget d.packs p.val ≠ none ∧ d.openContexts
       p.val = 0 ∧ s.mayWrite q (E.PACK_CMD p.val) [2] role d) ∧
    (∃ (s : State) (d : Dev) (p : PackNo) (q : Req) (role : Option Scope), tget d.packs p.val ≠ none ∧ d.openContexts
       p.val ≠ 0 ∧ s.mayWrite q (E.PACK_CMD p.val) [2] role d) ∧
    (∃ (s : State) (d : Dev) (p : PackNo) (q : Req) (role : Option Scope), tget d.packs p.val ≠ none ∧ s.mayWrite q
       (E.PACK_CMD p.val) [3] role d) ∧
    (∃ (s : State) (d : Dev) (q : Req) (role : Option Scope), (d.whistle (d.reg E.WHISTLE_SELECT)).state = .disarmed ∧
       s.mayWrite q E.WHISTLE_CMD [1] role d) ∧
    (∃ (s : State) (d : Dev) (q : Req) (role : Option Scope), (d.whistle (d.reg E.WHISTLE_SELECT)).state = .armed ∧
       s.mayWrite q E.WHISTLE_CMD [2] role d) ∧
    (∃ (s : State) (d : Dev) (v : BitVec 32) (q : Req) (role : Option Scope), s.mayWrite q E.WHISTLE_COUNT (beBytes 4
       v.toNat) role d) ∧
    (∃ (s : State) (d : Dev) (pl : List Byte) (q : Req) (role : Option Scope), pl.length = 4 ∧ 1 ≤ bits (beNat pl) 28
       4 ∧ bits (beNat pl) 28 4 ≤ 4 ∧ bits (beNat pl) 16 10 = 0 ∧ bits (beNat pl) 0 16 ≠ 0 ∧ d.reg E.COMPUTE_INJECT_LEFT
       = 0 ∧ s.mayWrite q E.COMPUTE_INJECT pl role d) ∧
    (∃ (s : State) (d : Dev) (pl : List Byte) (q : Req) (role : Option Scope), pl.length = 4 ∧ 1 ≤ bits (beNat pl) 28
       4 ∧ bits (beNat pl) 28 4 ≤ 4 ∧ bits (beNat pl) 16 10 = 0 ∧ bits (beNat pl) 0 16 ≠ 0 ∧ d.reg E.COMPUTE_INJECT_LEFT
       ≠ 0 ∧ s.mayWrite q E.COMPUTE_INJECT pl role d) :=
  ⟨⟨{ up with blobs := [(E.PLAN_NEIGHBOUR 3, List.replicate 16 0 ++ [1] ++ List.replicate 7 0), (E.MEMBERS 5, [8])] },
      srv
      ({ up with blobs := [(E.PLAN_NEIGHBOUR 3, List.replicate 16 0 ++ [1] ++ List.replicate 7 0), (E.MEMBERS 5, [8])] })
      rq, 5, rq, none, by decide +kernel⟩,
   ⟨packed, srv packed rq, 5, rq, none, by decide +kernel⟩,
   ⟨collecting, srv collecting rq, 5, rq, none, by decide +kernel⟩,
   ⟨packed, srv packed rq, 5, rq, none, by decide +kernel⟩,
   ⟨up, srv up rq, rq, none, by decide +kernel⟩,
   ⟨{ up with whistles := [(0, { state := .armed })] }, srv ({ up with whistles := [(0, { state := .armed })] }) rq,
      rq, none, by decide +kernel⟩,
   ⟨up, srv up rq, 7, rq, none, by decide +kernel⟩,
   ⟨up, srv up rq, [0x10, 0, 0, 1], rq, none, by decide +kernel⟩,
   ⟨regs [(E.COMPUTE_INJECT_LEFT, 1)], srv (regs [(E.COMPUTE_INJECT_LEFT, 1)]) rq, [0x40, 0, 0, 1], rq, none, by
      decide +kernel⟩⟩

/-- The hypotheses of ChainAndProgramWrites are met, clause by clause. -/
theorem test_meetsChainAndProgramWrites :
    (∃ (s : State) (d : Dev) (q : Req) (role : Option Scope), d.chainUsers (d.reg E.CHAIN_SLOT) ≠ 0 ∧ s.mayWrite q
       E.CHAIN_CMD [1] role d) ∧
    (∃ (s : State) (d : Dev) (q : Req) (role : Option Scope), (d.chainLoad (d.reg E.CHAIN_SLOT)).1 = none ∧ s.mayWrite
       q E.CHAIN_CMD [1] role d) ∧
    (∃ (s : State) (d : Dev) (q : Req) (role : Option Scope), (d.chain (d.reg E.CHAIN_SLOT)).desc = [] ∧ s.mayWrite q
       E.CHAIN_CMD [2] role d) ∧
    (∃ (s : State) (d : Dev) (c : Fin 3) (n : BitVec 48) (q : Req) (role : Option Scope), d.stepCommitted n.toNat =
       true ∧ s.mayWrite q E.STEP_CMD (beBytes 1 (c.val + 1) ++ beBytes 6 n.toNat ++ [0]) role d) ∧
    (∃ (s : State) (d : Dev) (c : Fin 3) (n : BitVec 48) (q : Req) (role : Option Scope), d.stepCommitted n.toNat =
       false ∧ d.chains = [] ∧ d.ctxs = [] ∧ s.mayWrite q E.STEP_CMD (beBytes 1 (c.val + 1) ++ beBytes 6 n.toNat ++ [0])
       role d) ∧
    (∃ (s : State) (d : Dev) (q : Req) (role : Option Scope), d.progUsers (d.reg E.PROG_SLOT) ≠ 0 ∧ s.mayWrite q
       E.PROG_CMD [1] role d) ∧
    (∃ (s : State) (d : Dev) (q : Req) (role : Option Scope), d.progUsers (d.reg E.PROG_SLOT) = 0 ∧ d.progError (d.reg
       E.PROG_SLOT) (d.prog (d.reg E.PROG_SLOT)).image = 0 ∧ s.mayWrite q E.PROG_CMD [1] role d) ∧
    (∃ (s : State) (d : Dev) (q : Req) (role : Option Scope), d.progUsers (d.reg E.PROG_SLOT) = 0 ∧ s.mayWrite q
       E.PROG_CMD [2] role d) :=
  ⟨⟨clipping, srv clipping rq, rq, none, by decide +kernel⟩,
   ⟨withMem clipDesc, srv (withMem clipDesc) rq, rq, none, load_any, by decide +kernel⟩,
   ⟨up, srv up rq, rq, none, by decide +kernel⟩,
   ⟨stepped, srv stepped rq, 2, 5, rq, none, by decide +kernel⟩,
   ⟨up, srv up rq, 0, 5, rq, none, by decide +kernel⟩,
   ⟨{ up with programs := [(0, { image := endProg, loaded := endProg })], chains := [(0, { desc := progDesc })] },
      srv
      ({ up with programs := [(0, { image := endProg, loaded := endProg })], chains := [(0, { desc := progDesc })] })
      rq, rq, none, by decide +kernel⟩,
   ⟨{ up with programs := [(0, { image := endProg })] }, srv ({ up with programs := [(0, { image := endProg })] })
      rq, rq, none, by decide +kernel⟩,
   ⟨up, srv up rq, rq, none, by decide +kernel⟩⟩

/-- The hypotheses of HostAndDmaWrites are met, clause by clause. -/
theorem test_meetsHostAndDmaWrites :
    (∃ (s : State) (d : Dev) (n : QpNo) (q : Req) (role : Option Scope), (d.qp n.val).state = 0 ∧ s.mayWrite q
       (E.QP_STATE n.val) [1] role d) ∧
    (∃ (s : State) (d : Dev) (n : QpNo) (q : Req) (role : Option Scope), (d.qp n.val).state ≠ 0 ∧ s.mayWrite q
       (E.QP_STATE n.val) [1] role d) ∧
    (∃ (s : State) (d : Dev) (n : QpNo) (q : Req) (role : Option Scope), (∀ u ∈ d.qpUses n.val, ∀ c, u ≠ .dma c) ∧
       s.mayWrite q (E.QP_STATE n.val) [0] role d) ∧
    (∃ (s : State) (d : Dev) (n : ChanNo) (a : BitVec 64) (q : Req) (role : Option Scope), d.dmaFull n.val = true ∧
       s.mayWrite q (E.DMA_START n.val) (beBytes 8 a.toNat) role d) ∧
    (∃ (s : State) (d : Dev) (n : ChanNo) (a : BitVec 64) (q : Req) (role : Option Scope), d.dmaFull n.val = false ∧
       (d.chan n.val).state = .running ∧ s.mayWrite q (E.DMA_START n.val) (beBytes 8 a.toNat) role d) ∧
    (∃ (s : State) (d : Dev) (n : ChanNo) (a : BitVec 64) (q : Req) (role : Option Scope), d.dmaFull n.val = false ∧
       (d.chan n.val).state = .idle ∧ s.mayWrite q (E.DMA_START n.val) (beBytes 8 a.toNat) role d) ∧
    (∃ (s : State) (d : Dev) (n : ChanNo) (q : Req) (role : Option Scope), s.mayWrite q (E.DMA_CMD n.val) [1] role d) ∧
    (∃ (s : State) (d : Dev) (n : ChanNo) (v : BitVec 64) (q : Req) (role : Option Scope), d.reg (E.PRODUCED n.val) <
       v.toNat ∧ s.mayWrite q (E.CONSUMED n.val) (beBytes 8 v.toNat) role d) ∧
    (∃ (s : State) (d : Dev) (n : ChanNo) (v : BitVec 64) (q : Req) (role : Option Scope), v.toNat ≤ d.reg (E.PRODUCED
       n.val) ∧ (d.chan n.val).state = .running ∧ s.mayWrite q (E.CONSUMED n.val) (beBytes 8 v.toNat) role d) :=
  ⟨⟨up, srv up rq, 3, rq, none, by decide +kernel⟩,
   ⟨{ up with qps := [(3, { state := 1 })] }, srv ({ up with qps := [(3, { state := 1 })] }) rq, 3, rq, none, by
      decide +kernel⟩,
   ⟨up, srv up rq, 3, rq, none, none_in (by decide +kernel), by decide +kernel⟩,
   ⟨{ up with dma := [(3, { state := .error })] }, srv ({ up with dma := [(3, { state := .error })] }) rq, 3, 64, rq,
      none, by decide +kernel⟩,
   ⟨{ up with dma := [(3, { state := .running })] }, srv ({ up with dma := [(3, { state := .running })] }) rq, 3, 64,
      rq, none, by decide +kernel⟩,
   ⟨up, srv up rq, 3, 64, rq, none, by decide +kernel⟩,
   ⟨up, srv up rq, 3, rq, none, by decide +kernel⟩,
   ⟨up, srv up rq, 3, 1, rq, none, by decide +kernel⟩,
   ⟨{ up with dma := [(3, { state := .running })], regs := [(E.PRODUCED 3, 9)] }, srv
      ({ up with dma := [(3, { state := .running })], regs := [(E.PRODUCED 3, 9)] }) rq, 3, 9, rq, none, by
      decide +kernel⟩⟩

/-- The hypotheses of SentryAndTelemetryWrites are met, clause by clause. -/
theorem test_meetsSentryAndTelemetryWrites :
    (∃ (s : State) (d : Dev) (c : FaultClass) (v : List Byte) (q : Req) (role : Option Scope), v.length = 8 ∧ bits
       (beNat v) 56 8 = classCode c ∧ bits (beNat v) 32 24 = 0 ∧ (d.sentry.record c).isOpen = true ∧ (d.sentry.record
       c).count = bits (beNat v) 0 32 ∧ s.mayWrite q E.FAULT_ACK v role d) ∧
    (∃ (s : State) (d : Dev) (c : FaultClass) (v : List Byte) (q : Req) (role : Option Scope), v.length = 8 ∧ bits
       (beNat v) 56 8 = classCode c ∧ bits (beNat v) 32 24 = 0 ∧ ((d.sentry.record c).isOpen = false ∨ (d.sentry.record
       c).count ≠ bits (beNat v) 0 32) ∧ s.mayWrite q E.FAULT_ACK v role d) ∧
    (∃ (s : State) (d : Dev) (pl : List Byte) (q : Req) (role : Option Scope), pl.length = 4 ∧ 1 ≤ bits (beNat pl) 24
       8 ∧ bits (beNat pl) 24 8 ≤ 14 ∧ bits (beNat pl) 16 8 = 0 ∧ bits (beNat pl) 0 16 ≠ 0 ∧ d.reg E.FAULT_INJECT_LEFT =
       0 ∧ s.mayWrite q E.FAULT_INJECT pl role d) ∧
    (∃ (s : State) (d : Dev) (pl : List Byte) (q : Req) (role : Option Scope), pl.length = 4 ∧ 1 ≤ bits (beNat pl) 24
       8 ∧ bits (beNat pl) 24 8 ≤ 14 ∧ bits (beNat pl) 16 8 = 0 ∧ bits (beNat pl) 0 16 ≠ 0 ∧ d.reg E.FAULT_INJECT_LEFT ≠
       0 ∧ s.mayWrite q E.FAULT_INJECT pl role d) ∧
    (∃ (s : State) (d : Dev) (k : BitVec 24) (q : Req) (role : Option Scope), isCounter (k.toNat / 256) (k.toNat %
       256) = true ∧ k.toNat ≠ 0 ∧ k.toNat ≠ E.WHISTLE_FIRES ∧ k.toNat ≠ E.PROG_ELEMENTS ∧ keyDefault k.toNat = 0 ∧
       s.mayWrite q E.COUNTER_CLEAR (0 :: beBytes 3 k.toNat) role d) ∧
    (∃ (k : _), isCounter (k / 256) (k % 256) = true ∧ keyDefault k = 0) ∧
    (∃ (s : State) (d : Dev) (q : Req) (role : Option Scope), s.mayWrite q E.COUNTER_CLEAR [0, 0, 0, 0] role d) ∧
    (∃ (s : State) (d : Dev) (id : BitVec 32) (t : BitVec 64) (q : Req) (role : Option Scope), d.tele.arm = none ∧ 0 <
       id.toNat ∧ (∀ x ∈ s.shadows, x.id ≠ id.toNat) ∧ d.tick + 64 ≤ t.toNat ∧ s.mayWrite q E.SNAP_CMD (beBytes 4
       id.toNat ++ List.replicate 4 0 ++ beBytes 8 t.toNat) role d) ∧
    (∃ (s : State) (d : Dev) (id : BitVec 32) (a : _) (q : Req) (role : Option Scope), d.tele.arm = some a ∧ a.id =
       id.toNat ∧ d.tick < a.target ∧ s.mayWrite q E.SNAP_CMD (beBytes 4 id.toNat ++ List.replicate 12 0) role d) ∧
    (∃ (s : State) (d : Dev) (b : Byte) (q : Req) (role : Option Scope), b.toNat ≤ 3 ∧ s.mayWrite q E.SAMPLE_DIR [b]
       role d) :=
  ⟨⟨{ up with sentry := { corr := { isOpen := true, count := 2 } } }, srv
      ({ up with sentry := { corr := { isOpen := true, count := 2 } } }) rq, .corrected, beBytes 1 (classCode
      .corrected) ++ [0, 0, 0, 0, 0, 0, 2], rq, none, by decide +kernel⟩,
   ⟨up, srv up rq, .fatal, beBytes 1 (classCode .fatal) ++ [0, 0, 0, 0, 0, 0, 2], rq, none, by decide +kernel⟩,
   ⟨up, srv up rq, [14, 0, 0, 1], rq, none, by decide +kernel⟩,
   ⟨regs [(E.FAULT_INJECT_LEFT, 1)], srv (regs [(E.FAULT_INJECT_LEFT, 1)]) rq, [1, 0, 0, 1], rq, none, by
      decide +kernel⟩,
   ⟨up, srv up rq, BitVec.ofNat 24 (E.CRC_ERRORS 3), rq, none, by decide +kernel⟩,
   ⟨E.CRC_ERRORS 3, by decide +kernel⟩,
   ⟨up, srv up rq, rq, none, by decide +kernel⟩,
   ⟨up, srv up rq, 1, 1000064, rq, none, by decide +kernel⟩,
   ⟨{ up with tele := { arm := some ⟨1, 2000000, false, 5, false⟩ } }, srv
      ({ up with tele := { arm := some ⟨1, 2000000, false, 5, false⟩ } }) rq, 1, ⟨1, 2000000, false, 5, false⟩, rq,
      none, by decide +kernel⟩,
   ⟨up, srv up rq, 3, rq, none, by decide +kernel⟩⟩

/-- The hypotheses of IdentityAndPowerWrites are met, clause by clause. -/
theorem test_meetsIdentityAndPowerWrites :
    (∃ (s : State) (q : Req) (role : Option Scope) (d : Dev), s.mayWrite q E.END_SESSIONS [1] role d) ∧
    (∃ (s : State) (d : Dev) (h : List Byte) (q : Req) (role : Option Scope), h.length = 32 ∧ d.burn ≠ none ∧
       s.mayWrite q E.KEY_BURN h role d) ∧
    (∃ (s : State) (d : Dev) (h : List Byte) (g : _) (q : Req) (role : Option Scope), h.length = 32 ∧ d.burn = none ∧
       nextGen (d.keyGens (d.reg E.KEY_SLOT_SELECT)) = some g ∧ frozen (d.keyGens (d.reg E.KEY_SLOT_SELECT)) = false ∧
       s.mayWrite q E.KEY_BURN h role d) ∧
    (∃ (s : State) (d : Dev) (h : List Byte) (q : Req) (role : Option Scope), h.length = 32 ∧ d.burn = none ∧ frozen
       (d.profileGens (d.reg E.ACTIVE_PROFILE)) = false ∧ d.saveImage.length ≤ 16352 ∧ s.mayWrite q E.PROFILE_CMD [1]
       role d) ∧
    (∃ (s : State) (d : Dev) (v : List Byte) (q : Req) (role : Option Scope), v.length = 384 ∧ d.reg E.KEY_SLOT_SELECT
       = 0 ∧ (activeGen (d.keyGens 0)).isSome = true ∧ sha256 v = d.keyHash 0 ∧ s.mayWrite q E.OWNER_PUBKEY v role d) ∧
    (∃ (s : State) (d : Dev) (v : List Byte) (q : Req) (role : Option Scope), 1 ≤ v.length ∧ v.length ≤ 65536 ∧ d.reg
       E.FW_OFFSET + v.length ≤ fwSlotBytes ∧ d.fw.factory ≠ some d.fw.idle ∧ s.mayWrite q E.FW_DATA v role d) ∧
    (∃ (s : State) (d : Dev) (v : List Byte) (q : Req) (role : Option Scope), 1 ≤ v.length ∧ v.length ≤ 65536 ∧ d.reg
       E.FW_OFFSET + v.length ≤ fwSlotBytes ∧ d.fw.factory = some d.fw.idle ∧ s.mayWrite q E.FW_DATA v role d) ∧
    (∃ (f : FwStore) (i : Nat), f.factory = some i) ∧
    (∃ (s : State) (d : Dev) (q : Req) (role : Option Scope), d.fw.verified = false ∧ s.mayWrite q E.FW_CMD [2] role d) ∧
    (∃ (s : State) (d : Dev) (q : Req) (role : Option Scope), d.fw.verified = true ∧ s.mayWrite q E.FW_CMD [2] role d) ∧
    (∃ (s : State) (d : Dev) (q : Req) (role : Option Scope), d.fw.trialSince = none ∧ s.mayWrite q E.FW_CMD [3] role
       d) ∧
    (∃ (s : State) (d : Dev) (q : Req) (role : Option Scope), d.fw.trialSince ≠ none ∧ fwSecurity (d.fw.header
       d.fw.running) ≤ d.rollback ∧ s.mayWrite q E.FW_CMD [3] role d) ∧
    (∃ (s : State) (d : Dev) (q : Req) (role : Option Scope), d.fw.trialSince = none ∧ s.mayWrite q E.FW_CMD [4] role
       d) ∧
    (∃ (s : State) (d : Dev) (q : Req) (role : Option Scope), s.mayWrite q E.FW_CMD [1] role d) ∧
    (∃ (v : List Byte), v.length = 32) ∧
    (∃ (s : State) (d : Dev) (q : Req) (role : Option Scope), d.power.bootStage = 3 ∧ d.power.sleep = .active ∧
       d.wakeLow = false ∧ d.dozeOk = true ∧ s.mayWrite q E.SLEEP_CMD [2] role d) ∧
    (∃ (s : State) (d : Dev) (q : Req) (role : Option Scope), d.power.bootStage = 3 ∧ d.power.sleep = .active ∧
       d.wakeLow = false ∧ d.dozeOk = false ∧ s.mayWrite q E.SLEEP_CMD [2] role d) ∧
    (∃ (s : State) (d : Dev) (q : Req) (role : Option Scope), d.power.bootStage = 3 ∧ d.power.sleep = .active ∧
       d.wakeLow = false ∧ d.noCollect = true ∧ d.dmaIdle = true ∧ queued d.actions0 = 0 ∧ queued d.actions1 = 0 ∧
       s.mayWrite q E.SLEEP_CMD [3] role d) ∧
    (∃ (s : State) (d : Dev) (q : Req) (role : Option Scope), d.power.bootStage = 3 ∧ d.power.sleep = .active ∧
       d.wakeLow = false ∧ s.mayWrite q E.SLEEP_CMD [0] role d) ∧
    (∃ (s : State) (d : Dev) (q : Req) (role : Option Scope), d.power.memoryOff = false ∧ d.power.inputOut = false ∧
       d.power.overtempHold = false ∧ s.mayWrite q E.RESET_CMD [1] role d) :=
  ⟨⟨owned, rqO, some .owner, srv owned rqO, by decide +kernel⟩,
   ⟨{ owned with burn := some ⟨.rollback, [], 5⟩ }, srv ({ owned with burn := some ⟨.rollback, [], 5⟩ }) rqO,
      List.replicate 32 0x11, rqO, some .owner, by decide +kernel⟩,
   ⟨owned, srv owned rqO, List.replicate 32 0x11, 0, rqO, some .owner, by decide +kernel⟩,
   ⟨owned, srv owned rqO, List.replicate 32 0x11, rqO, some .owner, by decide +kernel⟩,
   ⟨{ owned with otp := genWords (keyOff 0 0) (padTo 56 (sha256 (List.replicate 384 3))) }, srv
      ({ owned with otp := genWords (keyOff 0 0) (padTo 56 (sha256 (List.replicate 384 3))) }) rqO, List.replicate 384
      3, rqO, some .owner, by decide +kernel⟩,
   ⟨{ owned with fw := { factory := none } }, srv ({ owned with fw := { factory := none } }) rqO, [1], rqO, some
      .owner, by decide +kernel⟩,
   ⟨{ owned with fw := { factory := some 1 } }, srv ({ owned with fw := { factory := some 1 } }) rqO, [1], rqO, some
      .owner, by decide +kernel⟩,
   ⟨{ factory := some 0 }, 0, by decide +kernel⟩,
   ⟨owned, srv owned rqO, rqO, some .owner, by decide +kernel⟩,
   ⟨{ owned with fw := { verified := true } }, srv ({ owned with fw := { verified := true } }) rqO, rqO, some .owner,
      by decide +kernel⟩,
   ⟨owned, srv owned rqO, rqO, some .owner, by decide +kernel⟩,
   ⟨{ owned with fw := { trialSince := some 5, factory := none } }, srv
      ({ owned with fw := { trialSince := some 5, factory := none } }) rqO, rqO, some .owner, by decide +kernel⟩,
   ⟨owned, srv owned rqO, rqO, some .owner, by decide +kernel⟩,
   ⟨owned, srv owned rqO, rqO, some .owner, by decide +kernel⟩,
   ⟨List.replicate 32 0x11, by decide +kernel⟩,
   ⟨owned, srv owned rqO, rqO, some .owner, by decide +kernel⟩,
   ⟨own collecting, srv (own collecting) rqO, rqO, some .owner, by decide +kernel⟩,
   ⟨owned, srv owned rqO, rqO, some .owner, by decide +kernel⟩,
   ⟨owned, srv owned rqO, rqO, some .owner, by decide +kernel⟩,
   ⟨owned, srv owned rqO, rqO, some .owner, by decide +kernel⟩⟩

/-- The hypotheses of KennelOperations are met, clause by clause. -/
theorem test_meetsKennelOperations :
    (∃ (s : State) (sd : Sdie) (pool : Pool) (lo : Nat) (hi : Nat) (rest : List (Nat × Nat)), s.domainOff .switch =
       false ∧ (s.kennel sd.val).rebuild = none ∧ s.kinject = none ∧ s.slotReads sd.val lo ∧ (s.kennel sd.val).used pool
       < s.poolSize sd.val pool ∧ (s.kennel sd.val).free = (lo, hi) :: rest ∧ tget (s.kennel sd.val).slots lo = none) ∧
    (∃ (s : State) (sd : Sdie) (pool : Pool), s.domainOff .switch = false ∧ (s.kennel sd.val).rebuild = none ∧
       (s.poolSize sd.val pool ≤ (s.kennel sd.val).used pool ∨ (s.kennel sd.val).free = []) ∧ s.reg (E.ALLOC_FAILS
       sd.val) < 0xFFFFFFFE) ∧
    (∃ (s : State), s.domainOff .switch = true) ∧
    (∃ (s : State) (sd : Sdie) (o : Owner) (i : Nat) (x : _), s.domainOff .switch = false ∧ s.kinject = none ∧
       s.slotReads sd.val i ∧ (s.kennel sd.val).rebuild = none ∧ i < slotCount ∧ tget (s.kennel sd.val).slots i = some x
       ∧ x.owner = o.val) ∧
    (∃ (s : State) (sd : Sdie) (o : Owner) (i : Nat) (x : _), s.domainOff .switch = false ∧ s.kinject = none ∧
       s.slotReads sd.val i ∧ (s.kennel sd.val).rebuild = none ∧ i < slotCount ∧ tget (s.kennel sd.val).slots i = some x
       ∧ x.owner ≠ o.val ∧ s.reg (E.KENNEL_REFUSALS sd.val) < 0xFFFFFFFE) ∧
    (∃ (s : State) (sd : Sdie) (o : Owner) (i : Nat) (x : _), s.domainOff .switch = false ∧ s.kinject = none ∧
       s.slotReads sd.val i ∧ (s.kennel sd.val).rebuild = none ∧ i < slotCount ∧ tget (s.kennel sd.val).slots i = some x
       ∧ x.owner = o.val ∧ x.stray = false) ∧
    (∃ (s : State) (sd : Sdie) (o : Owner) (i : Nat), s.domainOff .switch = false ∧ s.kinject = none ∧ s.slotReads
       sd.val i ∧ (s.kennel sd.val).rebuild = none ∧ i < slotCount ∧ (tget (s.kennel sd.val).slots i = none ∨ ∃ x, tget
       (s.kennel sd.val).slots i = some x ∧ x.owner = o.val ∧ x.stray = true)) ∧
    (∃ (s : State) (sd : Sdie) (r : Rebuild), (s.kennel sd.val).rebuild = some r ∧ r.passed ≤ slotCount ∧ r.start +
       615 ≤ s.tick) ∧
    (∃ (s : State) (sd : Sdie), s.flag E.AUDIT_ENABLE = true ∧ s.domainOff .switch = false ∧ s.slotReads sd.val
       (s.kennel sd.val).auditNext ∧ s.kinject = none ∧ (s.kennel sd.val).auditNext + 1 < slotCount ∧ tget (s.kennel
       sd.val).slots (s.kennel sd.val).auditNext = none) ∧
    (∃ (s : State) (sd : Sdie) (x : _), s.flag E.AUDIT_ENABLE = true ∧ s.domainOff .switch = false ∧ s.slotReads
       sd.val (s.kennel sd.val).auditNext ∧ s.kinject = none ∧ (s.kennel sd.val).auditNext + 1 < slotCount ∧ tget
       (s.kennel sd.val).slots (s.kennel sd.val).auditNext = some x ∧ x.stray = false ∧ s.reg E.STRAY_AGE_TICKS <
       (s.tick + 2 ^ 32 - x.allocTick) % 2 ^ 32 ∧ s.reg (E.STRAYS_FOUND sd.val) < 0xFFFFFFFE) :=
  ⟨⟨up, 0, .shr, 0, 786431, [], by decide +kernel⟩,
   ⟨{ up with staInForce := [786432, 1024, 256, 256] }, 0, .shr, by decide +kernel, by decide +kernel, Or.inl (by
      decide +kernel), by decide +kernel⟩,
   ⟨{ up with power := { off := true } }, by decide +kernel⟩,
   ⟨{ up with kennel0 := { slots := [(7, { pool := .shr, owner := 3, cell := some pingC })] } }, 0, 3, 7,
      { pool := .shr, owner := 3, cell := some pingC }, by decide +kernel⟩,
   ⟨{ up with kennel0 := { slots := [(7, { pool := .shr, owner := 3, cell := some pingC })] } }, 0, 4, 7,
      { pool := .shr, owner := 3, cell := some pingC }, by decide +kernel⟩,
   ⟨{ up with kennel0 := { slots := [(7, { pool := .shr, owner := 3, cell := some pingC })] } }, 0, 3, 7,
      { pool := .shr, owner := 3, cell := some pingC }, by decide +kernel⟩,
   ⟨up, 0, 3, 7, by decide +kernel, by decide +kernel, by decide +kernel, by decide +kernel, by decide +kernel,
      Or.inl (by decide +kernel)⟩,
   ⟨{ up with kennel0 := { rebuild := some ⟨5, 100⟩ } }, 0, ⟨5, 100⟩, by decide +kernel⟩,
   ⟨up, 0, by decide +kernel⟩,
   ⟨{ up with kennel0 := { slots := [(7, { pool := .shr, owner := 3, cell := some pingC })], auditNext := 7 }, regs := [(E.STRAY_AGE_TICKS, 5)] },
      0, { pool := .shr, owner := 3, cell := some pingC }, by decide +kernel⟩⟩

/-- The hypotheses of CrossbarMovesCells are met, clause by clause. -/
theorem test_meetsCrossbarMovesCells :
    (∃ (s : State), (s.domainOff .switch = true ∨ s.domainGated .switch = true ∨ s.fenced = true)) ∧
    (∃ (s : State), s.domainOff .switch = false ∧ s.domainGated .switch = false ∧ s.fenced = false) ∧
    (∃ (s : State) (sd : Sdie) (i : Nat) (n : Nat) (o : Nat) (x : KSlot) (c : Cell), s.domainOff .switch = false ∧
       s.domainGated .switch = false ∧ s.fenced = false ∧ s.slotReads sd.val n ∧ s.kinject = none ∧ i < 144 ∧ n <
       slotCount ∧ c.vc = 10 ∧ (128 ≤ o ∧ o < 132 ∨ o = 133 ∧ sd = 0 ∨ 136 ≤ o ∧ o < 144) ∧ (s.kennel sd.val).unitUsed =
       [] ∧ (s.kennel sd.val).rebuild = none ∧ (s.kennel sd.val).queues = [(uniKey i o 10, [n])] ∧ (s.kennel
       sd.val).mqueues = [] ∧ (s.kennel sd.val).slots = [(n, x)] ∧ x.owner = i ∧ x.cell = some c ∧ expiredAt s.tick c =
       false ∧ (s.kennel 0).waiting = [] ∧ (s.kennel 1).waiting = []) ∧
    (∃ (s : State) (sd : Sdie) (i : XPort) (n : Nat) (x : KSlot) (c : Cell) (k : Nat) (r : List Nat), s.kinject = none
       ∧ s.slotReads sd.val n ∧ (s.kennel sd.val).rebuild = none ∧ n < slotCount ∧ (k, n :: r) ∈ (s.kennel
       sd.val).queues ∧ k / 4096 = i.val ∧ tget (s.kennel sd.val).slots n = some x ∧ x.cell = some c ∧ expiredAt s.tick
       c = true ∧ s.reg (E.EXPIRED sd.val) < 0xFFFFFFFE) :=
  ⟨⟨{ up with power := { off := true } }, by decide +kernel⟩,
   ⟨up, by decide +kernel⟩,
   ⟨{ up with kennel0 := { slots := [(7, { pool := .ded, owner := 3, cell := some pingC })], queues := [(uniKey 3 133 10, [7])] } },
      0, 3, 7, 133, { pool := .ded, owner := 3, cell := some pingC }, pingC, by decide +kernel⟩,
   ⟨{ up with kennel0 := { slots := [(7, { pool := .ded, owner := 3, cell := some oldC })], queues := [(uniKey 3 133 10, [7])] } },
      0, 3, 7, { pool := .ded, owner := 3, cell := some oldC }, oldC, uniKey 3 133 10, [], by decide +kernel⟩⟩

/-- The hypotheses of EpochFlipsAndTimeouts are met, clause by clause. -/
theorem test_meetsEpochFlipsAndTimeouts :
    (∃ (s : State) (t0 : Nat), s.routing.flipTick = some t0 ∧ t0 ≤ s.tick ∧ s.ctxs = []) ∧
    (∃ (s : State) (t0 : Nat), s.routing.flipTick = some t0 ∧ s.tick < t0) ∧
    (∃ (s : State) (b : Fin 2) (t0 : Nat), s.routing.stuckFrom = some t0 ∧ s.bank b.val = .draining ∧ t0 +
       s.drainBound ≤ s.tick ∧ 0 < s.drainCount b.val ∧ s.reg (E.DRAIN_STUCK 0) < 0xFFFFFFFE) ∧
    (∃ (s : State), s.routing.stuckFrom = none) ∧
    (∃ (s : State) (dest : BitVec 20) (l : Leash), s.routing.leashes.find? (fun l => l.dest = dest.toNat) = some l ∧
       l.lastUp + s.reg E.LEASH_UP_TICKS ≤ s.tick) ∧
    (∃ (s : State) (dest : BitVec 20) (seq : BitVec 16) (rq : E2eReq), s.routing.requests.find? (fun r => r.dest =
       dest.toNat && r.mseq = seq.toNat) = some rq ∧ rq.sentAt + s.reg E.E2E_TIMEOUT_TICKS ≤ s.tick ∧ s.reg
       E.E2E_RETRIES ≤ rq.resends) ∧
    (∃ (s : State) (dest : BitVec 20) (seq : BitVec 16) (rq : E2eReq), s.routing.requests.find? (fun r => r.dest =
       dest.toNat && r.mseq = seq.toNat) = some rq ∧ rq.sentAt + s.reg E.E2E_TIMEOUT_TICKS ≤ s.tick ∧ rq.resends < s.reg
       E.E2E_RETRIES) :=
  ⟨⟨{ up with routing := { flipTick := some 1000000 } }, 1000000, by decide +kernel⟩,
   ⟨{ up with routing := { flipTick := some 1000001 } }, 1000001, by decide +kernel⟩,
   ⟨{ up with routing := { bank0 := .draining, bank1 := .live, stuckFrom := some 5 }, kennel0 := { slots := [(7, { pool := .ded, owner := 3, cell := some pingC })], queues := [(uniKey 3 133 10, [7])] } },
      0, 5, by decide +kernel⟩,
   ⟨up, by decide +kernel⟩,
   ⟨{ up with routing := { leashes := [⟨9, 128, none, 5⟩] } }, 9, ⟨9, 128, none, 5⟩, by decide +kernel⟩,
   ⟨{ up with routing := { requests := [⟨9, 4, pingC, 5, 99⟩] } }, 9, 4, ⟨9, 4, pingC, 5, 99⟩, by decide +kernel⟩,
   ⟨{ up with routing := { requests := [⟨9, 4, farC, 5, 0⟩] } }, 9, 4, ⟨9, 4, farC, 5, 0⟩, by decide +kernel⟩⟩

/-- The hypotheses of StartsOpenContexts are met, clause by clause. -/
theorem test_meetsStartsOpenContexts :
    (∃ (s : State) (p : Port) (c : Cell) (n : Nat), s.opensContexts ∧ c.type = tStart ∧ c.level = 0 ∧ s.pairCode
       c.pack c.cseq (s.isMember c.pack (s.logical p.val)) = 0 ∧ s.bound c.pack c.cseq = none ∧ (((tget s.packs
       c.pack).map (·.contexts)).getD []).find? (fun n => (s.ctx n).state = .free) = some n ∧ (s.layout c.pack).spanning
       = false ∧ (startRecord c).fused = 0 ∧ (startRecord c).collType ≠ kDISPATCH ∧ s.startRefused (s.layout c.pack)
       (startRecord c) (bits (c.pay 3 1) 6 1 = 1) = none) ∧
    (∃ (s : State) (p : Port) (c : Cell) (n : Nat) (h : CollRec), s.opensContexts ∧ c.type = tStart ∧ c.level = 0 ∧
       s.pairCode c.pack c.cseq (s.isMember c.pack (s.logical p.val)) = 0 ∧ s.bound c.pack c.cseq = some n ∧ (s.ctx
       n).state = .collect ∧ (s.ctx n).record = some h ∧ firstDiffers h (startRecord c) = 0 ∧ s.logical p.val ∉ (s.ctx
       n).validated ∧ (s.ctx n).chunks = []) ∧
    (∃ (s : State) (p : Port) (c : Cell) (n : Nat) (h : CollRec), s.opensContexts ∧ c.type = tStart ∧ c.level = 0 ∧
       s.pairCode c.pack c.cseq (s.isMember c.pack (s.logical p.val)) = 0 ∧ s.bound c.pack c.cseq = some n ∧ (s.ctx
       n).state = .collect ∧ (s.ctx n).record = some h ∧ firstDiffers h (startRecord c) = 0 ∧ s.logical p.val ∈ (s.ctx
       n).validated) ∧
    (∃ (s : State) (p : Port) (c : Cell) (n : Nat) (h : CollRec), s.opensContexts ∧ c.type = tStart ∧ c.level = 0 ∧
       s.pairCode c.pack c.cseq (s.isMember c.pack (s.logical p.val)) = 0 ∧ s.bound c.pack c.cseq = some n ∧ (s.ctx
       n).state = .collect ∧ (s.ctx n).record = some h ∧ firstDiffers h (startRecord c) ≠ 0) ∧
    (∃ (s : State) (p : Port) (c : Cell), s.opensContexts ∧ c.type = tStart ∧ c.level = 0 ∧ s.pairCode c.pack c.cseq
       (s.isMember c.pack (s.logical p.val)) ≠ 0) ∧
    (∃ (s : State) (c : Cell), s.domainOff .switch = false ∧ s.waitsWake = true ∧ c.type = tStart) ∧
    (∃ (s : State) (c : Cell), s.domainOff .switch = false ∧ s.waitsWake = true ∧ c.type = tData) ∧
    (∃ (s : State) (c : Cell), s.domainOff .switch = false ∧ s.waitsWake = true ∧ c.type = tPromo) ∧
    (∃ (s : State) (c : Cell), s.domainOff .switch = false ∧ s.waitsWake = true ∧ c.type = tCheck) ∧
    (∃ (s : State) (c : Cell), s.domainOff .switch = false ∧ s.waitsWake = true ∧ c.type = tCtrl ∧ c.op = 0x10) :=
  ⟨⟨rack, 3, startC, 0, by decide +kernel⟩,
   ⟨opened ctx5, 3, startC, 0, rec5, by decide +kernel⟩,
   ⟨opened both5, 3, startC, 0, rec5, by decide +kernel⟩,
   ⟨opened { ctx5 with record := some { rec5 with op := 2 } }, 3, startC, 0, { rec5 with op := 2 }, by
      decide +kernel⟩,
   ⟨up, 3, startC, by decide +kernel⟩,
   ⟨{ rack with heldCells := [⟨.fabric 3, startC⟩] }, startC, by decide +kernel⟩,
   ⟨{ rack with heldCells := [⟨.fabric 3, startC⟩] }, collC tData [], by decide +kernel⟩,
   ⟨{ rack with heldCells := [⟨.fabric 3, startC⟩] }, collC tPromo [], by decide +kernel⟩,
   ⟨{ rack with heldCells := [⟨.fabric 3, startC⟩] }, collC tCheck [], by decide +kernel⟩,
   ⟨{ rack with heldCells := [⟨.fabric 3, startC⟩] }, heelC 0, by decide +kernel⟩⟩

/-- The hypotheses of ContributionsAreTaken are met, clause by clause. -/
theorem test_meetsContributionsAreTaken :
    (∃ (s : State) (p : Port) (c : Cell) (n : _), s.opensContexts ∧ c.level = 0 ∧ c.cls ≠ cCDN ∧ (s.pairCode c.pack
       c.cseq (s.isMember c.pack (s.logical p.val))) = 0 ∧ s.bound c.pack c.cseq = some n ∧ (s.ctx n).state = .collect ∧
       c.type = tData) ∧
    (∃ (s : State) (p : Port) (c : Cell) (n : _), s.opensContexts ∧ c.level = 0 ∧ c.cls ≠ cCDN ∧ (s.pairCode c.pack
       c.cseq (s.isMember c.pack (s.logical p.val))) = 0 ∧ s.bound c.pack c.cseq = some n ∧ (s.ctx n).state = .collect ∧
       c.type = tPromo) ∧
    (∃ (s : State) (p : Port) (c : Cell) (n : _), s.opensContexts ∧ c.level = 0 ∧ c.cls ≠ cCDN ∧ (s.pairCode c.pack
       c.cseq (s.isMember c.pack (s.logical p.val))) = 0 ∧ s.bound c.pack c.cseq = some n ∧ (s.ctx n).state = .collect ∧
       c.type = tCheck) ∧
    (∃ (s : State) (p : Port) (c : Cell), s.opensContexts ∧ c.level = 0 ∧ c.cls ≠ cCDN ∧ (s.pairCode c.pack c.cseq
       (s.isMember c.pack (s.logical p.val))) ≠ 0 ∧ c.type = tData) ∧
    (∃ (s : State) (p : Port) (c : Cell), s.opensContexts ∧ c.level = 0 ∧ c.cls ≠ cCDN ∧ (s.pairCode c.pack c.cseq
       (s.isMember c.pack (s.logical p.val))) ≠ 0 ∧ c.type = tPromo) ∧
    (∃ (s : State) (p : Port) (c : Cell), s.opensContexts ∧ c.level = 0 ∧ c.cls ≠ cCDN ∧ (s.pairCode c.pack c.cseq
       (s.isMember c.pack (s.logical p.val))) ≠ 0 ∧ c.type = tCheck) ∧
    (∃ (s : State) (n : Nat), (s.ctx n).record = none) ∧
    (∃ (s : State) (n : Nat) (c : Cell), (s.ctx n).record ≠ none ∧ c.chunk < (s.ctx n).rc.nchunk ∧ (s.ctx n).past
       c.chunk = true) ∧
    (∃ (s : State) (p : Port) (c : Cell) (n : Nat) (r : CollRec) (z : Chunk) (ty : Nat), s.opensContexts ∧ c.level = 0
       ∧ c.cls ≠ cCDN ∧ s.pairCode c.pack c.cseq (s.isMember c.pack (s.logical p.val)) = 0 ∧ s.bound c.pack c.cseq =
       some n ∧ (s.ctx n).state = .collect ∧ (s.ctx n).record = some r ∧ c.chunk < r.nchunk ∧ c.chunk ∉ (s.ctx
       n).released ∧ (s.contributors (s.layout (s.ctx n).pack) r c.chunk).contains (s.logical p.val) = true ∧ tget
       (s.ctx n).chunks c.chunk = some z ∧ s.chunkReads n c.chunk ∧ z.state = .opened ∧ (s.logical p.val) ∈ (s.ctx
       n).validated ∧ (tgetD z.contribs (s.logical p.val) {}).verified = false ∧ wireType r (s.logical p.val) = some ty
       ∧ opSums r.op = true ∧ c.type = tData ∧ elemBlocks ty = false ∧ c.cell * eCell ty < s.sentCount r (s.logical
       p.val) c.chunk ∧ tget (tgetD z.contribs (s.logical p.val) {}).cells c.cell = none ∧ c.cell < 64 ∧ (tgetD
       z.contribs (s.logical p.val) {}).check = none) ∧
    (∃ (s : State) (p : Port) (c : Cell) (n : Nat) (r : CollRec) (z : Chunk) (ty : Nat), s.opensContexts ∧ c.level = 0
       ∧ c.cls ≠ cCDN ∧ s.pairCode c.pack c.cseq (s.isMember c.pack (s.logical p.val)) = 0 ∧ s.bound c.pack c.cseq =
       some n ∧ (s.ctx n).state = .collect ∧ (s.ctx n).record = some r ∧ c.chunk < r.nchunk ∧ c.chunk ∉ (s.ctx
       n).released ∧ (s.contributors (s.layout (s.ctx n).pack) r c.chunk).contains (s.logical p.val) = true ∧ tget
       (s.ctx n).chunks c.chunk = some z ∧ s.chunkReads n c.chunk ∧ z.state = .opened ∧ (s.logical p.val) ∈ (s.ctx
       n).validated ∧ (tgetD z.contribs (s.logical p.val) {}).verified = false ∧ wireType r (s.logical p.val) = some ty
       ∧ opSums r.op = true ∧ c.type = tPromo ∧ elemBlocks ty = true ∧ c.cell * eCell ty < s.sentCount r (s.logical
       p.val) c.chunk ∧ (tgetD z.contribs (s.logical p.val) {}).cells = [] ∧ promoBreaks ty none c.payload = false ∧
       (tgetD z.contribs (s.logical p.val) {}).check = none) ∧
    (∃ (s : State) (p : Port) (c : Cell) (n : Nat) (r : CollRec) (z : Chunk) (ty : Nat), s.opensContexts ∧ c.level = 0
       ∧ c.cls ≠ cCDN ∧ s.pairCode c.pack c.cseq (s.isMember c.pack (s.logical p.val)) = 0 ∧ s.bound c.pack c.cseq =
       some n ∧ (s.ctx n).state = .collect ∧ (s.ctx n).record = some r ∧ c.chunk < r.nchunk ∧ c.chunk ∉ (s.ctx
       n).released ∧ (s.contributors (s.layout (s.ctx n).pack) r c.chunk).contains (s.logical p.val) = true ∧ tget
       (s.ctx n).chunks c.chunk = some z ∧ s.chunkReads n c.chunk ∧ z.state = .opened ∧ (s.logical p.val) ∈ (s.ctx
       n).validated ∧ (tgetD z.contribs (s.logical p.val) {}).verified = false ∧ wireType r (s.logical p.val) = some ty
       ∧ opSums r.op = true ∧ c.type = tCheck ∧ c.pay 24 4 = s.sentCount r (s.logical p.val) c.chunk ∧ (tgetD z.contribs
       (s.logical p.val) {}).check = none ∧
       ({ (tgetD z.contribs (s.logical p.val) {}) with check := some ⟨c.pay 0 8, c.pay 8 8, c.pay 16 8, c.pay 24 4, c.pay 28 1⟩ }
       : Contrib).complete (some ty) (s.sentCount r (s.logical p.val) c.chunk) = false) ∧
    (∃ (s : State) (p : Port) (c : Cell) (n : Nat) (r : CollRec) (z : Chunk) (ty : Nat), s.opensContexts ∧ c.level = 0
       ∧ c.cls ≠ cCDN ∧ s.pairCode c.pack c.cseq (s.isMember c.pack (s.logical p.val)) = 0 ∧ s.bound c.pack c.cseq =
       some n ∧ (s.ctx n).state = .collect ∧ (s.ctx n).record = some r ∧ c.chunk < r.nchunk ∧ c.chunk ∉ (s.ctx
       n).released ∧ (s.contributors (s.layout (s.ctx n).pack) r c.chunk).contains (s.logical p.val) = true ∧ tget
       (s.ctx n).chunks c.chunk = some z ∧ s.chunkReads n c.chunk ∧ z.state = .opened ∧ (s.logical p.val) ∈ (s.ctx
       n).validated ∧ (tgetD z.contribs (s.logical p.val) {}).verified = false ∧ wireType r (s.logical p.val) = some ty
       ∧ opSums r.op = true ∧ c.type = tData ∧ c.cell * eCell ty < s.sentCount r (s.logical p.val) c.chunk ∧ (tget
       (tgetD z.contribs (s.logical p.val) {}).cells c.cell).isSome = true) :=
  ⟨⟨opened ctx5, 3, collC tData [], 0, by decide +kernel⟩,
   ⟨opened ctx5, 3, collC tPromo [], 0, by decide +kernel⟩,
   ⟨opened ctx5, 3, collC tCheck [], 0, by decide +kernel⟩,
   ⟨up, 3, collC tData [], by decide +kernel⟩,
   ⟨up, 3, collC tPromo [], by decide +kernel⟩,
   ⟨up, 3, collC tCheck [], by decide +kernel⟩,
   ⟨rack, 0, by decide +kernel⟩,
   ⟨opened (withChunk { state := .check }), 0, collC tData [], by decide +kernel⟩,
   ⟨opened (withChunk { }), 3, collC tData [], 0, rec5, { }, eFP32, by decide +kernel⟩,
   ⟨opened { withChunk { } with record := some { rec5 with elem := eB4, count := 112 } }, 3, collC tPromo promoPay,
      0, { rec5 with elem := eB4, count := 112 }, { }, eB4, by decide +kernel⟩,
   ⟨opened (withChunk { }), 3, collC tCheck (List.replicate 24 0 ++ beBytes 4 16), 0, rec5, { }, eFP32, by
      decide +kernel⟩,
   ⟨opened (withChunk { contribs := [(3, { cells := [(0, [])] })] }), 3, collC tData [], 0, rec5,
      { contribs := [(3, { cells := [(0, [])] })] }, eFP32, by decide +kernel⟩⟩

/-- The hypotheses of HeelsAreReleased are met, clause by clause. -/
theorem test_meetsHeelsAreReleased :
    (∃ (s : State) (p : Port) (c : Cell) (n : Nat), s.opensContexts ∧ c.type = tCtrl ∧ c.op = 0x10 ∧ s.peerKind p.val
       = 1 ∧ s.pairCode (bits (c.pay 0 2) 0 10) (c.pay 2 2) (s.isMember (bits (c.pay 0 2) 0 10) (s.logical p.val)) = 0 ∧
       s.bound (bits (c.pay 0 2) 0 10) (c.pay 2 2) = none ∧ (((tget s.packs (bits (c.pay 0 2) 0 10)).map
       (·.contexts)).getD []).find? (fun n => (s.ctx n).state = .free) = some n ∧ s.absentMember (s.layout (bits (c.pay
       0 2) 0 10)) = none ∧ (heelRecord c).kind ≠ 1 ∧ (∃ m ∈ (s.layout (bits (c.pay 0 2) 0 10)).members, m ≠ (s.logical
       p.val))) ∧
    (∃ (s : State) (p : Port) (c : Cell) (n : Nat) (h : CollRec), s.opensContexts ∧ c.type = tCtrl ∧ c.op = 0x10 ∧
       s.peerKind p.val = 1 ∧ s.pairCode (bits (c.pay 0 2) 0 10) (c.pay 2 2) (s.isMember (bits (c.pay 0 2) 0 10)
       (s.logical p.val)) = 0 ∧ s.bound (bits (c.pay 0 2) 0 10) (c.pay 2 2) = some n ∧ (s.ctx n).state = .collect ∧
       (s.ctx n).record = some h ∧ firstDiffers h (heelRecord c) = 0 ∧ (s.logical p.val) ∉ (s.ctx n).validated) ∧
    (∃ (d : Dev) (n : Nat), (d.ctx n).state = .collect ∧ d.heelsIn (d.ctx n) = true ∧ (d.ctx n).rc.kind ≠ 1 ∧ (d.ctx
       n).doneSent = false ∧ (d.layout (d.ctx n).pack).spanning = false) ∧
    (∃ (s : State) (src : Src) (c : Cell) (n : Nat) (h : Hop), c.type = tCtrl ∧ c.op = 0x11 ∧ s.domainOff .switch =
       false ∧ s.openPair (bits (c.pay 0 2) 0 10) (c.pay 2 2) = some n ∧ (s.ctx n).rc.heel = true ∧ (s.layout (s.ctx
       n).pack).spanning = true ∧ (s.layout (s.ctx n).pack).target ((s.ctx n).rc.coordinator (s.layout (s.ctx n).pack))
       = some h ∧ s.arrivedFrom src c = some h.rack ∧ (s.layout (s.ctx n).pack).upstreams ((s.ctx n).rc.coordinator
       (s.layout (s.ctx n).pack)) = [] ∧ s.tick < c.pay 16 8) ∧
    (∃ (s : State) (ctx : CtxNo) (e : HeelRel), s.heels.find? (fun h => h.ctx = ctx.val && h.tick ≤ s.tick) = some e) :=
  ⟨⟨rack, 3, heelC 0, 0, by decide +kernel, by decide +kernel, by decide +kernel, by decide +kernel, by
      decide +kernel, by decide +kernel, by decide +kernel, by decide +kernel, by decide +kernel, ⟨4, by decide +kernel,
      by decide +kernel⟩⟩,
   ⟨opened { ctx5 with record := some (heel5 0 0) }, 3, heelC 0, 0, heel5 0 0, by decide +kernel⟩,
   ⟨(opened { both5 with record := some (heel5 0 0) }).toDev, 0, by decide +kernel⟩,
   ⟨spans { both5 with record := some (heel5 0 1) }, .fabric 7, mkCtl tCtrl 0 0x100FF 0x11 0 ([0, 5] ++
      List.replicate 14 0 ++ beBytes 8 2000000), 0, ⟨1, 16, 1⟩, by decide +kernel⟩,
   ⟨{ rack with heels := [⟨0, 5, 1000000, 0, 0⟩] }, 0, ⟨0, 5, 1000000, 0, 0⟩, by decide +kernel⟩⟩

/-- The hypotheses of ContextsEnd are met, clause by clause. -/
theorem test_meetsContextsEnd :
    (∃ (s : State) (n : CtxNo), (s.ctx n.val).state = .collect ∧ (s.ctx n.val).progressTick + s.reg E.CTX_IDLE_TICKS ≤
       s.tick ∧ s.armsOver n.val = true ∧ s.coordTarget (s.ctx n.val) = none) ∧
    (∃ (s : State) (n : CtxNo), (s.ctx n.val).state = .collect ∧ (s.ctx n.val).progressTick + s.reg E.CTX_IDLE_TICKS ≤
       s.tick ∧ (s.armsOver n.val = false ∨ s.coordTarget (s.ctx n.val) ≠ none)) ∧
    (∃ (s : State) (n : CtxNo), (s.ctx n.val).state = .collect ∧ s.tick < (s.ctx n.val).progressTick + s.reg
       E.CTX_IDLE_TICKS) ∧
    (∃ (s : State) (n : CtxNo), (s.ctx n.val).state = .collect ∧ (s.ctx n.val).record.isSome = true ∧ (s.ctx
       n.val).rc.heel = false ∧ (s.ctx n.val).doneSent = false ∧ s.allValid (s.ctx n.val) = true ∧ s.partDone (s.ctx
       n.val) = true ∧ s.armsDone (s.ctx n.val) = true ∧ ((s.layout (s.ctx n.val).pack).spanning = false ∨ (s.layout
       (s.ctx n.val).pack).target ((s.ctx n.val).rc.coordinator (s.layout (s.ctx n.val).pack)) = none)) ∧
    (∃ (s : State) (n : CtxNo) (h : _), (s.ctx n.val).state = .collect ∧ (s.ctx n.val).record.isSome = true ∧ (s.ctx
       n.val).rc.heel = false ∧ (s.ctx n.val).doneSent = false ∧ s.allValid (s.ctx n.val) = true ∧ s.partDone (s.ctx
       n.val) = true ∧ s.armsDone (s.ctx n.val) = true ∧ (s.layout (s.ctx n.val).pack).spanning = true ∧ (s.layout
       (s.ctx n.val).pack).target ((s.ctx n.val).rc.coordinator (s.layout (s.ctx n.val).pack)) = some h) ∧
    (∃ (s : State) (src : Src) (c : Cell) (n : Nat) (rack : Nat), c.type = tCtrl ∧ c.op = 0x31 ∧ s.domainOff .switch =
       false ∧ s.openPair (bits (c.pay 0 2) 0 10) (c.pay 2 2) = some n ∧ s.arrivedFrom src c = some rack ∧ (s.layout
       (s.ctx n).pack).spanning = true ∧ c.pay 4 1 = 0 ∧ (((s.layout (s.ctx n).pack).target ((s.ctx n).rc.coordinator
       (s.layout (s.ctx n).pack))).map (·.rack)) = some rack) ∧
    (∃ (s : State) (src : Src) (c : Cell) (n : Nat) (rack : Nat), c.type = tCtrl ∧ c.op = 0x31 ∧ s.domainOff .switch =
       false ∧ s.openPair (bits (c.pay 0 2) 0 10) (c.pay 2 2) = some n ∧ s.arrivedFrom src c = some rack ∧ (s.layout
       (s.ctx n).pack).spanning = true ∧ c.pay 4 1 = 0 ∧ (((s.layout (s.ctx n).pack).target ((s.ctx n).rc.coordinator
       (s.layout (s.ctx n).pack))).map (·.rack)) ≠ some rack ∧ (((s.layout (s.ctx n).pack).upstreams ((s.ctx
       n).rc.coordinator (s.layout (s.ctx n).pack))).map (·.rack)).contains rack = true ∧ rack ∉ (s.ctx n).doneFrom) ∧
    (∃ (s : State) (src : Src) (c : Cell) (n : Nat) (rack : Nat), c.type = tCtrl ∧ c.op = 0x31 ∧ s.domainOff .switch =
       false ∧ s.openPair (bits (c.pay 0 2) 0 10) (c.pay 2 2) = some n ∧ s.arrivedFrom src c = some rack ∧ (s.layout
       (s.ctx n).pack).spanning = true ∧ c.pay 4 1 ≠ 0 ∧ c.pay 4 1 ≤ 13 ∧ c.pay 5 1 ≤ 14 ∧ ((((s.layout (s.ctx
       n).pack).target ((s.ctx n).rc.coordinator (s.layout (s.ctx n).pack))).map (·.rack)) = some rack ∨ (((s.layout
       (s.ctx n).pack).upstreams ((s.ctx n).rc.coordinator (s.layout (s.ctx n).pack))).map (·.rack)).contains rack =
       true)) ∧
    (∃ (s : State) (src : Src) (c : Cell) (n : Nat) (rack : Nat), c.type = tCtrl ∧ c.op = 0x31 ∧ s.domainOff .switch =
       false ∧ s.openPair (bits (c.pay 0 2) 0 10) (c.pay 2 2) = some n ∧ s.arrivedFrom src c = some rack ∧ (s.layout
       (s.ctx n).pack).spanning = true ∧ (13 < c.pay 4 1 ∨ 14 < c.pay 5 1) ∧ c.pay 4 1 ≠ 0 ∧ ((((s.layout (s.ctx
       n).pack).target ((s.ctx n).rc.coordinator (s.layout (s.ctx n).pack))).map (·.rack)) = some rack ∨ (((s.layout
       (s.ctx n).pack).upstreams ((s.ctx n).rc.coordinator (s.layout (s.ctx n).pack))).map (·.rack)).contains rack =
       true)) ∧
    (∃ (s : State) (src : Src) (c : Cell) (n : Nat) (rack : Nat), c.type = tCtrl ∧ c.op = 0x30 ∧ s.domainOff .switch =
       false ∧ s.openPair (bits (c.pay 2 2) 0 10) (c.pay 4 2) = some n ∧ s.arrivedFrom src c = some rack ∧ c.pay 0 1 = 1
       ∧ (∃ q ∈ (s.ctx n).targets, q.rack = rack)) ∧
    (∃ (s : State) (n : CtxNo) (q : SpanTarget) (a : Nat), (s.ctx n.val).state = .collect ∧ (s.ctx n.val).targets =
       [q] ∧ q.busyAt = some a ∧ a ≤ s.tick) ∧
    (∃ (s : State) (n : CtxNo) (a : Nat), (s.ctx n.val).state = .collect ∧ (s.ctx n.val).resendAt = some a ∧ a ≤
       s.tick ∧ (s.ctx n.val).targets = []) :=
  ⟨⟨{ opened { both5 with released := [0] } with tick := 10 ^ 12 }, 0, by decide +kernel⟩,
   ⟨{ opened both5 with tick := 10 ^ 12 }, 0, by decide +kernel⟩,
   ⟨opened { both5 with progressTick := 1000000 }, 0, by decide +kernel⟩,
   ⟨opened { both5 with released := [0] }, 0, by decide +kernel⟩,
   ⟨spans { both5 with released := [0], relayed := [0], record := some { rec5 with tensor := 1 } }, 0, ⟨1, 16, 1⟩, by
      decide +kernel⟩,
   ⟨spans { both5 with record := some { rec5 with tensor := 1 } }, .fabric 7, mkCtl tCtrl 0 0x100FF 0x31 0 [0, 5, 0,
      0, 0], 0, 16, by decide +kernel⟩,
   ⟨spans both5, .fabric 7, mkCtl tCtrl 0 0x100FF 0x31 0 [0, 5, 0, 0, 0], 0, 16, by decide +kernel⟩,
   ⟨spans both5, .fabric 7, mkCtl tCtrl 0 0x100FF 0x31 0 [0, 5, 0, 0, 7], 0, 16, by decide +kernel⟩,
   ⟨spans both5, .fabric 7, mkCtl tCtrl 0 0x100FF 0x31 0 [0, 5, 0, 0, 14], 0, 16, by decide +kernel⟩,
   ⟨spans { both5 with targets := [⟨1, 16, 0, none, 0⟩] }, .fabric 7, mkCtl tCtrl 0 0x100FF 0x30 0 [1, 0, 0, 5, 0,
      0], 0, 16, by decide +kernel, by decide +kernel, by decide +kernel, by decide +kernel, by decide +kernel, by
      decide +kernel, ⟨_, List.mem_cons_self .., by decide +kernel⟩⟩,
   ⟨opened { both5 with targets := [⟨1, 16, 0, some 5, 0⟩] }, 0, ⟨1, 16, 0, some 5, 0⟩, 5, by decide +kernel⟩,
   ⟨opened { both5 with resendAt := some 1000000 }, 0, 1000000, by decide +kernel⟩⟩

/-- The hypotheses of ChunksAreReleasedAndRestored are met, clause by clause. -/
theorem test_meetsChunksAreReleasedAndRestored :
    (∃ (s : State), s.switchStill = true) ∧
    (∃ (s : State) (n : CtxNo) (c : BitVec 20) (z : Chunk), s.switchStill = false ∧ s.chunkReads n.val c.toNat ∧ tget
       (s.ctx n.val).chunks c.toNat = some z ∧ z.state = .check ∧ z.completeTick + (if ((s.ctx n.val).rc).dup && ((s.ctx
       n.val).rc).fused = 0 then 3 else 2) ≤ s.tick ∧ (s.layout (s.ctx n.val).pack).spanning = false ∧ s.roleOf ((s.ctx
       n.val).rc) = none) ∧
    (∃ (s : State) (n : CtxNo) (c : BitVec 20) (z : Chunk), s.switchStill = false ∧ s.chunkReads n.val c.toNat ∧ tget
       (s.ctx n.val).chunks c.toNat = some z ∧ z.state = .check ∧ z.completeTick + (if ((s.ctx n.val).rc).dup && ((s.ctx
       n.val).rc).fused = 0 then 3 else 2) ≤ s.tick ∧ (s.layout (s.ctx n.val).pack).spanning = false ∧ (s.roleOf ((s.ctx
       n.val).rc) = some .gradient ∨ s.roleOf ((s.ctx n.val).rc) = some .combine)) ∧
    (∃ (s : State) (n : CtxNo) (c : BitVec 20) (z : Chunk) (h : _), s.switchStill = false ∧ s.chunkReads n.val c.toNat
       ∧ tget (s.ctx n.val).chunks c.toNat = some z ∧ z.state = .check ∧ z.completeTick + (if ((s.ctx n.val).rc).dup &&
       ((s.ctx n.val).rc).fused = 0 then 3 else 2) ≤ s.tick ∧ (s.layout (s.ctx n.val).pack).spanning = true ∧ (s.layout
       (s.ctx n.val).pack).target (s.home (s.layout (s.ctx n.val).pack) ((s.ctx n.val).rc) c.toNat) = some h ∧ s.roleOf
       ((s.ctx n.val).rc) = none) ∧
    (∃ (s : State) (n : CtxNo) (c : BitVec 20) (z : Chunk), s.switchStill = false ∧ s.chunkReads n.val c.toNat ∧ tget
       (s.ctx n.val).chunks c.toNat = some z ∧ z.state = .check ∧ s.tick < z.completeTick + (if ((s.ctx n.val).rc).dup
       && ((s.ctx n.val).rc).fused = 0 then 3 else 2) ∧ tget (s.ctx n.val).down c.toNat = none) ∧
    (∃ (s : State) (n : CtxNo) (c : BitVec 20), s.switchStill = false ∧ s.nextRestore (unitOf n.val c.toNat) = some
       (n.val, c.toNat, false)) ∧
    (∃ (s : State) (n : CtxNo) (c : BitVec 20), s.nextRestore (unitOf n.val c.toNat) ≠ some (n.val, c.toNat, false) ∧
       s.nextRestore (unitOf n.val c.toNat) ≠ some (n.val, c.toNat, true)) ∧
    (∃ (s : State) (n : CtxNo) (c : BitVec 20) (z : Chunk), s.switchStill = false ∧ tget (s.ctx n.val).chunks c.toNat
       = some z ∧ z.state = .restore ∧ (((s.toDev.updChunk n.val c.toNat (fun y => { y with log := [] })).replayLog
       n.val c.toNat z.log).ctx n.val).state = .collect) :=
  ⟨⟨{ up with power := { off := true } }, by decide +kernel⟩,
   ⟨opened (withChunk { state := .check }), 0, 0, { state := .check }, by decide +kernel⟩,
   ⟨{ opened { withChunk { state := .check } with record := some { rec5 with fused := 1 } } with chains := [(0, { desc := momDesc })] },
      0, 0, { state := .check }, by decide +kernel⟩,
   ⟨spans { withChunk { state := .check } with record := some { rec5 with tensor := 1 } }, 0, 0, { state := .check },
      ⟨1, 16, 1⟩, by decide +kernel⟩,
   ⟨opened (withChunk { state := .check, completeTick := 999999 }), 0, 0,
      { state := .check, completeTick := 999999 }, by decide +kernel⟩,
   ⟨opened (withChunk { state := .logged }), 0, 0, by decide +kernel⟩,
   ⟨opened (withChunk { }), 0, 0, by decide +kernel⟩,
   ⟨opened (withChunk { state := .restore }), 0, 0, { state := .restore }, by decide +kernel⟩⟩

/-- The hypotheses of TimeTransfer are met, clause by clause. -/
theorem test_meetsTimeTransfer :
    (∃ (s : State), s.reg E.TIME_PARENT_PORT ≠ 0xFF ∧ (s.port (s.reg E.TIME_PARENT_PORT)).state = .up ∧ s.peerKind
       (s.reg E.TIME_PARENT_PORT) = 2 ∧ (s.time.lastSent = none ∨ ∃ a, s.time.lastSent = some a ∧ a + s.reg
       E.TIME_PERIOD_TICKS ≤ s.tick)) ∧
    (∃ (s : State) (p : Port) (c : Cell), c.type = tCtrl ∧ c.op = 0x40 ∧ c.pay 0 1 = 1 ∧ (s.port p.val).state = .up) ∧
    (∃ (s : State) (p : Port) (c : Cell), c.type = tCtrl ∧ c.op = 0x40 ∧ c.pay 0 1 = 2 ∧ c.pay 2 2 = s.time.seq ∧
       s.time.t1 = some (c.pay 4 8) ∧ s.reg E.TIME_PARENT_PORT = p.val) :=
  ⟨⟨{ rack with regs := [(E.TIME_PARENT_PORT, 3)], blobs := [(E.PEER_IDENT 3, ident 2)] }, by decide +kernel, by
      decide +kernel, by decide +kernel, Or.inl (by decide +kernel)⟩,
   ⟨rack, 3, mkCtl tCtrl 0 0 0x40 0 [1], by decide +kernel⟩,
   ⟨{ rack with regs := [(E.TIME_PARENT_PORT, 3)], blobs := [(E.PEER_IDENT 3, ident 2)], time := { t1 := some 0 } },
      3, mkCtl tCtrl 0 0 0x40 0 [2], by decide +kernel⟩⟩

/-- The hypotheses of WhistlesFire are met, clause by clause. -/
theorem test_meetsWhistlesFire :
    (∃ (s : State) (w : WhistleNo), s.domainOff .switch = false ∧ (s.whistle w.val).state = .armed ∧ (s.whistle
       w.val).threshold ≤ (s.whistle w.val).count ∧ queued (s.actions (w.val / 4096)) < 1024 ∧ 1 ≤ (s.whistle
       w.val).code ∧ (s.whistle w.val).code ≤ acINT) ∧
    (∃ (s : State) (w : WhistleNo), ((s.whistle w.val).state ≠ .armed ∨ (s.whistle w.val).count < (s.whistle
       w.val).threshold)) ∧
    (∃ (s : State) (sd : Sdie) (a : Machine.Action), s.actionReady sd.val acINT a ∧ 0x80 ≤ a.arg2 % 256) ∧
    (∃ (s : State) (sd : Sdie) (a : Machine.Action), s.actionReady sd.val acINT a ∧ a.arg2 % 256 < 0x80) ∧
    (∃ (s : State) (sd : Sdie) (a : Machine.Action), s.actionReady sd.val acDMA a ∧ a.arg2 ≤ 15 ∧ (s.toDev.startAction
       sd.val acDMA a).dmaFull (16 * a.cdie + a.arg2) = false) ∧
    (∃ (s : State) (w : WhistleNo) (a : Machine.Action) (r : List Machine.Action), s.actions (w.val / 4096) = a :: r ∧
       a.whistle = w.val ∧ a.stage = .succeeded ∧ bits (s.whistle w.val).doneWhistle 15 1 = 0) ∧
    (∃ (s : State) (w : WhistleNo) (a : Machine.Action) (r : List Machine.Action), s.actions (w.val / 4096) = a :: r ∧
       a.whistle = w.val ∧ a.stage = .succeeded ∧ bits (s.whistle w.val).doneWhistle 15 1 = 1) ∧
    (∃ (s : State) (w : WhistleNo) (a : Machine.Action) (r : List Machine.Action), s.actions (w.val / 4096) = a :: r ∧
       a.whistle = w.val ∧ a.stage = .failed ∧ (s.whistle w.val).state = .armed) :=
  ⟨⟨{ rack with whistles := [(0, { desc := 0 :: 0 :: 0 :: 0 :: 5 :: List.replicate 27 0, state := .armed })] }, 0, by
      decide +kernel⟩,
   ⟨rack, 0, by decide +kernel⟩,
   ⟨{ rack with actions0 := [⟨0, 0, acINT, 0, 0, 0xFF, .queued⟩] }, 0, ⟨0, 0, acINT, 0, 0, 0xFF, .queued⟩, by
      decide +kernel⟩,
   ⟨{ rack with actions0 := [⟨0, 0, acINT, 0, 0, 0x7F, .queued⟩] }, 0, ⟨0, 0, acINT, 0, 0, 0x7F, .queued⟩, by
      decide +kernel⟩,
   ⟨{ rack with actions0 := [⟨0, 0, acDMA, 0, 0, 15, .queued⟩] }, 0, ⟨0, 0, acDMA, 0, 0, 15, .queued⟩, by
      decide +kernel⟩,
   ⟨{ rack with actions0 := [⟨0, 0, acINT, 0, 0, 0, .succeeded⟩] }, 0, ⟨0, 0, acINT, 0, 0, 0, .succeeded⟩, [], by
      decide +kernel⟩,
   ⟨{ rack with actions0 := [⟨0, 0, acINT, 0, 0, 0, .succeeded⟩], whistles := [(0, { desc := 0 :: 0 :: 0 :: 0 :: 0 :: 0 :: 0 :: 0x80 :: List.replicate 24 0 })] },
      0, ⟨0, 0, acINT, 0, 0, 0, .succeeded⟩, [], by decide +kernel⟩,
   ⟨{ rack with actions0 := [⟨0, 0, acINT, 0, 0, 0, .failed⟩], whistles := [(0, { state := .armed })] }, 0, ⟨0, 0,
      acINT, 0, 0, 0, .failed⟩, [], by decide +kernel⟩⟩

/-- The hypotheses of ActionsRun are met, clause by clause. -/
theorem test_meetsActionsRun :
    (∃ (s : State) (sd : Sdie) (a : Machine.Action), s.actionReady sd.val acLAUNCH a ∧ (s.toDev.startAction sd.val
       acLAUNCH a).generalRange a.addr 96 = false) ∧
    (∃ (s : State) (sd : Sdie) (a : Machine.Action) (b : _) (d2 : _), s.actionReady sd.val acLAUNCH a ∧
       (s.toDev.startAction sd.val acLAUNCH a).generalRange a.addr 96 = true ∧ (s.toDev.startAction sd.val acLAUNCH
       a).readMem a.addr 96 ((s.toDev.startAction sd.val acLAUNCH a).freeCore a.cdie) = (some b, d2) ∧ pdKind b = 1 ∧
       d2.productRefused a.addr b = none) ∧
    (∃ (s : State) (sd : Sdie) (a : Machine.Action) (b : List Byte) (d2 : Dev), s.actionReady sd.val acINJECT a ∧
       (s.toDev.startAction sd.val acINJECT a).generalRange a.addr 80 = true ∧ (s.toDev.startAction sd.val acINJECT
       a).linkDown (4 * sd.val + tierCdie a.addr) = false ∧ ((s.toDev.startAction sd.val acINJECT a).pkgTransfer (4 *
       sd.val + tierCdie a.addr)).readMem a.addr 80 iniNone = (some b, d2) ∧ (((⟨BitVec.ofNat 96 (beNat (b.take 12)),
       slice b 12 64⟩ : Cell)).setFld 30 16 ((((⟨BitVec.ofNat 96 (beNat (b.take 12)), slice b 12 64⟩ : Cell)).cseq +
       a.arg2 * a.fire) % 65536)).type = tStart ∧ (((⟨BitVec.ofNat 96 (beNat (b.take 12)), slice b 12 64⟩ :
       Cell)).setFld 30 16 ((((⟨BitVec.ofNat 96 (beNat (b.take 12)), slice b 12 64⟩ : Cell)).cseq + a.arg2 * a.fire) %
       65536)).malformedForm = false) ∧
    (∃ (s : State) (sd : Sdie) (a : Machine.Action) (b : List Byte) (d2 : Dev), s.actionReady sd.val acSEND a ∧
       (s.toDev.startAction sd.val acSEND a).generalRange a.addr 80 = true ∧ (s.toDev.startAction sd.val acSEND
       a).readMem a.addr 80 iniNone = (some b, d2) ∧ ((⟨BitVec.ofNat 96 (beNat (b.take 12)), slice b 12 64⟩ :
       Cell)).type = tCtrl ∧ localOp ((⟨BitVec.ofNat 96 (beNat (b.take 12)), slice b 12 64⟩ : Cell)).op = false ∧
       ((⟨BitVec.ofNat 96 (beNat (b.take 12)), slice b 12 64⟩ : Cell)).malformedForm = false) ∧
    (∃ (s : State) (id : BitVec 64) (p : Product), tget s.products id.toNat = some p ∧ s.actionWaits acLAUNCH = false
       ∧ pdKind p.desc = 1) ∧
    (∃ (s : State) (id : BitVec 64) (p : Product), tget s.products id.toNat = some p ∧ s.actionWaits acLAUNCH = false
       ∧ pdKind p.desc ≠ 1 ∧ p.failed = none ∧ (∀ e ∈ s.chains, ∀ z ∈ e.2.stash, z.prod ≠ some id.toNat)) ∧
    (∃ (s : State) (id : BitVec 64) (p : Product), tget s.products id.toNat = some p ∧ s.actionWaits acLAUNCH = false
       ∧ pdKind p.desc ≠ 1 ∧ p.failed ≠ none) ∧
    (∃ (s : State) (id : BitVec 64), tget s.products id.toNat = none) :=
  ⟨⟨{ rack with actions0 := [⟨0, 0, acLAUNCH, 0, 2 ^ 63 + 2 ^ 62, 0, .queued⟩] }, 0, ⟨0, 0, acLAUNCH, 0, 2 ^ 63 + 2 ^
      62, 0, .queued⟩, by decide +kernel⟩,
   ⟨withAct (⟨0, 0, acLAUNCH, 0, 0, 0, .queued⟩) (emptyProduct), 0, ⟨0, 0, acLAUNCH, 0, 0, 0, .queued⟩, emptyProduct,
      (withAct (⟨0, 0, acLAUNCH, 0, 0, 0, .queued⟩) emptyProduct).toDev.startAction 0 acLAUNCH (⟨0, 0, acLAUNCH, 0, 0,
      0, .queued⟩), by decide +kernel, by decide +kernel, (Dev.readMem_unarmed rfl rfl (by decide +kernel) _).trans
      (Prod.ext (by decide +kernel) rfl), by decide +kernel, by decide +kernel⟩,
   ⟨withAct (⟨0, 0, acINJECT, 0, 0, 0, .queued⟩) (injectBytes), 0, ⟨0, 0, acINJECT, 0, 0, 0, .queued⟩, injectBytes,
      (withAct (⟨0, 0, acINJECT, 0, 0, 0, .queued⟩) injectBytes).toDev.startAction 0 acINJECT (⟨0, 0, acINJECT, 0, 0, 0,
      .queued⟩), by decide +kernel⟩,
   ⟨withAct (⟨0, 0, acSEND, 0, 0, 0, .queued⟩) (sendBytes), 0, ⟨0, 0, acSEND, 0, 0, 0, .queued⟩, sendBytes, (withAct
      (⟨0, 0, acSEND, 0, 0, 0, .queued⟩) sendBytes).toDev.startAction 0 acSEND (⟨0, 0, acSEND, 0, 0, 0, .queued⟩), by
      decide +kernel⟩,
   ⟨{ rack with products := [(7, ⟨0, emptyProduct, 0, 0, 0, 5, none⟩)] }, 7, ⟨0, emptyProduct, 0, 0, 0, 5, none⟩, by
      decide +kernel⟩,
   ⟨{ rack with products := [(7, ⟨0, [2], 0, 0, 0, 5, none⟩)] }, 7, ⟨0, [2], 0, 0, 0, 5, none⟩, by decide +kernel, by
      decide +kernel, by decide +kernel, by decide +kernel, none_in (by decide +kernel)⟩,
   ⟨{ rack with products := [(7, ⟨0, [2], 0, 0, 0, 5, some 5⟩)] }, 7, ⟨0, [2], 0, 0, 0, 5, some 5⟩, by
      decide +kernel⟩,
   ⟨rack, 7, by decide +kernel⟩⟩

/-- The hypotheses of ChainsRun are met, clause by clause. -/
theorem test_meetsChainsRun :
    (∃ (s : State) (n : CtxNo) (c : BitVec 20) (slot : Nat) (t0 : TierChunk), (s.ctx n.val).state = .collect ∧ (s.ctx
       n.val).record.isSome = true ∧ (s.ctx n.val).rc.heel = false ∧ s.switchStill = false ∧ s.computeOff = false ∧
       s.computeGated = false ∧ s.chainSlotOf (s.ctx n.val).rc.fused = some slot ∧ s.roleOf (s.ctx n.val).rc = some
       .gradient ∧ tget (s.ctx n.val).tier c.toNat = some t0 ∧ lowRank (s.chain slot).desc = none) ∧
    (∃ (s : State) (n : CtxNo), ((s.ctx n.val).state ≠ .collect ∨ s.switchStill = true ∨ s.computeOff = true ∨
       s.computeGated = true)) ∧
    (∃ (s : State) (k : Fin 256) (c : BitVec 20), c.toNat ∈ (s.chain k.val).finished) ∧
    (∃ (s : State) (k : Fin 256) (c : BitVec 20), c.toNat ∉ (s.chain k.val).finished) ∧
    (∃ (s : State) (n : CtxNo), (s.ctx n.val).state = .collect ∧ (s.ctx n.val).rc.heel = true ∧ (s.ctx n.val).rc.kind
       = 1 ∧ (s.ctx n.val).commitCode ≠ 3 ∧ s.stepBusy (s.ctx n.val).rc.step = false ∧ (s.ctx n.val).rc.step ∉
       s.stepFails) :=
  ⟨⟨{ opened { both5 with record := some { rec5 with fused := 1 }, tier := [(0, { s := [] })] } with chains := [(0, { desc := momDesc })] },
      0, 0, 0, { s := [] }, by decide +kernel⟩,
   ⟨rack, 0, by decide +kernel⟩,
   ⟨{ rack with chains := [(0, { desc := momDesc, finished := [7] })] }, 0, 7, by decide +kernel⟩,
   ⟨rack, 0, 7, by decide +kernel⟩,
   ⟨opened { both5 with record := some (heel5 1 0) }, 0, by decide +kernel⟩⟩

/-- The hypotheses of HostRequestsAct are met, clause by clause. -/
theorem test_meetsHostRequestsAct :
    (∃ (i : Instr) (k : Nat) (m : RoceMsg) (s : State), packetOf i = some (k, m) ∧ s.toDev.hostUp = false) ∧
    (∃ (i : Instr) (k : Nat) (m : RoceMsg) (s : State), packetOf i = some (k, m) ∧ s.toDev.hostUp = true ∧
       s.toDev.domainGated .host = true) ∧
    (∃ (i : Instr) (k : Nat) (m : RoceMsg) (s : State), packetOf i = some (k, m) ∧ s.toDev.hostUp = true ∧
       s.toDev.domainGated .host = false ∧ m.icrcOk = false) ∧
    (∃ (i : Instr) (k : Nat) (m : RoceMsg) (s : State), packetOf i = some (k, m) ∧ s.toDev.hostUp = true ∧
       s.toDev.domainGated .host = false ∧ m.icrcOk = true ∧ (s.qp m.qp.val).state ≠ 1) ∧
    (∃ (i : Instr) (k : Nat) (m : RoceMsg) (s : State) (d : _), packetOf i = some (k, m) ∧ s.packetIn m d ∧
       d.hostWaits k m = true) ∧
    (∃ (i : Instr) (k : Nat) (m : RoceMsg) (s : State) (d : _), packetOf i = some (k, m) ∧ s.packetIn m d ∧
       d.hostWaits k m = false ∧ k ≤ 2 ∧ m.invalid = true ∧ m.psn.toNat = (s.qp m.qp.val).rqPsn) ∧
    (∃ (i : Instr) (k : Nat) (m : RoceMsg) (s : State) (d : _), packetOf i = some (k, m) ∧ s.packetIn m d ∧
       d.hostWaits k m = false ∧ k ≤ 1 ∧ 2 ^ 23 ≤ psnAhead m.psn.toNat (s.qp m.qp.val).rqPsn) ∧
    (∃ (i : Instr) (k : Nat) (m : RoceMsg) (s : State) (d : _), packetOf i = some (k, m) ∧ s.packetIn m d ∧
       d.hostWaits k m = false ∧ k ≤ 2 ∧ 0 < psnAhead m.psn.toNat (s.qp m.qp.val).rqPsn ∧ psnAhead m.psn.toNat (s.qp
       m.qp.val).rqPsn < 2 ^ 23 ∧ (s.qp m.qp.val).gapNak = true) ∧
    (∃ (i : Instr) (k : Nat) (m : RoceMsg) (s : State) (d : _), packetOf i = some (k, m) ∧ s.packetIn m d ∧
       d.hostWaits k m = false ∧ k ≤ 2 ∧ 0 < psnAhead m.psn.toNat (s.qp m.qp.val).rqPsn ∧ psnAhead m.psn.toNat (s.qp
       m.qp.val).rqPsn < 2 ^ 23 ∧ (s.qp m.qp.val).gapNak = false) ∧
    (∃ (s : State) (m : RoceMsg), s.toDev.hostUp = true ∧ m.ecn = false) ∧
    (∃ (s : State) (m : RoceMsg), s.toDev.hostUp = true ∧ m.ecn = true ∧ (∀ a, (s.qp m.qp.val).lastCnpSent = some a →
       a + 1250 ≤ s.tick)) ∧
    (∃ (s : State) (m : RoceMsg) (d : Dev) (r : QpRx) (w : Nat), s.packetDue 1 m d ∧ s.sentry.inject = none ∧ ((s.qp
       m.qp.val).rx = none ∧ m.first = true ∧ r =
       { kind := 1, rkey := m.rkey.toNat, va := m.va.toNat, len := m.dmaLen.toNat } ∨ (s.qp m.qp.val).rx = some r ∧
       m.first = false ∧ r.kind = 1) ∧ (if m.last then r.taken + m.payload.length = r.len ∧ m.payload.length ≤ d.pathMtu
       else m.payload.length = d.pathMtu ∧ r.taken + m.payload.length ≤ r.len) ∧ m.payload ≠ [] ∧ d.windowOf r.rkey =
       some w ∧ d.windowAllows w true r.va r.len = true ∧ s.reg (E.WIN_ACCESS w) ≠ 4) ∧
    (∃ (s : State) (m : RoceMsg) (d : Dev) (w : _), s.packetDue 1 m d ∧ (s.qp m.qp.val).rx = none ∧ m.first = true ∧
       m.last = true ∧ m.payload.length = m.dmaLen.toNat ∧ m.payload.length ≤ d.pathMtu ∧ d.windowOf m.rkey.toNat = some
       w ∧ s.reg (E.WIN_ACCESS w) = 4 ∧ d.windowAllows w true m.va.toNat m.dmaLen.toNat = true ∧ beNat m.payload ≤ s.reg
       (E.PRODUCED (m.va.toNat / 8))) ∧
    (∃ (s : State) (m : RoceMsg) (d : Dev) (w : _), s.packetDue 1 m d ∧ (s.qp m.qp.val).rx = none ∧ m.first = true ∧
       m.last = true ∧ m.payload.length = m.dmaLen.toNat ∧ m.payload.length ≤ d.pathMtu ∧ d.windowOf m.rkey.toNat = some
       w ∧ s.reg (E.WIN_ACCESS w) = 4 ∧ d.windowAllows w true m.va.toNat m.dmaLen.toNat = true ∧ s.reg (E.PRODUCED
       (m.va.toNat / 8)) < beNat m.payload) ∧
    (∃ (s : State) (m : RoceMsg) (d : Dev), s.packetDue 1 m d ∧ (s.qp m.qp.val).rx = none ∧ m.first = true ∧ m.last =
       true ∧ m.payload.length = m.dmaLen.toNat ∧ m.payload.length ≤ d.pathMtu ∧ (∀ w, d.windowOf m.rkey.toNat = some w
       → d.windowAllows w true m.va.toNat m.dmaLen.toNat = false)) ∧
    (∃ (s : State) (m : RoceMsg) (d : Dev) (data : List Byte), s.packetDue 0 m d ∧ ((s.qp m.qp.val).rx = none ∧
       m.first = true ∧ data = m.payload ∨ ∃ r, (s.qp m.qp.val).rx = some r ∧ m.first = false ∧ r.kind = 0 ∧ data =
       r.data ++ m.payload) ∧ s.reg (E.QP_KIND m.qp.val) = 1 ∧ m.last = false ∧ m.payload.length = d.pathMtu) ∧
    (∃ (s : State) (m : RoceMsg) (d : Dev) (data : List Byte), s.packetDue 0 m d ∧ ((s.qp m.qp.val).rx = none ∧
       m.first = true ∧ data = m.payload ∨ ∃ r, (s.qp m.qp.val).rx = some r ∧ m.first = false ∧ r.kind = 0 ∧ data =
       r.data ++ m.payload) ∧ s.reg (E.QP_KIND m.qp.val) = 1 ∧ m.last = true ∧ data.length % 72 = 0 ∧ m.payload.length ≤
       d.pathMtu ∧ s.bridge.length + (data.length / 72) ≤ 4096) ∧
    (∃ (s : State) (m : RoceMsg) (d : Dev) (data : List Byte), s.packetDue 0 m d ∧ ((s.qp m.qp.val).rx = none ∧
       m.first = true ∧ data = m.payload ∨ ∃ r, (s.qp m.qp.val).rx = some r ∧ m.first = false ∧ r.kind = 0 ∧ data =
       r.data ++ m.payload) ∧ s.reg (E.QP_KIND m.qp.val) = 1 ∧ m.last = true ∧ data.length % 72 = 0 ∧ m.payload.length ≤
       d.pathMtu ∧ 4096 < s.bridge.length + (data.length / 72)) ∧
    (∃ (s : State) (m : RoceMsg) (d : Dev) (data : List Byte), s.packetDue 0 m d ∧ ((s.qp m.qp.val).rx = none ∧
       m.first = true ∧ data = m.payload ∨ ∃ r, (s.qp m.qp.val).rx = some r ∧ m.first = false ∧ r.kind = 0 ∧ data =
       r.data ++ m.payload) ∧ s.reg (E.QP_KIND m.qp.val) ≠ 1) ∧
    (∃ (s : State) (m : RoceMsg) (d : Dev) (w : Nat) (bs : _) (d1 : _), s.packetIn m d ∧ d.hostWaits 2 m = false ∧
       d.windowOf m.rkey.toNat = some w ∧ d.windowAllows w false m.va.toNat m.dmaLen.toNat = true ∧ d.readWindow w
       m.va.toNat m.dmaLen.toNat (iniQp m.qp.val) = (some bs, d1) ∧ (m.invalid = false ∧ (s.qp m.qp.val).rx = none ∧
       m.psn.toNat = (s.qp m.qp.val).rqPsn)) ∧
    (∃ (s : State) (m : RoceMsg) (d : Dev) (w : Nat) (bs : _) (d1 : _), s.packetIn m d ∧ d.hostWaits 2 m = false ∧
       d.windowOf m.rkey.toNat = some w ∧ d.windowAllows w false m.va.toNat m.dmaLen.toNat = true ∧ d.readWindow w
       m.va.toNat m.dmaLen.toNat (iniQp m.qp.val) = (some bs, d1) ∧ (2 ^ 23 ≤ psnAhead m.psn.toNat (s.qp
       m.qp.val).rqPsn)) ∧
    (∃ (s : State) (m : RoceMsg) (d : Dev) (w : Nat) (d1 : _), s.packetIn m d ∧ d.hostWaits 2 m = false ∧ d.windowOf
       m.rkey.toNat = some w ∧ d.windowAllows w false m.va.toNat m.dmaLen.toNat = true ∧ d.readWindow w m.va.toNat
       m.dmaLen.toNat (iniQp m.qp.val) = (none, d1) ∧ ((m.invalid = false ∧ (s.qp m.qp.val).rx = none ∧ m.psn.toNat =
       (s.qp m.qp.val).rqPsn) ∨ (2 ^ 23 ≤ psnAhead m.psn.toNat (s.qp m.qp.val).rqPsn))) ∧
    (∃ (s : State) (m : RoceMsg) (d : Dev) (w : Nat), s.packetIn m d ∧ d.hostWaits 2 m = false ∧ d.windowOf
       m.rkey.toNat = some w ∧ d.windowAllows w false m.va.toNat m.dmaLen.toNat = false ∧ ((m.invalid = false ∧ (s.qp
       m.qp.val).rx = none ∧ m.psn.toNat = (s.qp m.qp.val).rqPsn) ∨ (2 ^ 23 ≤ psnAhead m.psn.toNat (s.qp
       m.qp.val).rqPsn))) ∧
    (∃ (s : State) (m : RoceMsg) (d : Dev) (r : QpReq) (ch : Nat), s.packetIn m d ∧ d.hostWaits 3 m = false ∧
       s.sentry.inject = none ∧ (s.qp m.qp.val).sent = [r] ∧ (s.qp m.qp.val).queue = [] ∧ r.op = 0x0C ∧ r.npkts = 1 ∧
       r.use = .dma ch ∧ m.psn.toNat = r.psn ∧ (s.chan ch).state = .running ∧ (s.chan ch).started = true) ∧
    (∃ (s : State) (m : RoceMsg) (d : Dev) (r : QpReq), s.packetIn m d ∧ d.hostWaits 4 m = false ∧ (s.qp
       m.qp.val).sent = [r] ∧ (s.qp m.qp.val).queue = [] ∧ r.op ≠ 0x0C ∧ m.psn.toNat = r.psn ∧ bits m.syndrome.toNat 5 2
       = 0) :=
  ⟨⟨.sendMessage (msg [1, 2, 3, 4, 5, 6, 7, 8]), 0, msg [1, 2, 3, 4, 5, 6, 7, 8], up, by decide +kernel⟩,
   ⟨.sendMessage (msg [1, 2, 3, 4, 5, 6, 7, 8]), 0, msg [1, 2, 3, 4, 5, 6, 7, 8],
      { rts with power := { rts.power with sleep := .idle } }, by decide +kernel⟩,
   ⟨.sendMessage ({ msg [1, 2, 3, 4, 5, 6, 7, 8] with icrcOk := false }), 0,
      { msg [1, 2, 3, 4, 5, 6, 7, 8] with icrcOk := false }, rts, by decide +kernel⟩,
   ⟨.sendMessage (msg [1, 2, 3, 4, 5, 6, 7, 8]), 0, msg [1, 2, 3, 4, 5, 6, 7, 8], rtsQp { } 3, by decide +kernel⟩,
   ⟨.rdmaWrite (msg [1, 2, 3, 4, 5, 6, 7, 8]), 1, msg [1, 2, 3, 4, 5, 6, 7, 8],
      { rts with power := { rts.power with sleep := .doze } }, counted
      ({ rts with power := { rts.power with sleep := .doze } }) (msg [1, 2, 3, 4, 5, 6, 7, 8]), by decide +kernel⟩,
   ⟨.sendMessage ({ msg [1, 2, 3, 4, 5, 6, 7, 8] with invalid := true }), 0,
      { msg [1, 2, 3, 4, 5, 6, 7, 8] with invalid := true }, rts, counted rts
      ({ msg [1, 2, 3, 4, 5, 6, 7, 8] with invalid := true }), by decide +kernel⟩,
   ⟨.sendMessage ({ msg [1, 2, 3, 4, 5, 6, 7, 8] with psn := 0x800000 }), 0,
      { msg [1, 2, 3, 4, 5, 6, 7, 8] with psn := 0x800000 }, rts, counted rts
      ({ msg [1, 2, 3, 4, 5, 6, 7, 8] with psn := 0x800000 }), by decide +kernel⟩,
   ⟨.sendMessage ({ msg [1, 2, 3, 4, 5, 6, 7, 8] with psn := 1 }), 0, { msg [1, 2, 3, 4, 5, 6, 7, 8] with psn := 1 },
      rtsQp { state := 1, gapNak := true } 3, counted (rtsQp { state := 1, gapNak := true } 3)
      ({ msg [1, 2, 3, 4, 5, 6, 7, 8] with psn := 1 }), by decide +kernel⟩,
   ⟨.sendMessage ({ msg [1, 2, 3, 4, 5, 6, 7, 8] with psn := 0x7FFFFF }), 0,
      { msg [1, 2, 3, 4, 5, 6, 7, 8] with psn := 0x7FFFFF }, rts, counted rts
      ({ msg [1, 2, 3, 4, 5, 6, 7, 8] with psn := 0x7FFFFF }), by decide +kernel⟩,
   ⟨rts, msg [1, 2, 3, 4, 5, 6, 7, 8], by decide +kernel⟩,
   ⟨rts, { msg [1, 2, 3, 4, 5, 6, 7, 8] with ecn := true }, by decide +kernel, by decide +kernel, none_some (by
      decide +kernel)⟩,
   ⟨rts, msg [1, 2, 3, 4, 5, 6, 7, 8], counted rts (msg [1, 2, 3, 4, 5, 6, 7, 8]),
      { kind := 1, rkey := 7, va := 0, len := 8 }, 0, by decide +kernel⟩,
   ⟨rtsQp { state := 1 } 4, msg [0, 0, 0, 0, 0, 0, 0, 0], counted (rtsQp { state := 1 } 4) (msg [0, 0, 0, 0, 0, 0, 0,
      0]), 0, by decide +kernel⟩,
   ⟨rtsQp { state := 1 } 4, msg [1, 2, 3, 4, 5, 6, 7, 8], counted (rtsQp { state := 1 } 4) (msg [1, 2, 3, 4, 5, 6, 7,
      8]), 0, by decide +kernel⟩,
   ⟨rts, { msg [1, 2, 3, 4, 5, 6, 7, 8] with rkey := 8 }, counted rts
      ({ msg [1, 2, 3, 4, 5, 6, 7, 8] with rkey := 8 }), by decide +kernel, by decide +kernel, by decide +kernel, by
      decide +kernel, by decide +kernel, by decide +kernel, none_some (by decide +kernel)⟩,
   ⟨{ bridged with regs := (E.HOST_PATH_MTU, 1) :: bridged.regs }, { msg (List.replicate 256 1) with last := false },
      counted ({ bridged with regs := (E.HOST_PATH_MTU, 1) :: bridged.regs })
      ({ msg (List.replicate 256 1) with last := false }), (List.replicate 256 1), by decide +kernel, Or.inl (by
      decide +kernel), by decide +kernel, by decide +kernel, by decide +kernel⟩,
   ⟨bridged, msg (List.replicate 72 1), counted bridged (msg (List.replicate 72 1)), List.replicate 72 1, by
      decide +kernel, Or.inl (by decide +kernel), by decide +kernel, by decide +kernel, by decide +kernel, by
      decide +kernel, by decide +kernel⟩,
   ⟨fullBridge, msg (List.replicate 72 1), counted fullBridge (msg (List.replicate 72 1)), List.replicate 72 1, ⟨⟨by
      decide +kernel, by decide +kernel, by decide +kernel, by decide +kernel, rfl⟩, by decide +kernel, by
      decide +kernel, by decide +kernel⟩, Or.inl (by decide +kernel), by decide +kernel, by decide +kernel, by
      decide +kernel, by decide +kernel, fullBridge_holds (by decide +kernel)⟩,
   ⟨rts, msg [1, 2, 3, 4, 5, 6, 7, 8], counted rts (msg [1, 2, 3, 4, 5, 6, 7, 8]), [1, 2, 3, 4, 5, 6, 7, 8], by
      decide +kernel, Or.inl (by decide +kernel), by decide +kernel⟩,
   ⟨rts, msg [1, 2, 3, 4, 5, 6, 7, 8], counted rts (msg [1, 2, 3, 4, 5, 6, 7, 8]), 0, [0, 0, 0, 0, 0, 0, 0, 0],
      (counted rts (msg [1, 2, 3, 4, 5, 6, 7, 8])), by decide +kernel⟩,
   ⟨rts, { msg [1, 2, 3, 4, 5, 6, 7, 8] with psn := 0x800000 }, counted rts
      ({ msg [1, 2, 3, 4, 5, 6, 7, 8] with psn := 0x800000 }), 0, [0, 0, 0, 0, 0, 0, 0, 0], counted rts
      ({ msg [1, 2, 3, 4, 5, 6, 7, 8] with psn := 0x800000 }), by decide +kernel⟩,
   ⟨{ rts with ueWords := [0] }, msg [1, 2, 3, 4, 5, 6, 7, 8], counted ({ rts with ueWords := [0] }) (msg [1, 2, 3,
      4, 5, 6, 7, 8]), 0, ((counted ({ rts with ueWords := [0] }) (msg [1, 2, 3, 4, 5, 6, 7, 8])).readWindow 0 0 8
      (iniQp 3)).2, by decide +kernel, by decide +kernel, by decide +kernel, by decide +kernel, Prod.ext (by
      decide +kernel) rfl, by decide +kernel⟩,
   ⟨rts, { msg [1, 2, 3, 4, 5, 6, 7, 8] with va := 4089 }, counted rts
      ({ msg [1, 2, 3, 4, 5, 6, 7, 8] with va := 4089 }), 0, by decide +kernel⟩,
   ⟨{ sentQp { } with dma := [(2, copying)] }, msg [1, 2, 3, 4, 5, 6, 7, 8], counted
      ({ sentQp { } with dma := [(2, copying)] }) (msg [1, 2, 3, 4, 5, 6, 7, 8]), asked, 2, by decide +kernel⟩,
   ⟨rtsQp { state := 1, sent := [{ asked with op := 4 }] } 3, msg [1, 2, 3, 4, 5, 6, 7, 8], counted (rtsQp
      { state := 1, sent := [{ asked with op := 4 }] } 3) (msg [1, 2, 3, 4, 5, 6, 7, 8]), { asked with op := 4 }, by
      decide +kernel⟩⟩

/-- The hypotheses of HostRequesterAndPort are met, clause by clause. -/
theorem test_meetsHostRequesterAndPort :
    (∃ (s : State) (l : List HostMode) (ok : Bool), s.toDev.domainOff .host = false ∧ s.toDev.fenced = false ∧ s.reg
       E.HOST_MODE = 0 ∧ (s.reg E.HOST_MAX_MODE ≠ 2 ∧ s.hostPort.only400 = false ∧ HostMode.cr4x800 ∈ l) ∧ ok = true) ∧
    (∃ (s : State) (l : List HostMode) (ok : Bool), s.toDev.domainOff .host = false ∧ s.toDev.fenced = false ∧ s.reg
       E.HOST_MODE = 0 ∧ (s.reg E.HOST_MAX_MODE ≠ 2 ∧ s.hostPort.only400 = false ∧ HostMode.cr4x800 ∈ l) ∧ ok = false) ∧
    (∃ (s : State) (l : List HostMode) (ok : Bool), s.toDev.domainOff .host = false ∧ s.toDev.fenced = false ∧ s.reg
       E.HOST_MODE = 0 ∧ (¬ (s.reg E.HOST_MAX_MODE ≠ 2 ∧ s.hostPort.only400 = false ∧ HostMode.cr4x800 ∈ l)) ∧
       HostMode.cr4x400 ∈ l ∧ ok = true) ∧
    (∃ (s : State) (l : List HostMode) (ok : Bool), s.toDev.domainOff .host = false ∧ s.toDev.fenced = false ∧ s.reg
       E.HOST_MODE = 0 ∧ (¬ (s.reg E.HOST_MAX_MODE ≠ 2 ∧ s.hostPort.only400 = false ∧ HostMode.cr4x800 ∈ l)) ∧
       (HostMode.cr4x400 ∉ l ∨ ok = false)) ∧
    (∃ (s : State) (m : RoceMsg) (d : Dev) (r : QpReq) (rest : List QpReq) (ch : Nat), s.packetIn m d ∧ d.hostWaits 3
       m = false ∧ (s.qp m.qp.val).sent.dropWhile (fun x => x.op != 0x0C) = r :: rest ∧ r.use = .dma ch ∧ m.psn.toNat =
       r.psn) ∧
    (∃ (s : State) (m : RoceMsg) (d : Dev) (r : QpReq) (rest : List QpReq) (ch : Nat), s.packetIn m d ∧ d.hostWaits 3
       m = false ∧ (s.qp m.qp.val).sent.dropWhile (fun x => x.op != 0x0C) = r :: rest ∧ r.use = .dma ch ∧ m.psn.toNat ≠
       r.psn) ∧
    (∃ (s : State) (m : RoceMsg) (d : Dev), s.packetIn m d ∧ d.hostWaits 3 m = false ∧ (∀ r ∈ (s.qp m.qp.val).sent,
       r.op ≠ 0x0C)) ∧
    (∃ (s : State) (m : RoceMsg) (d : Dev), s.packetIn m d ∧ d.hostWaits 4 m = false ∧ (s.qp m.qp.val).sent = []) ∧
    (∃ (s : State) (m : RoceMsg) (d : Dev), s.packetIn m d ∧ d.hostWaits 4 m = false ∧ (s.qp m.qp.val).sent ≠ [] ∧
       (bits m.syndrome.toNat 5 2) = 0) ∧
    (∃ (s : State) (m : RoceMsg) (d : Dev), s.packetIn m d ∧ d.hostWaits 4 m = false ∧ (s.qp m.qp.val).sent ≠ [] ∧
       (bits m.syndrome.toNat 5 2) = 1 ∧ (s.reg (E.RNR_RETRY m.qp.val) = 7 ∨ ((d.acked m.qp.val ((m.psn.toNat + 2 ^ 24 -
       1) % 2 ^ 24)).qp m.qp.val).rnrRetries < s.reg (E.RNR_RETRY m.qp.val))) ∧
    (∃ (s : State) (m : RoceMsg) (d : Dev), s.packetIn m d ∧ d.hostWaits 4 m = false ∧ (s.qp m.qp.val).sent ≠ [] ∧
       (bits m.syndrome.toNat 5 2) = 1 ∧ s.reg (E.RNR_RETRY m.qp.val) ≠ 7 ∧ s.reg (E.RNR_RETRY m.qp.val) ≤ ((d.acked
       m.qp.val ((m.psn.toNat + 2 ^ 24 - 1) % 2 ^ 24)).qp m.qp.val).rnrRetries) ∧
    (∃ (s : State) (m : RoceMsg) (d : Dev), s.packetIn m d ∧ d.hostWaits 4 m = false ∧ (s.qp m.qp.val).sent ≠ [] ∧
       (bits m.syndrome.toNat 5 2) = 3 ∧ m.syndrome.toNat = synSEQ) ∧
    (∃ (s : State) (m : RoceMsg) (d : Dev), s.packetIn m d ∧ d.hostWaits 4 m = false ∧ (s.qp m.qp.val).sent ≠ [] ∧
       (bits m.syndrome.toNat 5 2) = 3 ∧ m.syndrome.toNat ≠ synSEQ) ∧
    (∃ (s : State) (q : QpNo) (r : QpReq) (rest : List QpReq), (s.qp q.val).state = 1 ∧ (s.qp q.val).sent = r :: rest
       ∧ s.tick < (s.qp q.val).sentAt + s.reg (E.RETRY_TICKS q.val)) ∧
    (∃ (s : State) (q : QpNo) (r : QpReq) (rest : List QpReq), (s.qp q.val).state = 1 ∧ (s.qp q.val).sent = r :: rest
       ∧ (s.qp q.val).sentAt + s.reg (E.RETRY_TICKS q.val) ≤ s.tick ∧ s.reg (E.RETRY_COUNT q.val) ≤ (s.qp q.val).retries) ∧
    (∃ (s : State) (q : QpNo) (r : QpReq) (rest : List QpReq), (s.qp q.val).state = 1 ∧ (s.qp q.val).sent = r :: rest
       ∧ (s.qp q.val).sentAt + s.reg (E.RETRY_TICKS q.val) ≤ s.tick ∧ (s.qp q.val).retries < s.reg (E.RETRY_COUNT q.val)) ∧
    (∃ (s : State) (q : QpNo), ((s.qp q.val).state ≠ 1 ∨ (s.qp q.val).sent = [])) ∧
    (∃ (s : State), s.toDev.hostUp = false) ∧
    (∃ (s : State), s.toDev.hostUp = true ∧ s.toDev.domainGated .host = true) ∧
    (∃ (s : State) (q : QpNo), s.toDev.hostUp = true ∧ s.toDev.domainGated .host = false ∧ (s.qp q.val).state ≠ 1) ∧
    (∃ (s : State) (q : QpNo), s.toDev.hostUp = true ∧ s.toDev.domainGated .host = false ∧ (s.qp q.val).state = 1 ∧ (∀
       a, (s.qp q.val).lastCnp = some a → a + 1250 ≤ s.tick)) ∧
    (∃ (s : State) (q : QpNo) (a : _), s.toDev.hostUp = true ∧ s.toDev.domainGated .host = false ∧ (s.qp q.val).state
       = 1 ∧ (s.qp q.val).lastCnp = some a ∧ s.tick < a + 1250) ∧
    (∃ (s : State) (q : QpNo), (s.qp q.val).lastRise + 1375 ≤ s.tick) ∧
    (∃ (s : State) (q : QpNo), s.tick < (s.qp q.val).lastRise + 1375) ∧
    (∃ (s : State) (f : List Byte), s.toDev.hostUp = true ∧ s.toDev.servesFrame f = false ∧ s.toDev.domainGated .host
       = false) ∧
    (∃ (s : State), s.toDev.hostUp = true ∧ s.toDev.domainGated .host = true) ∧
    (∃ (s : State) (f : List Byte), s.toDev.hostUp = true ∧ s.toDev.domainGated .host = false ∧ s.toDev.servesFrame f
       = true) ∧
    (∃ (s : State), s.toDev.hostUp = false) :=
  ⟨⟨up, [.cr4x800], true, by decide +kernel⟩,
   ⟨up, [.cr4x800], false, by decide +kernel⟩,
   ⟨{ up with hostPort := { only400 := true } }, [.cr4x400], true, by decide +kernel⟩,
   ⟨up, [], true, by decide +kernel⟩,
   ⟨sentQp {  }, msg [1, 2, 3, 4, 5, 6, 7, 8], counted (sentQp {  }) (msg [1, 2, 3, 4, 5, 6, 7, 8]), asked, [], 2, by
      decide +kernel⟩,
   ⟨sentQp {  }, { msg [1, 2, 3, 4, 5, 6, 7, 8] with psn := 1 }, counted (sentQp {  })
      ({ msg [1, 2, 3, 4, 5, 6, 7, 8] with psn := 1 }), asked, [], 2, by decide +kernel⟩,
   ⟨rts, msg [1, 2, 3, 4, 5, 6, 7, 8], counted rts (msg [1, 2, 3, 4, 5, 6, 7, 8]), by decide +kernel⟩,
   ⟨rts, msg [1, 2, 3, 4, 5, 6, 7, 8], counted rts (msg [1, 2, 3, 4, 5, 6, 7, 8]), by decide +kernel⟩,
   ⟨sentQp {  }, msg [1, 2, 3, 4, 5, 6, 7, 8], counted (sentQp {  }) (msg [1, 2, 3, 4, 5, 6, 7, 8]), by
      decide +kernel⟩,
   ⟨sentQp {  }, { msg [1, 2, 3, 4, 5, 6, 7, 8] with syndrome := 0x20 }, counted (sentQp {  })
      ({ msg [1, 2, 3, 4, 5, 6, 7, 8] with syndrome := 0x20 }), by decide +kernel⟩,
   ⟨noRetry { rnrRetries := 7 }, { msg [1, 2, 3, 4, 5, 6, 7, 8] with syndrome := 0x20 }, counted (noRetry
      { rnrRetries := 7 }) ({ msg [1, 2, 3, 4, 5, 6, 7, 8] with syndrome := 0x20 }), by decide +kernel⟩,
   ⟨sentQp {  }, { msg [1, 2, 3, 4, 5, 6, 7, 8] with syndrome := BitVec.ofNat 8 synSEQ }, counted (sentQp {  })
      ({ msg [1, 2, 3, 4, 5, 6, 7, 8] with syndrome := BitVec.ofNat 8 synSEQ }), by decide +kernel⟩,
   ⟨sentQp {  }, { msg [1, 2, 3, 4, 5, 6, 7, 8] with syndrome := BitVec.ofNat 8 synACCESS }, counted (sentQp {  })
      ({ msg [1, 2, 3, 4, 5, 6, 7, 8] with syndrome := BitVec.ofNat 8 synACCESS }), by decide +kernel⟩,
   ⟨sentQp { sentAt := 1000000 }, 3, asked, [], by decide +kernel⟩,
   ⟨sentQp { retries := 99 }, 3, asked, [], by decide +kernel⟩,
   ⟨sentQp {  }, 3, asked, [], by decide +kernel⟩,
   ⟨rts, 4, by decide +kernel⟩,
   ⟨up, by decide +kernel⟩,
   ⟨{ rts with power := { rts.power with sleep := .idle } }, by decide +kernel⟩,
   ⟨rtsQp { } 3, 3, by decide +kernel⟩,
   ⟨rts, 3, by decide +kernel, by decide +kernel, by decide +kernel, none_some (by decide +kernel)⟩,
   ⟨rtsQp { state := 1, lastCnp := some 998751 } 3, 3, 998751, by decide +kernel⟩,
   ⟨rts, 3, by decide +kernel⟩,
   ⟨rtsQp { lastRise := 998626 } 3, 3, by decide +kernel⟩,
   ⟨rts, [], by decide +kernel⟩,
   ⟨{ rts with power := { rts.power with sleep := .idle } }, by decide +kernel⟩,
   ⟨{ rts with regs := (E.INBAND_ENABLE, 1) :: rts.regs }, served, by decide +kernel⟩,
   ⟨up, by decide +kernel⟩⟩

/-- The hypotheses of DmaAndScrubber are met, clause by clause. -/
theorem test_meetsDmaAndScrubber :
    (∃ (s : State) (ch : ChanNo) (bs : _) (d1 : _), (s.chan ch.val).state = .running ∧ (s.chan ch.val).started = true
       ∧ s.toDev.computeOff = false ∧ ddOp (s.chan ch.val).desc = 1 ∧ s.toDev.readMem (ddSrc (s.chan ch.val).desc)
       (ddLength (s.chan ch.val).desc) (iniDma ch.val) = (some bs, d1)) ∧
    (∃ (s : State) (ch : ChanNo) (d1 : _), (s.chan ch.val).state = .running ∧ (s.chan ch.val).started = true ∧
       s.toDev.computeOff = false ∧ ddOp (s.chan ch.val).desc = 1 ∧ s.toDev.readMem (ddSrc (s.chan ch.val).desc)
       (ddLength (s.chan ch.val).desc) (iniDma ch.val) = (none, d1)) ∧
    (∃ (s : State) (ch : ChanNo), (s.chan ch.val).state = .running ∧ (s.chan ch.val).started = true ∧
       s.toDev.computeOff = false ∧ ddOp (s.chan ch.val).desc ≠ 1 ∧ s.toDev.dmaOnQp ch.val = false ∧ (ddOp (s.chan
       ch.val).desc = 3 → (s.chan ch.val).got.length = ddLength (s.chan ch.val).desc)) ∧
    (∃ (s : State) (ch : ChanNo), (s.chan ch.val).state = .running ∧ (s.chan ch.val).started = true ∧
       s.toDev.computeOff = false ∧ ddOp (s.chan ch.val).desc ≠ 1 ∧ s.toDev.dmaOnQp ch.val = true) ∧
    (∃ (d : Dev) (n : Nat) (bs : List Byte), ddCheck (d.chan n).desc = true ∧ crc64 bs ≠ ddExpect (d.chan n).desc) ∧
    (∃ (d : Dev) (n : Nat) (bs : List Byte), (ddCheck (d.chan n).desc = true → crc64 bs = ddExpect (d.chan n).desc) ∧
       ddNext (d.chan n).desc = 0 ∧ (d.chan n).queue = []) ∧
    (∃ (s : State) (ch : ChanNo) (code : BitVec 8), ((s.chan ch.val).state = .running ∨ (s.chan ch.val).state =
       .paused) ∧ code = 5) ∧
    (∃ (s : State) (ch : ChanNo) (code : BitVec 8), ((s.chan ch.val).state = .running ∨ (s.chan ch.val).state =
       .paused) ∧ code = 3 ∧ ddOp (s.chan ch.val).desc = 2) ∧
    (∃ (s : State) (ch : ChanNo) (code : BitVec 8), ((s.chan ch.val).state = .running ∨ (s.chan ch.val).state =
       .paused) ∧ code = 3 ∧ ddOp (s.chan ch.val).desc = 3) ∧
    (∃ (s : State) (ch : ChanNo) (a : Nat), (s.chan ch.val).lowAt = some a ∧ (s.chan ch.val).state = .paused ∧ a <
       s.tick ∧ s.toDev.computeOff = false) ∧
    (∃ (s : State) (ch : ChanNo) (a : Nat), (s.chan ch.val).lowAt = some a ∧ (s.chan ch.val).state = .paused ∧ s.tick
       ≤ a) ∧
    (∃ (s : State) (x : BitVec 64), s.toDev.flag E.SCRUB_ENABLE = true ∧ s.toDev.computeOff = false ∧
       s.toDev.computeGated = false ∧ s.toDev.tierExists (x.toNat / 4 * 4) 4 = true ∧ (x.toNat / 4 * 4) % 4096 ≠ 4092 ∧
       s.sentry.inject = none ∧ s.ueWords = [] ∧ tierSpace (x.toNat / 4 * 4) = 0 ∧ tierOffset (x.toNat / 4 * 4) + 4 <
       stackBytes) ∧
    (∃ (s : State) (x : BitVec 64), s.toDev.flag E.SCRUB_ENABLE = true ∧ s.toDev.computeOff = false ∧
       s.toDev.computeGated = false ∧ s.toDev.tierExists (x.toNat / 4 * 4) 4 = true ∧ (x.toNat / 4 * 4) % 4096 ≠ 4092 ∧
       s.sentry.inject = none ∧ s.ueWords = [] ∧ tierSpace (x.toNat / 4 * 4) ≠ 0) ∧
    (∃ (s : State) (x : BitVec 64), s.toDev.flag E.SCRUB_ENABLE = true ∧ s.toDev.computeOff = false ∧
       s.toDev.computeGated = false ∧ s.toDev.tierExists (x.toNat / 4 * 4) 4 = true ∧ (x.toNat / 4 * 4) % 4096 ≠ 4092 ∧
       s.sentry.inject = none ∧ s.ueWords = [] ∧ tierSpace (x.toNat / 4 * 4) = 0) ∧
    (∃ (s : State) (x : BitVec 64), s.toDev.flag E.SCRUB_ENABLE = true ∧ s.toDev.switchStill = false ∧ tierSpace
       x.toNat = 3 ∧ bits x.toNat 56 6 = 0 ∧ bits x.toNat 0 56 < 2 * slotCount ∧ s.ueWords = []) ∧
    (∃ (d : Dev) (cls : Nat) (word : Nat), d.sentry.inject = none ∧ sramMark cls word ∈ d.ueWords) :=
  ⟨⟨chan copying, 3, [], (chan copying).toDev, by decide +kernel⟩,
   ⟨{ chan { copying with desc := ddOne } with ueWords := [0] }, 3, ((State.toDev
      { chan { copying with desc := ddOne } with ueWords := [0] }).readMem 0 4 (iniDma 3)).2, by decide +kernel, by
      decide +kernel, by decide +kernel, by decide +kernel, Prod.ext (by decide +kernel) rfl⟩,
   ⟨chan { copying with desc := 2 :: List.replicate 63 0 }, 3, by decide +kernel⟩,
   ⟨{ chan { copying with desc := 2 :: List.replicate 63 0 } with qps := [(0, { sent := [{ op := 0x0C, use := .dma 3 }] })] },
      3, by decide +kernel⟩,
   ⟨(chan { copying with desc := ddSum }).toDev, 3, [1], by decide +kernel⟩,
   ⟨(chan copying).toDev, 3, [1], by decide +kernel⟩,
   ⟨chan copying, 3, 5, by decide +kernel⟩,
   ⟨chan { copying with desc := 2 :: List.replicate 63 0 }, 3, 3, by decide +kernel⟩,
   ⟨chan { copying with desc := 3 :: List.replicate 63 0 }, 3, 3, by decide +kernel⟩,
   ⟨chan { state := .paused, lowAt := some 999999 }, 3, 999999, by decide +kernel⟩,
   ⟨chan { state := .paused, lowAt := some 1000000 }, 3, 1000000, by decide +kernel⟩,
   ⟨up, 4088, by decide +kernel⟩,
   ⟨up, 2 ^ 62, by decide +kernel⟩,
   ⟨up, 0, by decide +kernel⟩,
   ⟨up, 3 * 2 ^ 62, by decide +kernel⟩,
   ⟨{ up.toDev with ueWords := [sramMark 0 0] }, 0, 0, by decide +kernel⟩⟩

/-- The hypotheses of BarksAreRecorded are met, clause by clause. -/
theorem test_meetsBarksAreRecorded :
    (∃ (b : BarkMsg), kindKnown b.kind.toNat = true) :=
  ⟨aBark, by decide +kernel⟩

/-- The hypotheses of FaultsAndDeliveries are met, clause by clause. -/
theorem test_meetsFaultsAndDeliveries :
    (∃ (s : State) (r : _), s.sentry.nextReport s.tick = some r) ∧
    (∃ (s : State), s.sentry.nextReport s.tick = none) ∧
    (∃ (s : State) (c : FaultClass) (n : FaultClass), (c = .corrected ∧ n = .contained ∨ c = .contained ∧ n = .fatal)
       ∧ (s.sentry.record c).isOpen = true ∧ (s.sentry.record c).escTick ≠ 0 ∧ (s.sentry.record c).escTick ≤ s.tick) ∧
    (∃ (s : State) (c : FaultClass) (n : FaultClass), (c = .corrected ∧ n = .contained ∨ c = .contained ∧ n = .fatal)
       ∧ ((s.sentry.record c).isOpen = false ∨ (s.sentry.record c).escTick = 0 ∨ s.tick < (s.sentry.record c).escTick)) ∧
    (∃ (s : State) (g : Fin 16), s.heard.alive = true ∧ s.heard.power.resetLow = false ∧ ((bits s.heard.ints.marked
       (16 * g.val) 16) = 0 ∨ s.heard.tick < tgetD s.heard.ints.holdUntil g.val 0)) ∧
    (∃ (s : State) (g : Fin 16), s.heard.alive = true ∧ s.heard.power.resetLow = false ∧ (bits s.heard.ints.marked (16
       * g.val) 16) ≠ 0 ∧ tgetD s.heard.ints.holdUntil g.val 0 ≤ s.heard.tick ∧ maskHas (s.heard.reg E.NOTIFY_MASK)
       g.val = false ∧ (s.heard.reg (E.DELIVERY g.val)) = 0) ∧
    (∃ (s : State) (g : Fin 16), s.heard.alive = true ∧ s.heard.power.resetLow = false ∧ (bits s.heard.ints.marked (16
       * g.val) 16) ≠ 0 ∧ tgetD s.heard.ints.holdUntil g.val 0 ≤ s.heard.tick ∧ maskHas (s.heard.reg E.NOTIFY_MASK)
       g.val = false ∧ (s.heard.reg (E.DELIVERY g.val)) = 1) ∧
    (∃ (s : State) (g : Fin 16), s.heard.alive = true ∧ s.heard.power.resetLow = false ∧ (bits s.heard.ints.marked (16
       * g.val) 16) ≠ 0 ∧ tgetD s.heard.ints.holdUntil g.val 0 ≤ s.heard.tick ∧ maskHas (s.heard.reg E.NOTIFY_MASK)
       g.val = false ∧ (s.heard.reg (E.DELIVERY g.val)) = 2 ∧
       ({ s.heard with ints := { s.heard.ints with marked := s.heard.ints.marked - (bits s.heard.ints.marked (16 * g.val) 16) * 2 ^ (16 * g.val), delivered := tset s.heard.ints.delivered g.val (tgetD s.heard.ints.delivered g.val 0 + 1), holdUntil := tset s.heard.ints.holdUntil g.val (s.heard.tick + s.heard.reg (E.HOLDOFF_TICKS g.val)) } }.count
       (E.DELIVERIES g.val)).alertHolds = true) ∧
    (∃ (s : State) (g : Fin 16), s.heard.alive = true ∧ s.heard.power.resetLow = false ∧ (bits s.heard.ints.marked (16
       * g.val) 16) ≠ 0 ∧ tgetD s.heard.ints.holdUntil g.val 0 ≤ s.heard.tick ∧ maskHas (s.heard.reg E.NOTIFY_MASK)
       g.val = true ∧ (s.heard.reg (E.DELIVERY g.val)) = 0) :=
  ⟨⟨{ up with sentry := { reports := [⟨1000000, aBark⟩] } }, ⟨1000000, aBark⟩, by decide +kernel⟩,
   ⟨up, by decide +kernel⟩,
   ⟨{ up with sentry := { corr := { isOpen := true, escTick := 1000000 } } }, .corrected, .contained, by
      decide +kernel⟩,
   ⟨{ up with sentry := { unc := { isOpen := true, escTick := 1000001 } } }, .contained, .fatal, by decide +kernel⟩,
   ⟨booted, 1, by decide +kernel⟩,
   ⟨marked 0, 1, by decide +kernel⟩,
   ⟨marked 1, 1, by decide +kernel⟩,
   ⟨marked 2, 1, by decide +kernel⟩,
   ⟨{ marked 0 with regs := [(E.DELIVERY 1, 0), (E.NOTIFY_MASK, 2)] }, 1, by decide +kernel⟩⟩

/-- The hypotheses of SnapshotsMapsAndSamples are met, clause by clause. -/
theorem test_meetsSnapshotsMapsAndSamples :
    (∃ (s : State) (a : SnapArm), s.tele.arm = some a ∧ s.tele.copied = false ∧ a.target ≤ s.tick) ∧
    (∃ (s : State) (a : SnapArm), s.tele.arm = some a ∧ (s.tele.copied = true ∨ s.tick < a.target)) ∧
    (∃ (s : State) (a : SnapArm), s.tele.arm = some a ∧ s.tele.copied = true ∧ a.target + 4 ≤ s.tick) ∧
    (∃ (s : State) (a : SnapArm), s.tele.arm = some a ∧ (s.tele.copied = false ∨ s.tick < a.target + 4)) ∧
    (∃ (s : State) (c : Cell), c.pay 0 1 = 2 ∧ c.pay 4 4 = s.tele.lastId ∧ s.tele.lastId ≠ 0) ∧
    (∃ (s : State) (c : Cell), c.pay 4 4 ≠ s.tele.lastId) ∧
    (∃ (s : State) (t0 : Nat) (a : SnapArm), s.power.off = false ∧ s.tele.arm = some a ∧ s.tele.copied = false ∧
       s.boundary = none ∧ s.heard.countTick.tick = t0 ∧ a.target ≤ t0) ∧
    (∃ (s : State) (x : Sdie) (w : Nat) (b : List Byte) (rest : List (Nat × List Byte)), s.domainOff .switch = false ∧
       (s.tele.map x.val).closed = (w, b) :: rest ∧ (¬ (s.domainOff (.compute (Fin.ofNat 4 (tierCdie (s.reg
       E.MAP_ADDR)))) = true ∨ s.fenced = true)) ∧ s.linkDown (4 * x.val + tierCdie (s.reg E.MAP_ADDR + (2 * (w % s.reg
       E.MAP_RECORDS) + x.val) * 4096)) = false) ∧
    (∃ (s : State) (x : Sdie) (w : Nat) (b : List Byte) (rest : List (Nat × List Byte)), s.domainOff .switch = false ∧
       (s.tele.map x.val).closed = (w, b) :: rest ∧ (s.domainOff (.compute (Fin.ofNat 4 (tierCdie (s.reg E.MAP_ADDR))))
       = true ∨ s.fenced = true)) ∧
    (∃ (s : State) (x : Sdie), (s.tele.map x.val).closed = []) ∧
    (∃ (d : Dev) (x : Sdie), d.flag E.MAP_ENABLE = true ∧ d.domainOff .switch = false ∧ (d.tele.map x.val).active =
       true ∧ (d.tele.map x.val).start + (d.reg E.MAP_PERIOD_TICKS) ≤ d.tick) ∧
    (∃ (d : Dev) (x : Sdie), d.flag E.MAP_ENABLE = true ∧ d.domainOff .switch = false ∧ (d.tele.map x.val).active =
       true ∧ d.tick < (d.tele.map x.val).start + (d.reg E.MAP_PERIOD_TICKS)) ∧
    (∃ (s : State) (g : Fin 8) (x : List Byte) (rest : List (List Byte)), tgetD s.tele.tileQueues g.val [] = x :: rest
       ∧ s.tick < tgetD s.tele.tileNext g.val 0) ∧
    (∃ (s : State) (g : Fin 8) (x : List Byte) (rest : List (List Byte)), tgetD s.tele.tileQueues g.val [] = x :: rest
       ∧ tgetD s.tele.tileNext g.val 0 ≤ s.tick ∧ s.tele.ring.length < 2560) ∧
    (∃ (s : State) (g : Fin 8) (x : List Byte) (rest : List (List Byte)), tgetD s.tele.tileQueues g.val [] = x :: rest
       ∧ tgetD s.tele.tileNext g.val 0 ≤ s.tick ∧ 2560 ≤ s.tele.ring.length) :=
  ⟨⟨{ up with tele := { arm := some ⟨1, 1000000, false, 5, false⟩, copied := false } }, ⟨1, 1000000, false, 5,
      false⟩, by decide +kernel⟩,
   ⟨{ up with tele := { arm := some ⟨1, 1000001, false, 5, false⟩, copied := false } }, ⟨1, 1000001, false, 5,
      false⟩, by decide +kernel⟩,
   ⟨{ up with tele := { arm := some ⟨1, 999996, false, 5, false⟩, copied := true } }, ⟨1, 999996, false, 5, false⟩,
      by decide +kernel⟩,
   ⟨{ up with tele := { arm := some ⟨1, 999997, false, 5, false⟩, copied := true } }, ⟨1, 999997, false, 5, false⟩,
      by decide +kernel⟩,
   ⟨{ up with tele := { lastId := 9 } }, linkC [2, 0, 0, 0, 0, 0, 0, 9], by decide +kernel⟩,
   ⟨up, linkC [2, 0, 0, 0, 0, 0, 0, 9], by decide +kernel⟩,
   ⟨{ up with tele := { arm := some ⟨1, 1000001, false, 5, false⟩ } }, 1000001, ⟨1, 1000001, false, 5, false⟩, by
      decide +kernel⟩,
   ⟨{ mapping 0 with regs := [(E.MAP_ENABLE, 1)], tele := { map0 := { closed := [(0, [1])] } } }, 0, 0, [1], [], by
      decide +kernel⟩,
   ⟨{ mapping 0 with regs := [(E.MAP_ENABLE, 1)], tele := { map0 := { closed := [(0, [1])] } }, sentry := { fenceAt := some 5 } },
      0, 0, [1], [], by decide +kernel⟩,
   ⟨mapping 1000000, 0, by decide +kernel⟩,
   ⟨({ mapping 0 with regs := [(E.MAP_ENABLE, 1)] } : State).toDev, 0, by decide +kernel⟩,
   ⟨({ mapping 1000000 with regs := [(E.MAP_ENABLE, 1)] } : State).toDev, 0, by decide +kernel⟩,
   ⟨{ sampled with tele := { sampled.tele with tileNext := [(2, 1000001)] } }, 2, [1], [[2]], by decide +kernel⟩,
   ⟨sampled, 2, [1], [[2]], by decide +kernel⟩,
   ⟨{ sampled with tele := { sampled.tele with ring := List.replicate 2560 [] } }, 2, [1], [[2]], by decide +kernel⟩⟩

/-- The hypotheses of BurnsTrialsAndTestPort are met, clause by clause. -/
theorem test_meetsBurnsTrialsAndTestPort :
    (∃ (s : State) (b : Burn) (w : Nat) (v : Nat) (rest : List (Nat × Nat)), s.burn = some b ∧ b.words = (w, v) ::
       rest ∧ s.tick < b.start + 18000) ∧
    (∃ (s : State) (b : Burn) (w : Nat) (v : Nat) (rest : List (Nat × Nat)), s.burn = some b ∧ b.words = (w, v) ::
       rest ∧ b.start + 18000 ≤ s.tick) ∧
    (∃ (s : State) (a : Nat), s.fw.trialSince = some a ∧ a + s.reg E.FW_TRIAL_TICKS ≤ s.tick) ∧
    (∃ (s : State) (a : Nat), s.fw.trialSince = some a ∧ s.tick < a + s.reg E.FW_TRIAL_TICKS) ∧
    (∃ (s : State), s.power.off = true) ∧
    (∃ (s : State) (x : TestInstr), s.power.off = false ∧ (x = .idcode ∨ x = .bypass ∨ x = .samplePreload)) ∧
    (∃ (s : State), s.power.off = false ∧ s.power.resetLow = true) ∧
    (∃ (s : State), s.power.off = false ∧ s.power.resetLow = false) ∧
    (∃ (s : State), s.power.off = false ∧ s.debugOpen = false ∧ s.mfg.field = true) ∧
    (∃ (s : State), s.power.off = false ∧ (s.debugOpen = true ∨ s.mfg.field = false)) ∧
    (∃ (d : Dev), d.testPort ≠ .extest) ∧
    (∃ (d : Dev) (x : TestInstr), d.testPort = .extest ∧ x ≠ .extest) :=
  ⟨⟨{ booted with burn := some ⟨.rollback, [(2064, 1)], 982001⟩ }, ⟨.rollback, [(2064, 1)], 982001⟩, 2064, 1, [], by
      decide +kernel⟩,
   ⟨{ booted with burn := some ⟨.rollback, [(2064, 1)], 982000⟩ }, ⟨.rollback, [(2064, 1)], 982000⟩, 2064, 1, [], by
      decide +kernel⟩,
   ⟨{ booted with tick := 10 ^ 12, fw := { trialSince := some (5) } }, 5, by decide +kernel⟩,
   ⟨{ booted with tick := 10 ^ 12, fw := { trialSince := some (10 ^ 12) } }, 10 ^ 12, by decide +kernel⟩,
   ⟨inPower { running with off := true }, by decide +kernel⟩,
   ⟨booted, .idcode, by decide +kernel⟩,
   ⟨inPower { running with resetLow := true }, by decide +kernel⟩,
   ⟨booted, by decide +kernel⟩,
   ⟨booted, by decide +kernel⟩,
   ⟨{ booted with debugOpen := true }, by decide +kernel⟩,
   ⟨booted.toDev, by decide +kernel⟩,
   ⟨{ booted.toDev with testPort := .extest }, .bypass, by decide +kernel⟩⟩

/-- The hypotheses of PowerFaults are met, clause by clause. -/
theorem test_meetsPowerFaults :
    (∃ (s : State) (x : BitVec 32), s.power.off = false ∧ x.toNat < 34000) ∧
    (∃ (s : State) (x : BitVec 32), s.power.off = false ∧ 34000 ≤ x.toNat) ∧
    (∃ (s : State) (x : BitVec 32), s.power.off = false ∧ 46000 < x.toNat) ∧
    (∃ (s : State) (x : BitVec 32), s.power.off = false ∧ x.toNat ≤ 46000) ∧
    (∃ (s : State) (x : BitVec 32), s.power.off = false ∧ 110000 < x.toNat) ∧
    (∃ (s : State) (x : BitVec 32), s.power.off = false ∧ x.toNat ≤ 110000) ∧
    (∃ (s : State) (r : Fin 16), s.power.off = false ∧ (r.val < 5 ∨ 8 ≤ r.val)) ∧
    (∃ (s : State) (r : Fin 16), s.power.off = false ∧ 5 ≤ r.val ∧ r.val < 8) ∧
    (∃ (s : State) (z : Sensor) (x : BitVec 32), s.power.off = false ∧ overtempAt z < x.toInt) ∧
    (∃ (s : State) (z : Sensor) (x : BitVec 32), s.power.off = false ∧ x.toInt ≤ overtempAt z) :=
  ⟨⟨booted, 33999, by decide +kernel⟩,
   ⟨booted, 34000, by decide +kernel⟩,
   ⟨booted, 46001, by decide +kernel⟩,
   ⟨booted, 46000, by decide +kernel⟩,
   ⟨booted, 110001, by decide +kernel⟩,
   ⟨booted, 110000, by decide +kernel⟩,
   ⟨booted, 8, by decide +kernel⟩,
   ⟨booted, 7, by decide +kernel⟩,
   ⟨booted, .hbm 7, 105001, by decide +kernel⟩,
   ⟨booted, .mtile, 115000, by decide +kernel⟩⟩

/-- The hypotheses of CapsHeatAndRackClock are met, clause by clause. -/
theorem test_meetsCapsHeatAndRackClock :
    (∃ (s : State), s.power.off = false ∧ (s.tick % 256 ≠ 0 ∨ s.power.windowAt = some s.tick)) ∧
    (∃ (s : State), s.power.off = false ∧ s.tick % 256 = 0 ∧ s.power.windowAt ≠ some s.tick) ∧
    (∃ (s : State) (z : Sensor) (x : BitVec 32) (at0 : Int), s.power.off = false ∧ s.toDev.throttleAt z = some at0 ∧
       at0 < x.toInt) ∧
    (∃ (s : State) (z : Sensor) (x : BitVec 32) (at0 : Int), s.power.off = false ∧ s.toDev.throttleAt z = some at0 ∧
       x.toInt ≤ at0 - 5000) ∧
    (∃ (s : State) (z : Sensor) (x : BitVec 32) (at0 : Int), s.power.off = false ∧ s.toDev.throttleAt z = some at0 ∧
       at0 - 5000 < x.toInt ∧ x.toInt ≤ at0) ∧
    (∃ (s : State), s.power.off = false ∧ s.power.tickLocked = false ∧ (¬ (s.power.holdover = true ∧
       s.power.rackclkSince + 25000 ≤ s.tick))) ∧
    (∃ (s : State), s.power.off = false ∧ s.power.tickLocked = false ∧ (s.power.holdover = true ∧ s.power.rackclkSince
       + 25000 ≤ s.tick)) ∧
    (∃ (s : State), s.power.off = false ∧ s.power.tickLocked = false) ∧
    (∃ (s : State) (v : BitVec 64), s.power.off = false ∧ s.power.tickLocked = true ∧ (¬ (s.power.holdover = true ∧
       s.power.rackclkSince + 25000 ≤ s.tick)) ∧ v.toNat = s.tick) ∧
    (∃ (s : State) (v : BitVec 64), s.power.off = false ∧ s.power.tickLocked = true ∧ (¬ (s.power.holdover = true ∧
       s.power.rackclkSince + 25000 ≤ s.tick)) ∧ v.toNat ≠ s.tick) ∧
    (∃ (s : State) (v : BitVec 64), s.power.off = false ∧ s.power.tickLocked = true ∧ (s.power.holdover = true ∧
       s.power.rackclkSince + 25000 ≤ s.tick) ∧ v.toNat = s.tick) ∧
    (∃ (s : State) (v : BitVec 64), s.power.off = false ∧ s.power.tickLocked = true ∧ (s.power.holdover = true ∧
       s.power.rackclkSince + 25000 ≤ s.tick) ∧ v.toNat ≠ s.tick ∧ v.toNat ≤ s.tick + 64 ∧ s.tick ≤ v.toNat + 64) ∧
    (∃ (s : State) (v : BitVec 64), s.power.off = false ∧ s.power.tickLocked = true ∧ (s.power.holdover = true ∧
       s.power.rackclkSince + 25000 ≤ s.tick) ∧ (s.tick + 64 < v.toNat ∨ v.toNat + 64 < s.tick)) ∧
    (∃ (s : State), s.power.off = false) ∧
    (∃ (s : State), s.power.off = false ∧ s.power.tickLocked = true ∧ s.power.lastMarker + 65537 ≤ s.tick) ∧
    (∃ (s : State), s.power.off = false ∧ (s.power.tickLocked = false ∨ s.tick < s.power.lastMarker + 65537)) ∧
    (∃ (s : State), s.power.off = false ∧ s.power.holdover = true) ∧
    (∃ (s : State), s.power.off = false ∧ s.power.holdover = false) :=
  ⟨⟨{ booted with tick := 1000001 }, by decide +kernel⟩,
   ⟨{ booted with tick := 1000192 }, by decide +kernel⟩,
   ⟨booted, .sdie 1, 95001, 95000, by decide +kernel⟩,
   ⟨booted, .hbm 0, 80000, 85000, by decide +kernel⟩,
   ⟨booted, .hbm 0, 80001, 85000, by decide +kernel⟩,
   ⟨booted, by decide +kernel⟩,
   ⟨inPower { running with holdover := true, rackclkSince := 975000 }, by decide +kernel⟩,
   ⟨booted, by decide +kernel⟩,
   ⟨inPower { running with tickLocked := true }, 1000000, by decide +kernel⟩,
   ⟨inPower { running with tickLocked := true }, 1000001, by decide +kernel⟩,
   ⟨inPower { running with tickLocked := true, holdover := true, rackclkSince := 975000 }, 1000000, by
      decide +kernel⟩,
   ⟨inPower { running with tickLocked := true, holdover := true, rackclkSince := 975000 }, 1000064, by
      decide +kernel⟩,
   ⟨inPower { running with tickLocked := true, holdover := true, rackclkSince := 975000 }, 1000065, by
      decide +kernel⟩,
   ⟨booted, by decide +kernel⟩,
   ⟨inPower { running with tickLocked := true, lastMarker := 934463 }, by decide +kernel⟩,
   ⟨inPower { running with tickLocked := true, lastMarker := 934464 }, by decide +kernel⟩,
   ⟨inPower { running with holdover := true }, by decide +kernel⟩,
   ⟨booted, by decide +kernel⟩⟩

/-- The hypotheses of SleepAndWake are met, clause by clause. -/
theorem test_meetsSleepAndWake :
    (∃ (s : State), (s.power.sleep = .active ∨ s.power.sleep = .idle) ∧ s.power.bootStage = 3 ∧ s.power.off = false ∧
       s.toDev.wakeLow = false ∧ s.power.sleep = .active ∧ s.reg E.AUTO_IDLE_TICKS ≠ 0 ∧ s.toDev.working = false ∧
       s.power.lastWork + s.reg E.AUTO_IDLE_TICKS ≤ s.tick) ∧
    (∃ (s : State), (s.power.sleep = .active ∨ s.power.sleep = .idle) ∧ s.power.bootStage = 3 ∧ s.power.off = false ∧
       s.toDev.wakeLow = false ∧ (s.power.sleep = .idle ∨ s.reg E.AUTO_IDLE_TICKS = 0 ∨ s.toDev.working = true ∨ s.tick
       < s.power.lastWork + s.reg E.AUTO_IDLE_TICKS)) ∧
    (∃ (s : State) (a : _), (s.power.sleep = .active ∨ s.power.sleep = .idle) ∧ s.power.bootStage = 3 ∧ s.power.off =
       false ∧ s.toDev.wakeLow = false ∧ s.reg E.AUTO_DOZE_TICKS ≠ 0 ∧ s.toDev.dozeOk = true ∧ s.power.dozeSince = some
       a ∧ a + s.reg E.AUTO_DOZE_TICKS ≤ s.tick) ∧
    (∃ (s : State), (s.power.sleep = .active ∨ s.power.sleep = .idle) ∧ s.power.bootStage = 3 ∧ s.power.off = false ∧
       s.toDev.wakeLow = false ∧ (s.reg E.AUTO_DOZE_TICKS = 0 ∨ s.toDev.dozeOk = false ∨ s.power.dozeSince = none)) ∧
    (∃ (s : State), s.toDev.wakeLow = true) ∧
    (∃ (s : State), s.power.sleep = .entering ∧ s.power.sleepTs = none ∧ s.toDev.drained = true) ∧
    (∃ (s : State), s.power.sleep = .entering ∧ s.power.sleepTs = none ∧ s.toDev.drained = false) ∧
    (∃ (s : State) (a : _), s.power.sleep = .entering ∧ s.power.sleepTs = none ∧ s.power.entryStart = some a ∧ a +
       s.reg E.KEEPALIVE_DRAIN_TICKS ≤ s.tick ∧ s.power.wakeFrom ≠ .doze) ∧
    (∃ (s : State) (a : _), s.power.sleep = .entering ∧ s.power.sleepTs = none ∧ s.power.entryStart = some a ∧ s.tick
       < a + s.reg E.KEEPALIVE_DRAIN_TICKS) ∧
    (∃ (s : State) (a : Nat), s.power.sleep = .entering ∧ s.power.sleepTs = some a ∧ a ≤ s.tick ∧ (∀ p, p < 256 →
       (s.port p).state ≠ .up)) ∧
    (∃ (s : State) (a : Nat), s.power.sleep = .entering ∧ s.power.sleepTs = some a ∧ (s.tick < a ∨ (∃ p, p < 256 ∧
       (s.port p).state = .up))) ∧
    (∃ (s : State), s.power.wakePinFresh s.tick = false) ∧
    (∃ (s : State), s.power.off = false ∧ (∀ a, s.power.wakePinAt = some a → a + 3 ≤ s.tick) ∧ s.power.sleep =
       .entering ∧ s.power.sleepTs.isSome = true) ∧
    (∃ (s : State), s.power.off = false ∧ (∀ a, s.power.wakePinAt = some a → a + 3 ≤ s.tick) ∧ (s.power.sleep ≠
       .entering ∨ s.power.sleepTs = none)) ∧
    (∃ (s : State) (a : Nat), s.power.sleep = .waking ∧ s.power.wakeDue = some a ∧ s.tick < a) ∧
    (∃ (s : State) (a : Nat), s.power.sleep = .waking ∧ s.power.wakeDue = some a ∧ a ≤ s.tick ∧ s.power.off = false ∧
       s.mgmt.heldReqs = [] ∧ s.heldPkts = [] ∧ s.mgmt.heldSols = []) ∧
    (∃ (s : State) (a : Nat), s.power.sleep = .waking ∧ s.power.wakeDue = some a ∧ a ≤ s.tick ∧ s.power.off = false) :=
  ⟨⟨{ booted with regs := [(E.AUTO_IDLE_TICKS, 5)] }, by decide +kernel⟩,
   ⟨inPower { running with sleep := .idle }, by decide +kernel⟩,
   ⟨{ inPower { running with dozeSince := some 999995 } with regs := [(E.AUTO_DOZE_TICKS, 5)] }, 999995, by
      decide +kernel⟩,
   ⟨{ booted with regs := [(E.AUTO_DOZE_TICKS, 0)] }, by decide +kernel⟩,
   ⟨inPower { running with wakePinAt := some 999000, wakeUntil := 1000000 }, by decide +kernel⟩,
   ⟨inPower { running with sleep := .entering }, by decide +kernel⟩,
   ⟨{ inPower { running with sleep := .entering } with kennel0 := { slots := [(7, { pool := .ded, owner := 3 })] } },
      by decide +kernel⟩,
   ⟨{ inPower { running with sleep := .entering, entryStart := some 5 } with tick := 10 ^ 12 }, 5, by decide +kernel⟩,
   ⟨inPower { running with sleep := .entering, entryStart := some 1000000 }, 1000000, by decide +kernel⟩,
   ⟨inPower { running with sleep := .entering, sleepTs := some 1000000 }, 1000000, by decide +kernel⟩,
   ⟨inPower { running with sleep := .entering, sleepTs := some 1000001 }, 1000001, by decide +kernel, by
      decide +kernel, Or.inl (by decide +kernel)⟩,
   ⟨inPower { running with wakePinAt := some 999998 }, by decide +kernel⟩,
   ⟨inPower { running with sleep := .entering, sleepTs := some 5, wakePinAt := some 999997 }, by decide +kernel, by
      intro a h; cases h; decide +kernel, by decide +kernel, by decide +kernel⟩,
   ⟨booted, by decide +kernel, none_some rfl, by decide +kernel⟩,
   ⟨inPower { running with sleep := .waking, wakeDue := some 1000001 }, 1000001, by decide +kernel⟩,
   ⟨inPower { running with sleep := .waking, wakeDue := some 1000000 }, 1000000, by decide +kernel⟩,
   ⟨{ inPower { running with sleep := .waking, wakeDue := some 1000000 } with mgmt := { heldSols := [(1, 2)] } },
      1000000, by decide +kernel⟩⟩

/-- The hypotheses of ResetsAndBoot are met, clause by clause. -/
theorem test_meetsResetsAndBoot :
    (∃ (s : State) (r : Option ResetKind) (a : Nat), s.power.dueReset s.tick = some (r, a) ∧ s.power.off = false ∧
       s.power.resetLow = false ∧ s.burn = none ∧ s.power.overtempHold = false) ∧
    (∃ (s : State), (s.power.dueReset s.tick = none ∨ s.power.resetLow = true)) ∧
    (∃ (s : State), s.power.off = false) ∧
    (∃ (s : State) (n : BitVec 64), s.power.alwaysOn = true ∧ s.power.off = true ∧ 1 ≤ n.toNat) ∧
    (∃ (s : State) (n : BitVec 64), s.power.alwaysOn = true ∧ s.power.off = false ∧ 1 ≤ n.toNat ∧ s.power.memoryOff =
       true) ∧
    (∃ (s : State) (n : BitVec 64), s.power.alwaysOn = true ∧ s.power.off = false ∧ n.toNat < 4 ∧ s.power.memoryOff =
       false) ∧
    (∃ (s : State) (n : BitVec 64), s.power.alwaysOn = true ∧ s.power.off = false ∧ 25000 ≤ n.toNat) ∧
    (∃ (s : State) (n : BitVec 64), s.power.alwaysOn = true ∧ s.power.off = false ∧ 4 ≤ n.toNat ∧ n.toNat < 25000 ∧
       s.power.memoryOff = false ∧ (s.power.inputOut = true ∨ s.power.overtempHold = true)) ∧
    (∃ (s : State) (n : BitVec 64), s.power.alwaysOn = true ∧ s.power.off = false ∧ 4 ≤ n.toNat ∧ n.toNat < 25000 ∧
       s.power.memoryOff = false ∧ s.power.inputOut = false ∧ s.power.overtempHold = false ∧ s.burn = none) ∧
    (∃ (s : State) (x : BitVec 32), s.power.alwaysOn = false ∧ 35000 ≤ x.toNat) ∧
    (∃ (s : State) (x : BitVec 32), (s.power.alwaysOn = true ∨ x.toNat < 35000)) ∧
    (∃ (s : State) (x : BitVec 32), s.power.alwaysOn = true ∧ x.toNat < 33000) ∧
    (∃ (s : State) (x : BitVec 32), (s.power.alwaysOn = false ∨ 33000 ≤ x.toNat)) ∧
    (∃ (s : State) (x : BitVec 32), s.power.off = false ∧ (s.power.heldWarm = false ∨ s.power.resetLow = true) ∧ 36000
       ≤ x.toNat ∧ x.toNat ≤ 44000) ∧
    (∃ (s : State) (x : BitVec 32), s.power.off = false ∧ (s.power.heldWarm = false ∨ s.power.resetLow = true) ∧
       (x.toNat < 36000 ∨ 44000 < x.toNat)) ∧
    (∃ (s : State), s.power.off = false ∧ (s.power.heldWarm = false ∨ s.power.resetLow = true)) ∧
    (∃ (s : State) (x : BitVec 32), s.power.off = false ∧ s.power.heldWarm = true ∧ s.power.resetLow = false ∧ s.burn
       = none ∧ 36000 ≤ x.toNat ∧ x.toNat ≤ 44000 ∧ s.power.overtempHold = false) ∧
    (∃ (s : State), s.power.off = false ∧ s.power.heldWarm = true ∧ s.power.resetLow = false ∧ s.burn = none ∧
       s.power.inputOut = false) ∧
    (∃ (s : State), s.power.off = false ∧ s.power.resetLow = false ∧ s.power.bootStage = 1 ∧ s.fw.romOnly = false ∧
       s.burn = none ∧ s.tick < s.power.bootAt + 252500 + s.power.bootWait) ∧
    (∃ (s : State), s.power.off = false ∧ s.power.resetLow = false ∧ s.power.bootStage = 1 ∧ s.fw.romOnly = false ∧
       s.burn = none ∧ s.power.bootAt + 252500 + s.power.bootWait ≤ s.tick ∧ s.toDev.fwValid s.fw.committed = true ∧
       s.fw.trial = none) ∧
    (∃ (s : State), s.power.off = false ∧ s.power.resetLow = false ∧ s.power.overtempHold = false ∧ s.power.bootStage
       = 2 ∧ s.tick < s.power.bootAt + bootTicks s.power.bootKind + s.power.bootWait) ∧
    (∃ (s : State), s.power.off = false ∧ s.power.resetLow = false ∧ s.power.overtempHold = false ∧ s.power.bootStage
       = 2 ∧ s.power.bootAt + bootTicks s.power.bootKind + s.power.bootWait ≤ s.tick) :=
  ⟨⟨inPower { running with resetPending := [(some .warm, 1000000)] }, some .warm, 1000000, by decide +kernel⟩,
   ⟨booted, by decide +kernel⟩,
   ⟨booted, by decide +kernel⟩,
   ⟨inPower { running with off := true }, 1, by decide +kernel⟩,
   ⟨inPower { running with memoryOff := true }, 1, by decide +kernel⟩,
   ⟨booted, 3, by decide +kernel⟩,
   ⟨booted, 25000, by decide +kernel⟩,
   ⟨inPower { running with inputOut := true }, 24999, by decide +kernel⟩,
   ⟨booted, 4, by decide +kernel⟩,
   ⟨inPower { running with alwaysOn := false, off := true }, 35000, by decide +kernel⟩,
   ⟨booted, 35000, by decide +kernel⟩,
   ⟨booted, 32999, by decide +kernel⟩,
   ⟨booted, 33000, by decide +kernel⟩,
   ⟨booted, 36000, by decide +kernel⟩,
   ⟨booted, 44001, by decide +kernel⟩,
   ⟨booted, by decide +kernel⟩,
   ⟨inPower { running with heldWarm := true, inputOut := true }, 44000, by decide +kernel⟩,
   ⟨inPower { running with heldWarm := true, overtempHold := true }, by decide +kernel⟩,
   ⟨inPower { bootAt := 1000000 }, by decide +kernel⟩,
   ⟨inPower { }, by decide +kernel⟩,
   ⟨inPower { bootStage := 2, bootAt := 1000000 }, by decide +kernel⟩,
   ⟨inPower { bootStage := 2, bootKind := .warm }, by decide +kernel⟩⟩

/-- The hypotheses of DiscoveryCompares are met, clause by clause. -/
theorem test_meetsDiscoveryCompares :
    (∃ (s : State) (p : Port), s.toDev.awaitsVerdict p.val = true ∧ (∀ q a b, q < 256 → q ≠ p.val →
       s.toDev.awaitsVerdict q = true → (s.port q).firstIdent = some a → (s.port p.val).firstIdent = some b → b < a ∨ b
       = a ∧ p.val < q) ∧ ¬ ((s.peerLevels p.val &&& ownLevels) ≠ 0)) ∧
    (∃ (s : State) (p : Port), s.toDev.awaitsVerdict p.val = true ∧ (∀ q a b, q < 256 → q ≠ p.val →
       s.toDev.awaitsVerdict q = true → (s.port q).firstIdent = some a → (s.port p.val).firstIdent = some b → b < a ∨ b
       = a ∧ p.val < q) ∧ ((s.peerLevels p.val &&& ownLevels) ≠ 0) ∧ ¬ (s.compatFits (s.peerKind p.val) (s.peer p.val 21
       2) = true)) ∧
    (∃ (s : State) (p : Port), s.toDev.awaitsVerdict p.val = true ∧ (∀ q a b, q < 256 → q ≠ p.val →
       s.toDev.awaitsVerdict q = true → (s.port q).firstIdent = some a → (s.port p.val).firstIdent = some b → b < a ∨ b
       = a ∧ p.val < q) ∧ ((s.peerLevels p.val &&& ownLevels) ≠ 0) ∧ (s.compatFits (s.peerKind p.val) (s.peer p.val 21
       2) = true) ∧ s.toDev.fits p.val (s.planEntry (s.logical p.val)) = true) ∧
    (∃ (s : State) (p : Port), s.toDev.awaitsVerdict p.val = true ∧ (∀ q a b, q < 256 → q ≠ p.val →
       s.toDev.awaitsVerdict q = true → (s.port q).firstIdent = some a → (s.port p.val).firstIdent = some b → b < a ∨ b
       = a ∧ p.val < q) ∧ ((s.peerLevels p.val &&& ownLevels) ≠ 0) ∧ (s.compatFits (s.peerKind p.val) (s.peer p.val 21
       2) = true) ∧ s.toDev.fits p.val (s.planEntry (s.logical p.val)) = false ∧ (∀ b, b < 256 → b ≠ p.val →
       s.toDev.fits p.val (s.planEntry (s.logical b)) = false)) ∧
    (∃ (s : State) (p : Port) (b : _), s.toDev.awaitsVerdict p.val = true ∧ (∀ q a b, q < 256 → q ≠ p.val →
       s.toDev.awaitsVerdict q = true → (s.port q).firstIdent = some a → (s.port p.val).firstIdent = some b → b < a ∨ b
       = a ∧ p.val < q) ∧ ((s.peerLevels p.val &&& ownLevels) ≠ 0) ∧ (s.compatFits (s.peerKind p.val) (s.peer p.val 21
       2) = true) ∧ s.toDev.fits p.val (s.planEntry (s.logical p.val)) = false ∧ b < 256 ∧ b ≠ p.val ∧ s.toDev.fits
       p.val (s.planEntry (s.logical b)) = true ∧ (∀ c, c < b → c ≠ p.val → s.toDev.fits p.val (s.planEntry (s.logical
       c)) = false) ∧ (s.toDev.holdsIdent b = false ∨ s.toDev.fits b (s.planEntry (s.logical p.val)) = false)) ∧
    (∃ (s : State) (p : Port) (b : _), s.toDev.awaitsVerdict p.val = true ∧ (∀ q a b, q < 256 → q ≠ p.val →
       s.toDev.awaitsVerdict q = true → (s.port q).firstIdent = some a → (s.port p.val).firstIdent = some b → b < a ∨ b
       = a ∧ p.val < q) ∧ ((s.peerLevels p.val &&& ownLevels) ≠ 0) ∧ (s.compatFits (s.peerKind p.val) (s.peer p.val 21
       2) = true) ∧ s.toDev.fits p.val (s.planEntry (s.logical p.val)) = false ∧ b < 256 ∧ b ≠ p.val ∧ s.toDev.fits
       p.val (s.planEntry (s.logical b)) = true ∧ (∀ c, c < b → c ≠ p.val → s.toDev.fits p.val (s.planEntry (s.logical
       c)) = false) ∧ s.toDev.holdsIdent b = true ∧ s.toDev.fits b (s.planEntry (s.logical p.val)) = true) ∧
    (∃ (s : State) (p : Port), s.toDev.awaitsVerdict p.val = false) ∧
    (∃ (d : Dev) (a : Nat) (b : Nat) (c : _), a ≠ b ∧ d.reg E.SWAP_POLICY = 1 ∧ d.remapHeld a = false ∧ d.remapHeld b
       = false ∧ c ≠ a ∧ c ≠ b) ∧
    (∃ (d : Dev) (a : Nat) (b : Nat), a ≠ b ∧ d.reg E.SWAP_POLICY = 1 ∧ d.remapHeld a = false ∧ d.remapHeld b = false) ∧
    (∃ (d : Dev) (a : Nat) (b : Nat), a ≠ b ∧ (d.reg E.SWAP_POLICY ≠ 1 ∨ d.remapHeld a = true ∨ d.remapHeld b = true)) ∧
    (∃ (d : Dev) (a : Nat) (b : Nat), a ≠ b ∧ (d.reg E.SWAP_POLICY ≠ 1 ∨ d.remapHeld a = true ∨ d.remapHeld b = true)) :=
  ⟨⟨comparing [(E.PEER_IDENT 3, identOf 1 0)] [(3, named 5)], 3, by decide +kernel, alone (by decide +kernel), by
      decide +kernel⟩,
   ⟨{ comparing [(E.PEER_IDENT 3, identOf 1 0x0C)] [(3, named 5)] with regs := [(E.COMPAT_EP, 0x10001)] }, 3, by
      decide +kernel, alone (by decide +kernel), by decide +kernel, by decide +kernel⟩,
   ⟨comparing [(E.PEER_IDENT 3, identOf 1 0x0C), (E.PLAN_NEIGHBOUR 3, planOf 1)] [(3, named 5)], 3, by
      decide +kernel, alone (by decide +kernel), by decide +kernel, by decide +kernel, by decide +kernel⟩,
   ⟨comparing [(E.PEER_IDENT 3, identOf 1 0x0C)] [(3, named 5)], 3, by decide +kernel, alone (by decide +kernel), by
      decide +kernel, by decide +kernel, by decide +kernel, by decide +kernel⟩,
   ⟨comparing [(E.PEER_IDENT 3, identOf 1 0x0C), (E.PLAN_NEIGHBOUR 4, planOf 1)] [(3, named 5)], 3, 4, by
      decide +kernel, alone (by decide +kernel), by decide +kernel, by decide +kernel, by decide +kernel, by
      decide +kernel, by decide +kernel, by decide +kernel, by decide +kernel, by decide +kernel⟩,
   ⟨comparing [(E.PEER_IDENT 3, identOf 1 0x0C), (E.PLAN_NEIGHBOUR 3, planOf 2), (E.PLAN_NEIGHBOUR 4, planOf 1),
      (E.PEER_IDENT 4, identOf 2 0x0C)] [(3, named 5), (4, { named 5 with verdict := 1 })], 3, 4, by decide +kernel,
      alone (by decide +kernel), by decide +kernel, by decide +kernel, by decide +kernel, by decide +kernel, by
      decide +kernel, by decide +kernel, by decide +kernel, by decide +kernel, by decide +kernel⟩,
   ⟨booted, 3, by decide +kernel⟩,
   ⟨{ booted.toDev with regs := [(E.SWAP_POLICY, 1)] }, 3, 4, 5, by decide +kernel⟩,
   ⟨{ booted.toDev with regs := [(E.SWAP_POLICY, 1)] }, 3, 4, by decide +kernel⟩,
   ⟨{ booted.toDev with regs := [(E.SWAP_POLICY, 0)] }, 3, 4, by decide +kernel⟩,
   ⟨{ booted.toDev with regs := [(E.SWAP_POLICY, 0)] }, 3, 4, by decide +kernel⟩⟩

/-- The hypotheses of MemoryHoldsWhatIsStored are met, clause by clause. -/
theorem test_meetsMemoryHoldsWhatIsStored :
    (∃ (d : Dev) (a : Nat) (bs : List Byte) (i : _), Memory.wf d.mem = true ∧ (d.fenced = false ∨ tierSpace a ≠ 0) ∧
       (i < a ∨ a + bs.length ≤ i)) ∧
    (∃ (d : Dev) (a : Nat), Memory.wf d.mem = true ∧ (d.fenced = false ∨ tierSpace a ≠ 0)) ∧
    (∃ (d : Dev) (a : Nat), d.fenced = true ∧ tierSpace a = 0) ∧
    (∃ (d : Dev) (a : Nat) (n : Nat), d.sentry.inject = none ∧ (∀ w ∈ d.ueWords, a + n ≤ w ∨ w + 4 ≤ a)) ∧
    (∃ (d : Dev) (a : Nat) (n : Nat) (w : Nat), d.sentry.inject = none ∧ w ∈ d.ueWords ∧ w < a + n ∧ a < w + 4) :=
  ⟨⟨booted.toDev, 4, [1], 5, by decide +kernel⟩,
   ⟨booted.toDev, 4, by decide +kernel⟩,
   ⟨{ booted.toDev with sentry := { fenceAt := some 5 } }, 4, by decide +kernel⟩,
   ⟨{ booted.toDev with ueWords := [4] }, 0, 4, by decide +kernel⟩,
   ⟨{ booted.toDev with ueWords := [0] }, 3, 1, 0, by decide +kernel⟩⟩

/-- The hypotheses of ExactSumsAndResidues are met, clause by clause. -/
theorem test_meetsExactSumsAndResidues :
    (∃ (l : List Exact) (m : List Exact), l.Perm m) ∧
    (∃ (as : List Int) (bs : List Int), as.length = bs.length) ∧
    (∃ (as : List Int) (i : Nat) (e : Int), i < as.length ∧ ¬ (resP : Int) ∣ e) :=
  ⟨⟨[⟨.finite, 1⟩, ⟨.finite, 2⟩], [⟨.finite, 2⟩, ⟨.finite, 1⟩], List.Perm.swap ..⟩,
   ⟨[1], [2], by decide +kernel⟩,
   ⟨[5], 0, 1, by decide +kernel⟩⟩

end Sys2Proof.Tests
end

section
/-! Exact sums and residues (R252, R253, R264 to R266): the class of a sum and the order and grouping of its terms, the residue
as a remainder modulo p, and the residue of a chunk as the residue of one integer, its weighted sum. -/

namespace Sys2Proof.Machine

/-! ## The class of a sum (R252) -/

theorem EClass.add_comm (a b : EClass) : a.add b = b.add a := by
  cases a <;> cases b <;> rfl

theorem EClass.add_assoc (a b c : EClass) : (a.add b).add c = a.add (b.add c) := by
  cases a <;> cases b <;> cases c <;> rfl

/-- NEGZERO, the class that an empty sum starts from, is neutral (R253). -/
theorem EClass.negzero_add (a : EClass) : EClass.negzero.add a = a := by
  cases a <;> rfl

/-- The table of R252 as a priority among the classes of the two terms. -/
theorem EClass.add_eq (a b : EClass) :
    a.add b =
      if a = .nan ∨ b = .nan then .nan
      else if a = .posinf ∧ b = .neginf ∨ a = .neginf ∧ b = .posinf then .nan
      else if a = .posinf ∨ b = .posinf then .posinf
      else if a = .neginf ∨ b = .neginf then .neginf
      else if a = .negzero ∧ b = .negzero then .negzero
      else .finite := by
  cases a <;> cases b <;> rfl

/-! ## Exact sums (R252, R253, R322) -/

theorem Exact.add_comm (x y : Exact) : x.add y = y.add x := by
  simp only [Exact.add, EClass.add_comm x.cls, Int.add_comm x.a]

theorem Exact.add_assoc (x y z : Exact) : (x.add y).add z = x.add (y.add z) := by
  simp only [Exact.add, EClass.add_assoc, Int.add_assoc]

@[simp] theorem Exact.empty_add (x : Exact) : Exact.empty.add x = x := by
  simp only [Exact.add, Exact.empty, EClass.negzero_add, Int.zero_add]

@[simp] theorem Exact.add_empty (x : Exact) : x.add Exact.empty = x := by
  rw [Exact.add_comm, Exact.empty_add]

/-- A sum produces a NaN from two opposite infinities and from nothing else (R252, R270). -/
theorem Exact.addMakesNan_iff (x y : Exact) :
    x.addMakesNan y = true ↔ x.cls = .posinf ∧ y.cls = .neginf ∨ x.cls = .neginf ∧ y.cls = .posinf := by
  unfold Exact.addMakesNan
  cases x.cls <;> cases y.cls <;> decide

/-- One update of an accumulator under SUM is the exact sum (R322). -/
theorem update_pSUM (t : Nat) : update pSUM t = Exact.add := rfl

theorem accInit_pSUM (t : Nat) : accInit pSUM t = Exact.empty := rfl

theorem foldl_add_perm {l m : List Exact} (h : l.Perm m) (x : Exact) : l.foldl Exact.add x = m.foldl Exact.add x :=
  haveI : RightCommutative Exact.add :=
    ⟨fun x y z => by rw [Exact.add_assoc, Exact.add_comm y, ← Exact.add_assoc]⟩
  h.foldl_eq x

/-- What an accumulator holds before a run of terms can be added after it. -/
theorem foldl_add_eq_add_foldl_empty (l : List Exact) (x : Exact) :
    l.foldl Exact.add x = x.add (l.foldl Exact.add Exact.empty) := by
  induction l generalizing x with
  | nil => exact (Exact.add_empty x).symm
  | cons y l ih => rw [List.foldl_cons, List.foldl_cons, ih, ih (Exact.empty.add y), Exact.empty_add, Exact.add_assoc]

theorem foldl_add_append (l m : List Exact) :
    (l ++ m).foldl Exact.add Exact.empty =
      (l.foldl Exact.add Exact.empty).add (m.foldl Exact.add Exact.empty) := by
  rw [List.foldl_append, foldl_add_eq_add_foldl_empty m]

/-! ## The residue of a value (R263, R264) -/

theorem resP_pos : 0 < resP := by decide

theorem residueA_cast (a : Int) : (residueA a : Int) = a % resP :=
  Int.toNat_of_nonneg (Int.emod_nonneg a (Int.natCast_ne_zero.mpr resP_pos.ne'))

theorem residueA_lt (a : Int) : residueA a < resP := by
  have h : (residueA a : Int) < resP := by
    rw [residueA_cast]
    exact Int.emod_lt_of_pos a (Int.natCast_pos.mpr resP_pos)
  exact_mod_cast h

/-- Values have the same residue exactly when they are congruent modulo p. -/
theorem residueA_eq_iff (a b : Int) : residueA a = residueA b ↔ a ≡ b [ZMOD resP] := by
  rw [← Int.natCast_inj, residueA_cast, residueA_cast, Int.ModEq]

/-- Reducing a natural number modulo p is taking its residue. -/
theorem mod_resP_eq_residueA (n : Nat) : n % resP = residueA n := by
  rw [← Int.natCast_inj, residueA_cast, Int.natCast_mod]

/-- A residue may stand for its value in every congruence modulo p. -/
theorem residueA_modEq (a : Int) : (residueA a : Int) ≡ a [ZMOD resP] := by
  rw [residueA_cast]
  exact Int.mod_modEq a resP

@[simp] theorem residueA_zero : residueA 0 = 0 := by
  simp [residueA]

@[simp] theorem residueA_mul_resP (a : Int) : residueA (a * resP) = 0 := by
  simp [residueA]

theorem residueA_add (a b : Int) : residueA (a + b) = resAdd (residueA a) (residueA b) := by
  rw [resAdd, mod_resP_eq_residueA, residueA_eq_iff, Int.natCast_add]
  exact ((residueA_modEq a).add (residueA_modEq b)).symm

/-- An error in a value stays unseen exactly when it is a multiple of p. -/
theorem residueA_add_eq_left_iff (a e : Int) : residueA (a + e) = residueA a ↔ (resP : Int) ∣ e := by
  rw [eq_comm, residueA_eq_iff, Int.modEq_iff_dvd, add_sub_cancel_left]

/-! ## The residue of a chunk (R265, R266) -/

/-- The value of a chunk as one integer: the values weighted with the powers of 37, the first with 1. -/
def weightedSum : List Int → Int
  | [] => 0
  | a :: as => a + 37 * weightedSum as

/-- One step of the running sum of R266, on the residue of what was summed before. -/
theorem residueA_add_weighted (w : Nat) (x a : Int) : (residueA x + w * residueA a) % resP = residueA (x + w * a) := by
  rw [mod_resP_eq_residueA, residueA_eq_iff, Int.natCast_add, Int.natCast_mul]
  exact (residueA_modEq x).add ((residueA_modEq a).mul_left w)

/-- The running sum of R266 from a first weight `w` is the residue of what was summed before and `w` times the values' sum. -/
theorem residueFrom_residueA (w : Nat) (as : List Int) (x : Int) :
    residueFrom w as (residueA x) = residueA (x + w * weightedSum as) := by
  induction as generalizing w x with
  | nil => simp [residueFrom, weightedSum]
  | cons a as ih =>
    have hw : ((w * 37 % resP : Nat) : Int) ≡ w * 37 [ZMOD resP] := by
      simpa [mod_resP_eq_residueA] using residueA_modEq (w * 37)
    have hsum : x + w * weightedSum (a :: as) = (x + w * a) + w * 37 * weightedSum as := by
      rw [weightedSum]; ring
    rw [residueFrom, residueA_add_weighted, ih, residueA_eq_iff, hsum]
    exact (hw.mul_right _).add_left _

/-- The residue of a chunk is the residue of 37 times its weighted sum, as the first position's weight is 37 (R265, R266). -/
theorem residueList_eq (as : List Int) : residueList as = residueA (37 * weightedSum as) := by
  have h := residueFrom_residueA 37 as 0
  rwa [residueA_zero, Int.zero_add] at h

theorem weightedSum_zipWith_add (as bs : List Int) (h : as.length = bs.length) :
    weightedSum (List.zipWith (· + ·) as bs) = weightedSum as + weightedSum bs := by
  induction as generalizing bs with
  | nil =>
    rw [List.length_eq_zero_iff.mp h.symm]
    rfl
  | cons a as ih =>
    obtain _ | ⟨b, bs⟩ := bs
    · simp at h
    · rw [List.zipWith_cons_cons, weightedSum, ih bs (by simpa using h), weightedSum, weightedSum]
      ring

/-- An error `e` at position `i` changes the weighted sum by `e` with the position's weight. -/
theorem weightedSum_set_add (as : List Int) (i : Nat) (e : Int) (hi : i < as.length) :
    weightedSum (as.set i (as[i]! + e)) = weightedSum as + 37 ^ i * e := by
  induction as generalizing i with
  | nil => simp at hi
  | cons a as ih =>
    cases i with
    | zero =>
      simp only [List.set_cons_zero, List.getElem!_cons_zero, weightedSum]
      ring
    | succ i =>
      simp only [List.set_cons_succ, List.getElem!_cons_succ, weightedSum, ih i (by simpa using hi)]
      ring

/-- The residue of a position-by-position sum of two chunks is the sum of their residues. -/
theorem residueList_zipWith_add (as bs : List Int) (h : as.length = bs.length) :
    residueList (List.zipWith (· + ·) as bs) = resAdd (residueList as) (residueList bs) := by
  rw [residueList_eq, weightedSum_zipWith_add as bs h, Int.mul_add, residueA_add, ← residueList_eq, ← residueList_eq]

/-- No weight shares a factor with p. -/
theorem resP_coprime_weight (i : Nat) : IsCoprime (resP : Int) (37 ^ (i + 1)) :=
  have h : Nat.Coprime resP 37 := by decide
  (Nat.isCoprime_iff_coprime.mpr h).pow_right

/-- An error at one position leaves a chunk's residue as it was exactly when it is a multiple of p: every weight is a unit. -/
theorem residueList_set_add_eq_iff (as : List Int) (i : Nat) (e : Int) (hi : i < as.length) :
    residueList (as.set i (as[i]! + e)) = residueList as ↔ (resP : Int) ∣ e := by
  have hsum : 37 * (weightedSum as + 37 ^ i * e) = 37 * weightedSum as + 37 ^ (i + 1) * e := by ring
  rw [residueList_eq, residueList_eq, weightedSum_set_add as i e hi, hsum, residueA_add_eq_left_iff]
  exact ⟨(resP_coprime_weight i).dvd_of_dvd_mul_left, fun h => h.mul_left _⟩

/-! ## The obligation -/

/-- Settles O60: sums by the monoid laws of exact values, chunk residues by way of the weighted sum, in which an error at one
position keeps a factor that p does not divide. -/
theorem exactSumsAndResidues : Obligations.ExactSumsAndResidues := by
  refine ⟨fun x y z => ⟨x.add_comm y, x.add_assoc y z, x.empty_add⟩,
    fun x y => ⟨rfl, EClass.add_eq x.cls y.cls, x.addMakesNan_iff y⟩,
    fun t l m h => ?_, fun t l m => ?_, residueA_add, fun a => ⟨residueA_mul_resP a, residueA_lt a⟩,
    residueList_zipWith_add, fun as i e hi he h => he ((residueList_set_add_eq_iff as i e hi).mp h)⟩
  · rw [update_pSUM]
    exact foldl_add_perm h _
  · rw [update_pSUM, accInit_pSUM]
    exact foldl_add_append l m

end Sys2Proof.Machine
end

section
/-! What the sentry does with a report (R522, R523, R529, R532, R533, R536): it is logged and counted, and unless it is a corrected
fault of a masked unit it opens or merges into its class's record, raises the class's source and, on FATAL, fences. -/

namespace Sys2Proof.Machine

/-! ## Counters and sources -/

/-- A saturation event leaves every register but its own two (R553). -/
theorem Dev.reg_saturate_other (d : Dev) (k : Nat) {i : Nat} (ha : i ≠ E.ANY_SATURATED) (he : i ≠ E.SATURATION_EVENTS) :
    (d.saturate k).reg i = d.reg i := by
  simp only [Dev.saturate, Dev.reg_count, Dev.reg_setReg, if_neg ha, if_neg he]
  rfl

/-- An error count leaves every register but the counter and those of a saturation event (R549, R553). -/
theorem Dev.reg_countErr_other (d : Dev) {k i : Nat} (hk : i ≠ k) (ha : i ≠ E.ANY_SATURATED) (he : i ≠ E.SATURATION_EVENTS) :
    (d.countErr k).reg i = d.reg i := by
  unfold Dev.countErr
  simp only []
  split
  · rfl
  · split
    · rw [Dev.reg_saturate_other _ _ ha he, Dev.reg_setReg_other _ _ hk]
    · rw [Dev.reg_setReg_other _ _ hk]

theorem maskHas_maskSet_same (m s : Nat) : maskHas (maskSet m s) s = true := by
  unfold maskSet
  split
  · assumption
  · next h =>
    simp only [maskHas, decide_eq_true_eq] at h ⊢
    rw [Nat.add_div_right _ (Nat.two_pow_pos s)]
    omega

/-- A raised source is pending (R541). -/
theorem Dev.raiseInt_pending_same (d : Dev) (n : Nat) : maskHas (d.raiseInt n).ints.pending n = true :=
  maskHas_maskSet_same d.ints.pending n

/-! ## The records of the classes -/

@[simp] theorem Sentry.record_setRecord_same (x : Sentry) (c : FaultClass) (r : FaultRec) : (x.setRecord c r).record c = r := by
  cases c <;> rfl

theorem Sentry.record_setRecord_other (x : Sentry) {c e : FaultClass} (r : FaultRec) (h : e ≠ c) :
    (x.setRecord c r).record e = x.record e := by
  cases c <;> cases e <;> simp [Sentry.setRecord, Sentry.record] at h ⊢

@[simp] theorem Sentry.setRecord_log (x : Sentry) (c : FaultClass) (r : FaultRec) : (x.setRecord c r).log = x.log := by
  cases c <;> rfl

@[simp] theorem Sentry.setRecord_fenceAt (x : Sentry) (c : FaultClass) (r : FaultRec) :
    (x.setRecord c r).fenceAt = x.fenceAt := by
  cases c <;> rfl

@[simp] theorem Sentry.record_setLog (x : Sentry) (l : List Bark) (c : FaultClass) :
    { x with log := l }.record c = x.record c := by
  cases c <;> rfl

@[simp] theorem Sentry.record_setFenceAt (x : Sentry) (f : Option Nat) (c : FaultClass) :
    { x with fenceAt := f }.record c = x.record c := by
  cases c <;> rfl

/-! ## The two halves of sampling a report -/

/-- The counter of a class's faults (R529, R547). -/
def FaultClass.counter (c : FaultClass) : Nat :=
  if c = .corrected then E.CORR_FAULTS else if c = .contained then E.UNC_FAULTS else E.FATAL_FAULTS

/-- The interrupt source of a class (R522, R539). -/
def FaultClass.source (c : FaultClass) : Nat := if classCode c = 3 then 0 else if classCode c = 2 then 1 else 2

/-- The class of a report (R525 to R527). -/
def BarkMsg.faultClass (b : BarkMsg) : FaultClass := kindClass b.kind.toNat b.cls

/-- Whether CORR_MASK keeps a report from its record and its source (R536). -/
def Dev.masks (d : Dev) (b : BarkMsg) : Prop :=
  b.faultClass = .corrected ∧ maskHas (d.reg E.CORR_MASK) (b.kind.toNat / 256) = true

/-- BARK_LOG with a report appended (R529). -/
def Dev.logWith (d : Dev) (b : BarkMsg) : List Bark :=
  let l := d.sentry.log ++ [Bark.mk d.tick { b with cls := b.faultClass }]
  l.drop (l.length - 64)

/-- The half that every report goes through: it is logged, and counted in BARKS and by its class (R529). -/
def Dev.logged (d : Dev) (b : BarkMsg) : Dev :=
  ({ d with sentry := { d.sentry with log := d.logWith b } }.count E.BARKS).countErr b.faultClass.counter

/-- What a report that no mask stops makes of the sentry at tick `now`: its class's record, with escalation time `esc`, and on
FATAL the fence (R523, R532, R533). -/
def Sentry.take (x : Sentry) (now esc : Nat) (b : BarkMsg) : Sentry :=
  let y := x.setRecord b.faultClass (openOrMerge (x.record b.faultClass) now esc b)
  if b.faultClass = .fatal then { y with fenceAt := some (y.fenceAt.getD (now + 1)) } else y

/-- A report that CORR_MASK names is logged and counted, and goes no further (R536). -/
theorem Dev.sample_of_masks {d : Dev} {b : BarkMsg} (h : d.masks b) : d.sample b = d.logged b := by
  obtain ⟨hc, hm⟩ := h
  rw [BarkMsg.faultClass] at hc
  simp [Dev.sample, Dev.logged, Dev.logWith, BarkMsg.faultClass, FaultClass.counter, hc, hm]

/-- Any other report is logged and counted, is taken by the sentry and raises its class's source (R522, R533). -/
theorem Dev.sample_of_not_masks {d : Dev} {b : BarkMsg} (h : ¬ d.masks b) :
    d.sample b =
      { d.logged b with
        sentry := (d.logged b).sentry.take d.tick ((d.logged b).escalateTicks b.faultClass) b }.raiseInt
        b.faultClass.source := by
  have hm : ¬ (kindClass b.kind.toNat b.cls = .corrected && maskHas (d.reg E.CORR_MASK) (b.kind.toNat / 256)) = true := by
    simpa [Dev.masks, BarkMsg.faultClass] using h
  unfold Dev.sample Dev.logged Dev.logWith Sentry.take BarkMsg.faultClass
  simp only []
  rw [if_neg hm]
  cases kindClass b.kind.toNat b.cls <;> rfl

/-! ## The sentry that takes a report -/

theorem Sentry.take_record_same (x : Sentry) (now esc : Nat) (b : BarkMsg) :
    (x.take now esc b).record b.faultClass = openOrMerge (x.record b.faultClass) now esc b := by
  unfold Sentry.take
  split
  · rw [Sentry.record_setFenceAt, Sentry.record_setRecord_same]
  · rw [Sentry.record_setRecord_same]

theorem Sentry.take_record_other (x : Sentry) (now esc : Nat) (b : BarkMsg) {c : FaultClass} (h : c ≠ b.faultClass) :
    (x.take now esc b).record c = x.record c := by
  unfold Sentry.take
  split
  · rw [Sentry.record_setFenceAt, Sentry.record_setRecord_other _ _ h]
  · rw [Sentry.record_setRecord_other _ _ h]

theorem Sentry.take_log (x : Sentry) (now esc : Nat) (b : BarkMsg) : (x.take now esc b).log = x.log := by
  unfold Sentry.take
  split <;> simp

theorem Sentry.take_fenceAt (x : Sentry) (now esc : Nat) (b : BarkMsg) :
    (x.take now esc b).fenceAt = if b.faultClass = .fatal then some (x.fenceAt.getD (now + 1)) else x.fenceAt := by
  unfold Sentry.take
  split <;> simp

/-! ## What the first half leaves -/

theorem Dev.logged_frame (d : Dev) (b : BarkMsg) :
    d.logged b = { d with regs := (d.logged b).regs, tele := (d.logged b).tele,
                          sentry := { d.sentry with log := d.logWith b } } := by
  unfold Dev.logged
  rw [Dev.countErr_frame]
  rfl

@[simp] theorem Dev.logged_ints (d : Dev) (b : BarkMsg) : (d.logged b).ints = d.ints := by rw [Dev.logged_frame]

@[simp] theorem Dev.logged_sentry (d : Dev) (b : BarkMsg) :
    (d.logged b).sentry = { d.sentry with log := d.logWith b } := by
  rw [Dev.logged_frame]

/-- Only the two counts and the registers of a saturation event change (R529, R553). -/
theorem Dev.reg_logged_other (d : Dev) (b : BarkMsg) {k : Nat}
    (h : k ∉ [E.BARKS, b.faultClass.counter, E.ANY_SATURATED, E.SATURATION_EVENTS]) : (d.logged b).reg k = d.reg k := by
  simp only [List.mem_cons, List.not_mem_nil, or_false, not_or] at h
  obtain ⟨hb, hk, ha, he⟩ := h
  rw [Dev.logged, Dev.reg_countErr_other _ hk ha he, Dev.reg_count, if_neg hb]
  rfl

theorem FaultClass.barks_ne_counter (c : FaultClass) : E.BARKS ≠ c.counter := by
  cases c <;> decide

/-- BARKS counts a report (R529). -/
theorem Dev.reg_logged_barks (d : Dev) (b : BarkMsg) : (d.logged b).reg E.BARKS = (d.reg E.BARKS + 1) % 2 ^ 64 := by
  rw [Dev.logged, Dev.reg_countErr_other _ b.faultClass.barks_ne_counter (by decide) (by decide), Dev.reg_count, if_pos rfl]
  rfl

/-- The counter of its class counts a report (R529, R549). -/
theorem Dev.reg_logged_counter (d : Dev) (b : BarkMsg) (h : d.reg b.faultClass.counter < 0xFFFFFFFE) :
    (d.logged b).reg b.faultClass.counter = d.reg b.faultClass.counter + 1 := by
  have hcount : ({ d with sentry := { d.sentry with log := d.logWith b } }.count E.BARKS).reg b.faultClass.counter =
      d.reg b.faultClass.counter := by
    rw [Dev.reg_count, if_neg b.faultClass.barks_ne_counter.symm]
    rfl
  rw [Dev.logged, Dev.reg_countErr_same _ _ (hcount ▸ h), hcount]

/-- No count of a report is one of the escalation times (R534). -/
@[simp] theorem Dev.logged_escalateTicks (d : Dev) (b : BarkMsg) (c : FaultClass) :
    (d.logged b).escalateTicks c = d.escalateTicks c := by
  have h (k : Nat) (hk : k = E.ESCALATE_CORR_TICKS ∨ k = E.ESCALATE_UNC_TICKS) : (d.logged b).reg k = d.reg k := by
    refine d.reg_logged_other b ?_
    obtain rfl | rfl := hk <;> cases b.faultClass <;> decide
  cases c
  · exact h _ (.inl rfl)
  · exact h _ (.inr rfl)
  · rfl

/-! ## What a sampled report leaves -/

/-- The reaction of a class writes no register. -/
theorem Dev.reg_sample (d : Dev) (b : BarkMsg) (k : Nat) : (d.sample b).reg k = (d.logged b).reg k := by
  by_cases h : d.masks b
  · rw [Dev.sample_of_masks h]
  · rw [Dev.sample_of_not_masks h]
    rfl

/-- A report changes the sentry's log and, where no mask stops it, is taken by it. -/
theorem Dev.sample_sentry_of_masks {d : Dev} {b : BarkMsg} (h : d.masks b) :
    (d.sample b).sentry = { d.sentry with log := d.logWith b } := by
  rw [Dev.sample_of_masks h, Dev.logged_sentry]

theorem Dev.sample_sentry_of_not_masks {d : Dev} {b : BarkMsg} (h : ¬ d.masks b) :
    (d.sample b).sentry = { d.sentry with log := d.logWith b }.take d.tick (d.escalateTicks b.faultClass) b := by
  rw [Dev.sample_of_not_masks h, ← Dev.logged_sentry, ← Dev.logged_escalateTicks d b]
  rfl

/-- Every report is in the log, the 64 most recent are kept (R529). -/
theorem Dev.sample_log (d : Dev) (b : BarkMsg) : (d.sample b).sentry.log = d.logWith b := by
  by_cases h : d.masks b
  · rw [Dev.sample_sentry_of_masks h]
  · rw [Dev.sample_sentry_of_not_masks h, Sentry.take_log]

/-- A FATAL report fences from the tick after it, where the fence is not set already (R523). -/
theorem Dev.sample_fenceAt (d : Dev) (b : BarkMsg) :
    (d.sample b).sentry.fenceAt =
      if b.faultClass = .fatal then some (d.sentry.fenceAt.getD (d.tick + 1)) else d.sentry.fenceAt := by
  by_cases h : d.masks b
  · rw [Dev.sample_sentry_of_masks h, if_neg (by simp [h.1])]
  · rw [Dev.sample_sentry_of_not_masks h, Sentry.take_fenceAt]

/-- A report leaves the records of the other classes as they were (R533). -/
theorem Dev.sample_record_other (d : Dev) (b : BarkMsg) {c : FaultClass} (hc : c ≠ b.faultClass) :
    (d.sample b).sentry.record c = d.sentry.record c := by
  by_cases h : d.masks b
  · rw [Dev.sample_sentry_of_masks h, Sentry.record_setLog]
  · rw [Dev.sample_sentry_of_not_masks h, Sentry.take_record_other _ _ _ _ hc, Sentry.record_setLog]

/-- A masked report leaves the interrupt controller and its class's record as they were (R536). -/
theorem Dev.sample_of_masks_unchanged {d : Dev} {b : BarkMsg} (h : d.masks b) :
    (d.sample b).ints = d.ints ∧ (d.sample b).sentry.record b.faultClass = d.sentry.record b.faultClass := by
  constructor
  · rw [Dev.sample_of_masks h, Dev.logged_ints]
  · rw [Dev.sample_sentry_of_masks h, Sentry.record_setLog]

/-- Any other report opens or merges into its class's record and raises the class's source (R522, R532, R533). -/
theorem Dev.sample_of_not_masks_reacts {d : Dev} {b : BarkMsg} (h : ¬ d.masks b) :
    (d.sample b).sentry.record b.faultClass =
        openOrMerge (d.sentry.record b.faultClass) d.tick (d.escalateTicks b.faultClass) b ∧
      maskHas (d.sample b).ints.pending b.faultClass.source = true := by
  constructor
  · rw [Dev.sample_sentry_of_not_masks h, Sentry.take_record_same, Sentry.record_setLog]
  · rw [Dev.sample_of_not_masks h]
    exact Dev.raiseInt_pending_same _ _

/-- The fields that a sampled report can change set back, the device is as it was. -/
theorem Dev.sample_restored (d : Dev) (b : BarkMsg) :
    { d.sample b with regs := d.regs, sentry := d.sentry, ints := d.ints, tele := d.tele } = d := by
  rw [Dev.sample_frame]

/-! ## The obligation -/

/-- A report from outside the model is sampled at once (R528). -/
theorem exec_bark_of_known (s : State) (b : BarkMsg) (h : kindKnown b.kind.toNat = true) :
    exec (.bark (some b)) s = .next (s.dev (s.toDev.sample b)) := by
  change run s (fun d => if kindKnown b.kind.toNat then d.sample b else d) = _
  rw [run_eq, if_pos h]
  rfl

/-- Settles O50: a sampled report is its log and its counts and, where no mask stops it, the reaction of its class. -/
theorem barksAreRecorded : Obligations.BarksAreRecorded := by
  intro s b hknown cls src masked
  refine ⟨s.dev (s.toDev.sample b), exec_bark_of_known s b hknown, ?_, ⟨fun hlow => ?_, fun k hk => ?_⟩,
    s.toDev.sample_log b, Dev.sample_of_masks_unchanged, Dev.sample_of_not_masks_reacts, s.toDev.sample_fenceAt b,
    fun c => s.toDev.sample_record_other b, congrArg s.dev (s.toDev.sample_restored b)⟩
  · exact (s.toDev.reg_sample b _).trans (s.toDev.reg_logged_barks b)
  · exact (s.toDev.reg_sample b _).trans (s.toDev.reg_logged_counter b hlow)
  · exact (s.toDev.reg_sample b k).trans (s.toDev.reg_logged_other b hk)

end Sys2Proof.Machine
end

section
/-! What a command can answer (R560, R589, R619): but for the snapshot rows, the resets and one test port instruction, every
command changes the device alone, so the queue's rest and the snapshot sets stay as they are. -/

namespace Sys2Proof.Machine

/-! ## Rows that change the device alone -/

/-- A row whose meaning is a change of the device answers the device so changed. -/
theorem run_dev {s : State} {f : Dev → Dev} {d : Dev} (h : f s.toDev = d) : run s f = .next (s.dev d) := h ▸ rfl

/-- The same where losses of ports are carried to the contexts (R304, R368). -/
theorem settled_run_dev {s : State} {f : Dev → Dev} {d : Dev} (h : (f s.toDev).settle s.toDev = d) :
    settled s (run s f) = .next (s.dev d) := h ▸ rfl

@[simp] theorem State.dev_self (s : State) : s.dev s.toDev = s := rfl

/-! ## The answers of a command -/

/-- The rows that a reset without snapshots can follow (R619). -/
def clearsStore : Instr → Prop
  | .resetTakesEffect | .resetNRise _ | .inputRise _ | .alwaysOnStop _ => True
  | _ => False

/-- A snapshot set once the snapshot named `n` is complete (R559). -/
def ShadowSet.complete (n : Nat) (x : ShadowSet) : ShadowSet := if x.id = n then { x with taken := true } else x

/-- What the command `i` can answer in the state `s`. -/
inductive Answer (i : Instr) (s : State) : Host.Outcome State Fault Refusal → Prop
  /-- The device alone changes. -/
  | dev (d : Dev) : Answer i s (.next (s.dev d))
  /-- A warm reset keeps the complete snapshot sets (R619). -/
  | warm (d : Dev) : Answer i s (.next { s with toDev := d, shadows := s.shadows.filter (·.taken), boundary := none })
  /-- A reset that clears the counters' store loses them (R619). -/
  | lose (f : Dev → Dev) (h : clearsStore i) : Answer i s (.next (s.lose f))
  /-- SNAP_COPY places a set (R560). -/
  | copy (d : Dev) (x : ShadowSet) (h : i = .snapCopy) :
      Answer i s (.next { s with toDev := d, boundary := none, shadows := placeShadow s.shadows x })
  /-- SNAP_TAKEN completes one (R559). -/
  | taken (d : Dev) (n : Nat) : Answer i s (.next { s with toDev := d, shadows := s.shadows.map (ShadowSet.complete n) })
  /-- A further test instruction outside FIELD or with debug open (R589). -/
  | fault (ir : BitVec 8) (h : i = .testPortInstruction (.other ir)) (hd : s.debugOpen = true ∨ s.mfg.field = false) :
      Answer i s (.fault .debugInstruction)

theorem Answer.refl (i : Instr) (s : State) : Answer i s (.next s) := .dev s.toDev

/-- Where both branches answer so, a choice between them does. -/
theorem Answer.ite {i : Instr} {s : State} {p : Prop} [Decidable p] {a b : Host.Outcome State Fault Refusal}
    (ha : Answer i s a) (hb : Answer i s b) : Answer i s (if p then a else b) :=
  iteInduction (fun _ => ha) (fun _ => hb)

theorem State.warm_answer (i : Instr) (s : State) (d : Dev) : Answer i s (.next (s.warm d)) := by
  unfold State.warm
  split
  · exact .dev _
  · exact .warm _

theorem State.warmOrHeld_answer (i : Instr) (s : State) (d : Dev) : Answer i s (.next (s.warmOrHeld d)) := by
  unfold State.warmOrHeld
  split
  · exact .dev _
  · exact s.warm_answer i d

theorem State.heldReset_answer (i : Instr) (s : State) (d : Dev) : Answer i s (.next (s.heldReset d)) := by
  unfold State.heldReset
  split
  · exact s.warm_answer i d
  · exact .dev _

theorem execSnapCopy_answer (s : State) : Answer .snapCopy s (execSnapCopy s) := by
  unfold execSnapCopy
  split
  · exact .refl _ s
  · split
    · exact .refl _ s
    · exact .copy _ _ rfl

theorem execSnapTaken_answer (i : Instr) (s : State) : Answer i s (execSnapTaken s) := by
  unfold execSnapTaken
  split
  · exact .refl _ s
  · split
    · exact .refl _ s
    · exact .taken _ _

theorem execResetTakesEffect_answer (s : State) : Answer .resetTakesEffect s (execResetTakesEffect s) := by
  unfold execResetTakesEffect
  simp only []
  split
  · exact .refl _ s
  · split
    · exact .refl _ s
    · split
      · exact .lose _ trivial
      · exact .lose _ trivial
      · exact s.warmOrHeld_answer _ _
      · exact .dev _

theorem execResetNRise_answer (n : BitVec 64) (s : State) : Answer (.resetNRise n) s (execResetNRise n s) := by
  have keep : Answer (.resetNRise n) s (done s) := .refl _ s
  have cold : Answer (.resetNRise n) s (done (s.lose Dev.coldReset)) := .lose _ trivial
  exact .ite keep <| .ite (.ite keep cold) <| .ite keep <| .ite cold <| .ite keep <| .ite cold <|
    .ite (.dev _) (s.warm_answer _ _)

theorem execInputRise_answer (mv : BitVec 32) (s : State) : Answer (.inputRise mv) s (execInputRise mv s) :=
  .ite (.refl _ s) (.lose _ trivial)

theorem execAlwaysOnStop_answer (mv : BitVec 32) (s : State) : Answer (.alwaysOnStop mv) s (execAlwaysOnStop mv s) :=
  .ite (.refl _ s) (.lose _ trivial)

theorem execTestPortInstruction_answer (x : TestInstr) (s : State) :
    Answer (.testPortInstruction x) s (execTestPortInstruction x s) := by
  refine .ite (.refl _ s) ?_
  cases x with
  | other ir =>
    exact iteInduction (motive := Answer _ s) (fun h => .fault ir rfl (by simpa using h)) (fun _ => .dev _)
  | _ => exact .dev _

theorem execWakeComplete_answer (i : Instr) (s : State) : Answer i s (execWakeComplete s) := by
  unfold execWakeComplete
  split
  · exact .ite (.refl _ s) (.dev _)
  · exact .refl _ s

/-- What a command answers is one of the answers listed. -/
theorem exec_answer (i : Instr) (s : State) : Answer i s (exec i s) := by
  cases i with
  | snapCopy => exact execSnapCopy_answer s
  | snapTaken => exact execSnapTaken_answer _ s
  | resetTakesEffect => exact execResetTakesEffect_answer s
  | resetNRise n => exact execResetNRise_answer n s
  | inputRise mv => exact execInputRise_answer mv s
  | alwaysOnStop mv => exact execAlwaysOnStop_answer mv s
  | testPortInstruction x => exact execTestPortInstruction_answer x s
  | wakeComplete => exact execWakeComplete_answer _ s
  | inputBackInRange mv => exact .ite (.refl _ s) (s.heldReset_answer _ _)
  | overtempRecovered => exact .ite (.refl _ s) (s.heldReset_answer _ _)
  | _ => exact .dev _

/-! ## The answers of a step -/

/-- A step runs the command at the front of the queue with the rest of it, or lets a tick pass. -/
theorem step_cases (s : State) :
    (s.pending = [] ∧ step s = .next s.clock) ∨
      ∃ c rest, s.pending = c :: rest ∧ step s = exec c { s with pending := rest } := by
  unfold step
  split
  · next h => exact .inl ⟨h, rfl⟩
  · next c rest h => exact .inr ⟨c, rest, h, rfl⟩

/-- A tick leaves the queue and the snapshot sets. -/
theorem State.clock_pending_shadows (s : State) : s.clock.pending = s.pending ∧ s.clock.shadows = s.shadows := by
  unfold State.clock
  split <;> exact ⟨rfl, rfl⟩

/-- A command leaves the queue's rest. -/
theorem exec_pending {i : Instr} {s t : State} (h : exec i s = .next t) : t.pending = s.pending := by
  have ha := exec_answer i s
  rw [h] at ha
  cases ha <;> rfl

/-- Settles O3: a tick has an empty queue to leave, and no command writes the queue. -/
theorem stepTakesOneCommand : Obligations.StepTakesOneCommand := by
  intro s t h
  obtain ⟨hp, hs⟩ | ⟨c, rest, hp, hs⟩ := step_cases s
  · cases hs.symm.trans h
    rw [s.clock_pending_shadows.1, hp, List.tail_nil]
  · rw [exec_pending (hs.symm.trans h), hp, List.tail_cons]

/-- Settles O4: of the answers of a command only the one to a further test instruction is no next state. -/
theorem everyCommandAnswers : Obligations.EveryCommandAnswers := by
  intro i s
  have ha := exec_answer i s
  generalize exec i s = o at ha
  cases ha with
  | fault ir hi hd => exact .inr ⟨rfl, hd, ir, hi⟩
  | _ => exact .inl ⟨_, rfl⟩

/-! ## Snapshot sets -/

theorem length_placeShadow_le {l : List ShadowSet} (x : ShadowSet) (h : l.length ≤ 2) : (placeShadow l x).length ≤ 2 := by
  unfold placeShadow
  split
  · split <;> simp
  · next hne =>
    have h2 : l.length ≠ 2 := fun h2 => by
      obtain ⟨a, b, rfl⟩ := List.length_eq_two.mp h2
      exact hne a b rfl
    simp only [List.length_append, List.length_cons, List.length_nil]
    omega

/-- A placed set takes the place of one of two, and of the one taken less recently (R560). -/
theorem mem_placeShadow {l : List ShadowSet} {x : ShadowSet} (y : ShadowSet) (h : x ∈ l) :
    x ∈ placeShadow l y ∨ 2 ≤ l.length ∧ ∀ z ∈ l, x.target ≤ z.target := by
  unfold placeShadow
  split
  · next a b =>
    split <;> simp only [List.mem_cons, List.not_mem_nil, or_false] at h ⊢ <;> obtain rfl | rfl := h
    · exact .inr ⟨Nat.le_refl 2, by simpa⟩
    · exact .inl (.inr rfl)
    · exact .inl (.inl rfl)
    · exact .inr ⟨Nat.le_refl 2, by simp; omega⟩
  · exact .inl (List.mem_append_left _ h)

/-- Completing a set changes no set that is complete (R560). -/
theorem ShadowSet.complete_of_taken (n : Nat) {x : ShadowSet} (h : x.taken = true) : x.complete n = x := by
  unfold ShadowSet.complete
  split
  · rw [← h]
  · rfl

theorem exec_shadows_length {i : Instr} {s t : State} (hl : s.shadows.length ≤ 2) (h : exec i s = .next t) :
    t.shadows.length ≤ 2 := by
  have ha := exec_answer i s
  rw [h] at ha
  cases ha with
  | dev d => exact hl
  | warm d => exact (List.length_filter_le _ _).trans hl
  | lose f hc => exact Nat.zero_le 2
  | copy d x hi => exact length_placeShadow_le x hl
  | taken d n => exact (List.length_map (ShadowSet.complete n)).trans_le hl

/-- Settles O5: a copy is placed over one of two sets, and nothing else adds one. -/
theorem stepKeepsAtMostTwoSnapshots : Obligations.StepKeepsAtMostTwoSnapshots := by
  intro s t hl h
  obtain ⟨-, hs⟩ | ⟨c, rest, -, hs⟩ := step_cases s
  · cases hs.symm.trans h
    rwa [s.clock_pending_shadows.2]
  · exact exec_shadows_length (s := { s with pending := rest }) hl (hs.symm.trans h)

/-- What becomes of a complete set under a command: it stays, SNAP_COPY places a set over it, or a reset clears the store. -/
theorem exec_taken_shadow {i : Instr} {s t : State} {x : ShadowSet} (hx : x ∈ s.shadows) (ht : x.taken = true)
    (h : exec i s = .next t) :
    x ∈ t.shadows ∨ (i = .snapCopy ∧ 2 ≤ s.shadows.length ∧ ∀ y ∈ s.shadows, x.target ≤ y.target) ∨
      (t.shadows = [] ∧ clearsStore i) := by
  have ha := exec_answer i s
  rw [h] at ha
  cases ha with
  | dev d => exact .inl hx
  | warm d => exact .inl (List.mem_filter.mpr ⟨hx, ht⟩)
  | lose f hc => exact .inr (.inr ⟨rfl, hc⟩)
  | copy d y hi => exact (mem_placeShadow y hx).imp id (fun hp => .inl ⟨hi, hp⟩)
  | taken d n => exact .inl (List.mem_map.mpr ⟨x, hx, x.complete_of_taken n ht⟩)

theorem clearsStore_iff (i : Instr) : clearsStore i ↔
    i = .resetTakesEffect ∨ (∃ n, i = .resetNRise n) ∨ (∃ v, i = .inputRise v) ∨ ∃ v, i = .alwaysOnStop v := by
  cases i <;> simp [clearsStore]

/-- Settles O6: by what each answer of a command does to a complete set. -/
theorem takenSnapshotsStay : Obligations.TakenSnapshotsStay := by
  intro s t x hx ht h
  obtain ⟨-, hs⟩ | ⟨c, rest, hp, hs⟩ := step_cases s
  · cases hs.symm.trans h
    exact .inl (s.clock_pending_shadows.2 ▸ hx)
  · obtain hm | ⟨rfl, hc⟩ | ⟨hn, hc⟩ := exec_taken_shadow (s := { s with pending := rest }) hx ht (hs.symm.trans h)
    · exact .inl hm
    · exact .inr (.inl ⟨rest, hp, hc⟩)
    · exact .inr (.inr ⟨c, rest, hp, hn, (clearsStore_iff c).mp hc⟩)

end Sys2Proof.Machine
end

section
/-! The dictionary's path of a request (R43 to R59): a request that is heard is counted, looked up in the cache, checked and
served, and what serving it comes to is what the command answers. -/

namespace Sys2Proof.Machine

/-! ## Rows that are requests -/

theorem exec_of_requestOf {i : Instr} {op : Nat} {q : Req} (h : requestOf i = some (op, q)) (s : State) :
    exec i s = s.request op q := by
  cases i <;> cases h <;> rfl

theorem Req.at_index_toNat (q : Req) {k : Nat} (pl : List Byte) (h : k < 2 ^ 24) : (q.at k pl).index.toNat = k / 256 := by
  simp only [Req.at, BitVec.toNat_ofNat]
  omega

theorem Req.at_sub_toNat (q : Req) (k : Nat) (pl : List Byte) : (q.at k pl).sub.toNat = k % 256 := by
  simp [Req.at]

/-- A request is at the entry that it names. -/
theorem Req.at_self (q : Req) : q.at (q.index.toNat * 256 + q.sub.toNat) q.payload = q := by
  have hs := q.sub.isLt
  have hd : (q.index.toNat * 256 + q.sub.toNat) / 256 = q.index.toNat := by omega
  have hm : (q.index.toNat * 256 + q.sub.toNat) % 256 = q.sub.toNat := by omega
  simp only [Req.at, hd, hm, BitVec.ofNat_toNat, BitVec.setWidth_eq]

theorem exec_of_writeOf {i : Instr} {q : Req} {k : Nat} {pl : List Byte} (h : writeOf i = some (q, k, pl)) (s : State) :
    exec i s = s.request opWRITE (q.at k pl) := by
  cases i with
  | write q' =>
    cases h
    rw [Req.at_self]
    rfl
  | _ => cases h <;> rfl

/-- Every row writes an entry that an index and a sub-index name. -/
theorem writeOf_key_lt {i : Instr} {q : Req} {k : Nat} {pl : List Byte} (h : writeOf i = some (q, k, pl)) : k < 2 ^ 24 := by
  cases i with
  | write q' => cases h; omega
  | peakSet | testModeWrite | loopWrite | injectBit | injectRxFecCorr | injectRxFecUncorr | injectTxFecCorr | injectTxFecUncorr
  | injectTxSquelch => cases h; simp only [E.PEAK_SET, E.TEST_MODE, E.LOOP, E.INJECT]; omega
  | maxRateWrite | elecClassWrite | portEnableWrite | retrain | planNeighbourWrite | releasePort =>
    cases h; simp only [E.MAX_RATE, E.ELEC_CLASS, E.PORT_ENABLE, E.RETRAIN, E.PLAN_NEIGHBOUR, E.RELEASE]; omega
  | activate | deactivate | packAbort => cases h; simp only [E.PACK_CMD]; omega
  | qpReset | qpRts | dmaStart | dmaReset | consumedWrite =>
    cases h; simp only [E.QP_STATE, E.DMA_START, E.DMA_CMD, E.CONSUMED]; omega
  | sampleConfigWrite => cases h; simp only [E.SAMPLE_SHIFT]; omega
  | _ => cases h <;> decide

/-! ## A request that is heard -/

theorem Dev.request_of_hears {d : Dev} {q : Req} (h : d.hears q) (sh : List ShadowSet) (op : Nat) :
    d.request sh op q false = (d.received q.path).answer sh op q := by
  obtain ⟨hl, hhost, hv⟩ := h
  have h1 : (decide (q.path = .host) && d.domainGated .host) = false := by
    by_cases hp : q.path = .host
    · simp [(hhost hp).1]
    · simp [hp]
  have h2 : (decide (q.path = .host) && (!d.flag E.INBAND_ENABLE || decide (4200 < q.frameLength))) = false := by
    by_cases hp : q.path = .host
    · simp [(hhost hp).2.1, (hhost hp).2.2]
    · simp [hp]
  have h3 : ((q.version != 1 && q.version != 2) || (decide (q.version = 1) && decide (q.path = .host) && !d.flag E.INBAND_V1)) =
      false := by
    obtain hv | ⟨hv, hf⟩ := hv
    · simp [hv]
    · by_cases hp : q.path = .host
      · simp [hv, hf hp]
      · simp [hv, hp]
  simp only [Dev.request, Dev.received, hl, h1, h2, h3, Bool.not_true, Bool.false_eq_true, if_false]

theorem State.request_of_hears {s : State} {q : Req} (h : s.heard.hears q) (op : Nat) :
    s.request op q = .next (s.dev ((s.heard.received q.path).answer s.shadows op q)) := by
  rw [← Dev.request_of_hears h]
  exact State.request_next s op q

/-- Counting the session's use keeps the held responses. -/
@[simp] theorem Dev.useSession_cache (d : Dev) (q : Req) : (d.useSession q).mgmt.cache = d.mgmt.cache := rfl

/-- A frame that acknowledges no NOTIFY is a request of its session (R63). -/
theorem Dev.answer_request (d : Dev) (sh : List ShadowSet) {op : Nat} {q : Req} (h : ¬ (op = opNOTIFYACK ∧ q.version = 2)) :
    d.answer sh op q = (d.useSession q).answerReq sh op q :=
  if_neg (by simpa using h)

/-- What the device is once a request has come to an answer or to a wait (R51, R52, R54). -/
def Dev.conclude (op : Nat) (q : Req) : Served → Dev
  | .reply st pl d => d.settleAlert.respondTo op q st pl
  | .hold d => d.holdReq wkCOMMAND op q true

theorem Dev.answerReq_of_unheld {d : Dev} {op : Nat} {q : Req} (h : d.mgmt.cache.find? (fun c => c.same op q) = none)
    (sh : List ShadowSet) : d.answerReq sh op q = Dev.conclude op q (d.serve sh op q) := by
  simp only [Dev.answerReq, h]
  cases d.serve sh op q <;> rfl

theorem Dev.answerReq_of_held {d : Dev} {op : Nat} {q : Req} {c : Cached}
    (h : d.mgmt.cache.find? (fun c => c.same op q) = some c) (sh : List ShadowSet) :
    d.answerReq sh op q = (d.count E.CACHE_REPLAYS).sendFrame q.path q.addr q.udpPort c.response := by
  simp only [Dev.answerReq, h]

/-- A request that is heard and not held is served, and answered as serving it comes out. -/
theorem State.request_served {s : State} {op : Nat} {q : Req} (hh : s.heard.hears q) (hu : s.heard.unanswered op q)
    (ha : ¬ (op = opNOTIFYACK ∧ q.version = 2)) :
    s.request op q = .next (s.dev
      (Dev.conclude op q (((s.heard.received q.path).useSession q).serve s.shadows op q))) := by
  rw [State.request_of_hears hh, Dev.answer_request _ _ ha, Dev.answerReq_of_unheld ((Dev.useSession_cache _ q).symm ▸ hu)]

theorem opcodeOk_ne_notifyAck {v op : Nat} (h : opcodeOk v op = true) : op ≠ opNOTIFYACK := by
  rintro rfl
  unfold opcodeOk at h
  split at h <;> revert h <;> decide

/-- A request that is asked comes to what serving it comes to. -/
theorem State.request_of_asks {s : State} {op : Nat} {q : Req} {role : Option Scope} {d : Dev} (h : s.asks op q role d) :
    s.request op q = .next (s.dev (Dev.conclude op q (d.serve s.shadows op q))) := by
  obtain ⟨hh, hu, hop, rfl, -, -⟩ := h
  exact State.request_served hh hu (fun h => opcodeOk_ne_notifyAck hop h.1)

/-- A request that is asked passes to its opcode's own checks, unless it commits a segmented write (R51). -/
theorem State.serve_of_asks {s : State} {op : Nat} {q : Req} {role : Option Scope} {d : Dev} (h : s.asks op q role d)
    (hc : op ≠ opWSEGCOMMIT) (sh : List ShadowSet) : d.serve sh op q = d.serveOp sh role op q := by
  obtain ⟨-, -, hop, -, hr, hl⟩ := h
  simp [Dev.serve, Dev.commitHandle, hop, hc, hr, hl.not_gt]

/-- The answer to a request whose opcode's own act replies. -/
theorem State.request_of_reply {s : State} {op : Nat} {q : Req} {role : Option Scope} {d d1 : Dev} {st : Status} {pl : List Byte}
    (h : s.asks op q role d) (hc : op ≠ opWSEGCOMMIT) (hs : d.serveOp s.shadows role op q = .reply st pl d1) :
    s.request op q = .next (s.replied op q st pl d1) := by
  rw [State.request_of_asks h, State.serve_of_asks h hc, hs]
  rfl

/-! ## Writes -/

/-- Serving a WRITE of an entry serves the value to that entry. -/
theorem Dev.serveOp_write (d : Dev) (sh : List ShadowSet) (role : Option Scope) (q : Req) {k : Nat} (pl : List Byte)
    (hk : k < 2 ^ 24) :
    d.serveOp sh role opWRITE (q.at k pl) = d.serveValue sh role (q.at k pl) (k / 256) (k % 256) pl := by
  have h : d.serveOp sh role opWRITE (q.at k pl) =
    d.serveValue sh role (q.at k pl) (q.at k pl).index.toNat (q.at k pl).sub.toNat pl := rfl
  rw [h, q.at_index_toNat pl hk, q.at_sub_toNat]

/-- A value that passes the checks before length is tried, and answered as the trial comes out (R51). -/
theorem Dev.serveValue_of_tried {d d1 : Dev} {sh : List ShadowSet} {role : Option Scope} {q : Req} {i n : Nat} {v : List Byte}
    {st : Option Status} (ha : d.refuseAccess role q.path true i n = none) (hv : vendorIndex i = false)
    (hw : d.waitsFor i n = false) (ht : d.tryWrite sh false q.session i n v = (st, d1)) :
    d.serveValue sh role q i n v = .reply (st.getD .ok) [] (d1.workedFor i n) := by
  simp only [Dev.serveValue, ha, hv, hw, ht, Bool.false_eq_true, if_false]
  cases st <;> rfl

/-- A value for an entry that the role may not write is refused before anything of the entry (R51). -/
theorem Dev.serveValue_of_refused {d : Dev} {role : Option Scope} {q : Req} {i n : Nat} {st : Status}
    (ha : d.refuseAccess role q.path true i n = some st) (sh : List ShadowSet) (v : List Byte) :
    d.serveValue sh role q i n v = .reply st [] d := by
  simp only [Dev.serveValue, ha]
  rfl

/-- A value for an entry whose clock stands waits for it (R52). -/
theorem Dev.serveValue_of_waits {d : Dev} {role : Option Scope} {q : Req} {i n : Nat}
    (ha : d.refuseAccess role q.path true i n = none) (hv : vendorIndex i = false) (hw : d.waitsFor i n = true)
    (sh : List ShadowSet) (v : List Byte) : d.serveValue sh role q i n v = .hold d := by
  simp only [Dev.serveValue, ha, hv, hw, Bool.false_eq_true, if_false, if_true]

/-- A WRITE that passes the checks before length is answered as the trial of its value comes out (R51). -/
theorem exec_write_of_tried {i : Instr} {s : State} {q : Req} {k : Nat} {pl : List Byte} {role : Option Scope} {d d1 : Dev}
    {st : Option Status} (hi : writeOf i = some (q, k, pl)) (hm : s.mayWrite q k pl role d)
    (ht : d.tryWrite s.shadows false q.session (k / 256) (k % 256) pl = (st, d1)) :
    exec i s = .next (s.wrote q k pl (st.getD .ok) d1) := by
  obtain ⟨ha, hv, hr, hw⟩ := hm
  rw [exec_of_writeOf hi, State.request_of_reply ha (by decide)]
  · rfl
  · rw [Dev.serveOp_write _ _ _ _ _ (writeOf_key_lt hi)]
    exact Dev.serveValue_of_tried hr hv hw ht

/-- Settles O8: the trial of its value refuses nothing. -/
theorem acceptedWritesApply : Obligations.AcceptedWritesApply :=
  fun _ _ _ _ _ _ _ _ hi hm ht => exec_write_of_tried (st := none) hi hm ht

/-- Settles O9: by the check that refuses, the access to the entry, its clock, or the trial of its value. -/
theorem refusedWritesAnswerTheirStatus : Obligations.RefusedWritesAnswerTheirStatus := by
  intro i s q k pl role d hi
  have serve := Dev.serveOp_write (k := k) d s.shadows role q pl (writeOf_key_lt hi)
  refine ⟨fun st d1 hm ht => exec_write_of_tried (st := some st) hi hm ht, fun st ha hr => ?_, fun ha hv hr hw => ?_⟩
  · rw [exec_of_writeOf hi]
    exact State.request_of_reply ha (by decide) (serve.trans (Dev.serveValue_of_refused hr _ _))
  · rw [exec_of_writeOf hi, State.request_of_asks ha, State.serve_of_asks ha (by decide), serve,
      Dev.serveValue_of_waits (q := q.at k pl) hr hv hw]
    rfl

/-! ## Reads and repeats -/

/-- Settles O10: by the length of the value. -/
theorem readAnswersTheValue : Obligations.ReadAnswersTheValue := by
  intro s q role d ha hr hw hrr v d1
  have serve : d.serveOp s.shadows role opREAD q = d.serveRead s.shadows role q := rfl
  refine ⟨fun hv => State.request_of_reply ha (by decide) (serve.trans ?_),
    fun hv hh => State.request_of_reply ha (by decide) (serve.trans ?_)⟩
  · simp only [Dev.serveRead, hr, hw, hrr, Bool.false_eq_true, if_false]
    exact if_pos hv
  · simp only [Dev.serveRead, hr, hw, hrr, Bool.false_eq_true, if_false]
    exact (if_neg hv.not_ge).trans (if_neg hh.not_ge)

/-- Settles O11: the look-up in the cache comes before the request is served. -/
theorem repeatedRequestsAreNotExecuted : Obligations.RepeatedRequestsAreNotExecuted := by
  intro i s op q c hi hop hh hc
  rw [exec_of_requestOf hi, State.request_of_hears hh, Dev.answer_request _ _ (fun h => hop h.1), Dev.answerReq_of_held (d := (s.heard.received q.path).useSession q) hc]
  rfl

/-! ## Segmented transfers -/

/-- A WRITE_SEG_COMMIT of a staged value serves the value with the handle freed (R57). -/
theorem State.serve_of_asks_commit {s : State} {q : Req} {role : Option Scope} {d : Dev} {h : Handle} {v : List Byte}
    (ha : s.asks opWSEGCOMMIT q role d) (hl : q.payload.length = 6) (hh : d.handleOf q true = some h)
    (hs : h.staged (beNat (q.payload.drop 2)) = some v) (sh : List ShadowSet) :
    d.serve sh opWSEGCOMMIT q = d.serveCommit sh role q := by
  obtain ⟨-, -, hop, -, hr, hlim⟩ := ha
  have hc : d.commitHandle opWSEGCOMMIT q = some h := by simp [Dev.commitHandle, hl, hh]
  simp only [Dev.serve, hop, hc, hs, hr, hlim.not_gt, Bool.not_true, Bool.false_eq_true, if_false, Option.isNone_some]
  rfl

/-- Settles O12: each opcode's own act, its checks passed. -/
theorem segmentedTransfers : Obligations.SegmentedTransfers := by
  refine ⟨fun s q role d h ha hl hh hn => ?_, fun s q role d ha hl hr hw h0 hmax hf hn => ?_,
    fun s q role d h ha hh hn hl hw => ?_, fun s q role d d1 h v ha hl hh hs hr hv hw hr' hw' ht => ?_⟩
  · refine State.request_of_reply ha (by decide) (?_ : d.serveReadSeg q = _)
    simp [Dev.serveReadSeg, hl, hh, hn.not_gt]
  · refine State.request_of_reply ha (by decide) (?_ : d.serveSegStart role q = _)
    simp [Dev.serveSegStart, hl, hr, hw, h0.ne', hmax.not_gt, hf, hn.not_ge]
  · refine State.request_of_reply ha (by decide) (?_ : d.serveSeg q = _)
    simp [Dev.serveSeg, hl.not_gt, hh, hn.not_ge, hw]
  · have serve : d.serveCommit s.shadows role q = .reply .ok [] (d1.workedFor h.index h.sub) := by
      simp only [Dev.serveCommit, hl, hh, hs, Option.getD_some, Dev.serveValue_of_tried hr' hv hw' ht]
      rfl
    change s.request opWSEGCOMMIT q = _
    rw [State.request_of_asks ha, State.serve_of_asks_commit ha hl hh hs, serve]
    rfl

/-! ## Sessions -/

/-- ALERT_N follows the sources with its level and the pin alone (R542, R649). -/
theorem Dev.driveAlert_frame (d : Dev) (on : Bool) :
    d.driveAlert on = { d with ints := (d.driveAlert on).ints, out := (d.driveAlert on).out } := by
  unfold Dev.driveAlert
  split <;> rfl

theorem Dev.settleAlert_frame (d : Dev) :
    d.settleAlert = { d with ints := d.settleAlert.ints, out := d.settleAlert.out } := by
  unfold Dev.settleAlert
  split
  · exact d.driveAlert_frame false
  · rfl

@[simp] theorem Dev.settleAlert_mgmt (d : Dev) : d.settleAlert.mgmt = d.mgmt := by rw [Dev.settleAlert_frame]
@[simp] theorem Dev.settleAlert_tick (d : Dev) : d.settleAlert.tick = d.tick := by rw [Dev.settleAlert_frame]

/-- A response leaves sessions and nonces as the request left them. -/
@[simp] theorem State.replied_sessions (s : State) (op : Nat) (q : Req) (st : Status) (pl : List Byte) (d : Dev) :
    (s.replied op q st pl d).mgmt.sessions = d.mgmt.sessions :=
  show d.settleAlert.mgmt.sessions = _ from congrArg Mgmt.sessions d.settleAlert_mgmt

@[simp] theorem State.replied_nonces (s : State) (op : Nat) (q : Req) (st : Status) (pl : List Byte) (d : Dev) :
    (s.replied op q st pl d).mgmt.nonces = d.mgmt.nonces :=
  show d.settleAlert.mgmt.nonces = _ from congrArg Mgmt.nonces d.settleAlert_mgmt

/-- The response is the last thing sent. -/
theorem State.replied_out (s : State) (op : Nat) (q : Req) (st : Status) (pl : List Byte) (d : Dev) :
    (s.replied op q st pl d).out =
      d.settleAlert.out ++ [.frame d.tick q.path q.addr q.udpPort (responseBytes op q st pl)] := by
  rw [← d.settleAlert_tick]
  rfl

/-- A nonce asked for in turn takes the place of the requester's previous one (R62). -/
theorem Dev.serveChallenge_eq (d : Dev) (q : Req) {b : Byte} {sc : Scope} (hp : q.payload = [b])
    (hs : scopeOf b.toNat = some sc) :
    d.serveChallenge q = .reply .ok (beBytes 32 (Config.freeNonce d.draws).toNat) ({ d.spendNonce q with
      mgmt := { (d.spendNonce q).mgmt with nonces := (d.spendNonce q).mgmt.nonces ++
        [Nonce.mk q.path q.addr sc (Config.freeNonce d.draws) d.tick] } } : Dev).drew := by
  simp only [Dev.serveChallenge, hp, hs]

section
variable {d : Dev} {q : Req} {n : Nonce} {sc : Scope} (hl : q.payload.length = 385)
  (hs : scopeOf (beNat (q.payload.take 1)) = some sc)
  (hn : d.mgmt.nonces.find? (fun n => n.path = q.path && n.addr = q.addr) = some n)
include hl hs hn

/-- An answer over the requester's nonce opens a session of its scope while one is free (R62, R63). -/
theorem Dev.serveAnswer_of_verified (hv : n.scope = sc ∧ d.answerVerifies sc n.value (q.payload.drop 1) = true)
    (h4 : d.mgmt.sessions.length < 4) :
    d.serveAnswer q = .reply .ok (beBytes 8 d.newToken.toNat) ({ d.spendNonce q with
      mgmt := { (d.spendNonce q).mgmt with sessions := (d.spendNonce q).mgmt.sessions ++
        [Session.mk d.newToken q.path q.addr sc d.tick] } } : Dev).drew := by
  obtain ⟨hsc, hv⟩ := hv
  simp only [Dev.serveAnswer, hl, hs, hn, hsc, hv, h4.not_ge, bne_self_eq_false, decide_true, Bool.and_self, Bool.not_true,
    Bool.false_eq_true, if_false]

theorem Dev.serveAnswer_of_busy (hv : n.scope = sc ∧ d.answerVerifies sc n.value (q.payload.drop 1) = true)
    (h4 : 4 ≤ d.mgmt.sessions.length) : d.serveAnswer q = .reply .busy [] d := by
  obtain ⟨hsc, hv⟩ := hv
  simp only [Dev.serveAnswer, hl, hs, hn, hsc, hv, h4, bne_self_eq_false, decide_true, Bool.and_self, Bool.not_true,
    Bool.false_eq_true, if_false, if_true, Served.fail]

theorem Dev.serveAnswer_of_unverified (hv : ¬ (n.scope = sc ∧ d.answerVerifies sc n.value (q.payload.drop 1) = true)) :
    d.serveAnswer q = .reply .challengeFailed [] ((d.spendNonce q).countErr E.CHALLENGE_FAILS) := by
  have hv' : (decide (n.scope = sc) && d.answerVerifies sc n.value (q.payload.drop 1)) = false := by simpa using hv
  simp only [Dev.serveAnswer, hl, hs, hn, hv', bne_self_eq_false, Bool.not_false, Bool.false_eq_true, if_false, if_true,
    Served.fail]

end

/-- Settles O13: each opcode's own act, its checks passed, and what the response leaves. -/
theorem sessionsOpenAndClose : Obligations.SessionsOpenAndClose := by
  refine ⟨fun s q role d b sc ha hp hsc => ?_, fun s q role d n sc ha hl hsc hn => ?_, fun s q role d ha => ?_⟩
  · exact ⟨_, State.request_of_reply ha (by decide) (d.serveChallenge_eq q hp hsc), s.replied_sessions .., s.replied_nonces ..,
      _, s.replied_out ..⟩
  · have answered {st pl d1} (h : d.serveAnswer q = .reply st pl d1) : exec (.answer q) s = .next (s.replied opANSWER q st pl d1) :=
      State.request_of_reply ha (by decide) h
    refine ⟨fun h1 h2 h3 => ?_, fun h1 h2 h3 => ?_, fun h => ?_⟩
    · exact ⟨_, answered (Dev.serveAnswer_of_verified hl hsc hn ⟨h1, h2⟩ h3), s.replied_sessions .., s.replied_nonces ..⟩
    · exact answered (Dev.serveAnswer_of_busy hl hsc hn ⟨h1, h2⟩ h3)
    · exact answered (Dev.serveAnswer_of_unverified hl hsc hn h)
  · exact ⟨_, State.request_of_reply (op := opCLOSE) ha (by decide) rfl, s.replied_sessions .., s.replied_nonces ..⟩

/-! ## Frames that are no request of their own -/

/-- Settles O14: by the order in which a frame's path, version and opcode are looked at. -/
theorem framesWithoutARequest : Obligations.FramesWithoutARequest := by
  refine ⟨fun s q hh hv => ?_, fun s q op hh hop hn hu => ?_, fun i s op q hi hp hl hg hd => ?_, fun s bytes hl hb => ?_,
    fun s bytes hl hf hg hb => ?_, fun s p hg => ?_⟩
  · have h : (s.heard.received q.path).answer s.shadows opNOTIFYACK q = (s.heard.received q.path).takeAck60 q :=
      if_pos (by simp [hv])
    exact h ▸ State.request_of_hears hh opNOTIFYACK
  · refine (State.request_served hh hu hn).trans ?_
    simp only [Dev.serve, hop, Bool.not_false, if_true]
    rfl
  · rw [exec_of_requestOf hi]
    have hd' : (!s.heard.flag E.INBAND_ENABLE || decide (4200 < q.frameLength)) = true := by simpa using hd
    refine run_dev (?_ : s.heard.request s.shadows op q false = _)
    simp only [Dev.request, hp, hl, hg, hd', Bool.not_true, Bool.and_false, Bool.and_true, Bool.false_eq_true, if_false,
      decide_true, if_true]
  · exact run_dev (by simp [hl, hb])
  · exact run_dev (by simp [hl, hb, hf, hg])
  · refine run_dev (if_neg ?_)
    cases p with
    | t1s => simp
    | host => simp [hg rfl]

/-! ## What expires -/

/-- A list without those that bear a name and have reached their age. -/
theorem mem_filter_expired {α : Type} (l : List α) (x : α) (named : α → Prop) [DecidablePred named] (age : α → Nat) (now : Nat) :
    x ∈ l.filter (fun y => !(decide (named y) && decide (age y ≤ now))) ↔ x ∈ l ∧ (named x → now < age x) := by
  simp only [List.mem_filter, Bool.not_eq_true', Bool.and_eq_false_imp, decide_eq_true_eq, decide_eq_false_iff_not, not_le]

/-- Settles O15: each expiry row filters one list by name and age. -/
theorem expiriesRemoveWhatIsOld : Obligations.ExpiriesRemoveWhatIsOld := by
  refine ⟨fun h s => ⟨_, rfl, rfl, fun x => mem_filter_expired _ x (·.id = h) (·.lastUse + handleLife) _⟩,
    fun p a s => ⟨_, rfl, rfl, fun x => ?_⟩,
    fun k s => ⟨_, rfl, rfl, fun x => mem_filter_expired _ x (·.token = k) (·.lastUse + s.reg E.SESSION_IDLE_TICKS) _⟩,
    fun k s => ⟨_, rfl, rfl, fun x => mem_filter_expired _ x (·.key = k) (·.tick + cacheLife) _⟩⟩
  have h := mem_filter_expired s.mgmt.nonces x (fun n => n.path = p ∧ n.addr = a) (·.tick + nonceLife) s.tick
  simp only [Bool.decide_and, and_imp] at h
  exact h

/-! ## NOTIFY -/

/-- What becomes of a NOTIFY whose repeat is due (R60). -/
def Dev.repeatNotify (d : Dev) (n : Notify) : Dev :=
  if 3 ≤ n.repeats ∨ d.notifyBlocked (destPath (beBytes 16 n.addr.toNat)) = true then
    ({ d with mgmt := { d.mgmt with notifies := d.mgmt.notifies.erase n } } : Dev).countErr E.NOTIFY_LOST
  else
    ({ d with mgmt := { d.mgmt with
      notifies := d.mgmt.notifies.erase n ++ [{ n with sentAt := d.tick, repeats := n.repeats + 1 }] } } : Dev).sendFrame
        (destPath (beBytes 16 n.addr.toNat)) n.addr n.udpPort n.frame

theorem exec_notifyRepeat_of_due {s : State} {txn : BitVec 16} {dest : Fin 4} {n : Notify}
    (hf : s.mgmt.notifies.find? (fun n => n.txn = txn && n.dest = dest) = some n) (hdue : n.sentAt + notifyEvery ≤ s.tick)
    (hl : s.toDev.listens .t1s = true) :
    exec (.notifyRepeat txn dest) s = .next (s.dev (s.toDev.repeatNotify n)) := by
  refine run_dev ?_
  simp only [hf, hl, hdue.not_gt, Bool.not_true, decide_false, Bool.or_false, Bool.false_eq_true, if_false, Bool.or_eq_true,
    decide_eq_true_eq]
  rfl

/-- Settles O16: a repeat is sent while the path can carry it and three have not gone out. -/
theorem notifyRepeats : Obligations.NotifyRepeats := by
  intro s txn dest n hf hdue hl
  have row := exec_notifyRepeat_of_due hf hdue hl
  refine ⟨fun h3 hb => ?_, fun h => ?_⟩
  · rw [Dev.repeatNotify, if_neg (by simp [h3, hb])] at row
    exact ⟨_, row, rfl, rfl, rfl⟩
  · rw [Dev.repeatNotify, if_pos h] at row
    exact row

end Sys2Proof.Machine
end

section
/-! The step at the front of the queue, the state after reset, and what memory holds (R386, R503, R504, R523). -/

namespace Sys2Proof.Machine

/-- Settles O1. -/
theorem stepRunsTheFrontCommand : Obligations.StepRunsTheFrontCommand := fun _ _ _ => rfl

/-- Settles O7: no table holds a key yet, so every entry reads as its default. -/
theorem resetState : Obligations.ResetState :=
  ⟨⟨rfl, Nat.zero_le 2⟩, rfl, rfl, rfl, rfl, rfl, rfl, rfl, rfl, rfl, rfl, rfl, rfl, rfl, fun _ => rfl, fun _ => ⟨rfl, rfl⟩⟩

/-! ## Memory -/

/-- A store that the fence does not stop (R503, R504, R523). -/
theorem Dev.writeMem_of_open {d : Dev} {a : Nat} (h : d.fenced = false ∨ tierSpace a ≠ 0) (bs : List Byte) :
    d.writeMem a bs = { d with
      mem := memPut d.mem a bs
      pageChecks := d.pageChecks.map (fun e =>
        if e.1 < a + bs.length && a < e.1 + 4096 then (e.1, pageResidue (memPut d.mem a bs) e.1) else e)
      ueWords := d.ueWords.filter (fun w => !(a ≤ w && w + 4 ≤ a + bs.length)) } := by
  have hc : (d.fenced && decide (tierSpace a = 0)) = false := by
    obtain h | h := h <;> simp [h]
  simp only [Dev.writeMem, hc, Bool.false_eq_true, if_false]

/-- What is stored is read back. -/
theorem memRead_memPut {m : List Host.Cell} (a : Nat) (bs : List Byte) (w : Memory.wf m = true) :
    memRead (memPut m a bs) a bs.length = bs := by
  rw [memRead_eq a bs.length (Memory.wf_memPut a bs w)]
  apply List.ext_getElem
  · simp
  · intro i hi _
    have hlt : i < bs.length := by simpa using hi
    simp [memGet_memPut a _ bs w, hlt]

/-- With no error armed a read is the bytes of the range, or none where a word of it is marked (R387, R504). -/
theorem Dev.readMem_of_unarmed {d : Dev} (h : d.sentry.inject = none) (a n ini : Nat) :
    d.readMem a n ini = (if d.ueIn a n then none else some (memRead d.mem a n), d) := by
  simp only [Dev.readMem, Dev.travel_unarmed h, Dev.reaches_unarmed h, Dev.takeInject_unarmed h, Bool.not_true,
    Bool.false_eq_true, if_false]
  split <;> rfl

/-- Settles O59: a store is the canonical store of its bytes, with the checks and marks of the words it covers renewed. -/
theorem memoryHoldsWhatIsStored : Obligations.MemoryHoldsWhatIsStored := by
  refine ⟨fun d a bs w ho => ?_, fun d a bs hf ht => ?_, fun d a n ini hi hu => ?_, fun d a n ini x hi hx h1 h2 => ?_⟩
  · intro r
    have hr : r = _ := Dev.writeMem_of_open ho bs
    have hmem : r.mem = memPut d.mem a bs := congrArg Dev.mem hr
    have hpc := congrArg Dev.pageChecks hr
    have hue := congrArg Dev.ueWords hr
    simp only at hpc hue
    refine ⟨d.writeMem_wf a bs w, hmem ▸ memRead_memPut a bs w, fun i hi => ?_, ?_, ?_, fun x hx => ?_, ?_⟩
    · rw [hmem, memGet_memPut a i bs w, if_neg (by omega)]
    · rw [hmem, hpc]
      rintro e he h1 h2
      obtain ⟨e, -, rfl⟩ := List.mem_map.mp he
      by_cases hc : (decide (e.1 < a + bs.length) && decide (a < e.1 + 4096)) = true
      · rw [if_pos hc]
      · rw [if_neg hc] at h1 h2
        simp [h1, h2] at hc
    · rw [hpc]
      rintro e he h1
      obtain ⟨e, hmem', rfl⟩ := List.mem_map.mp he
      by_cases hc : (decide (e.1 < a + bs.length) && decide (a < e.1 + 4096)) = true
      · rw [if_pos hc] at h1
        simp only [Bool.and_eq_true, decide_eq_true_eq] at hc h1
        omega
      · rwa [if_neg hc]
    · rw [hue] at hx
      obtain ⟨hd, hc⟩ := List.mem_filter.mp hx
      exact ⟨hd, fun ⟨h1, h2⟩ => by simp [h1, h2] at hc⟩
    · rw [hr]
  · simp [Dev.writeMem, hf, ht]
  · have hue : d.ueIn a n = false := by
      simp only [Dev.ueIn, List.any_eq_false, Bool.and_eq_true, decide_eq_true_eq]
      intro w hw
      have := hu w hw
      omega
    rw [Dev.readMem_of_unarmed hi, hue]
    rfl
  · have hue : d.ueIn a n = true := List.any_eq_true.mpr ⟨x, hx, by simp [h1, h2]⟩
    rw [Dev.readMem_of_unarmed hi, hue]
    rfl

end Sys2Proof.Machine
end

section
/-! Ports: which fields of the device the shared operations of ports and lanes can change, and what they leave of the port
itself (R72, R87, R103 to R105, R117, R126, R134, R154). -/

namespace Sys2Proof.Machine

/-- A part of the device that every step of a loop keeps is kept by the loop. -/
theorem foldl_keeps {α β γ : Type} (part : β → γ) {f : β → α → β} (h : ∀ b a, part (f b a) = part b) (l : List α) (b : β) :
    part (l.foldl f b) = part b := by
  induction l generalizing b with
  | nil => rfl
  | cons a l ih => rw [List.foldl_cons, ih, h]

/-! ## Ports and lanes read after a write -/

@[simp] theorem State.toDev_dev (s : State) (d : Dev) : (s.dev d).toDev = d := rfl

@[simp] theorem Dev.port_drew (d : Dev) (p : Nat) : d.drew.port p = d.port p := rfl

@[simp] theorem Dev.lane_drew (d : Dev) (p : Nat) (l : Lane) : d.drew.lane p l = d.lane p l := rfl

@[simp] theorem Dev.lane_setReg (d : Dev) (k v p : Nat) (l : Lane) : (d.setReg k v).lane p l = d.lane p l := rfl

theorem Dev.port_setPort (d : Dev) (p q : Nat) (x : PortSt) : (d.setPort p x).port q = if q = p then x else d.port q := by
  by_cases h : q = p
  · rw [if_pos h, h, Dev.port_setPort_same]
  · rw [if_neg h, Dev.port_setPort_other _ _ h]

theorem Dev.updLane_eq (d : Dev) (p : Nat) (l : Lane) (f : LaneSt → LaneSt) :
    d.updLane p l f = d.setPort p ((d.port p).setLane l (f (d.lane p l))) := rfl

theorem Dev.port_updLane_other (d : Dev) {p q : Nat} (l : Lane) (f : LaneSt → LaneSt) (h : q ≠ p) :
    (d.updLane p l f).port q = d.port q := Dev.port_updPort_other d _ h

@[simp] theorem Dev.port_updLane_same (d : Dev) (p : Nat) (l : Lane) (f : LaneSt → LaneSt) :
    (d.updLane p l f).port p = (d.port p).setLane l (f (d.lane p l)) := Dev.port_updPort_same d p _

theorem Dev.lane_updLane_other (d : Dev) (p : Nat) {l m : Lane} (f : LaneSt → LaneSt) (h : m ≠ l) :
    (d.updLane p l f).lane p m = d.lane p m := by
  rw [Dev.lane, Dev.port_updLane_same, PortSt.lane_setLane_other _ _ h, Dev.lane]

/-- A lane put back as it is leaves the port. -/
@[simp] theorem PortSt.setLane_lane (x : PortSt) (l : Lane) : x.setLane l (x.lane l) = x := by
  match l with
  | 0 | 1 | 2 | 3 => rfl

/-- A port with a lane replaced keeps everything but its lanes. -/
theorem PortSt.setLane_frame (x : PortSt) (l : Lane) (v : LaneSt) :
    x.setLane l v = { x with lane0 := (x.setLane l v).lane0, lane1 := (x.setLane l v).lane1, lane2 := (x.setLane l v).lane2,
                             lane3 := (x.setLane l v).lane3 } := by
  match l with
  | 0 | 1 | 2 | 3 => rfl

@[simp] theorem PortSt.setLane_state (x : PortSt) (l : Lane) (v : LaneSt) : (x.setLane l v).state = x.state := by
  rw [PortSt.setLane_frame]

@[simp] theorem PortSt.setLane_handover (x : PortSt) (l : Lane) (v : LaneSt) : (x.setLane l v).handover = x.handover := by
  rw [PortSt.setLane_frame]

/-- The lanes of a port whose every lane is changed. -/
@[simp] theorem PortSt.lane_mapLanes (x : PortSt) (f : Lane → LaneSt → LaneSt) (l : Lane) :
    (x.mapLanes f).lane l = f l (x.lane l) := by
  match l with
  | 0 | 1 | 2 | 3 => rfl

/-! ## Outputs -/

theorem Dev.emitLive_frame (d : Dev) (o : Out) : d.emitLive o = { d with out := (d.emitLive o).out } := by
  unfold Dev.emitLive
  split <;> rfl

theorem Dev.sendCell_frame (d : Dev) (p : Nat) (l : Lane) (c : Cell) :
    d.sendCell p l c = { d with out := (d.sendCell p l c).out } := by
  unfold Dev.sendCell
  split
  · rfl
  · exact d.emitLive_frame _

@[simp] theorem Dev.port_sendCell (d : Dev) (p : Nat) (l : Lane) (c : Cell) (q : Nat) : (d.sendCell p l c).port q = d.port q := by
  rw [Dev.sendCell_frame]; rfl

@[simp] theorem Dev.reg_sendCell (d : Dev) (p : Nat) (l : Lane) (c : Cell) (k : Nat) : (d.sendCell p l c).reg k = d.reg k := by
  rw [Dev.sendCell_frame]; rfl

theorem Dev.notePins_frame (d was : Dev) (p : Nat) (l : Lane) :
    d.notePins was p l = { d with out := (d.notePins was p l).out } := by
  unfold Dev.notePins
  split <;> rfl

theorem Dev.notePort_frame (d was : Dev) (p : Nat) : d.notePort was p = { d with out := (d.notePort was p).out } :=
  congrArg (fun e : Dev => { e with out := (d.notePort was p).out })
    (foldl_keeps (f := fun e l => e.notePins was p l) (fun e : Dev => { e with out := [] })
      (fun e l => by rw [Dev.notePins_frame]) lanes4 d)

@[simp] theorem Dev.port_notePort (d was : Dev) (p q : Nat) : (d.notePort was p).port q = d.port q := by
  rw [Dev.notePort_frame]; rfl

@[simp] theorem Dev.reg_notePort (d was : Dev) (p k : Nat) : (d.notePort was p).reg k = d.reg k := by
  rw [Dev.notePort_frame]; rfl

@[simp] theorem Dev.port_notePins (d was : Dev) (p : Nat) (l : Lane) (q : Nat) : (d.notePins was p l).port q = d.port q := by
  rw [Dev.notePins_frame]; rfl

@[simp] theorem Dev.reg_notePins (d was : Dev) (p : Nat) (l : Lane) (k : Nat) : (d.notePins was p l).reg k = d.reg k := by
  rw [Dev.notePins_frame]; rfl

/-! ## Events and counts -/

theorem Dev.linkEvent_frame (d : Dev) (p : Nat) :
    d.linkEvent p = { d with arrivals := d.arrivals ++ [Arrival.mk d.sampledAt (.link p)], draws := d.draws + 1 } := rfl

@[simp] theorem Dev.port_linkEvent (d : Dev) (p q : Nat) : (d.linkEvent p).port q = d.port q := rfl

@[simp] theorem Dev.reg_linkEvent (d : Dev) (p k : Nat) : (d.linkEvent p).reg k = d.reg k := rfl

@[simp] theorem Dev.port_count (d : Dev) (k q : Nat) : (d.count k).port q = d.port q := rfl

@[simp] theorem Dev.port_countN (d : Dev) (k n q : Nat) : (d.countN k n).port q = d.port q := rfl

@[simp] theorem Dev.port_countErr (d : Dev) (k q : Nat) : (d.countErr k).port q = d.port q := by
  rw [Dev.countErr_frame]; rfl

@[simp] theorem Dev.port_countErrN (d : Dev) (k n q : Nat) : (d.countErrN k n).port q = d.port q := by
  rw [Dev.countErrN_frame]; rfl

theorem Dev.reg_countN (d : Dev) (k n i : Nat) : (d.countN k n).reg i = if i = k then (d.reg k + n) % 2 ^ 64 else d.reg i :=
  Dev.reg_setReg d k i _

/-- Below its largest value but one an error counter is stored one higher, and nothing else happens (R549). -/
theorem Dev.countErr_of_lt {d : Dev} {k : Nat} (h : d.reg k < 0xFFFFFFFE) : d.countErr k = d.setReg k (d.reg k + 1) := by
  have h1 : ¬ d.reg k = 0xFFFFFFFF := by omega
  have h2 : ¬ d.reg k + 1 = 0xFFFFFFFF := by omega
  simp [Dev.countErr, h1, h2]

/-! ## LINK cells and gaps (R126, R134, R135) -/

theorem Dev.sendLink_frame (d : Dev) (p : Nat) :
    d.sendLink p = { d with ports := (d.sendLink p).ports, out := (d.sendLink p).out } := by
  unfold Dev.sendLink
  rw [Dev.sendCell_frame]
  rfl

theorem Dev.port_sendLink (d : Dev) (p q : Nat) : (d.sendLink p).port q =
    if q = p then { d.port p with sinceLink := 0, firstUnacked := none, lastLink := d.tick } else d.port q := by
  rw [Dev.sendLink, Dev.port_sendCell]
  exact d.port_setPort p q _

theorem Dev.gapCheck_frame (d : Dev) (p : Nat) : d.gapCheck p =
    { d with ports := (d.gapCheck p).ports, regs := (d.gapCheck p).regs, out := (d.gapCheck p).out } := by
  unfold Dev.gapCheck
  simp only []
  split
  · rw [Dev.sendLink_frame]; rfl
  · rfl

/-- A gap that is declared already is not declared again. -/
theorem Dev.gapCheck_of_open {d : Dev} {p : Nat} (h : (d.port p).gapOpen = true) : d.gapCheck p = d := by
  simp [Dev.gapCheck, h]

theorem Dev.port_gapCheck_other (d : Dev) {p q : Nat} (h : q ≠ p) : (d.gapCheck p).port q = d.port q := by
  unfold Dev.gapCheck
  simp only []
  split
  · rw [Dev.port_sendLink, if_neg h, Dev.port_count, Dev.port_setPort_other _ _ h]
  · rfl

/-- A gap check changes only what the port holds about gaps and LINK cells. -/
theorem Dev.port_gapCheck_same (d : Dev) (p : Nat) : ∃ g n k f a, (d.gapCheck p).port p =
    { d.port p with gapOpen := g, nakCount := n, sinceLink := k, firstUnacked := f, lastLink := a } := by
  unfold Dev.gapCheck
  simp only []
  split
  · rw [Dev.port_sendLink, if_pos rfl, Dev.port_count, Dev.port_setPort_same]
    exact ⟨_, _, _, _, _, rfl⟩
  · exact ⟨_, _, _, _, _, rfl⟩

theorem Dev.reg_gapCheck_other (d : Dev) {p k : Nat} (h : k ≠ E.GAPS p) : (d.gapCheck p).reg k = d.reg k := by
  unfold Dev.gapCheck
  simp only []
  split
  · rw [Dev.sendLink_frame]
    exact (Dev.reg_count _ _ _).trans (if_neg h)
  · rfl

@[simp] theorem Dev.lane_gapCheck (d : Dev) (p : Nat) (l : Lane) : ((d.gapCheck p).port p).lane l = (d.port p).lane l := by
  obtain ⟨g, n, k, f, a, h⟩ := d.port_gapCheck_same p
  rw [h]
  match l with
  | 0 | 1 | 2 | 3 => rfl

@[simp] theorem Dev.state_gapCheck (d : Dev) (p : Nat) : ((d.gapCheck p).port p).state = (d.port p).state := by
  obtain ⟨g, n, k, f, a, h⟩ := d.port_gapCheck_same p
  rw [h]

@[simp] theorem Dev.handover_gapCheck (d : Dev) (p : Nat) : ((d.gapCheck p).port p).handover = (d.port p).handover := by
  obtain ⟨g, n, k, f, a, h⟩ := d.port_gapCheck_same p
  rw [h]

end Sys2Proof.Machine
end

section
/-! Lanes that fail and ports that change their state: what a failed lane, a module operation and the entries of R154 leave
(R85, R103 to R105, R154, R304, R368). -/

namespace Sys2Proof.Machine

/-! ## Losses of ports (R304, R368) -/

/-- A port that stays in its state is not lost. -/
theorem portLost_self (a : PortState) : portLost a a = false := by
  cases a <;> rfl

/-- No context learns of a loss where every port stays in its state and the peers and the routes are as they were. -/
theorem Dev.settle_of_states {d was : Dev} (hs : ∀ p, (d.port p).state = (was.port p).state) (hb : d.blobs = was.blobs)
    (hr : d.routing = was.routing) : d.settle was = d := by
  have hring : ∀ g, d.ringPorts g none = was.ringPorts g none := by
    intro g
    have hpeer : ∀ p, d.peerKind p = was.peerKind p := fun p => by unfold Dev.peerKind Dev.peer Dev.blob; rw [hb]
    have hports : d.groupPorts d.ingressEpoch g = was.groupPorts was.ingressEpoch g := by
      unfold Dev.groupPorts Dev.ringGroup Dev.ingressEpoch Dev.blob
      rw [hb, hr]
    unfold Dev.ringPorts
    rw [hports]
    simp only [hs, hpeer, Option.all_none]
  refine Dev.settle_of_no_loss (fun p _ => by rw [hs, portLost_self]) ?_
  simp [Dev.groupCut, hring]

/-! ## Modules (R104, R105) -/

theorem Dev.emit_frame (d : Dev) (o : Out) : d.emit o = { d with out := (d.emit o).out } := rfl

theorem Dev.cmis_frame (d : Dev) (p : Nat) (ops : List CmisOp) : d.cmis p ops = { d with out := (d.cmis p ops).out } := by
  have hops : ∀ (m : Nat) (l : List CmisOp) (a : Dev),
      l.foldl (fun (a : Dev) o => a.emit (.cmis a.tick (m / 8) m o)) a =
        { a with out := (l.foldl (fun (a : Dev) o => a.emit (.cmis a.tick (m / 8) m o)) a).out } := by
    intro m l a
    exact congrArg (fun e : Dev => { e with out := (l.foldl (fun (a : Dev) o => a.emit (.cmis a.tick (m / 8) m o)) a).out })
      (foldl_keeps (f := fun (a : Dev) o => a.emit (.cmis a.tick (m / 8) m o)) (fun e : Dev => { e with out := [] })
        (fun _ _ => rfl) l a)
  unfold Dev.cmis
  split
  · rfl
  · split
    · rw [hops]; rfl
    · rfl

theorem Dev.cmis_of_cable {d : Dev} {p : Nat} (h : d.isModule p = false) (ops : List CmisOp) : d.cmis p ops = d := by
  unfold Dev.cmis
  split
  · rfl
  · simp [h]

theorem Dev.setModule_frame (d : Dev) (p : Nat) (f : ModuleSt → ModuleSt) :
    d.setModule p f = { d with modules := (d.setModule p f).modules } := by
  unfold Dev.setModule
  split
  · rfl
  · split <;> rfl

theorem Dev.setModule_of_cable {d : Dev} {p : Nat} (h : d.isModule p = false) (f : ModuleSt → ModuleSt) :
    d.setModule p f = d := by
  unfold Dev.setModule
  split
  · rfl
  · simp [h]

theorem Dev.freeSite_frame (d : Dev) (m : Option Nat) : d.freeSite m = { d with modules := (d.freeSite m).modules } := by
  unfold Dev.freeSite
  split
  · rfl
  · split <;> rfl

theorem Dev.moduleLow_frame (d : Dev) (p : Nat) :
    d.moduleLow p = { d with out := (d.moduleLow p).out, modules := (d.moduleLow p).modules } := by
  unfold Dev.moduleLow
  split <;> rw [Dev.setModule_frame, Dev.cmis_frame]

theorem Dev.moduleLow_of_cable {d : Dev} {p : Nat} (h : d.isModule p = false) : d.moduleLow p = d := by
  unfold Dev.moduleLow
  rw [Dev.cmis_of_cable h, Dev.cmis_of_cable h, Dev.setModule_of_cable h, Dev.setModule_of_cable h, ite_self]

theorem Dev.moduleLanes_frame (d : Dev) (p rate : Nat) :
    d.moduleLanes p rate = { d with out := (d.moduleLanes p rate).out, modules := (d.moduleLanes p rate).modules } := by
  unfold Dev.moduleLanes
  rw [Dev.setModule_frame, Dev.cmis_frame]

theorem Dev.moduleRate_frame (d : Dev) (p : Nat) (l : Lane) (rate : Nat) :
    d.moduleRate p l rate = { d with out := (d.moduleRate p l rate).out } := Dev.cmis_frame d p _

theorem Dev.moduleRate_of_cable {d : Dev} {p : Nat} (h : d.isModule p = false) (l : Lane) (rate : Nat) :
    d.moduleRate p l rate = d := Dev.cmis_of_cable h _

@[simp] theorem Dev.port_moduleRate (d : Dev) (p : Nat) (l : Lane) (rate q : Nat) :
    (d.moduleRate p l rate).port q = d.port q := by
  rw [Dev.moduleRate_frame]; rfl

@[simp] theorem Dev.port_moduleLow (d : Dev) (p q : Nat) : (d.moduleLow p).port q = d.port q := by
  rw [Dev.moduleLow_frame]; rfl

@[simp] theorem Dev.port_moduleLanes (d : Dev) (p rate q : Nat) : (d.moduleLanes p rate).port q = d.port q := by
  rw [Dev.moduleLanes_frame]; rfl

@[simp] theorem Dev.port_cmis (d : Dev) (p : Nat) (ops : List CmisOp) (q : Nat) : (d.cmis p ops).port q = d.port q := by
  rw [Dev.cmis_frame]; rfl

@[simp] theorem Dev.port_freeSite (d : Dev) (m : Option Nat) (q : Nat) : (d.freeSite m).port q = d.port q := by
  rw [Dev.freeSite_frame]; rfl

/-! ## A site without a module presents LOS (R105, R650) -/

/-- One lane of a site without a module shows LOS. -/
theorem Dev.siteLos_step (a : Dev) (p : Nat) (l : Lane) :
    (if (a.lane p l).los then a else (a.updLane p l (fun y => { y with los := true })).countErr (E.LOS_EVENTS p l.val)) =
      { a with
        ports := (if (a.lane p l).los then a else
          (a.updLane p l (fun y => { y with los := true })).countErr (E.LOS_EVENTS p l.val)).ports,
        regs := (if (a.lane p l).los then a else
          (a.updLane p l (fun y => { y with los := true })).countErr (E.LOS_EVENTS p l.val)).regs,
        tele := (if (a.lane p l).los then a else
          (a.updLane p l (fun y => { y with los := true })).countErr (E.LOS_EVENTS p l.val)).tele } := by
  split
  · rfl
  · rw [Dev.countErr_frame]; rfl

theorem Dev.siteLos_frame (d : Dev) (p : Nat) : d.siteLos p =
    { d with ports := (d.siteLos p).ports, regs := (d.siteLos p).regs, tele := (d.siteLos p).tele } := by
  unfold Dev.siteLos
  split
  · generalize hx : lanes4.foldl _ d = x
    have h := foldl_keeps (f := fun (a : Dev) l => if (a.lane p l).los then a else
      (a.updLane p l (fun y => { y with los := true })).countErr (E.LOS_EVENTS p l.val))
      (fun e : Dev => { e with ports := [], regs := [], tele := {} }) (fun a l => by rw [Dev.siteLos_step]) lanes4 d
    rw [hx] at h
    exact congrArg (fun e : Dev => { e with ports := x.ports, regs := x.regs, tele := x.tele }) h
  · rfl

theorem Dev.port_siteLos_other (d : Dev) {p q : Nat} (h : q ≠ p) : (d.siteLos p).port q = d.port q := by
  unfold Dev.siteLos
  split
  · refine foldl_keeps (fun e : Dev => e.port q) (fun a l => ?_) lanes4 d
    split
    · rfl
    · rw [Dev.port_countErr, Dev.port_updLane_other _ _ _ h]
  · rfl

@[simp] theorem Dev.state_siteLos (d : Dev) (p : Nat) : ((d.siteLos p).port p).state = (d.port p).state := by
  unfold Dev.siteLos
  split
  · refine foldl_keeps (fun e : Dev => (e.port p).state) (fun a l => ?_) lanes4 d
    split
    · rfl
    · rw [Dev.port_countErr, Dev.port_updLane_same, PortSt.setLane_state]
  · rfl

/-- A port that has no module class, or whose site has its module, presents no LOS of a site. -/
theorem Dev.siteLos_of_present {d : Dev} {p : Nat} (h : d.isModule p = false ∨ d.modulePresent p = true) : d.siteLos p = d := by
  unfold Dev.siteLos
  rcases h with h | h <;> simp [h]

/-! ## A lane fails (R85) -/

/-- The port once its lane `l` has failed at the tick `now`. -/
def PortSt.failed (x : PortSt) (l : Lane) (now : Nat) : PortSt :=
  ({ x.setLane l (x.lane l).undoPeak.fail with handover := (match x.handover with
      | some h => if h.lane = l then none else some h
      | none => none) } : PortSt).recheck x now

theorem Dev.failLane_eq (d : Dev) (p : Nat) (l : Lane) :
    d.failLane p l = ((d.setPort p ((d.port p).failed l d.tick)).gapCheck p).linkEvent p := rfl

@[simp] theorem PortSt.state_recheck (x old : PortSt) (now : Nat) : (x.recheck old now).state = x.state := by
  unfold PortSt.recheck
  split <;> rfl

@[simp] theorem PortSt.lane_recheck (x old : PortSt) (now : Nat) (l : Lane) : (x.recheck old now).lane l = x.lane l := by
  unfold PortSt.recheck
  split <;> rfl

@[simp] theorem PortSt.handover_recheck (x old : PortSt) (now : Nat) : (x.recheck old now).handover = x.handover := by
  unfold PortSt.recheck
  split <;> rfl

@[simp] theorem PortSt.gapOpen_recheck (x old : PortSt) (now : Nat) : (x.recheck old now).gapOpen = x.gapOpen := by
  unfold PortSt.recheck
  split <;> rfl

@[simp] theorem PortSt.kept_recheck (x old : PortSt) (now : Nat) : (x.recheck old now).kept = x.kept := by
  unfold PortSt.recheck
  split <;> rfl

@[simp] theorem PortSt.state_failed (x : PortSt) (l : Lane) (now : Nat) : (x.failed l now).state = x.state := by
  rw [PortSt.failed, PortSt.state_recheck, PortSt.setLane_state]

/-- Putting another hand-over into a port leaves its lanes. -/
@[simp] theorem PortSt.lane_withHandover (x : PortSt) (h : Option Handover) (l : Lane) :
    ({ x with handover := h } : PortSt).lane l = x.lane l := rfl

@[simp] theorem PortSt.lane_failed_same (x : PortSt) (l : Lane) (now : Nat) :
    (x.failed l now).lane l = (x.lane l).undoPeak.fail := by
  rw [PortSt.failed, PortSt.lane_recheck, PortSt.lane_withHandover, PortSt.lane_setLane_same]

theorem PortSt.lane_failed_other (x : PortSt) {l m : Lane} (now : Nat) (h : m ≠ l) : (x.failed l now).lane m = x.lane m := by
  rw [PortSt.failed, PortSt.lane_recheck, PortSt.lane_withHandover, PortSt.lane_setLane_other _ _ h]

@[simp] theorem PortSt.gapOpen_failed (x : PortSt) (l : Lane) (now : Nat) : (x.failed l now).gapOpen = x.gapOpen := by
  rw [PortSt.failed, PortSt.gapOpen_recheck, PortSt.setLane_frame]

theorem Dev.failLane_frame (d : Dev) (p : Nat) (l : Lane) : d.failLane p l =
    { d with ports := (d.failLane p l).ports, regs := (d.failLane p l).regs, out := (d.failLane p l).out,
             arrivals := d.arrivals ++ [Arrival.mk d.sampledAt (.link p)], draws := d.draws + 1 } := by
  rw [Dev.failLane_eq, Dev.linkEvent_frame, Dev.gapCheck_frame]
  rfl

theorem Dev.port_failLane_other (d : Dev) {p q : Nat} (l : Lane) (h : q ≠ p) : (d.failLane p l).port q = d.port q := by
  rw [Dev.failLane_eq, Dev.port_linkEvent, Dev.port_gapCheck_other _ h, Dev.port_setPort_other _ _ h]

@[simp] theorem Dev.lane_failLane_same (d : Dev) (p : Nat) (l : Lane) :
    (d.failLane p l).lane p l = (d.lane p l).undoPeak.fail := by
  rw [Dev.lane, Dev.failLane_eq, Dev.port_linkEvent, Dev.lane_gapCheck, Dev.port_setPort_same, PortSt.lane_failed_same, Dev.lane]

theorem Dev.lane_failLane_other (d : Dev) (p : Nat) {l m : Lane} (h : m ≠ l) : (d.failLane p l).lane p m = d.lane p m := by
  rw [Dev.lane, Dev.failLane_eq, Dev.port_linkEvent, Dev.lane_gapCheck, Dev.port_setPort_same, PortSt.lane_failed_other _ _ h,
    Dev.lane]

@[simp] theorem Dev.state_failLane (d : Dev) (p : Nat) (l : Lane) : ((d.failLane p l).port p).state = (d.port p).state := by
  rw [Dev.failLane_eq, Dev.port_linkEvent, Dev.state_gapCheck, Dev.port_setPort_same, PortSt.state_failed]

theorem Dev.reg_failLane_other (d : Dev) {p k : Nat} (l : Lane) (h : k ≠ E.GAPS p) : (d.failLane p l).reg k = d.reg k := by
  rw [Dev.failLane_eq, Dev.reg_linkEvent, Dev.reg_gapCheck_other _ h]
  rfl

/-- With a gap declared already a failed lane sends nothing and counts no gap. -/
theorem Dev.failLane_of_open {d : Dev} {p : Nat} (l : Lane) (h : (d.port p).gapOpen = true) :
    d.failLane p l = (d.setPort p ((d.port p).failed l d.tick)).linkEvent p := by
  rw [Dev.failLane_eq, Dev.gapCheck_of_open (by simp [h])]

@[simp] theorem LaneSt.fail_state (x : LaneSt) : x.fail.state = .failed := rfl

@[simp] theorem LaneSt.fail_highSince (x : LaneSt) : x.fail.highSince = none := rfl

@[simp] theorem LaneSt.undoPeak_los (x : LaneSt) : x.undoPeak.los = x.los := by
  unfold LaneSt.undoPeak
  split <;> rfl

@[simp] theorem LaneSt.undoPeak_lol (x : LaneSt) : x.undoPeak.lol = x.lol := by
  unfold LaneSt.undoPeak
  split <;> rfl

@[simp] theorem LaneSt.fail_los (x : LaneSt) : x.fail.los = x.los := rfl

@[simp] theorem LaneSt.fail_lol (x : LaneSt) : x.fail.lol = x.lol := rfl

/-! ## Queues and the replay buffer of a port (R154, R169) -/

/-- A port to which nothing is queued has nothing to flush. -/
theorem Dev.flushPort_of_empty {d : Dev} {p : Nat} (h : d.queuedTo p = false) : d.flushPort p = d := by
  unfold Dev.queuedTo at h
  rw [Bool.or_eq_false_iff] at h
  obtain ⟨hq, hs⟩ := h
  have hu : ((d.kennel (sdieOf p)).queues.filter (fun e => e.1 / 16 % 256 = p % 128)).flatMap (·.2) = [] := by
    rw [List.flatMap_eq_nil_iff]
    intro e he
    have hd := List.any_eq_false.mp hq e (List.mem_of_mem_filter he)
    have ho := (List.mem_filter.mp he).2
    simpa [of_decide_eq_true ho] using hd
  have hm : (d.kennel (sdieOf p)).slots.filter (fun e => e.2.fan.contains (p % 128)) = [] :=
    List.filter_eq_nil_iff.mpr (fun e he => List.any_eq_false.mp hs e he)
  unfold Dev.flushPort
  simp only [hu, List.foldl_nil, hm]

/-- A replay buffer that holds no RPY slot is dropped without one. -/
theorem Dev.discardReplay_of_slotless {d : Dev} {p : Nat} (h : ∀ k ∈ (d.port p).kept, k.slot = none) :
    d.discardReplay p = d.updPort p (fun y => { y with kept := [] }) := by
  have hk : ∀ (l : List Kept), (∀ k ∈ l, k.slot = none) → l.foldl (fun a k =>
      match k.slot with
      | some i => a.release (sdieOf p) (slotPtr (sdieOf p) i) (256 + p % 128)
      | none => a) d = d := by
    intro l
    induction l with
    | nil => intro _; rfl
    | cons k l ih =>
      intro hl
      rw [List.foldl_cons, hl k (by simp)]
      exact ih (fun x hx => hl x (List.mem_cons_of_mem _ hx))
  exact congrArg (fun e : Dev => e.updPort p (fun y => { y with kept := [] })) (hk _ h)

/-! ## Entry into DETECT (R154) -/

@[simp] theorem Dev.port_pendDiscovery (d : Dev) (p q : Nat) : (d.pendDiscovery p).port q = d.port q := rfl

@[simp] theorem Dev.port_takeSite (d : Dev) (p q : Nat) : (d.takeSite p).port q = d.port q := rfl

theorem Dev.port_toDetect_other {d : Dev} {p q : Nat} (hq : d.queuedTo p = false) (hk : ∀ k ∈ (d.port p).kept, k.slot = none)
    (h : q ≠ p) : (d.toDetect p).port q = d.port q := by
  have hd : ((d.flushPort p).discardReplay p).port q = d.port q := by
    rw [Dev.flushPort_of_empty hq, Dev.discardReplay_of_slotless hk, Dev.port_updPort_other _ _ h]
  unfold Dev.toDetect
  refine (Dev.port_moduleLow _ _ _).trans <| (Dev.port_siteLos_other _ h).trans <| (Dev.port_freeSite _ _ _).trans <|
    (Dev.port_notePort _ _ _ _).trans <| (Dev.port_pendDiscovery _ _ _).trans <| (Dev.port_setReg _ _ _ _).trans <|
    (Dev.port_updPort_other _ _ h).trans <| (Dev.port_updPort_other _ _ h).trans <| (Dev.port_takeSite _ _ _).trans hd

@[simp] theorem PortSt.mapLanes_state (x : PortSt) (f : Lane → LaneSt → LaneSt) : (x.mapLanes f).state = x.state := rfl

@[simp] theorem Dev.state_toDetect (d : Dev) (p : Nat) : ((d.toDetect p).port p).state = .detect := by
  unfold Dev.toDetect
  refine (congrArg PortSt.state (Dev.port_moduleLow _ _ _)).trans <| (Dev.state_siteLos _ _).trans <|
    (congrArg PortSt.state ((Dev.port_freeSite _ _ _).trans <| (Dev.port_notePort _ _ _ _).trans <|
      (Dev.port_pendDiscovery _ _ _).trans <| (Dev.port_setReg _ _ _ _).trans (Dev.port_updPort_same _ _ _))).trans ?_
  dsimp only []
  split
  · split <;> rfl
  · rfl

/-- The device without what the entries and exits of port states may change. -/
def Dev.portless (d : Dev) : Dev :=
  { d with ports := [], regs := [], siteEff := [], discovery := [], modules := [], out := [], tele := {}, arrivals := [],
           draws := 0 }

@[simp] theorem Dev.portless_moduleLow (d : Dev) (p : Nat) : (d.moduleLow p).portless = d.portless := by
  rw [Dev.moduleLow_frame]; rfl

@[simp] theorem Dev.portless_moduleLanes (d : Dev) (p rate : Nat) : (d.moduleLanes p rate).portless = d.portless := by
  rw [Dev.moduleLanes_frame]; rfl

@[simp] theorem Dev.portless_siteLos (d : Dev) (p : Nat) : (d.siteLos p).portless = d.portless := by
  rw [Dev.siteLos_frame]; rfl

@[simp] theorem Dev.portless_freeSite (d : Dev) (m : Option Nat) : (d.freeSite m).portless = d.portless := by
  rw [Dev.freeSite_frame]; rfl

@[simp] theorem Dev.portless_notePort (d was : Dev) (p : Nat) : (d.notePort was p).portless = d.portless := by
  rw [Dev.notePort_frame]; rfl

@[simp] theorem Dev.portless_setReg (d : Dev) (k v : Nat) : (d.setReg k v).portless = d.portless := rfl

@[simp] theorem Dev.portless_pendDiscovery (d : Dev) (p : Nat) : (d.pendDiscovery p).portless = d.portless := rfl

@[simp] theorem Dev.portless_updPort (d : Dev) (p : Nat) (f : PortSt → PortSt) : (d.updPort p f).portless = d.portless := rfl

@[simp] theorem Dev.portless_takeSite (d : Dev) (p : Nat) : (d.takeSite p).portless = d.portless := rfl

@[simp] theorem Dev.portless_linkEvent (d : Dev) (p : Nat) : (d.linkEvent p).portless = d.portless := rfl

@[simp] theorem Dev.portless_countErr (d : Dev) (k : Nat) : (d.countErr k).portless = d.portless := by
  rw [Dev.countErr_frame]; rfl

/-- What an entry into DETECT changes where nothing is queued to the port and it keeps no RPY slot. -/
theorem Dev.portless_toDetect {d : Dev} {p : Nat} (hq : d.queuedTo p = false)
    (hk : ∀ k ∈ (d.port p).kept, k.slot = none) : (d.toDetect p).portless = d.portless := by
  unfold Dev.toDetect
  rw [Dev.flushPort_of_empty hq, Dev.discardReplay_of_slotless hk]
  simp only [Dev.portless_moduleLow, Dev.portless_siteLos, Dev.portless_freeSite, Dev.portless_notePort,
    Dev.portless_pendDiscovery, Dev.portless_setReg, Dev.portless_updPort, Dev.portless_takeSite]

end Sys2Proof.Machine
end

section
/-! Lanes (R69 to R114): detectors, margin windows and peaking, hand-overs of a rate, test patterns and modules. -/

namespace Sys2Proof.Machine

/-! ## Detectors (R84, R85, R90, R105) -/

theorem Dev.settle_self (d : Dev) : d.settle d = d := Dev.settle_of_states (fun _ => rfl) rfl rfl

/-- An asserted LOS that a lane shows already changes nothing. -/
theorem Dev.los_shown {d : Dev} {p : Nat} {l : Lane} (h : (d.lane p l).los = true) : d.los p l true = d := by
  unfold Dev.los
  rw [Dev.lane] at h
  simp [h]

/-- An asserted LOL that a lane shows already changes nothing. -/
theorem Dev.lol_shown {d : Dev} {p : Nat} {l : Lane} (h : (d.lane p l).lol = true) : d.lol p l true = d := by
  unfold Dev.lol
  rw [Dev.lane] at h
  simp [h]

/-- Only a port in DETECT or ABSENT looks for the end of its detection. -/
theorem Dev.detectCheck_of_past {d : Dev} {p : Nat} (h1 : (d.port p).state ≠ .detect) (h2 : (d.port p).state ≠ .absent) :
    d.detectCheck p = d := by
  unfold Dev.detectCheck
  simp [h1, h2]

/-- A detector of a lane in striping beside others, of a port that does not show LOS on every lane, fails the lane alone. -/
theorem Dev.detector_fails {d : Dev} {p : Nat} {l k : Lane} {isLos : Bool} (hact : (d.lane p l).state = .active)
    (h0 : isLos = true → l ≠ 0) (hne : k ≠ l) (hk : (d.lane p k).los = false) :
    d.detector p l isLos false = d.failLane p l := by
  have hall : lanes4.all (fun m => (((d.failLane p l).port p).lane m).los) = false :=
    List.all_eq_false.mpr ⟨k, by match k with | 0 | 1 | 2 | 3 => simp [lanes4],
      by rw [← Dev.lane, Dev.lane_failLane_other _ _ hne, hk]; simp⟩
  have hl : (isLos && decide (l = 0)) = false := by
    cases isLos with
    | false => rfl
    | true => simpa using h0 rfl
  unfold Dev.detector
  simp only [hact, if_true, hall, Bool.or_false]
  exact if_neg (by simpa using hl)

/-- The device once an event of its lane's detector is counted and the lane has failed. -/
def Dev.laneLost (d : Dev) (p : Nat) (l : Lane) (k : Nat) (f : LaneSt → LaneSt) : Dev :=
  ((d.updLane p l f).setReg k (d.reg k + 1)).failLane p l

section
variable {d : Dev} {p k : Nat} {l : Lane} {f : LaneSt → LaneSt}

theorem Dev.lane_laneLost_same : (d.laneLost p l k f).lane p l = (f (d.lane p l)).undoPeak.fail := by
  rw [Dev.laneLost, Dev.lane_failLane_same, Dev.lane, Dev.port_setReg, ← Dev.lane, Dev.lane_updLane_same]

theorem Dev.lane_laneLost_other {m : Lane} (h : m ≠ l) : (d.laneLost p l k f).lane p m = d.lane p m := by
  rw [Dev.laneLost, Dev.lane_failLane_other _ _ h, Dev.lane, Dev.port_setReg, ← Dev.lane, Dev.lane_updLane_other _ _ _ h]

theorem Dev.state_laneLost : ((d.laneLost p l k f).port p).state = (d.port p).state := by
  rw [Dev.laneLost, Dev.state_failLane, Dev.port_setReg, Dev.port_updLane_same, PortSt.setLane_state]

theorem Dev.port_laneLost_other {q : Nat} (h : q ≠ p) : (d.laneLost p l k f).port q = d.port q := by
  rw [Dev.laneLost, Dev.port_failLane_other _ _ h, Dev.port_setReg, Dev.port_updLane_other _ _ _ h]

theorem Dev.reg_laneLost_same (h : k ≠ E.GAPS p) : (d.laneLost p l k f).reg k = d.reg k + 1 := by
  rw [Dev.laneLost, Dev.reg_failLane_other _ _ h, Dev.reg_setReg_same]

theorem Dev.reg_laneLost_other {i : Nat} (h : i ∉ [k, E.GAPS p]) : (d.laneLost p l k f).reg i = d.reg i := by
  obtain ⟨h1, h2⟩ : i ≠ k ∧ i ≠ E.GAPS p := by simpa using h
  rw [Dev.laneLost, Dev.reg_failLane_other _ _ h2, Dev.reg_setReg_other _ _ h1]
  rfl

theorem Dev.laneLost_frame : d.laneLost p l k f =
    { d with regs := (d.laneLost p l k f).regs, ports := (d.laneLost p l k f).ports, out := (d.laneLost p l k f).out,
             arrivals := d.arrivals ++ [Arrival.mk d.sampledAt (.link p)], draws := d.draws + 1 } := by
  rw [Dev.laneLost, Dev.failLane_frame]
  rfl

theorem Dev.laneLost_of_open (h : (d.port p).gapOpen = true) (hk : k ≠ E.GAPS p) :
    (d.laneLost p l k f).out = d.out ∧ (d.laneLost p l k f).reg (E.GAPS p) = d.reg (E.GAPS p) := by
  rw [Dev.laneLost, Dev.failLane_of_open _ (by rw [Dev.port_setReg, Dev.port_updLane_same, PortSt.setLane_frame, h])]
  exact ⟨rfl, (Dev.reg_setReg_other _ _ (Ne.symm hk)).trans rfl⟩

theorem Dev.settle_laneLost : (d.laneLost p l k f).settle d = d.laneLost p l k f := by
  refine Dev.settle_of_states (fun q => ?_) (by rw [Dev.laneLost_frame]) (by rw [Dev.laneLost_frame])
  by_cases h : q = p
  · rw [h, Dev.state_laneLost]
  · rw [Dev.port_laneLost_other h]

end

theorem E.losEvents_ne_gaps (p l : Nat) : E.LOS_EVENTS p l ≠ E.GAPS p := by
  unfold E.LOS_EVENTS E.GAPS
  omega

theorem E.lolEvents_ne_gaps (p l : Nat) : E.LOL_EVENTS p l ≠ E.GAPS p := by
  unfold E.LOL_EVENTS E.GAPS
  omega

/-- LOS on a lane in striping beside others, not lane 0, is counted, and the lane fails. -/
theorem Dev.los_fails {d : Dev} {p : Nat} {l k : Lane} (hact : (d.lane p l).state = .active)
    (hstr : (d.port p).striping ≠ [l]) (hne : k ≠ l) (hk : (d.lane p k).los = false) (h0 : l ≠ 0)
    (hlos : (d.lane p l).los = false) (hreg : d.reg (E.LOS_EVENTS p l.val) < 0xFFFFFFFE) :
    d.los p l true = d.laneLost p l (E.LOS_EVENTS p l.val) (fun y => { y with los := true }) := by
  have hc : (d.updLane p l (fun y => { y with los := true })).countErr (E.LOS_EVENTS p l.val) =
      (d.updLane p l (fun y => { y with los := true })).setReg (E.LOS_EVENTS p l.val) (d.reg (E.LOS_EVENTS p l.val) + 1) :=
    Dev.countErr_of_lt hreg
  have hs : decide ((d.port p).striping = [l]) = false := decide_eq_false hstr
  unfold Dev.los
  rw [Dev.lane] at hlos
  simp only [hlos, if_true, hc, hs, Bool.false_eq_true, if_false]
  refine Dev.detector_fails ?_ (fun _ => h0) hne ?_
  · rw [Dev.lane, Dev.port_setReg, ← Dev.lane, Dev.lane_updLane_same]
    exact hact
  · rw [Dev.lane, Dev.port_setReg, ← Dev.lane, Dev.lane_updLane_other _ _ _ hne]
    exact hk

/-- LOL on a lane in striping beside others is counted, and the lane fails. -/
theorem Dev.lol_fails {d : Dev} {p : Nat} {l k : Lane} (hact : (d.lane p l).state = .active)
    (hstr : (d.port p).striping ≠ [l]) (hne : k ≠ l) (hk : (d.lane p k).los = false)
    (hlol : (d.lane p l).lol = false) (hreg : d.reg (E.LOL_EVENTS p l.val) < 0xFFFFFFFE) :
    d.lol p l true = d.laneLost p l (E.LOL_EVENTS p l.val)
      (fun y => { y with lol := true, highSince := if true then none else y.highSince }) := by
  have hc : (d.updLane p l (fun y => { y with lol := true, highSince := if true then none else y.highSince })).countErr
      (E.LOL_EVENTS p l.val) = (d.updLane p l (fun y => { y with
        lol := true, highSince := if true then none else y.highSince })).setReg (E.LOL_EVENTS p l.val)
          (d.reg (E.LOL_EVENTS p l.val) + 1) :=
    Dev.countErr_of_lt hreg
  have hs : decide ((d.port p).striping = [l]) = false := decide_eq_false hstr
  unfold Dev.lol
  rw [Dev.lane] at hlol
  simp only [hlol, if_true, Bool.false_eq_true, if_false] at hc ⊢
  rw [hc, hs]
  refine Dev.detector_fails ?_ (fun h => absurd h (by decide)) hne ?_
  · rw [Dev.lane, Dev.port_setReg, ← Dev.lane, Dev.lane_updLane_same]
    exact hact
  · rw [Dev.lane, Dev.port_setReg, ← Dev.lane, Dev.lane_updLane_other _ _ _ hne]
    exact hk

/-- A port to which loss applies goes to DETECT, and every other port stays. -/
theorem Dev.port_portLoss {d : Dev} {p : Nat} (hs : (d.port p).state.lossApplies = true) (hq : d.queuedTo p = false)
    (hk : ∀ k ∈ (d.port p).kept, k.slot = none) :
    ((d.portLoss p).port p).state = .detect ∧ ∀ q, q ≠ p → (d.portLoss p).port q = d.port q := by
  unfold Dev.portLoss
  rw [if_pos hs]
  simp only [Dev.port_linkEvent, Dev.port_countErr, Dev.state_toDetect, true_and]
  exact fun q h => Dev.port_toDetect_other hq hk h

@[simp] theorem PortSt.kept_failed (x : PortSt) (l : Lane) (now : Nat) : (x.failed l now).kept = x.kept := by
  rw [PortSt.failed, PortSt.kept_recheck, PortSt.setLane_frame]

@[simp] theorem Dev.kept_failLane (d : Dev) (p : Nat) (l : Lane) : ((d.failLane p l).port p).kept = (d.port p).kept := by
  obtain ⟨g, n, k, f, a, h⟩ := (d.setPort p ((d.port p).failed l d.tick)).port_gapCheck_same p
  rw [Dev.failLane_eq, Dev.port_linkEvent, h, Dev.port_setPort_same]
  exact PortSt.kept_failed _ _ _

theorem Dev.portless_portLoss {d : Dev} {p : Nat} (hq : d.queuedTo p = false)
    (hk : ∀ k ∈ (d.port p).kept, k.slot = none) : (d.portLoss p).portless = d.portless := by
  unfold Dev.portLoss
  split
  · rw [Dev.portless_linkEvent, Dev.portless_countErr, Dev.portless_toDetect hq hk]
  · rfl

/-- The device once a lane that shows a detector has left striping. -/
def Dev.unstripe (d : Dev) (p : Nat) (l : Lane) : Dev := if (d.lane p l).state = .active then d.failLane p l else d

theorem Dev.port_unstripe (d : Dev) (p : Nat) (l : Lane) :
    ((d.unstripe p l).port p).state = (d.port p).state ∧ ((d.unstripe p l).port p).kept = (d.port p).kept ∧
      ∀ q, q ≠ p → (d.unstripe p l).port q = d.port q := by
  unfold Dev.unstripe
  split
  · exact ⟨Dev.state_failLane _ _ _, Dev.kept_failLane _ _ _, fun q h => Dev.port_failLane_other _ _ h⟩
  · exact ⟨rfl, rfl, fun _ _ => rfl⟩

theorem Dev.unstripe_frame (d : Dev) (p : Nat) (l : Lane) : d.unstripe p l =
    { d with ports := (d.unstripe p l).ports, regs := (d.unstripe p l).regs, out := (d.unstripe p l).out,
             arrivals := (d.unstripe p l).arrivals, draws := (d.unstripe p l).draws } := by
  unfold Dev.unstripe
  split
  · rw [Dev.failLane_frame]
  · rfl

/-- LOS of lane 0 is counted, takes the lane out of striping, and loses the port. -/
theorem Dev.los_lane0_eq {d : Dev} {p : Nat} (hlos : (d.lane p 0).los = false) : d.los p 0 true =
    (((d.updLane p 0 (fun y => { y with los := true })).countErr (E.LOS_EVENTS p 0)).unstripe p 0).portLoss p := by
  rw [Dev.lane] at hlos
  unfold Dev.los
  simp only [hlos, if_true, Bool.false_eq_true, if_false]
  unfold Dev.detector
  simp only [decide_true, Bool.and_true, Bool.true_or, if_true]
  rfl

/-- LOS of lane 0 takes an UP port to DETECT. -/
theorem Dev.los_lane0 {d : Dev} {p : Nat} (hlos : (d.lane p 0).los = false) (hup : (d.port p).state = .up)
    (hq : d.queuedTo p = false) (hk : ∀ k ∈ (d.port p).kept, k.slot = none) :
    ((d.los p 0 true).port p).state = .detect ∧ (∀ q, q ≠ p → (d.los p 0 true).port q = d.port q) ∧
      (d.los p 0 true).ctxs = d.ctxs := by
  rw [Dev.los_lane0_eq hlos]
  generalize he : (d.updLane p 0 (fun y => { y with los := true })).countErr (E.LOS_EVENTS p 0) = e
  have hep : e.port p = (d.port p).setLane 0 { d.lane p 0 with los := true } := by
    rw [← he, Dev.port_countErr, Dev.port_updLane_same]
  have heq : e.queuedTo p = false := by
    rw [← he, Dev.countErr_frame]
    exact hq
  obtain ⟨hs, hkx, ho⟩ := e.port_unstripe p 0
  have hqx : (e.unstripe p 0).queuedTo p = false := by
    rw [Dev.unstripe_frame]
    exact heq
  have hkk : ∀ k ∈ ((e.unstripe p 0).port p).kept, k.slot = none := by
    rw [hkx, hep, PortSt.setLane_frame]
    exact hk
  obtain ⟨h1, h2⟩ := Dev.port_portLoss (by rw [hs, hep, PortSt.setLane_state, hup]; rfl) hqx hkk
  refine ⟨h1, fun q h => ?_, ?_⟩
  · rw [h2 q h, ho q h, ← he, Dev.port_countErr, Dev.port_updLane_other _ _ _ h]
  · refine (congrArg Dev.ctxs (Dev.portless_portLoss hqx hkk) :).trans ?_
    show (e.unstripe p 0).ctxs = _
    rw [Dev.unstripe_frame, ← he, Dev.countErr_frame]
    rfl

/-! ### The detectors' rows -/

theorem exec_los {s : State} {p : Port} {l : Lane} {on : Bool} {d : Dev}
    (h : (s.toDev.los p.val l (on || s.isModule p.val && !s.modulePresent p.val)).settle s.toDev = d) :
    exec (.los p l on) s = .next (s.dev d) := settled_run_dev h

theorem exec_lol {s : State} {p : Port} {l : Lane} {on : Bool} {d : Dev}
    (h : (s.toDev.lol p.val l on).settle s.toDev = d) : exec (.lol p l on) s = .next (s.dev d) := settled_run_dev h

/-- No module is missing: a deasserted LOS is one. -/
theorem Dev.losHeld_eq_false {d : Dev} {p : Nat} (h : d.isModule p = false ∨ d.modulePresent p = true) :
    (false || d.isModule p && !d.modulePresent p) = false := by
  rcases h with h | h <;> simp [h]

theorem Dev.settle_updLane (d : Dev) (p : Nat) (l : Lane) (f : LaneSt → LaneSt) :
    (d.updLane p l f).settle d = d.updLane p l f := by
  refine Dev.settle_of_states (fun q => ?_) rfl rfl
  by_cases h : q = p
  · rw [h, Dev.port_updLane_same, PortSt.setLane_state]
  · rw [Dev.port_updLane_other _ _ _ h]

/-- The lanes of a port once the miswire watch has ended. -/
theorem PortSt.lane_endMiswire (x : PortSt) (l : Lane) : x.endMiswire.lane l = { x.lane l with miswireRun := 0 } :=
  x.lane_mapLanes _ l

/-- The device once LOS of lane 0 has ended. -/
def Dev.losEnded0 (d : Dev) (p : Nat) : Dev := (d.updLane p 0 (fun y => { y with los := false })).updPort p PortSt.endMiswire

theorem Dev.port_losEnded0 (d : Dev) (p : Nat) :
    (d.losEnded0 p).port p = ((d.port p).setLane 0 { d.lane p 0 with los := false }).endMiswire := by
  rw [Dev.losEnded0, Dev.port_updPort_same, Dev.port_updLane_same]

theorem Dev.state_losEnded0 (d : Dev) (p : Nat) : ((d.losEnded0 p).port p).state = (d.port p).state := by
  rw [Dev.port_losEnded0, PortSt.endMiswire, PortSt.mapLanes_state, PortSt.setLane_state]

theorem Dev.port_losEnded0_other (d : Dev) {p q : Nat} (h : q ≠ p) : (d.losEnded0 p).port q = d.port q := by
  rw [Dev.losEnded0, Dev.port_updPort_other _ _ h, Dev.port_updLane_other _ _ _ h]

theorem Dev.settle_losEnded0 (d : Dev) (p : Nat) : (d.losEnded0 p).settle d = d.losEnded0 p := by
  refine Dev.settle_of_states (fun q => ?_) rfl rfl
  by_cases h : q = p
  · rw [h, Dev.state_losEnded0]
  · rw [Dev.port_losEnded0_other _ h]

/-- Past detection a deasserted detector changes its lane, and LOS of lane 0 the miswire watch. -/
theorem Dev.los_ends {d : Dev} {p : Nat} (l : Lane) (h1 : (d.port p).state ≠ .detect) (h2 : (d.port p).state ≠ .absent) :
    d.los p l false = if l = 0 then d.losEnded0 p else d.updLane p l (fun y => { y with los := false }) := by
  unfold Dev.los
  simp only [Bool.false_eq_true, if_false]
  split
  · next h =>
    subst h
    exact Dev.detectCheck_of_past (d := d.losEnded0 p) (by rwa [Dev.state_losEnded0]) (by rwa [Dev.state_losEnded0])
  · exact Dev.detectCheck_of_past (by rwa [Dev.port_updLane_same, PortSt.setLane_state])
      (by rwa [Dev.port_updLane_same, PortSt.setLane_state])

theorem Dev.lol_ends {d : Dev} {p : Nat} (l : Lane) (h1 : (d.port p).state ≠ .detect) (h2 : (d.port p).state ≠ .absent) :
    d.lol p l false = d.updLane p l (fun y => { y with lol := false }) := by
  unfold Dev.lol
  simp only [Bool.false_eq_true, if_false]
  exact Dev.detectCheck_of_past (by rwa [Dev.port_updLane_same, PortSt.setLane_state])
    (by rwa [Dev.port_updLane_same, PortSt.setLane_state])

/-- Settles O18: an asserted detector that is shown already is dropped, one that ends changes its lane alone, one that asserts
on a lane in striping beside others fails that lane (`Dev.laneLost`), and LOS of lane 0 loses the port. -/
theorem detectorEvents : Obligations.DetectorEvents := by
  unfold Obligations.DetectorEvents
  refine ⟨fun s p l h => ?_, fun s p l h => ?_, fun s p l hm hp => ?_, fun s p l h1 h2 hm => ?_,
    fun s p l k hact hstr hne hk => ⟨fun h0 hlos hreg => ?_, fun hlol hreg => ?_⟩, fun s p hlos hup hq hk hc => ?_⟩
  · exact exec_los (by rw [Bool.true_or, Dev.los_shown h, Dev.settle_self])
  · exact exec_lol (by rw [Dev.lol_shown h, Dev.settle_self])
  · refine (exec_los rfl).trans (Eq.trans ?_ (exec_los (on := true) rfl).symm)
    rw [hm, hp]
    rfl
  · have hoff := Dev.losHeld_eq_false hm
    refine ⟨fun h0 => exec_los ?_, ⟨s.dev (s.toDev.losEnded0 p.val), exec_los ?_, ?_, fun k hk => ?_,
      fun q h => Dev.port_losEnded0_other _ h, rfl⟩, exec_lol ?_⟩
    · rw [hoff, Dev.los_ends l h1 h2, if_neg h0]
      exact Dev.settle_updLane _ _ _ _
    · rw [hoff, Dev.los_ends 0 h1 h2, if_pos rfl]
      exact Dev.settle_losEnded0 _ _
    · show ((s.toDev.losEnded0 p.val).port p.val).lane 0 = _
      rw [Dev.port_losEnded0, PortSt.lane_endMiswire, PortSt.lane_setLane_same]
    · show ((s.toDev.losEnded0 p.val).port p.val).lane k = _
      rw [Dev.port_losEnded0, PortSt.lane_endMiswire, PortSt.lane_setLane_other _ _ hk]
      rfl
    · rw [Dev.lol_ends l h1 h2]
      exact Dev.settle_updLane _ _ _ _
  · have hg := E.losEvents_ne_gaps p.val l.val
    refine ⟨s.dev (s.toDev.laneLost p.val l (E.LOS_EVENTS p.val l.val) (fun y => { y with los := true })), exec_los ?_, ?_, ?_,
      Dev.state_laneLost, fun m hm => Dev.lane_laneLost_other hm, Dev.reg_laneLost_same hg, ?_,
      fun q hq => Dev.port_laneLost_other hq, fun i hi => Dev.reg_laneLost_other hi,
      fun ho => Dev.laneLost_of_open ho hg, ?_⟩
    · rw [Bool.true_or, Dev.los_fails hact hstr hne hk h0 hlos hreg, Dev.settle_laneLost]
    · exact (congrArg LaneSt.state Dev.lane_laneLost_same).trans rfl
    · refine (congrArg LaneSt.los Dev.lane_laneLost_same).trans ?_
      rw [LaneSt.fail_los, LaneSt.undoPeak_los]
    · exact congrArg Dev.arrivals Dev.laneLost_frame
    · rw [Dev.laneLost_frame]
      rfl
  · have hg := E.lolEvents_ne_gaps p.val l.val
    refine ⟨s.dev (s.toDev.laneLost p.val l (E.LOL_EVENTS p.val l.val)
        (fun y => { y with lol := true, highSince := if true then none else y.highSince })), exec_lol ?_, ?_, ?_, ?_,
      Dev.state_laneLost, fun m hm => Dev.lane_laneLost_other hm, Dev.reg_laneLost_same hg, ?_,
      fun q hq => Dev.port_laneLost_other hq, fun i hi => Dev.reg_laneLost_other hi, ?_⟩
    · rw [Dev.lol_fails hact hstr hne hk hlol hreg, Dev.settle_laneLost]
    · exact (congrArg LaneSt.state Dev.lane_laneLost_same).trans rfl
    · refine (congrArg LaneSt.lol Dev.lane_laneLost_same).trans ?_
      rw [LaneSt.fail_lol, LaneSt.undoPeak_lol]
    · exact (congrArg LaneSt.highSince Dev.lane_laneLost_same).trans rfl
    · exact congrArg Dev.arrivals Dev.laneLost_frame
    · rw [Dev.laneLost_frame]
      rfl
  · obtain ⟨h1, h2, h3⟩ := Dev.los_lane0 hlos hup hq hk
    exact ⟨s.dev (s.toDev.los p.val 0 true), exec_los (by rw [Bool.true_or, Dev.settle_of_no_ctxs (h3.trans hc)]), h1, h2⟩

/-! ## Time-outs of a port (R150, R154): an entry into DETECT counts the LOS that a site without a module presents -/

/-- A MODULE-class port in IDENT whose site has no module, and whose lanes do not show its LOS yet. -/
def unlitModule : State :=
  { State.reset with
    ports := [(224, { state := .ident, lane0 := { los := false, lol := false }, lane1 := { los := false, lol := false },
                      lane2 := { los := false, lol := false }, lane3 := { los := false, lol := false } })],
    tick := 1000000000 }

/-- Its IDENT time-out counts LOS on lane 0. -/
theorem identTimeout_unlitModule (t : State) (h : exec (.identTimeout 224) unlitModule = .next t) :
    t.reg (E.LOS_EVENTS 224 0) ≠ unlitModule.reg (E.LOS_EVENTS 224 0) := by
  have hrow : exec (.identTimeout 224) unlitModule = .next (unlitModule.dev (unlitModule.toDev.toDetect 224)) :=
    run_dev (if_pos (by decide +kernel))
  rw [← Host.Outcome.next.inj (hrow.symm.trans h)]
  decide +kernel

/-- Refutes O24: FABRIC_LEVEL is not the only entry that the IDENT time-out of a MODULE-class port changes, since the entry into
DETECT presents LOS on the lanes of a site without a module, and counts it (`Dev.siteLos`). -/
theorem not_replayAndPortTimeouts : ¬ Obligations.ReplayAndPortTimeouts := by
  unfold Obligations.ReplayAndPortTimeouts
  rintro ⟨-, h, -⟩
  obtain ⟨-, hident, -⟩ := h unlitModule 224 (by decide +kernel) (by decide +kernel)
  obtain ⟨t, ht, -, -, -, -, hregs, -⟩ := hident (by decide +kernel) (by decide +kernel)
  exact identTimeout_unlitModule t ht (hregs _ (by decide))

end Sys2Proof.Machine
end

section
/-! Margin windows and peaking (R78 to R87, R113). -/

namespace Sys2Proof.Machine

/-! ## Counts that stay below their largest value -/

theorem Dev.reg_countErrN_of_lt {d : Dev} {k n : Nat} (h : d.reg k + n < 0xFFFFFFFF) (i : Nat) :
    (d.countErrN k n).reg i = if i = k then d.reg k + n else d.reg i := by
  have hk : ¬ d.reg k = 0xFFFFFFFF := by omega
  have hw : min (d.reg k + n) 0xFFFFFFFF = d.reg k + n := by omega
  have hs : ¬ d.reg k + n = 0xFFFFFFFF := by omega
  unfold Dev.countErrN
  by_cases hn : n = 0
  · simp only [hk, hn, decide_false, decide_true, Bool.or_true, if_true]
    split
    · next h => rw [h]; rfl
    · rfl
  · simp only [hk, hn, decide_false, Bool.or_false, Bool.false_eq_true, if_false, hw, hs]
    exact Dev.reg_setReg _ _ _ _

/-- Nothing but registers changes where an error counter does not saturate. -/
theorem Dev.countErrN_frame_of_lt {d : Dev} {k n : Nat} (h : d.reg k + n < 0xFFFFFFFF) :
    d.countErrN k n = { d with regs := (d.countErrN k n).regs } := by
  have hw : ¬ min (d.reg k + n) 0xFFFFFFFF = 0xFFFFFFFF := by omega
  unfold Dev.countErrN
  simp only [hw, if_false]
  split <;> rfl

/-! ## A window's end on a lane (R80, R81, R86, R100) -/

/-- A lane without its equaliser's settings and its holds: what the trial and the watch of a window leave. -/
def LaneSt.measured (x : LaneSt) : LaneSt :=
  { x with peak := 0, taps := .mainCursor, watch := none, dropNow := false, trialEnd := none, restoreHold := none,
           blockUp := 0, blockDown := 0 }

theorem LaneSt.measured_undoPeak (x : LaneSt) : x.undoPeak.measured = x.measured := by
  unfold LaneSt.undoPeak
  split <;> rfl

/-- `e` differs from `d` in lane `l` of port `p` alone, and there in no measure, and in the register `k`. -/
structure Dev.laneStep (d e : Dev) (p : Nat) (l : Lane) (k : Nat) : Prop where
  measured : (e.lane p l).measured = (d.lane p l).measured
  lane : ∀ m, m ≠ l → e.lane p m = d.lane p m
  port : ∀ q, q ≠ p → e.port q = d.port q
  reg : ∀ i, i ≠ k → e.reg i = d.reg i
  frame : e = { d with ports := e.ports, regs := e.regs }

theorem Dev.laneStep.refl (d : Dev) (p : Nat) (l : Lane) (k : Nat) : d.laneStep d p l k :=
  ⟨rfl, fun _ _ => rfl, fun _ _ => rfl, fun _ _ => rfl, rfl⟩

theorem Dev.laneStep.trans {d e g : Dev} {p : Nat} {l : Lane} {k : Nat} (h : d.laneStep e p l k) (i : e.laneStep g p l k) :
    d.laneStep g p l k where
  measured := i.measured.trans h.measured
  lane m hm := (i.lane m hm).trans (h.lane m hm)
  port q hq := (i.port q hq).trans (h.port q hq)
  reg j hj := (i.reg j hj).trans (h.reg j hj)
  frame := by
    have hg := i.frame
    rw [h.frame] at hg
    exact hg

/-- A change of a lane that leaves its measures. -/
theorem Dev.laneStep_updLane (d : Dev) (p : Nat) (l : Lane) (k : Nat) {f : LaneSt → LaneSt}
    (h : (f (d.lane p l)).measured = (d.lane p l).measured) : d.laneStep (d.updLane p l f) p l k where
  measured := by rw [Dev.lane_updLane_same, h]
  lane m hm := Dev.lane_updLane_other _ _ _ hm
  port q hq := Dev.port_updLane_other _ _ _ hq
  reg _ _ := rfl
  frame := rfl

theorem Dev.laneStep_count (d : Dev) (p : Nat) (l : Lane) (k : Nat) : d.laneStep (d.count k) p l k where
  measured := rfl
  lane _ _ := rfl
  port _ _ := rfl
  reg _ hi := (Dev.reg_count _ _ _).trans (if_neg hi)
  frame := rfl

theorem Dev.laneStep_trialWindow (d : Dev) (p : Nat) (l : Lane) (k : Nat) : d.laneStep (d.trialWindow p l) p l k := by
  unfold Dev.trialWindow
  simp only []
  split
  · exact Dev.laneStep_updLane d p l k rfl
  · exact .refl _ _ _ _

theorem Dev.laneStep_dropUndo (d : Dev) (p : Nat) (l : Lane) (k : Nat) : d.laneStep (d.dropUndo p l) p l k := by
  unfold Dev.dropUndo
  split
  · exact Dev.laneStep_updLane d p l k (LaneSt.measured_undoPeak _)
  · exact .refl _ _ _ _

theorem Dev.laneStep_watchWindow (d : Dev) (p : Nat) (l : Lane) :
    d.laneStep (d.watchWindow p l) p l (E.PEAK_UNDOS p l.val) := by
  unfold Dev.watchWindow
  simp only []
  split
  · exact .refl _ _ _ _
  · split
    · exact Dev.laneStep_dropUndo d p l _
    · split
      · refine (Dev.laneStep_updLane d p l _ ?_).trans (Dev.laneStep_count _ p l _)
        split <;> exact LaneSt.measured_undoPeak _
      · exact .refl _ _ _ _

/-- Without a watch a window's end leaves the equaliser's settings as they were adapted. -/
theorem Dev.taps_watchWindow {d : Dev} {p : Nat} {l : Lane} (h : (d.lane p l).watch = none) : d.watchWindow p l = d := by
  unfold Dev.watchWindow
  simp only [h]

theorem Dev.lane_trialWindow (d : Dev) (p : Nat) (l : Lane) : ((d.trialWindow p l).lane p l).watch = (d.lane p l).watch ∧
    ((d.trialWindow p l).lane p l).taps = (d.lane p l).taps := by
  unfold Dev.trialWindow
  simp only []
  split
  · rw [Dev.lane_updLane_same]
    exact ⟨rfl, rfl⟩
  · exact ⟨rfl, rfl⟩

/-- The lane's log of a window's end. -/
def Dev.windowLog (d : Dev) (x : LaneSt) (u : Nat) : List (Nat × Nat) :=
  (x.uncorrLog ++ [(d.tick, u)]).filter (fun e => d.tick < e.1 + max 25000 (d.reg E.PEAK_WATCH_TICKS))

theorem Dev.getLast?_windowLog (d : Dev) (x : LaneSt) (u : Nat) : (d.windowLog x u).getLast? = some (d.tick, u) := by
  have h : [(d.tick, u)].filter (fun e => decide (d.tick < e.1 + max 25000 (d.reg E.PEAK_WATCH_TICKS))) = [(d.tick, u)] :=
    List.filter_eq_self.mpr (fun e he => by rw [List.mem_singleton.mp he, decide_eq_true_iff]; omega)
  rw [Dev.windowLog, List.filter_append, h, List.getLast?_concat]

/-- The device once what the decoder found in a window is counted. -/
def Dev.windowCounted (d : Dev) (p : Nat) (l : Lane) (corr uncorr : Nat) : Dev :=
  (d.countN (E.FEC_CORR_SYMBOLS p l.val) corr).countErrN (E.FEC_UNCORR_CW p l.val) uncorr

/-- The device once a window has ended on a locked lane, before its trial and its watch. -/
def Dev.windowTaken (d : Dev) (p : Nat) (l : Lane) (margin corr uncorr inj : Nat) : Dev :=
  let d1 := d.windowCounted p l corr uncorr
  ((d1.updLane p l (fun _ => d1.windowValues (d.lane p l) margin (uncorr - inj) (d.windowLog (d.lane p l) (uncorr - inj)))).drew).setReg
    (E.MARGIN_MIN p l.val) (min (d1.reg (E.MARGIN_MIN p l.val)) margin)

theorem Dev.windowEnd_locked {d : Dev} {p : Nat} {l : Lane} (h : (d.lane p l).lol = false) (margin corr uncorr inj : Nat) :
    d.windowEnd p l margin corr uncorr inj = ((d.windowTaken p l margin corr uncorr inj).trialWindow p l).watchWindow p l := by
  unfold Dev.windowEnd
  simp only [h, Bool.false_eq_true, if_false]
  rfl

theorem Dev.windowCounted_frame (d : Dev) (p : Nat) (l : Lane) (corr uncorr : Nat) : d.windowCounted p l corr uncorr =
    { d with regs := (d.windowCounted p l corr uncorr).regs, tele := (d.windowCounted p l corr uncorr).tele } := by
  unfold Dev.windowCounted
  rw [Dev.countErrN_frame]
  rfl

section
variable {d : Dev} {p : Nat} {l : Lane} {margin corr uncorr inj : Nat}

theorem Dev.port_windowTaken (q : Nat) : (d.windowTaken p l margin corr uncorr inj).port q =
    (d.updLane p l (fun x => (d.windowCounted p l corr uncorr).windowValues x margin (uncorr - inj)
      (d.windowLog x (uncorr - inj)))).port q := by
  have h : (d.windowCounted p l corr uncorr).ports = d.ports := by rw [Dev.windowCounted_frame]
  show tgetD (tset (d.windowCounted p l corr uncorr).ports p _) q {} = _
  unfold Dev.port Dev.lane Dev.port
  rw [h]
  rfl

theorem Dev.lane_windowTaken_same : (d.windowTaken p l margin corr uncorr inj).lane p l =
    (d.windowCounted p l corr uncorr).windowValues (d.lane p l) margin (uncorr - inj)
      (d.windowLog (d.lane p l) (uncorr - inj)) := by
  rw [Dev.lane, Dev.port_windowTaken, ← Dev.lane, Dev.lane_updLane_same]

theorem Dev.lane_windowTaken_other {m : Lane} (h : m ≠ l) :
    (d.windowTaken p l margin corr uncorr inj).lane p m = d.lane p m := by
  rw [Dev.lane, Dev.port_windowTaken, ← Dev.lane, Dev.lane_updLane_other _ _ _ h]

theorem Dev.port_windowTaken_other {q : Nat} (h : q ≠ p) :
    (d.windowTaken p l margin corr uncorr inj).port q = d.port q := by
  rw [Dev.port_windowTaken, Dev.port_updLane_other _ _ _ h]

end

/-- The registers of a lane that its windows count. -/
theorem E.laneCounts_ne (p l : Nat) : E.FEC_CORR_SYMBOLS p l ≠ E.FEC_UNCORR_CW p l ∧ E.MARGIN_MIN p l ≠ E.FEC_CORR_SYMBOLS p l ∧
    E.MARGIN_MIN p l ≠ E.FEC_UNCORR_CW p l ∧ E.PEAK_UNDOS p l ≠ E.MARGIN_MIN p l ∧
    E.PEAK_UNDOS p l ≠ E.FEC_CORR_SYMBOLS p l ∧ E.PEAK_UNDOS p l ≠ E.FEC_UNCORR_CW p l := by
  unfold E.FEC_CORR_SYMBOLS E.FEC_UNCORR_CW E.MARGIN_MIN E.PEAK_UNDOS
  omega

theorem Dev.reg_windowTaken {d : Dev} {p : Nat} {l : Lane} {margin corr uncorr inj : Nat}
    (h : d.reg (E.FEC_UNCORR_CW p l.val) + uncorr < 0xFFFFFFFF) (i : Nat) :
    (d.windowTaken p l margin corr uncorr inj).reg i =
      if i = E.MARGIN_MIN p l.val then min (d.reg (E.MARGIN_MIN p l.val)) margin
      else if i = E.FEC_UNCORR_CW p l.val then d.reg (E.FEC_UNCORR_CW p l.val) + uncorr
      else if i = E.FEC_CORR_SYMBOLS p l.val then (d.reg (E.FEC_CORR_SYMBOLS p l.val) + corr) % 2 ^ 64 else d.reg i := by
  obtain ⟨h1, h2, h3, -, -, -⟩ := E.laneCounts_ne p l.val
  have hu : (d.countN (E.FEC_CORR_SYMBOLS p l.val) corr).reg (E.FEC_UNCORR_CW p l.val) = d.reg (E.FEC_UNCORR_CW p l.val) :=
    (Dev.reg_countN _ _ _ _).trans (if_neg (Ne.symm h1))
  have hlt : (d.countN (E.FEC_CORR_SYMBOLS p l.val) corr).reg (E.FEC_UNCORR_CW p l.val) + uncorr < 0xFFFFFFFF := by rw [hu]; exact h
  unfold Dev.windowTaken
  simp only [Dev.reg_setReg]
  show (if _ then min ((Dev.countErrN _ _ _).reg _) _ else (Dev.countErrN _ _ _).reg _) = _
  rw [Dev.reg_countErrN_of_lt hlt, Dev.reg_countErrN_of_lt hlt, hu, if_neg h3, Dev.reg_countN, Dev.reg_countN, if_neg h2]

theorem Dev.windowTaken_frame {d : Dev} {p : Nat} {l : Lane} {margin corr uncorr inj : Nat} :
    d.windowTaken p l margin corr uncorr inj = { d with
      ports := (d.windowTaken p l margin corr uncorr inj).ports, regs := (d.windowTaken p l margin corr uncorr inj).regs,
      tele := (d.windowTaken p l margin corr uncorr inj).tele, draws := (d.windowTaken p l margin corr uncorr inj).draws } := by
  unfold Dev.windowTaken
  rw [Dev.windowCounted_frame]
  rfl

theorem Dev.updMap_frame (d : Dev) (s : Nat) (f : MapGather → MapGather) :
    d.updMap s f = { d with tele := (d.updMap s f).tele } := by
  unfold Dev.updMap
  simp only []
  split <;> rfl

@[simp] theorem Dev.port_updMap (d : Dev) (s : Nat) (f : MapGather → MapGather) (q : Nat) :
    (d.updMap s f).port q = d.port q := by
  rw [Dev.updMap_frame]; rfl

@[simp] theorem Dev.reg_updMap (d : Dev) (s : Nat) (f : MapGather → MapGather) (k : Nat) : (d.updMap s f).reg k = d.reg k := by
  rw [Dev.updMap_frame]; rfl

/-- The device once a margin window's end on a locked lane has passed its port's values on. -/
def Dev.windowPassed (d : Dev) (p : Port) (l : Lane) (m corr uncorr inj : Nat) : Dev :=
  let d1 := (d.windowEnd p.val l m corr uncorr inj).updPort p.val PortSt.passOn
  d1.updMap (sdieOf p.val) (fun g => g.noteMargin p.val (d1.port p.val).portMargin)

theorem Dev.port_windowPassed (d : Dev) (p : Port) (l : Lane) (m corr uncorr inj : Nat) :
    (d.windowPassed p l m corr uncorr inj).port p.val = ((d.windowEnd p.val l m corr uncorr inj).port p.val).passOn := by
  rw [Dev.windowPassed, Dev.port_updMap, Dev.port_updPort_same]

theorem Dev.windowPassed_frame (d : Dev) (p : Port) (l : Lane) (m corr uncorr inj : Nat) :
    d.windowPassed p l m corr uncorr inj = { d.windowEnd p.val l m corr uncorr inj with
      ports := (d.windowPassed p l m corr uncorr inj).ports, tele := (d.windowPassed p l m corr uncorr inj).tele } := by
  unfold Dev.windowPassed
  rw [Dev.updMap_frame]
  rfl

@[simp] theorem PortSt.lane_passOn (x : PortSt) (l : Lane) : x.passOn.lane l = x.lane l := rfl

theorem exec_marginWindowEnd {s : State} {p : Port} {l : Lane} {m : BitVec 8} {corr : BitVec 32} {u inj : BitVec 16}
    (ht : s.tick % 256 = 0) (hoff : (s.lane p.val l).state ≠ .off) :
    exec (.marginWindowEnd p l m corr u inj) s =
      .next (s.dev (s.toDev.windowPassed p l m.toNat corr.toNat u.toNat inj.toNat)) :=
  run_dev (if_pos (by simp [ht, hoff]))

/-! ## Peaking (R80, R83) -/

theorem LaneSt.undoPeak_of_watch {x : LaneSt} {w : PeakWatch} (h : x.watch = some w) :
    x.undoPeak = { x with peak := w.saved.peak, taps := w.saved.taps, watch := none } := by
  unfold LaneSt.undoPeak
  rw [h]

/-- The start of a period changes no lane but for when its period began. -/
theorem PortSt.lane_beginPeriod {x y : PortSt} {l : Lane} {period now : Nat} (h : x.beginPeriod l period now = some y)
    (k : Lane) : ∃ a, y.lane k = { x.lane k with periodAt := a } ∧ (k ≠ l → y.lane k = x.lane k) := by
  unfold PortSt.beginPeriod at h
  split at h
  · split at h
    · cases h; exact ⟨_, rfl, fun _ => rfl⟩
    · cases h
  · split at h
    · split at h
      · cases h; exact ⟨_, rfl, fun _ => rfl⟩
      · cases h
    · simp only [] at h
      split at h
      · cases h
        by_cases hk : k = l
        · subst hk
          rw [PortSt.lane_setLane_same]
          exact ⟨_, rfl, fun hn => absurd rfl hn⟩
        · rw [PortSt.lane_setLane_other _ _ hk]
          exact ⟨_, rfl, fun _ => rfl⟩
      · cases h

theorem PortSt.beginPeriod_early {x : PortSt} {l : Lane} {b period now : Nat} (hb : x.peakBase = some b)
    (h : now < b + (if l = 0 then period else l.val * period / 4)) : x.beginPeriod l period now = none := by
  unfold PortSt.beginPeriod
  simp only [hb]
  split
  · next hl => rw [if_pos hl] at h; exact if_neg (by omega)
  · next hl => rw [if_neg hl] at h; exact if_neg (by simp; omega)

theorem exec_peakPeriod {s : State} {p : Port} {l : Lane} {x : PortSt}
    (h : (s.port p.val).beginPeriod l (s.reg E.PEAK_PERIOD_TICKS) s.tick = some x) :
    exec (.peakPeriod p l) s = .next (s.dev ((s.toDev.setPort p.val x).peakPeriod p.val l)) := by
  refine run_dev ?_
  simp only [h]

/-- A period on a lane of a port `x`, where peaking is on, the lane is ACTIVE and in no hand-over, trial or watch. -/
theorem Dev.mayPeak_setPort {d : Dev} {p : Nat} {x : PortSt} {l : Lane} (hf : d.flag E.PEAK_ADAPT = true)
    (ha : (x.lane l).state = .active) (hh : x.handover = none) (ht : (x.lane l).trialEnd = none) (hw : (x.lane l).watch = none) :
    (d.setPort p x).mayPeak p l = true := by
  unfold Dev.mayPeak Dev.lane
  rw [Dev.port_setPort_same]
  simp only [hh, ha, ht, hw]
  rw [show (d.setPort p x).flag E.PEAK_ADAPT = true from hf]
  rfl

theorem LaneSt.peakDir_none {x : LaneSt} (h : ∀ up, x.peakOpen up = false) : x.peakDir = none := by
  unfold LaneSt.peakDir
  simp [h]

theorem LaneSt.peakDir_up {x : LaneSt} (hl : x.lastUp = none) (hb : x.blockUp = 0) (hp : x.peak < 31) :
    x.peakDir = some true := by
  unfold LaneSt.peakDir
  simp [hl, LaneSt.peakOpen, peakFits, hb, hp]

/-- The lanes of a port whose values are passed on are those of the window's end. -/
theorem Dev.lane_windowPassed (d : Dev) (p : Port) (l k : Lane) (m corr uncorr inj : Nat) :
    (d.windowPassed p l m corr uncorr inj).lane p.val k = (d.windowEnd p.val l m corr uncorr inj).lane p.val k := by
  rw [Dev.lane, Dev.port_windowPassed, PortSt.lane_passOn, Dev.lane]

theorem Dev.port_windowPassed_other (d : Dev) {p : Port} {q : Nat} (l : Lane) (m corr uncorr inj : Nat) (h : q ≠ p.val) :
    (d.windowPassed p l m corr uncorr inj).port q = (d.windowEnd p.val l m corr uncorr inj).port q := by
  rw [Dev.windowPassed, Dev.port_updMap, Dev.port_updPort_other _ _ h]

theorem Dev.reg_windowPassed (d : Dev) (p : Port) (l : Lane) (m corr uncorr inj k : Nat) :
    (d.windowPassed p l m corr uncorr inj).reg k = (d.windowEnd p.val l m corr uncorr inj).reg k := by
  rw [Dev.windowPassed, Dev.reg_updMap, Dev.reg_updPort]

/-- From a window's values to its end the trial and the watch change one lane and PEAK_UNDOS. -/
theorem Dev.laneStep_windowEnd {d : Dev} {p : Nat} {l : Lane} (h : (d.lane p l).lol = false) (margin corr uncorr inj : Nat) :
    (d.windowTaken p l margin corr uncorr inj).laneStep (d.windowEnd p l margin corr uncorr inj) p l (E.PEAK_UNDOS p l.val) := by
  rw [Dev.windowEnd_locked h]
  exact (Dev.laneStep_trialWindow _ _ _ _).trans (Dev.laneStep_watchWindow _ _ _)

/-- Without a watch the taps of a window's end are the adapted ones. -/
theorem Dev.taps_windowEnd {d : Dev} {p : Nat} {l : Lane} (h : (d.lane p l).lol = false) (hw : (d.lane p l).watch = none)
    (margin corr uncorr inj : Nat) :
    ((d.windowEnd p l margin corr uncorr inj).lane p l).taps = .adapted (Config.freeTaps d.draws) := by
  obtain ⟨h1, h2⟩ := (d.windowTaken p l margin corr uncorr inj).lane_trialWindow p l
  have hdraws : (d.windowCounted p l corr uncorr).draws = d.draws := by rw [Dev.windowCounted_frame]
  have hn : (((d.windowTaken p l margin corr uncorr inj).trialWindow p l).lane p l).watch = none := by
    rw [h1, Dev.lane_windowTaken_same]
    simp only [Dev.windowValues, hw, Option.map_none]
  rw [Dev.windowEnd_locked h, Dev.taps_watchWindow hn, h2, Dev.lane_windowTaken_same, ← hdraws]
  rfl

theorem Dev.windowEnd_frame {d : Dev} {p : Nat} {l : Lane} (h : (d.lane p l).lol = false) (margin corr uncorr inj : Nat) :
    d.windowEnd p l margin corr uncorr inj = { d with
      ports := (d.windowEnd p l margin corr uncorr inj).ports, regs := (d.windowEnd p l margin corr uncorr inj).regs,
      tele := (d.windowEnd p l margin corr uncorr inj).tele, draws := (d.windowEnd p l margin corr uncorr inj).draws } := by
  rw [(Dev.laneStep_windowEnd h _ _ _ _).frame, Dev.windowTaken_frame]

/-- Settles O19: a window's end by `Dev.windowTaken`, its trial and its watch by `Dev.laneStep`, and a period by the step
that `LaneSt.peakDir` allows. -/
theorem marginAndPeaking : Obligations.MarginAndPeaking := by
  unfold Obligations.MarginAndPeaking
  refine ⟨fun s p l m corr u inj ht hoff hlol hu => ?_, fun s p l w hw ht => ?_, fun s p l t0 hg ht ha hr => ?_,
    fun s p l b hb ht => ?_, fun s p l x hx hf ha hh ht hw => ⟨fun hopen => ?_, fun hl hb hp => ?_⟩⟩
  · obtain ⟨h1, h2, h3, h4, h5, h6⟩ := E.laneCounts_ne p.val l.val
    have hstep := Dev.laneStep_windowEnd hlol m.toNat corr.toNat u.toNat inj.toNat
    have hlane := s.toDev.lane_windowPassed p l l m.toNat corr.toNat u.toNat inj.toNat
    have hcount : (s.toDev.windowCounted p.val l corr.toNat u.toNat).tick = s.tick := by rw [Dev.windowCounted_frame]
    have hm : ((s.toDev.windowPassed p l m.toNat corr.toNat u.toNat inj.toNat).lane p.val l).measured =
        ((s.toDev.windowCounted p.val l corr.toNat u.toNat).windowValues (s.lane p.val l) m.toNat (u.toNat - inj.toNat)
          (s.toDev.windowLog (s.lane p.val l) (u.toNat - inj.toNat))).measured := by
      rw [hlane, hstep.measured, Dev.lane_windowTaken_same]
    have hreg : ∀ k, k ≠ E.PEAK_UNDOS p.val l.val → (s.toDev.windowPassed p l m.toNat corr.toNat u.toNat inj.toNat).reg k = _ :=
      fun k hk => (s.toDev.reg_windowPassed p l m.toNat corr.toNat u.toNat inj.toNat k).trans
        ((hstep.reg k hk).trans (Dev.reg_windowTaken hu k))
    refine ⟨s.dev (s.toDev.windowPassed p l m.toNat corr.toNat u.toNat inj.toNat), exec_marginWindowEnd ht hoff,
      congrArg LaneSt.margin hm, congrArg LaneSt.windows hm, ?_, fun hw => ?_, ?_, ?_, ?_,
      (congrArg LaneSt.state hm :), (congrArg LaneSt.rate hm :), ?_, ?_, fun k hk => ?_, fun q hq => ?_, fun k hk => ?_, ?_⟩
    · refine (congrArg (fun y : LaneSt => y.uncorrLog.getLast?) hm :).trans ?_
      exact Dev.getLast?_windowLog _ _ _
    · exact (congrArg LaneSt.taps hlane).trans (Dev.taps_windowEnd hlol hw _ _ _ _)
    · exact (hreg _ (Ne.symm h4)).trans (if_pos rfl)
    · refine (hreg _ (Ne.symm h5)).trans ?_
      rw [if_neg (Ne.symm h2), if_neg h1, if_pos rfl]
    · refine (hreg _ (Ne.symm h6)).trans ?_
      rw [if_neg (Ne.symm h3), if_pos rfl]
    · show ((s.toDev.windowPassed p l m.toNat corr.toNat u.toNat inj.toNat).port p.val).passedCap =
        ((s.toDev.windowPassed p l m.toNat corr.toNat u.toNat inj.toNat).port p.val).capacity
      rw [Dev.port_windowPassed]
      rfl
    · show ((s.toDev.windowPassed p l m.toNat corr.toNat u.toNat inj.toNat).port p.val).passedMargin =
        ((s.toDev.windowPassed p l m.toNat corr.toNat u.toNat inj.toNat).port p.val).portMargin
      rw [Dev.port_windowPassed]
      rfl
    · exact (Dev.lane_windowPassed _ _ _ _ _ _ _ _).trans ((hstep.lane k hk).trans (Dev.lane_windowTaken_other hk))
    · exact (Dev.port_windowPassed_other _ _ _ _ _ _ hq).trans ((hstep.port q hq).trans (Dev.port_windowTaken_other hq))
    · simp only [List.mem_cons, List.not_mem_nil, or_false, not_or] at hk
      obtain ⟨k1, k2, k3, k4⟩ := hk
      refine (hreg k k4).trans ?_
      rw [if_neg k1, if_neg k3, if_neg k2]
    · rw [Dev.windowPassed_frame, Dev.windowEnd_frame hlol]
      rfl
  · refine run_dev ?_
    simp only [hw]
    rw [if_neg (by omega)]
    show s.toDev.updLane p.val l _ = s.toDev.updLane p.val l _
    rw [Dev.updLane_eq, Dev.updLane_eq]
    simp only [LaneSt.undoPeak_of_watch hw]
  · refine run_dev ?_
    simp only [hg]
    rw [if_pos (by simp [ha]; omega), Dev.updLane_eq, LaneSt.store, if_pos hr]
    rfl
  · exact run_dev (by rw [PortSt.beginPeriod_early hb ht])
  · refine (exec_peakPeriod hx).trans ?_
    unfold Dev.peakPeriod
    rw [Dev.mayPeak_setPort hf ha hh ht hw]
    simp only [if_true, Dev.lane, Dev.port_setPort_same, LaneSt.peakDir_none hopen]
    rfl
  · obtain ⟨a, hla, -⟩ := PortSt.lane_beginPeriod hx l
    have hstep : (s.toDev.setPort p.val x).peakPeriod p.val l = ((s.toDev.setPort p.val x).updLane p.val l (fun _ =>
        { x.lane l with
          blockUp := (x.lane l).blockUp - 1, blockDown := (x.lane l).blockDown - 1, peak := (x.lane l).peak + 1,
          taps := s.newTaps, lastUp := some true,
          watch := some { start := s.tick, saved := ⟨(x.lane l).peak, (x.lane l).taps⟩, m0 := (x.lane l).margin,
                          u0 := (x.lane l).uncorrIn s.tick (s.reg E.PEAK_WATCH_TICKS), up := true } })).drew := by
      unfold Dev.peakPeriod
      rw [Dev.mayPeak_setPort hf ha hh ht hw]
      simp only [if_true, Dev.lane, Dev.port_setPort_same, LaneSt.peakDir_up hl hb hp]
      rfl
    have hlane : ∀ y : LaneSt, (((s.toDev.setPort p.val x).updLane p.val l (fun _ => y)).drew).lane p.val l = y :=
      fun y => Dev.lane_updLane_same (s.toDev.setPort p.val x) p.val l (fun _ => y)
    refine ⟨_, (exec_peakPeriod hx).trans (by rw [hstep]), ?_, ?_, ?_,
      ⟨{ start := s.tick, saved := ⟨(x.lane l).peak, (x.lane l).taps⟩, m0 := (x.lane l).margin,
         u0 := (x.lane l).uncorrIn s.tick (s.reg E.PEAK_WATCH_TICKS), up := true }, ?_, rfl, ?_, rfl, ?_⟩,
      fun k hk => ?_, fun q hq => ?_, ?_⟩
    · exact (congrArg LaneSt.peak (hlane _)).trans (by rw [hla]; rfl)
    · exact (congrArg LaneSt.taps (hlane _)).trans rfl
    · exact (congrArg LaneSt.lastUp (hlane _)).trans rfl
    · exact (congrArg LaneSt.watch (hlane _)).trans rfl
    · rw [hla]; rfl
    · rw [hla]; rfl
    · obtain ⟨b, -, hlb⟩ := PortSt.lane_beginPeriod hx k
      rw [State.toDev_dev, Dev.lane_drew, Dev.lane_updLane_other _ _ _ hk, Dev.lane, Dev.port_setPort_same]
      exact hlb hk
    · rw [State.toDev_dev, Dev.port_drew, Dev.port_updLane_other _ _ _ hq, Dev.port_setPort_other _ _ hq]
    · rfl

end Sys2Proof.Machine
end

section
/-! Sequenced cells on their way out (R132, R136, R571), and the hand-over of a lane's rate (R91 to R103). -/

namespace Sys2Proof.Machine

/-! ## Sending a cell -/

/-- A transmitter is idle for its lane's state and injection, the device's power, reset and fence, and the lane's loop. -/
theorem Dev.txIdle_congr {d e : Dev} {p : Nat} {l : Lane} (hp : e.power = d.power) (hs : e.sentry = d.sentry)
    (ht : e.tick = d.tick) (hl : e.lane p l = d.lane p l) (hr : e.reg (E.LOOP p l.val) = d.reg (E.LOOP p l.val)) :
    e.txIdle p l = d.txIdle p l := by
  unfold Dev.txIdle Dev.fenced
  rw [hp, hs, ht, hl, hr]

/-- A cell goes out on a lane whose transmitter is not idle (R117). -/
theorem Dev.sendCell_of_live {d : Dev} {p : Nat} {l : Lane} (h : d.txIdle p l = false) (c : Cell) :
    d.sendCell p l c = d.emit (.cell d.tick (portFin p) l c (cellCrc c) (d.lane p l).txBad) := by
  have hf : d.fenced = false := by
    unfold Dev.txIdle at h
    simp only [Bool.or_eq_false_iff] at h
    obtain ⟨⟨⟨⟨⟨-, hf⟩, -⟩, -⟩, -⟩, -⟩ := h
    exact hf
  unfold Dev.sendCell Dev.emitLive
  simp only [h, hf, Bool.false_eq_true, if_false]

/-! ## Sampling (R571 to R573) -/

/-- The device with a port's counts of sequenced cells for sampling. -/
def Dev.sampCounted (d : Dev) (p a b : Nat) : Dev := d.setPort p { d.port p with sampRx := a, sampTx := b }

/-- A cell that is not sampled leaves the device; another is counted on its port, and may be dropped or queued (R571, R573). -/
theorem Dev.sampleCell_cases (d : Dev) (p : Nat) (tx re : Bool) (l : Lane) (c : Cell) :
    d.sampleCell p tx re l c = d ∨ ∃ a b, d.sampleCell p tx re l c = d.sampCounted p a b ∨
      d.sampleCell p tx re l c = (d.sampCounted p a b).countErr E.SAMPLES_DROPPED ∨
      ∃ t, d.sampleCell p tx re l c = { d.sampCounted p a b with tele := t } := by
  unfold Dev.sampleCell
  dsimp only []
  by_cases hoff : (decide (d.reg E.SAMPLE_SHIFT = 0) || !d.samplePort p ||
      decide (bits (d.reg E.SAMPLE_DIR) (if tx = true then 1 else 0) 1 = 0) ||
      decide (bits (d.reg E.SAMPLE_CLASSES) c.cls 1 = 0)) = true
  · exact .inl (if_pos hoff)
  · rw [if_neg hoff]
    refine .inr ?_
    cases tx <;> simp only [Bool.false_eq_true, if_true, if_false]
    · split
      · exact ⟨_, _, .inl rfl⟩
      · split
        · exact ⟨_, _, .inr (.inl rfl)⟩
        · exact ⟨_, _, .inr (.inr ⟨_, rfl⟩)⟩
    · split
      · exact ⟨_, _, .inl rfl⟩
      · split
        · exact ⟨_, _, .inr (.inl rfl)⟩
        · exact ⟨_, _, .inr (.inr ⟨_, rfl⟩)⟩

theorem Dev.sampleCell_frame (d : Dev) (p : Nat) (tx re : Bool) (l : Lane) (c : Cell) : d.sampleCell p tx re l c =
    { d with ports := (d.sampleCell p tx re l c).ports, regs := (d.sampleCell p tx re l c).regs,
             tele := (d.sampleCell p tx re l c).tele } := by
  rcases d.sampleCell_cases p tx re l c with h | ⟨a, b, h | h | ⟨t, h⟩⟩
  · rw [h]
  · rw [h]; rfl
  · rw [h, Dev.countErr_frame]; rfl
  · rw [h]; rfl

/-- Sampling changes no port but for the counts of the cell's own. -/
theorem Dev.port_sampleCell (d : Dev) (p : Nat) (tx re : Bool) (l : Lane) (c : Cell) :
    (∃ a b, (d.sampleCell p tx re l c).port p = { d.port p with sampRx := a, sampTx := b }) ∧
      ∀ q, q ≠ p → (d.sampleCell p tx re l c).port q = d.port q := by
  rcases d.sampleCell_cases p tx re l c with h | ⟨a, b, h | h | ⟨t, h⟩⟩ <;> rw [h]
  · exact ⟨⟨_, _, rfl⟩, fun _ _ => rfl⟩
  · exact ⟨⟨a, b, Dev.port_setPort_same _ _ _⟩, fun q hq => Dev.port_setPort_other _ _ hq⟩
  · exact ⟨⟨a, b, (Dev.port_countErr _ _ _).trans (Dev.port_setPort_same _ _ _)⟩,
      fun q hq => (Dev.port_countErr _ _ _).trans (Dev.port_setPort_other _ _ hq)⟩
  · exact ⟨⟨a, b, Dev.port_setPort_same _ _ _⟩, fun q hq => Dev.port_setPort_other _ _ hq⟩

@[simp] theorem Dev.lane_sampleCell (d : Dev) (p : Nat) (tx re : Bool) (l : Lane) (c : Cell) (m : Lane) :
    (d.sampleCell p tx re l c).lane p m = d.lane p m := by
  obtain ⟨a, b, h⟩ := (d.port_sampleCell p tx re l c).1
  rw [Dev.lane, h]
  match m with
  | 0 | 1 | 2 | 3 => rfl

theorem Dev.reg_sampleCell_other (d : Dev) (p : Nat) (tx re : Bool) (l : Lane) (c : Cell) {k : Nat}
    (h : k ∉ [E.SAMPLES_DROPPED, E.ANY_SATURATED, E.SATURATION_EVENTS]) : (d.sampleCell p tx re l c).reg k = d.reg k := by
  simp only [List.mem_cons, List.not_mem_nil, or_false, not_or] at h
  obtain ⟨h1, h2, h3⟩ := h
  rcases d.sampleCell_cases p tx re l c with h | ⟨a, b, h | h | ⟨t, h⟩⟩ <;> rw [h]
  · rfl
  · exact Dev.reg_countErr_other _ h1 h2 h3
  · rfl

/-- Sampling is off: nothing is counted (R571). -/
theorem Dev.sampleCell_off {d : Dev} (h : d.reg E.SAMPLE_SHIFT = 0) (p : Nat) (tx re : Bool) (l : Lane) (c : Cell) :
    d.sampleCell p tx re l c = d := by
  unfold Dev.sampleCell
  simp only [h, decide_true, Bool.true_or, if_true]

theorem E.loop_not_sampled (p : Port) (l : Nat) :
    E.LOOP p.val l ∉ [E.SAMPLES_DROPPED, E.ANY_SATURATED, E.SATURATION_EVENTS] := by
  simp only [List.mem_cons, List.not_mem_nil, or_false, not_or]
  unfold E.LOOP E.SAMPLES_DROPPED E.ANY_SATURATED E.SATURATION_EVENTS
  omega

/-! ## Sequenced cells (R132, R136) -/

/-- The cell of the next LSEQ. -/
def Dev.nextCell (d : Dev) (p : Nat) (c : Cell) : Cell := c.setFld 62 14 (d.port p).txLseq

/-- A sequenced cell that fits the window and needs no RPY slot is sent at once. -/
theorem Dev.sendSeq_now {d : Dev} {p : Nat} (h : d.canSend p = true) (hk : (d.port p).kept.length < 1024) (c : Cell) :
    d.sendSeq p c = d.sendNow p c none := by
  unfold Dev.sendSeq
  rw [if_pos h, if_neg (by omega)]

/-- The device once a sequenced cell has its LSEQ and is kept, before it goes out. -/
def Dev.sequenced (d : Dev) (p : Nat) (c : Cell) (slot : Option Nat) : Dev :=
  (d.setPort p { d.port p with
    txLseq := ((d.port p).txLseq + 1) % 16384,
    kept := (d.port p).kept ++ [{ lseq := (d.port p).txLseq, cell := d.nextCell p c, sentAt := d.tick, slot := slot }] }).drew

theorem Dev.sendNow_eq (d : Dev) (p : Nat) (c : Cell) (slot : Option Nat) : d.sendNow p c slot =
    ((d.sequenced p c slot).sampleCell p true false (d.pickLane p) (d.nextCell p c)).sendCell p (d.pickLane p) (d.nextCell p c) :=
  rfl

/-- A port that sends a cell keeps all but its sequence number, what it keeps and its counts for sampling. -/
theorem Dev.port_sendNow (d : Dev) (p : Nat) (c : Cell) (slot : Option Nat) : ∃ n k a b,
    (d.sendNow p c slot).port p = { d.port p with txLseq := n, kept := k, sampRx := a, sampTx := b } := by
  obtain ⟨a, b, h⟩ := ((d.sequenced p c slot).port_sampleCell p true false (d.pickLane p) (d.nextCell p c)).1
  rw [Dev.sendNow_eq, Dev.port_sendCell, h, Dev.sequenced, Dev.port_drew, Dev.port_setPort_same]
  exact ⟨_, _, _, _, rfl⟩

/-- On a lane whose transmitter is not idle the cell goes out with its LSEQ. -/
theorem Dev.out_sendNow {d : Dev} {p : Port} (h : d.txIdle p.val (d.pickLane p.val) = false) (c : Cell) (slot : Option Nat) :
    (d.sendNow p.val c slot).out = d.out ++ [.cell d.tick (portFin p.val) (d.pickLane p.val) (d.nextCell p.val c)
      (cellCrc (d.nextCell p.val c)) (d.lane p.val (d.pickLane p.val)).txBad] := by
  generalize he : (d.sequenced p.val c slot).sampleCell p.val true false (d.pickLane p.val) (d.nextCell p.val c) = e
  have hlane : e.lane p.val (d.pickLane p.val) = d.lane p.val (d.pickLane p.val) := by
    rw [← he, Dev.lane_sampleCell, Dev.sequenced, Dev.lane_drew, Dev.lane, Dev.port_setPort_same, Dev.lane]
    match d.pickLane p.val with
    | 0 | 1 | 2 | 3 => rfl
  have hframe : e = { d with ports := e.ports, regs := e.regs, tele := e.tele, draws := e.draws } := by
    rw [← he, Dev.sampleCell_frame]
    rfl
  have hreg : e.reg (E.LOOP p.val (d.pickLane p.val).val) = d.reg (E.LOOP p.val (d.pickLane p.val).val) := by
    rw [← he]
    exact Dev.reg_sampleCell_other _ _ _ _ _ _ (E.loop_not_sampled p _)
  have hidle : e.txIdle p.val (d.pickLane p.val) = false :=
    (Dev.txIdle_congr (by rw [hframe]) (by rw [hframe]) (by rw [hframe]) hlane hreg).trans h
  have hout : e.out = d.out := by rw [hframe]
  have htick : e.tick = d.tick := by rw [hframe]
  rw [Dev.sendNow_eq, he, Dev.sendCell_of_live hidle, hlane, ← hout, htick]
  rfl

/-! ## A hand-over begins (R91 to R93) -/

/-- The lanes in striping depend on the lanes' states alone. -/
theorem PortSt.striping_congr {x y : PortSt} (h : ∀ l, (x.lane l).state = (y.lane l).state) : x.striping = y.striping := by
  unfold PortSt.striping
  simp only [h]

/-- A lane replaced by one of the same state leaves the striping. -/
theorem PortSt.striping_setLane (x : PortSt) (l : Lane) {v : LaneSt} (h : v.state = (x.lane l).state) :
    (x.setLane l v).striping = x.striping := by
  refine PortSt.striping_congr (fun m => ?_)
  by_cases hm : m = l
  · rw [hm, PortSt.lane_setLane_same, h]
  · rw [PortSt.lane_setLane_other _ _ hm]

/-- A drop to 100 Gbit/s is due on a lane: its margin has stayed low, its port is UP, no hand-over or sleep is under way, and
the lane is not alone (R91, R92). -/
structure Dev.dropDue (d : Dev) (p : Nat) (l : Lane) : Prop where
  up : (d.port p).state = .up
  free : (d.port p).handover = none
  awake : (d.port p).sleepTs = none
  stays : d.power.sleep ≠ .entering
  level : d.reg (E.FABRIC_LEVEL p) ≠ 2
  beside : (d.port p).striping ≠ [l]
  active : (d.lane p l).state = .active
  rate : (d.lane p l).rate = 2
  noOff : (d.lane p l).askOff = false
  auto : d.flag E.LANE_AUTO_RATE = true
  both : d.moduleBoth p = true
  low : ∃ t, (d.lane p l).lowSince = some t ∧ t + d.reg E.DROP_HOLD_TICKS ≤ d.tick

theorem Dev.dropDue.lowTest {d : Dev} {p : Nat} {l : Lane} (h : d.dropDue p l) : d.lowTest (d.lane p l) = true := by
  obtain ⟨t, ht, hle⟩ := h.low
  unfold Dev.lowTest
  simp only [ht, decide_eq_true hle, Bool.or_true]

/-- A change of the lane that keeps what the drop looks at leaves the drop due. -/
theorem Dev.dropDue.updLane {d : Dev} {p : Nat} {l : Lane} (h : d.dropDue p l) {f : LaneSt → LaneSt}
    (hf : ∀ x, (f x).state = x.state ∧ (f x).rate = x.rate ∧ (f x).askOff = x.askOff ∧ (f x).lowSince = x.lowSince) :
    (d.updLane p l f).dropDue p l := by
  obtain ⟨h1, h2, h3, h4⟩ := hf (d.lane p l)
  have hfr := PortSt.setLane_frame (d.port p) l (f (d.lane p l))
  refine ⟨?_, ?_, ?_, h.stays, h.level, ?_, ?_, ?_, ?_, h.auto, ?_, ?_⟩
  · rw [Dev.port_updLane_same, PortSt.setLane_state, h.up]
  · rw [Dev.port_updLane_same, PortSt.setLane_handover, h.free]
  · rw [Dev.port_updLane_same, hfr, h.awake]
  · rw [Dev.port_updLane_same, PortSt.striping_setLane _ _ h1]
    exact h.beside
  · rw [Dev.lane_updLane_same, h1, h.active]
  · rw [Dev.lane_updLane_same, h2, h.rate]
  · rw [Dev.lane_updLane_same, h3, h.noOff]
  · rw [← h.both]
    unfold Dev.moduleBoth Dev.isModule Dev.advert Dev.elecClass
    rw [Dev.port_updLane_same, hfr]
    rfl
  · rw [Dev.lane_updLane_same, h4]
    exact h.low

theorem LaneSt.undoPeak_keeps (x : LaneSt) : x.undoPeak.state = x.state ∧ x.undoPeak.rate = x.rate ∧
    x.undoPeak.askOff = x.askOff ∧ x.undoPeak.lowSince = x.lowSince := by
  unfold LaneSt.undoPeak
  split <;> exact ⟨rfl, rfl, rfl, rfl⟩

/-- A due drop undoes the step under watch and asks for 100 Gbit/s. -/
theorem Dev.dropDue.startHand {d : Dev} {p : Nat} {l : Lane} (h : d.dropDue p l) :
    d.startHand p l = (d.updLane p l LaneSt.undoPeak).askRate p l .g100 false := by
  have hdrop : d.dropUndo p l = d.updLane p l LaneSt.undoPeak := by
    unfold Dev.dropUndo Dev.dropHolds
    simp only [h.active, h.auto, h.lowTest, decide_true, Bool.true_or, Bool.and_self, if_true]
  have hu := h.updLane (f := LaneSt.undoPeak) LaneSt.undoPeak_keeps
  have hfree : (d.updLane p l LaneSt.undoPeak).handFree p = true := by
    unfold Dev.handFree
    simp only [hu.up, hu.free, hu.awake, decide_true, Option.isNone_none, Bool.true_and, bne_iff_ne, ne_eq]
    exact hu.stays
  have hcond : (d.updLane p l LaneSt.undoPeak).handCondition p l = some (.g100, false) := by
    unfold Dev.handCondition
    simp only [hu.active, hu.rate, hu.auto, hu.both, hu.lowTest, hu.noOff, decide_true, Bool.and_self, if_true, Bool.not_true,
      Bool.false_and, Bool.false_eq_true, if_false]
  unfold Dev.startHand
  rw [hdrop]
  simp only [hu.level, hu.beside, hfree, hcond, if_false, Bool.not_true, Bool.false_eq_true, decide_false]

/-- A hand-over asked for is the port's, and nothing goes out yet. -/
theorem Dev.handover_askRate (d : Dev) (p : Nat) (l : Lane) (g : RateTarget) (r : Bool) :
    ((d.askRate p l g r).port p).handover = some
      { lane := l, target := g, ts := d.tick + 256, initiator := true, accepted := false, sendAt := some (d.tick + 1),
        restore := r } := by
  unfold Dev.askRate
  rw [Dev.port_updPort_same]

theorem exec_laneRateReqSend {s : State} {p : Port} {l : Lane} (h : (s.lane p.val l).retryAt = none) :
    exec (.laneRateReqSend p l) s = .next (s.dev (s.toDev.startHand p.val l)) :=
  run_dev (if_neg (by rw [h]; simp))

theorem exec_handoverRetry {s : State} {p : Port} {l : Lane} {r : Nat} (h : (s.lane p.val l).retryAt = some r)
    (hr : r ≤ s.tick) : exec (.handoverRetry p l) s =
      .next (s.dev ((s.toDev.updLane p.val l (fun y => { y with retryAt := none })).startHand p.val l)) := by
  refine run_dev ?_
  simp only [h]
  exact if_neg (by omega)

/-! ## The request and its answer (R93 to R97) -/

/-- The port with its request on its way. -/
def Dev.requestSent (d : Dev) (p : Nat) (h : Handover) : Dev :=
  d.setPort p { d.port p with handover := some { h with sendAt := none } }

theorem Dev.sendRequest_due {d : Dev} {p : Nat} {h : Handover} {t : Nat} (hh : (d.port p).handover = some h)
    (ht : h.sendAt = some t) (hle : t ≤ d.tick) :
    d.sendRequest p = (d.requestSent p h).sendLocal p 0x01 (rateReqPayload h.lane h.target h.ts) := by
  unfold Dev.sendRequest
  simp only [hh, ht]
  exact if_neg (by omega)

theorem Dev.sendRequest_early {d : Dev} {p : Nat} {h : Handover} {t : Nat} (hh : (d.port p).handover = some h)
    (ht : h.sendAt = some t) (hlt : d.tick < t) : d.sendRequest p = d := by
  unfold Dev.sendRequest
  simp only [hh, ht]
  exact if_pos hlt

/-- The hand-over of a port makes no lane's transmitter idle and picks no lane. -/
theorem Dev.lane_requestSent (d : Dev) (p : Nat) (h : Handover) (l : Lane) : (d.requestSent p h).lane p l = d.lane p l := by
  rw [Dev.lane, Dev.requestSent, Dev.port_setPort_same]
  rfl

theorem Dev.pickLane_requestSent (d : Dev) (p : Nat) (h : Handover) : (d.requestSent p h).pickLane p = d.pickLane p := by
  unfold Dev.pickLane Dev.requestSent
  rw [Dev.port_setPort_same]
  rfl

/-- The request goes out where the window takes it: what the port keeps of its hand-over, and the cell. -/
theorem Dev.sendRequest_sent {d : Dev} {p : Port} {h : Handover} {t : Nat} (hh : (d.port p.val).handover = some h)
    (ht : h.sendAt = some t) (hle : t ≤ d.tick) (hc : d.canSend p.val = true) (hk : (d.port p.val).kept.length < 1024)
    (hi : d.txIdle p.val (d.pickLane p.val) = false) :
    let c := (mkCtl tCtrl (d.peerAddr p.val) (d.ownAddr 0xFF) 0x01 0 (rateReqPayload h.lane h.target h.ts)).setFld 62 14
      (d.port p.val).txLseq
    ((d.sendRequest p.val).port p.val).handover = some { h with sendAt := none } ∧
      (d.sendRequest p.val).out = d.out ++ [.cell d.tick (portFin p.val) (d.pickLane p.val) c (cellCrc c)
        (d.lane p.val (d.pickLane p.val)).txBad] := by
  have hport : (d.requestSent p.val h).port p.val = { d.port p.val with handover := some { h with sendAt := none } } :=
    Dev.port_setPort_same _ _ _
  have hcan : (d.requestSent p.val h).canSend p.val = true := by
    rw [← hc]
    unfold Dev.canSend Dev.window Dev.isModule Dev.elecClass
    rw [hport]
    rfl
  have hidle : (d.requestSent p.val h).txIdle p.val ((d.requestSent p.val h).pickLane p.val) = false := by
    rw [Dev.pickLane_requestSent]
    exact (Dev.txIdle_congr (d := d) (e := d.requestSent p.val h) rfl rfl rfl (Dev.lane_requestSent _ _ _ _) rfl).trans hi
  have hsend : d.sendRequest p.val = (d.requestSent p.val h).sendNow p.val (mkCtl tCtrl (d.peerAddr p.val) (d.ownAddr 0xFF) 0x01 0
      (rateReqPayload h.lane h.target h.ts)) none := by
    rw [Dev.sendRequest_due hh ht hle]
    exact Dev.sendSeq_now hcan (by rw [hport]; exact hk) _
  refine ⟨?_, ?_⟩
  · obtain ⟨n, k, a, b, he⟩ := (d.requestSent p.val h).port_sendNow p.val (mkCtl tCtrl (d.peerAddr p.val) (d.ownAddr 0xFF) 0x01 0
      (rateReqPayload h.lane h.target h.ts)) none
    rw [hsend, he, hport]
  · rw [hsend, Dev.out_sendNow hidle, Dev.lane_requestSent, Dev.pickLane_requestSent, Dev.nextCell, hport]
    rfl

theorem exec_laneRateReq {s : State} {p : Port} {c : Cell} {g : RateTarget} (h : targetOf (c.pay 1 1) = some g) :
    let d := s.toDev.yieldRequest p.val
    let a := d.rateAnswer p.val (Fin.ofNat 4 (c.pay 0 1)) g (c.pay 2 8)
    exec (.laneRateReq p c) s = .next (s.dev ((if a = 0 then d.updPort p.val (fun x => { x with
        handover := some { lane := Fin.ofNat 4 (c.pay 0 1), target := g, ts := c.pay 2 8, initiator := false, accepted := true } })
      else d).sendLocal p.val 0x02 (beBytes 1 (Fin.ofNat 4 (c.pay 0 1)).val ++ beBytes 1 a))) := by
  refine run_dev ?_
  simp only [h]

/-- What the initiator does with the answer `a` to its request (R96). -/
def Dev.answered (d : Dev) (p : Nat) (h : Handover) (a : Nat) : Dev :=
  if a = 0 then d.updPort p (fun x => { x with handover := some { h with accepted := true } })
  else
    let d1 := d.updPort p (fun x => { x with handover := none })
    if a = 1 || a = 2 then d1.updLane p h.lane (fun y => { y with retryAt := some (d.tick + 256) })
    else if a = 3 then
      match h.target with
      | .g100 =>
        let d2 := d1.updLane p h.lane (fun y => { y with askOff := true })
        if (d2.port p).striping = [h.lane] then d2 else d2.askRate p h.lane .off false
      | .g200 => d1.updLane p h.lane (fun y => { y with noRestore := true })
      | .off => d1
    else d1

theorem exec_laneRateAns {s : State} {p : Port} {c : Cell} {h : Handover} (hh : (s.port p.val).handover = some h)
    (hi : h.initiator = true) (ha : h.accepted = false) (hs : h.sendAt = none) (hl : h.lane.val = c.pay 0 1) :
    exec (.laneRateAns p c) s = .next (s.dev (s.toDev.answered p.val h (c.pay 1 1))) := by
  refine run_dev ?_
  simp only [hh]
  exact if_neg (by simp [hi, ha, hs, hl])

/-- A port that has ended its hand-over, with a lane changed. -/
theorem Dev.updLane_unhanded (d : Dev) (p : Nat) (l : Lane) (f : LaneSt → LaneSt) :
    (d.updPort p (fun x => { x with handover := none })).updLane p l f =
      (d.setPort p { d.port p with handover := none }).updLane p l (fun _ => f (d.lane p l)) := by
  have hl : (d.updPort p (fun x => { x with handover := none })).lane p l = d.lane p l := by
    rw [Dev.lane, Dev.port_updPort_same]
    rfl
  rw [Dev.updLane_eq, hl, Dev.updLane_eq]
  rfl

/-- Settles O20: a due drop by `Dev.dropDue.startHand`, the request by `Dev.sendRequest_sent`, and the answers by
`exec_laneRateReq` and `exec_laneRateAns`. -/
theorem rateHandOverRequests : Obligations.RateHandOverRequests := by
  unfold Obligations.RateHandOverRequests
  refine ⟨fun s p l t0 hup hfree hawake hstays hlv hbeside hact hrate hoff hauto hboth hlow hle => ?_, fun s p l g r => ?_,
    fun s p h t0 hh ht => ⟨fun hlt => Dev.sendRequest_early hh ht hlt, fun hle hc hk hf hi => ?_⟩, fun s p h hh hi ha hlt => ?_,
    fun s p c hc => ?_, fun s p c g hg => ?_, fun s p c h hh hi ha hs hl => ?_⟩
  · have hdue : s.toDev.dropDue p.val l :=
      ⟨hup, hfree, hawake, hstays, hlv, hbeside, hact, hrate, hoff, hauto, hboth, t0, hlow, hle⟩
    refine ⟨fun hr => ?_, fun r hr hrt => ?_⟩
    · rw [exec_laneRateReqSend hr, hdue.startHand]
    · rw [exec_handoverRetry hr hrt, Dev.dropDue.startHand]
      exact hdue.updLane (fun _ => ⟨rfl, rfl, rfl, rfl⟩)
  · exact ⟨Dev.handover_askRate _ _ _ _ _, rfl⟩
  · exact ⟨_, rfl, Dev.sendRequest_sent hh ht hle hc hk hi⟩
  · unfold Dev.yieldRequest
    rw [Dev.port_updPort_same, hh]
    simp [hi, ha, hlt]
  · refine run_dev ?_
    simp only [hc]
  · intro d a
    refine ⟨fun h0 => ?_, fun h0 => ?_⟩
    · rw [exec_laneRateReq hg, if_pos h0]
      simp only [d, a] at h0
      rw [h0]
      rfl
    · rw [exec_laneRateReq hg, if_neg h0]
      rfl
  · rw [exec_laneRateAns hh hi ha hs hl]
    unfold Dev.answered
    refine ⟨fun h0 => ?_, fun h12 => ?_, fun h3 hg => ?_, fun h3 hg => ?_⟩
    · rw [if_pos h0]
      rfl
    · rw [if_neg (by omega), if_pos (by simpa using h12), Dev.updLane_unhanded]
      rfl
    · simp only [h3, hg]
      rw [if_neg (by decide), if_neg (by decide), if_pos trivial, Dev.updLane_unhanded]
      rfl
    · simp only [h3, hg]
      rw [if_neg (by decide), if_neg (by decide), if_pos trivial, Dev.updLane_unhanded,
        Dev.port_updLane_same, PortSt.striping_setLane _ _ ?_, Dev.port_setPort_same]
      · by_cases hx : (s.port p.val).striping = [h.lane]
        · rw [if_pos hx]
          exact congrArg (fun e => Host.Outcome.next (s.dev e)) (if_pos hx)
        · rw [if_neg hx]
          exact congrArg (fun e => Host.Outcome.next (s.dev e)) (if_neg hx)
      · rw [Dev.port_setPort_same]
        rfl

end Sys2Proof.Machine
end

section
/-! The switch tick, the join tick and the trial of a hand-over (R93, R98 to R103). -/

namespace Sys2Proof.Machine

/-! ## The switch tick (R93, R98) -/

/-- A failed lane's own hand-over is over. -/
theorem Dev.handover_failLane_own {d : Dev} {p : Nat} {h : Handover} (hh : (d.port p).handover = some h) :
    ((d.failLane p h.lane).port p).handover = none := by
  rw [Dev.failLane_eq, Dev.port_linkEvent, Dev.handover_gapCheck, Dev.port_setPort_same, PortSt.failed, PortSt.handover_recheck]
  simp only [hh, if_true]

theorem Dev.sendPark_frame (d : Dev) (p : Nat) (l : Lane) : d.sendPark p l = { d with out := (d.sendPark p l).out } :=
  Dev.sendCell_frame _ _ _ _

/-- The counter of a hand-over's target (R93). -/
def rateCounter (p : Nat) (h : Handover) : Nat :=
  match h.target with
  | .g200 => E.RATE_RESTORES p h.lane.val
  | .g100 | .off => E.RATE_DROPS p h.lane.val

/-- The device with the PARK of a lane in striping sent. -/
def Dev.parkSent (d : Dev) (p : Nat) (l : Lane) : Dev := if (d.lane p l).state = .active then d.sendPark p l else d

theorem Dev.parkSent_frame (d : Dev) (p : Nat) (l : Lane) : d.parkSent p l = { d with out := (d.parkSent p l).out } := by
  unfold Dev.parkSent
  split
  · rw [Dev.sendPark_frame]
  · rfl

/-- The port of an accepted hand-over once its lane has left striping. -/
def Dev.parkedPort (d : Dev) (p : Nat) (h : Handover) : PortSt :=
  (d.port p).parkLane h (d.joinTick p h.ts) (d.elecClass p) d.tick

/-- The device once the lane of an accepted hand-over has left striping, before its link event or its module's retuning. -/
def Dev.retuned (d : Dev) (p : Nat) (h : Handover) : Dev :=
  (((d.parkSent p h.lane).count (rateCounter p h)).setPort p (d.parkedPort p h)).gapCheck p

theorem Dev.park_accepted {d : Dev} {p : Nat} {h : Handover} (ha : h.accepted = true) : d.park p h =
    match h.target with
    | .off => (d.retuned p h).linkEvent p
    | .g200 => (d.retuned p h).moduleRate p h.lane 2
    | .g100 => (d.retuned p h).moduleRate p h.lane 1 := by
  have hp : (d.parkSent p h.lane).port p = d.port p := by rw [Dev.parkSent_frame]; rfl
  unfold Dev.park Dev.retuned Dev.parkedPort rateCounter
  rw [← hp]
  simp only [ha, Bool.not_true, Bool.false_eq_true, if_false]
  cases h.target <;> rfl

section
variable (d : Dev) (p : Nat) (h : Handover)

theorem Dev.port_retuned_other {q : Nat} (hq : q ≠ p) : (d.retuned p h).port q = d.port q := by
  rw [Dev.retuned, Dev.port_gapCheck_other _ hq, Dev.port_setPort_other _ _ hq, Dev.port_count, Dev.parkSent_frame]
  rfl

theorem Dev.lane_retuned (l : Lane) : (d.retuned p h).lane p l = (d.parkedPort p h).lane l := by
  rw [Dev.lane, Dev.retuned, Dev.lane_gapCheck, Dev.port_setPort_same]

theorem Dev.handover_retuned : ((d.retuned p h).port p).handover = (d.parkedPort p h).handover := by
  rw [Dev.retuned, Dev.handover_gapCheck, Dev.port_setPort_same]

theorem Dev.passedCap_retuned (hc : (d.parkedPort p h).passedCap = (d.parkedPort p h).capacity) :
    ((d.retuned p h).port p).passedCap = ((d.retuned p h).port p).capacity := by
  obtain ⟨g, n, k, f, a, he⟩ := (((d.parkSent p h.lane).count (rateCounter p h)).setPort p (d.parkedPort p h)).port_gapCheck_same p
  rw [Dev.retuned, he, Dev.port_setPort_same]
  exact hc

theorem Dev.reg_retuned {k : Nat} (hk : k ≠ E.GAPS p) : (d.retuned p h).reg k =
    if k = rateCounter p h then (d.reg k + 1) % 2 ^ 64 else d.reg k := by
  rw [Dev.retuned, Dev.reg_gapCheck_other _ hk, Dev.reg_setPort, Dev.reg_count, Dev.parkSent_frame]
  split
  · next he => rw [he]; rfl
  · rfl

theorem Dev.retuned_frame : d.retuned p h =
    { d with ports := (d.retuned p h).ports, regs := (d.retuned p h).regs, out := (d.retuned p h).out } := by
  rw [Dev.retuned, Dev.gapCheck_frame, Dev.parkSent_frame]
  rfl

end

@[simp] theorem PortSt.striping_recheck (x old : PortSt) (now : Nat) : (x.recheck old now).striping = x.striping :=
  PortSt.striping_congr (fun l => by rw [PortSt.lane_recheck])

@[simp] theorem PortSt.capacity_recheck (x old : PortSt) (now : Nat) : (x.recheck old now).capacity = x.capacity := by
  unfold PortSt.capacity
  simp only [PortSt.striping_recheck, PortSt.lane_recheck]

@[simp] theorem PortSt.passedCap_recheck (x old : PortSt) (now : Nat) : (x.recheck old now).passedCap = x.passedCap := by
  unfold PortSt.recheck
  split <;> rfl

/-- A port that passes its capacity on. -/
theorem PortSt.passedCap_eq_capacity (x old : PortSt) (now : Nat) :
    (({ x with passedCap := x.capacity } : PortSt).recheck old now).passedCap =
      (({ x with passedCap := x.capacity } : PortSt).recheck old now).capacity := by
  rw [PortSt.passedCap_recheck, PortSt.capacity_recheck]
  rfl

/-- The lanes of a port whose passed capacity and hand-over change. -/
@[simp] theorem PortSt.lane_withPassed (x : PortSt) (n : Nat) (l : Lane) : ({ x with passedCap := n } : PortSt).lane l = x.lane l :=
  rfl

section
variable (x : PortSt) (h : Handover) (tj cls now : Nat)

theorem PortSt.lane_parkLane_off (ht : h.target = .off) : ((x.parkLane h tj cls now).lane h.lane).state = .failed := by
  refine (congrArg LaneSt.state (PortSt.lane_recheck _ _ _ _)).trans ?_
  rw [ht]
  exact congrArg LaneSt.state (PortSt.lane_setLane_same _ _ _)

theorem PortSt.lane_parkLane_on (ht : h.target ≠ .off) : ((x.parkLane h tj cls now).lane h.lane).state = .parked ∧
    ((x.parkLane h tj cls now).lane h.lane).rate = targetCode h.target := by
  have hl : (x.parkLane h tj cls now).lane h.lane = _ := PortSt.lane_recheck _ _ _ _
  rw [hl]
  cases hg : h.target with
  | off => exact absurd hg ht
  | g200 => exact ⟨congrArg LaneSt.state (PortSt.lane_setLane_same _ _ _), congrArg LaneSt.rate (PortSt.lane_setLane_same _ _ _)⟩
  | g100 => exact ⟨congrArg LaneSt.state (PortSt.lane_setLane_same _ _ _), congrArg LaneSt.rate (PortSt.lane_setLane_same _ _ _)⟩

theorem PortSt.lane_parkLane_other {l : Lane} (hl : l ≠ h.lane) : (x.parkLane h tj cls now).lane l = x.lane l := by
  refine (PortSt.lane_recheck _ _ _ _).trans ?_
  cases h.target <;> exact PortSt.lane_setLane_other _ _ hl

theorem PortSt.handover_parkLane : (x.parkLane h tj cls now).handover =
    if h.target = .off then none else some { h with tj := some tj } := by
  unfold PortSt.parkLane
  rw [PortSt.handover_recheck]
  cases h.target <;> rfl

theorem PortSt.passedCap_parkLane : (x.parkLane h tj cls now).passedCap = (x.parkLane h tj cls now).capacity :=
  PortSt.passedCap_eq_capacity _ _ _

end

theorem exec_handoverPark {s : State} {p : Port} {h : Handover} (hh : (s.port p.val).handover = some h) (htj : h.tj = none)
    (hts : h.ts ≤ s.tick) : exec (.handoverPark p) s = .next (s.dev (s.toDev.park p.val h)) := by
  refine run_dev ?_
  simp only [hh]
  exact if_neg (by simp [htj]; omega)

theorem E.rateCounters_ne (p : Port) (l : Nat) : E.RATE_DROPS p.val l ≠ E.GAPS p.val ∧ E.RATE_RESTORES p.val l ≠ E.GAPS p.val := by
  unfold E.RATE_DROPS E.RATE_RESTORES E.GAPS
  omega

/-! ## The join tick (R93, R99, R100) -/

theorem exec_handoverJoin {s : State} {p : Port} {h : Handover} {tj : Nat} (hh : (s.port p.val).handover = some h)
    (htj : h.tj = some tj) (hle : tj ≤ s.tick) : exec (.handoverJoin p) s = .next (s.dev (s.toDev.joinLane p.val h tj)) := by
  refine run_dev ?_
  simp only [hh, htj]
  exact if_neg (by omega)

section
variable (x : PortSt) (h : Handover) (trialTo now : Nat)

theorem PortSt.lane_joinHand_same : (x.joinHand h trialTo now).lane h.lane =
    { (x.lane h.lane).join (targetCode h.target) with trialEnd := if h.target = .g200 then some trialTo else none } := by
  exact (PortSt.lane_recheck _ _ _ _).trans (PortSt.lane_setLane_same _ _ _)

theorem PortSt.lane_joinHand_other {l : Lane} (hl : l ≠ h.lane) : (x.joinHand h trialTo now).lane l = x.lane l := by
  exact (PortSt.lane_recheck _ _ _ _).trans (PortSt.lane_setLane_other _ _ hl)

theorem PortSt.handover_joinHand : (x.joinHand h trialTo now).handover = none := by
  unfold PortSt.joinHand
  rw [PortSt.handover_recheck]

theorem PortSt.passedCap_joinHand : (x.joinHand h trialTo now).passedCap = (x.joinHand h trialTo now).capacity :=
  PortSt.passedCap_eq_capacity _ _ _

end

/-- With both ends ready the lane joins. -/
theorem Dev.joinLane_ready {d : Dev} {p : Nat} {h : Handover} {tj : Nat} (hs : h.readySent = true) (hr : h.readyRcvd = true) :
    d.joinLane p h tj = d.setPort p ((d.port p).joinHand h (tj + d.reg E.RESTORE_TRIAL_TICKS) d.tick) := by
  unfold Dev.joinLane
  simp only [hs, hr, Bool.and_self, if_true]
  rfl

/-- A port put back with the class it holds stays of its class. -/
theorem Dev.isModule_setPort (d : Dev) (p : Nat) {x : PortSt} (h : x.heldClass = (d.port p).heldClass) :
    (d.setPort p x).isModule p = d.isModule p := by
  unfold Dev.isModule Dev.elecClass
  rw [Dev.port_setPort_same, h]
  rfl

/-- The port of a restore that was not ready at its join tick: it goes on to 100 Gbit/s (R99). -/
def Dev.fallenBack (d : Dev) (p : Nat) (h : Handover) (tj : Nat) : PortSt :=
  { (d.port p).setLane h.lane { (((d.port p).lane h.lane).fresh.load 1 (d.elecClass p)) with
      rate := 1, trailing := ((d.port p).lane h.lane).trailing } with
    handover := some { h with target := .g100, tj := some (tj + 5000), readySent := false, readyRcvd := false } }

theorem Dev.joinLane_restore {d : Dev} {p : Nat} {h : Handover} {tj : Nat} (hr : (h.readySent && h.readyRcvd) = false)
    (hg : h.target = .g200) (hm : d.isModule p = false) : d.joinLane p h tj = d.setPort p (d.fallenBack p h tj) := by
  have hc : (d.setPort p (d.fallenBack p h tj)).isModule p = false := by
    rw [Dev.isModule_setPort _ _ (by rw [Dev.fallenBack, PortSt.setLane_frame]), hm]
  unfold Dev.joinLane
  rw [if_neg (by simp [hr]), if_pos hg]
  exact Dev.moduleRate_of_cable hc _ _

theorem LaneSt.load_state (x : LaneSt) (rate cls : Nat) : (x.load rate cls).state = x.state := by
  unfold LaneSt.load
  dsimp only []
  split <;> rfl

/-- A lane asked for 100 Gbit/s that is not ready at its join tick fails (R99). -/
theorem Dev.joinLane_drop {d : Dev} {p : Nat} {h : Handover} {tj : Nat} (hr : (h.readySent && h.readyRcvd) = false)
    (hg : h.target = .g100) : d.joinLane p h tj =
      (d.setPort p { (d.port p).setLane h.lane ((d.port p).lane h.lane).fail with handover := none }).linkEvent p := by
  unfold Dev.joinLane
  rw [if_neg (by simp [hr]), if_neg (by rw [hg]; decide)]
  rfl

theorem rateCounter_ne_gaps (p : Port) (h : Handover) : rateCounter p.val h ≠ E.GAPS p.val := by
  obtain ⟨h1, h2⟩ := E.rateCounters_ne p h.lane.val
  unfold rateCounter
  split
  · exact h2
  · exact h1
  · exact h1

/-- At the switch tick only the target's counter and the gaps change among the registers. -/
theorem Dev.reg_retuned_other (d : Dev) (p : Nat) (h : Handover) {k : Nat} (h1 : k ≠ rateCounter p h) (h2 : k ≠ E.GAPS p) :
    (d.retuned p h).reg k = d.reg k := by
  rw [Dev.reg_retuned _ _ _ h2, if_neg h1]

theorem Dev.reg_retuned_counter (d : Dev) (p : Port) (h : Handover) :
    (d.retuned p.val h).reg (rateCounter p.val h) = (d.reg (rateCounter p.val h) + 1) % 2 ^ 64 := by
  rw [Dev.reg_retuned _ _ _ (rateCounter_ne_gaps p h), if_pos rfl]

theorem Dev.lane_retuned_other (d : Dev) (p : Nat) (h : Handover) {k : Lane} (hk : k ≠ h.lane) :
    (d.retuned p h).lane p k = d.lane p k := by
  rw [Dev.lane_retuned, Dev.parkedPort, PortSt.lane_parkLane_other _ _ _ _ _ hk, Dev.lane]

/-- Settles O21: the switch tick by `Dev.retuned`, the join tick by `PortSt.joinHand` and its three other outcomes. -/
theorem rateHandOverSwitches : Obligations.RateHandOverSwitches := by
  unfold Obligations.RateHandOverSwitches
  refine ⟨fun s p h hh htj hts => ?_, fun s p h tj hh htj => ?_, fun s p c h hh hl => ?_, fun s p l e he hle => ?_⟩
  · have hexec := exec_handoverPark hh htj hts
    have hcap := s.toDev.passedCap_retuned p.val h (PortSt.passedCap_parkLane _ _ _ _ _)
    refine ⟨fun ha hact => ?_, fun ha hact => ?_, fun ha ho => ?_, fun ha ho hm => ?_⟩
    · have hp : s.toDev.park p.val h = s.toDev.failLane p.val h.lane := by
        unfold Dev.park Dev.endUnaccepted
        rw [ha, if_pos hact]
        rfl
      rw [hp] at hexec
      refine ⟨_, hexec, ?_, Dev.handover_failLane_own hh, fun k hk => Dev.lane_failLane_other _ _ hk,
        fun q hq => Dev.port_failLane_other _ _ hq, fun k hk => Dev.reg_failLane_other _ _ (by simpa using hk), ?_, ?_⟩
      · exact congrArg LaneSt.state (Dev.lane_failLane_same _ _ _)
      · exact congrArg Dev.arrivals (Dev.failLane_frame _ _ _)
      · rw [Dev.failLane_frame]
        rfl
    · have hp : s.toDev.park p.val h = s.toDev.setPort p.val { s.port p.val with handover := none } := by
        unfold Dev.park Dev.endUnaccepted
        rw [ha, if_neg hact]
        rfl
      rwa [hp] at hexec
    · have hc : rateCounter p.val h = E.RATE_DROPS p.val h.lane.val := by unfold rateCounter; rw [ho]
      rw [Dev.park_accepted ha, ho] at hexec
      refine ⟨_, hexec, ?_, ?_, ?_, hcap, fun k hk => Dev.lane_retuned_other _ _ _ hk, fun q hq => Dev.port_retuned_other _ _ _ hq,
        fun k hk => ?_, ?_⟩
      · exact (congrArg LaneSt.state (s.toDev.lane_retuned p.val h h.lane)).trans (PortSt.lane_parkLane_off _ _ _ _ _ ho)
      · rw [State.toDev_dev, Dev.port_linkEvent, Dev.handover_retuned, Dev.parkedPort, PortSt.handover_parkLane, if_pos ho]
      · rw [← hc, State.toDev_dev, Dev.reg_linkEvent, Dev.reg_retuned_counter]
      · simp only [List.mem_cons, List.not_mem_nil, or_false, not_or] at hk
        obtain ⟨h1, h2⟩ := hk
        rw [State.toDev_dev, Dev.reg_linkEvent, Dev.reg_retuned_other _ _ _ (hc ▸ h1) h2]
      · rw [Dev.linkEvent_frame, Dev.retuned_frame]
        rfl
    · obtain ⟨r, hpark⟩ : ∃ r, s.toDev.park p.val h = (s.toDev.retuned p.val h).moduleRate p.val h.lane r := by
        rw [Dev.park_accepted ha]
        cases hg : h.target with
        | off => exact absurd hg ho
        | g200 => exact ⟨2, rfl⟩
        | g100 => exact ⟨1, rfl⟩
      have hport : ∀ q, ((s.toDev.park p.val h).port q) = (s.toDev.retuned p.val h).port q := fun q => by
        rw [hpark, Dev.port_moduleRate]
      have hlane : ∀ k, (s.toDev.park p.val h).lane p.val k = (s.toDev.retuned p.val h).lane p.val k := fun k => by
        rw [Dev.lane, hport, Dev.lane]
      have hreg : ∀ k, (s.toDev.park p.val h).reg k = (s.toDev.retuned p.val h).reg k := fun k => by
        rw [hpark, Dev.moduleRate_frame]
        rfl
      have hjoin : s.toDev.joinTick p.val h.ts = h.ts + 5000 := by
        unfold Dev.joinTick
        rw [if_neg (by rw [hm]; decide)]
      have hon := PortSt.lane_parkLane_on (s.port p.val) h (s.toDev.joinTick p.val h.ts) (s.toDev.elecClass p.val) s.tick ho
      refine ⟨_, hexec, ?_, ?_, ?_, ?_, fun hg => ?_, fun hg => ?_, fun k hk => ?_, fun q hq => ?_, fun k hk => ?_, ?_⟩
      · exact (congrArg LaneSt.state ((hlane _).trans (s.toDev.lane_retuned p.val h h.lane))).trans hon.1
      · exact (congrArg LaneSt.rate ((hlane _).trans (s.toDev.lane_retuned p.val h h.lane))).trans hon.2
      · rw [State.toDev_dev, hport, Dev.handover_retuned, Dev.parkedPort, PortSt.handover_parkLane, if_neg ho, hjoin]
      · rw [State.toDev_dev, hport, hcap]
      · have hc : rateCounter p.val h = E.RATE_DROPS p.val h.lane.val := by unfold rateCounter; rw [hg]
        rw [← hc]
        exact (hreg _).trans (Dev.reg_retuned_counter _ _ _)
      · have hc : rateCounter p.val h = E.RATE_RESTORES p.val h.lane.val := by unfold rateCounter; rw [hg]
        rw [← hc]
        exact (hreg _).trans (Dev.reg_retuned_counter _ _ _)
      · exact (hlane k).trans (Dev.lane_retuned_other _ _ _ hk)
      · exact (hport q).trans (Dev.port_retuned_other _ _ _ hq)
      · simp only [List.mem_cons, List.not_mem_nil, or_false, not_or] at hk
        obtain ⟨h1, h2, h3⟩ := hk
        refine (hreg k).trans (Dev.reg_retuned_other _ _ _ ?_ h3)
        unfold rateCounter
        cases h.target
        · exact h2
        · exact h1
        · exact h1
      · rw [hpark, Dev.moduleRate_frame, Dev.retuned_frame]
        rfl
  · refine ⟨fun hr hlol hw hm => ?_, fun hle hs hr hg => ?_, fun hle hs hr hg => ?_, fun hle hr hg hm => ?_,
      fun hle hr hg => ?_⟩
    · refine run_dev ?_
      simp only [hh]
      exact if_pos (by simp [htj, hr, hlol, hw, hm])
    · have hexec := exec_handoverJoin hh htj hle
      rw [Dev.joinLane_ready hs hr] at hexec
      refine ⟨_, hexec, ?_, ?_, ?_, fun k hk => ?_, fun q hq => Dev.port_setPort_other _ _ hq, rfl⟩
      · rw [State.toDev_dev, Dev.port_setPort_same, PortSt.handover_joinHand]
      · rw [State.toDev_dev, Dev.lane, Dev.port_setPort_same, PortSt.lane_joinHand_same, hg]
        rfl
      · rw [State.toDev_dev, Dev.port_setPort_same, PortSt.passedCap_joinHand]
      · rw [State.toDev_dev, Dev.lane, Dev.port_setPort_same, PortSt.lane_joinHand_other _ _ _ _ hk, Dev.lane]
    · have hexec := exec_handoverJoin hh htj hle
      rw [Dev.joinLane_ready hs hr] at hexec
      have hlane := PortSt.lane_joinHand_same (s.port p.val) h (tj + s.reg E.RESTORE_TRIAL_TICKS) s.tick
      have hset : ∀ x : PortSt, (s.dev (s.toDev.setPort p.val x)).lane p.val h.lane = x.lane h.lane := fun x => by
        rw [State.toDev_dev, Dev.lane, Dev.port_setPort_same]
      refine ⟨_, hexec, ?_, ?_, ?_, ?_, ?_, fun k hk => ?_, fun q hq => Dev.port_setPort_other _ _ hq, rfl⟩
      · rw [State.toDev_dev, Dev.port_setPort_same, PortSt.handover_joinHand]
      · rw [hset, hlane]
        rfl
      · rw [hset, hlane, hg]
        rfl
      · rw [hset, hlane, hg]
        rfl
      · rw [State.toDev_dev, Dev.port_setPort_same, PortSt.passedCap_joinHand]
      · rw [State.toDev_dev, Dev.lane, Dev.port_setPort_same, PortSt.lane_joinHand_other _ _ _ _ hk, Dev.lane]
    · have hexec := exec_handoverJoin hh htj hle
      rw [Dev.joinLane_restore hr hg hm] at hexec
      have hset : ∀ k, (s.dev (s.toDev.setPort p.val (s.toDev.fallenBack p.val h tj))).lane p.val k =
          (s.toDev.fallenBack p.val h tj).lane k := fun k => by
        rw [State.toDev_dev, Dev.lane, Dev.port_setPort_same]
      have hsame : (s.toDev.fallenBack p.val h tj).lane h.lane = _ := PortSt.lane_setLane_same _ _ _
      refine ⟨_, hexec, ?_, ?_, ?_, fun k hk => ?_, fun q hq => Dev.port_setPort_other _ _ hq, rfl⟩
      · rw [hset, hsame]
      · rw [hset, hsame]
        exact LaneSt.load_state _ _ _
      · rw [State.toDev_dev, Dev.port_setPort_same]
        rfl
      · rw [hset]
        exact PortSt.lane_setLane_other _ _ hk
    · have hexec := exec_handoverJoin hh htj hle
      rw [Dev.joinLane_drop hr hg] at hexec
      refine ⟨_, hexec, ?_, ?_, fun k hk => ?_, fun q hq => Dev.port_setPort_other _ _ hq, rfl⟩
      · rw [State.toDev_dev, Dev.port_linkEvent, Dev.port_setPort_same]
      · rw [State.toDev_dev, Dev.lane, Dev.port_linkEvent, Dev.port_setPort_same]
        exact congrArg LaneSt.state (PortSt.lane_setLane_same _ _ _)
      · rw [State.toDev_dev, Dev.lane, Dev.port_linkEvent, Dev.port_setPort_same]
        exact PortSt.lane_setLane_other _ _ hk
  · refine run_dev ?_
    simp only [hh]
    exact if_pos hl
  · refine run_dev ?_
    simp only [he]
    exact if_neg (by omega)

end Sys2Proof.Machine
end

section
/-! Injections, the checkers of lanes in TEST, and optical modules (R104 to R110, R150). -/

namespace Sys2Proof.Machine

/-! ## Injections (R110) -/

/-- A lane whose transmitter is as it was notes nothing. -/
theorem Dev.notePins_of_same {d was : Dev} {p : Nat} {l : Lane} (h : d.txIdle p l = was.txIdle p l) : d.notePins was p l = d :=
  if_pos h

/-- A lane that keeps its state and its squelch keeps its transmitter. -/
theorem Dev.txIdle_updLane (d : Dev) (p : Nat) (l : Lane) {f : LaneSt → LaneSt} (hs : (f (d.lane p l)).state = (d.lane p l).state)
    (hi : (f (d.lane p l)).injecting 6 = (d.lane p l).injecting 6) : (d.updLane p l f).txIdle p l = d.txIdle p l := by
  unfold Dev.txIdle
  simp only [Dev.lane_updLane_same, hs, hi]
  rfl

/-- The device once the injection armed on a lane has advanced by a tick. -/
def Dev.injected (d : Dev) (p : Nat) (l : Lane) (j : LaneInject) : Dev :=
  d.updLane p l (fun y => { y with
    inject := some { j with
      acc := (j.acc + (d.injectStep p l j.kind).1) % (d.injectStep p l j.kind).2,
      done := j.done + min (j.count - j.done) ((j.acc + (d.injectStep p l j.kind).1) / (d.injectStep p l j.kind).2) },
    flips := if j.kind = 1 && d.nearLoop p l then
      y.flips + min (j.count - j.done) ((j.acc + (d.injectStep p l j.kind).1) / (d.injectStep p l j.kind).2) else y.flips })

theorem Dev.injectTick_eq {d : Dev} {p : Nat} {l : Lane} {j : LaneInject} (hj : (d.lane p l).inject = some j)
    (hlt : j.done < j.count) : d.injectTick p l =
      (let n := min (j.count - j.done) ((j.acc + (d.injectStep p l j.kind).1) / (d.injectStep p l j.kind).2)
       if j.kind = 2 then (d.injected p l j).countN (E.FEC_CORR_SYMBOLS p l.val) (n * j.symbols)
       else if j.kind = 3 then (d.injected p l j).countErrN (E.FEC_UNCORR_CW p l.val) n
       else (d.injected p l j).notePins d p l) := by
  unfold Dev.injectTick
  simp only [hj, show ¬ j.count ≤ j.done by omega, if_false]
  rfl

@[simp] theorem Dev.lane_notePins (d was : Dev) (p : Nat) (l : Lane) (q : Nat) (m : Lane) :
    (d.notePins was p l).lane q m = d.lane q m := by
  rw [Dev.lane, Dev.port_notePins, Dev.lane]

/-! ## The checker of a lane in TEST (R108) -/

theorem Dev.flag_true {d : Dev} {k : Nat} (h : d.reg k ≠ 0) : d.flag k = true := by
  unfold Dev.flag
  simpa using h

theorem Dev.flag_false {d : Dev} {k : Nat} (h : d.reg k = 0) : d.flag k = false := by
  unfold Dev.flag
  simp [h]

theorem E.checkCounts_ne (p l : Nat) : E.CHECK_BITS p l ≠ E.CHECK_ERRORS p l ∧ E.CHECK_BITS p l ≠ E.CHECK_LOCK p l ∧
    E.CHECK_ERRORS p l ≠ E.CHECK_LOCK p l := by
  unfold E.CHECK_BITS E.CHECK_ERRORS E.CHECK_LOCK
  omega

/-- The errors that a lane's checker counts: in a near loop the flips of its own generator (R109). -/
def Dev.checkErrors (d : Dev) (p : Nat) (l : Lane) (errors : BitVec 32) : Nat :=
  if d.nearLoop p l then (d.lane p l).flips else errors.toNat

/-- What a report of a lane's checker makes of the device (R108). -/
def Dev.checked (d : Dev) (p : Nat) (l : Lane) (locked : Bool) (n : BitVec 64) (err : Nat) : Dev :=
  if d.flag (E.CHECK_LOCK p l.val) then
    (((d.updLane p l (fun y => { y with flips := 0 })).countN (E.CHECK_BITS p l.val) n.toNat).countErrN
      (E.CHECK_ERRORS p l.val) err).setFlag (E.CHECK_LOCK p l.val) (!(256 < err && (!locked || n.toNat ≤ 4096)))
  else if locked && 1024 ≤ n.toNat && err = 0 then
    (d.updLane p l (fun y => { y with flips := 0 })).setFlag (E.CHECK_LOCK p l.val) true
  else d.updLane p l (fun y => { y with flips := 0 })

theorem exec_checkerLock {s : State} {p : Port} {l : Lane} {n : BitVec 64} {e : BitVec 32} {locked : Bool}
    (ht : (s.lane p.val l).state = .test) (hb : bits (s.reg (E.TEST_MODE p.val l.val)) 1 1 = 1) :
    exec (.checkerLock p l locked n e) s =
      .next (s.dev (s.toDev.checked p.val l locked n (s.toDev.checkErrors p.val l e))) :=
  run_dev (if_neg (by simp [ht, hb]))

/-- A report of a locked checker that does not saturate its errors. -/
theorem Dev.reg_checked_locked {d : Dev} {p : Nat} {l : Lane} {locked : Bool} {n : BitVec 64} {err : Nat}
    (hk : d.reg (E.CHECK_LOCK p l.val) ≠ 0) (he : d.reg (E.CHECK_ERRORS p l.val) + err < 0xFFFFFFFF) (i : Nat) :
    (d.checked p l locked n err).reg i =
      if i = E.CHECK_LOCK p l.val then (if 256 < err ∧ (locked = false ∨ n.toNat ≤ 4096) then 0 else 1)
      else if i = E.CHECK_ERRORS p l.val then d.reg (E.CHECK_ERRORS p l.val) + err
      else if i = E.CHECK_BITS p l.val then (d.reg (E.CHECK_BITS p l.val) + n.toNat) % 2 ^ 64 else d.reg i := by
  obtain ⟨h1, -, -⟩ := E.checkCounts_ne p l.val
  have hreg : ∀ k, ((d.updLane p l (fun y => { y with flips := 0 })).countN (E.CHECK_BITS p l.val) n.toNat).reg k =
      if k = E.CHECK_BITS p l.val then (d.reg (E.CHECK_BITS p l.val) + n.toNat) % 2 ^ 64 else d.reg k :=
    fun k => Dev.reg_countN _ _ _ _
  have hlt : ((d.updLane p l (fun y => { y with flips := 0 })).countN (E.CHECK_BITS p l.val) n.toNat).reg
      (E.CHECK_ERRORS p l.val) + err < 0xFFFFFFFF := by
    rw [hreg, if_neg (Ne.symm h1)]
    exact he
  unfold Dev.checked
  rw [if_pos (Dev.flag_true hk), Dev.setFlag, Dev.reg_setReg, Dev.reg_countErrN_of_lt hlt, hreg, hreg, if_neg (Ne.symm h1)]
  have hlost : (if (!(decide (256 < err) && (!locked || decide (n.toNat ≤ 4096)))) = true then 1 else 0) =
      (if 256 < err ∧ (locked = false ∨ n.toNat ≤ 4096) then 0 else 1) := by
    cases locked <;> by_cases h1 : 256 < err <;> by_cases h2 : n.toNat ≤ 4096 <;> simp [h1, h2]
  rw [hlost]

theorem Dev.checked_locked_frame {d : Dev} {p : Nat} {l : Lane} {locked : Bool} {n : BitVec 64} {err : Nat}
    (hk : d.reg (E.CHECK_LOCK p l.val) ≠ 0) (he : d.reg (E.CHECK_ERRORS p l.val) + err < 0xFFFFFFFF) :
    d.checked p l locked n err =
      { d.updLane p l (fun y => { y with flips := 0 }) with regs := (d.checked p l locked n err).regs } := by
  obtain ⟨h1, -, -⟩ := E.checkCounts_ne p l.val
  have hlt : ((d.updLane p l (fun y => { y with flips := 0 })).countN (E.CHECK_BITS p l.val) n.toNat).reg
      (E.CHECK_ERRORS p l.val) + err < 0xFFFFFFFF := by
    rw [Dev.reg_countN, if_neg (Ne.symm h1)]
    exact he
  unfold Dev.checked
  rw [if_pos (Dev.flag_true hk), Dev.countErrN_frame_of_lt hlt]
  rfl

/-! ## Modules (R104, R105) -/

/-- The site of a port is the one that names it. -/
theorem Dev.siteOf_of_portOfSite {d : Dev} {m p : Nat} (h : d.portOfSite m = some p) : d.siteOf p = some m :=
  of_decide_eq_true (List.find?_some (p := fun q => decide (d.siteOf q = some m)) h)

/-- The operations on a module that is present go out between its select's fall and its rise. -/
theorem Dev.cmis_out {d : Dev} {p m : Nat} (hs : d.siteOf p = some m) (hm : d.isModule p = true)
    (hp : (tgetD d.modules m {}).present = true) (ops : List CmisOp) : (d.cmis p ops).out =
      d.out ++ (.modsel d.tick m false :: ops.map (fun o => .cmis d.tick (m / 8) m o)) ++ [.modsel d.tick m true] := by
  have hops : ∀ (l : List CmisOp) (a : Dev), (l.foldl (fun (a : Dev) o => a.emit (.cmis a.tick (m / 8) m o)) a).out =
      a.out ++ l.map (fun o => .cmis a.tick (m / 8) m o) := by
    intro l
    induction l with
    | nil => intro a; simp
    | cons o l ih =>
      intro a
      rw [List.foldl_cons, ih]
      simp [Dev.emit]
  unfold Dev.cmis
  simp only [hs, hm, hp, Bool.and_self, if_true]
  rw [Dev.emit, hops]
  simp [Dev.emit]

theorem Dev.out_prefix_cmis (d : Dev) (p : Nat) (ops : List CmisOp) : d.out <+: (d.cmis p ops).out := by
  by_cases h : ∃ m, d.siteOf p = some m ∧ d.isModule p = true ∧ (tgetD d.modules m {}).present = true
  · obtain ⟨m, hs, hm, hp⟩ := h
    rw [Dev.cmis_out hs hm hp, List.append_assoc]
    exact List.prefix_append _ _
  · have he : d.cmis p ops = d := by
      unfold Dev.cmis
      split
      · rfl
      · next m hs =>
        refine if_neg (fun hb => h ⟨m, hs, ?_⟩)
        simpa using hb
    rw [he]

theorem Dev.setModule_present {d : Dev} {p m : Nat} (hs : d.siteOf p = some m) (hm : d.isModule p = true)
    (hp : (tgetD d.modules m {}).present = true) (f : ModuleSt → ModuleSt) :
    d.setModule p f = { d with modules := tset d.modules m (f (tgetD d.modules m {})) } := by
  unfold Dev.setModule
  simp only [hs, hm, hp, Bool.and_self, if_true]

/-- A module that is set up anew: where it is present its data paths are not ready, and what it offers stays. -/
theorem Dev.moduleLow_present {d : Dev} {p m : Nat} (hs : d.siteOf p = some m) (hm : d.isModule p = true)
    (hp : (tgetD d.modules m {}).present = true) : d.out <+: (d.moduleLow p).out ∧ ∃ b, (d.moduleLow p).modules =
      tset d.modules m { tgetD d.modules m {} with lowPower := b, dpReady := false } := by
  have hset : ∀ ops f, d.out <+: ((d.cmis p ops).setModule p f).out ∧
      ((d.cmis p ops).setModule p f).modules = tset d.modules m (f (tgetD d.modules m {})) := by
    intro ops f
    have hfr := d.cmis_frame p ops
    have hmod : (d.cmis p ops).modules = d.modules := by rw [hfr]
    rw [Dev.setModule_present (d := d.cmis p ops) (m := m) (by rw [hfr]; exact hs) (by rw [hfr]; exact hm) (by rw [hmod]; exact hp)]
    exact ⟨d.out_prefix_cmis p ops, by rw [hmod]⟩
  unfold Dev.moduleLow
  split
  · exact ⟨(hset _ _).1, _, (hset _ _).2⟩
  · exact ⟨(hset _ _).1, _, (hset _ _).2⟩

/-- A port whose module was changed: it may restore again, and a lane 0 that runs low takes the rate allowed. -/
def Dev.remoduled (d : Dev) (p : Nat) : Dev := (d.allowRestore p).relow p

theorem Dev.remoduled_frame (d : Dev) (p : Nat) : d.remoduled p = { d with ports := (d.remoduled p).ports } := rfl

theorem Dev.port_remoduled_other (d : Dev) {p q : Nat} (h : q ≠ p) : (d.remoduled p).port q = d.port q := by
  unfold Dev.remoduled Dev.relow Dev.allowRestore
  rw [Dev.port_updPort_other _ _ h, Dev.port_updPort_other _ _ h]

theorem LaneSt.runLow_keeps (x : LaneSt) (low cls : Nat) : (x.runLow low cls).state = .keepalive ∧
    (x.runLow low cls).noRestore = x.noRestore := by
  unfold LaneSt.runLow
  split
  · next h => exact ⟨of_decide_eq_true (Bool.and_eq_true_iff.mp h).1, rfl⟩
  · refine ⟨rfl, ?_⟩
    show (x.fresh.load low cls).noRestore = _
    unfold LaneSt.load
    dsimp only []
    split <;> rfl

theorem Dev.port_remoduled (d : Dev) (p : Nat) : ((d.remoduled p).port p).state = (d.port p).state ∧
    ((d.remoduled p).port p).heldClass = (d.port p).heldClass ∧
    ∀ l, ((d.remoduled p).lane p l).noRestore = false ∧ ((d.remoduled p).lane p l).state = (d.lane p l).state := by
  have hallow : (d.allowRestore p).port p =
      (d.port p).mapLanes (fun _ y => { y with noRestore := false, askOff := false }) := Dev.port_updPort_same _ _ _
  unfold Dev.remoduled Dev.relow
  simp only [Dev.lane, Dev.port_updPort_same, hallow]
  split
  · next h =>
    refine ⟨rfl, rfl, fun l => ?_⟩
    obtain ⟨h1, h2⟩ := LaneSt.runLow_keeps ({ (d.port p).lane0 with noRestore := false, askOff := false })
      ((d.allowRestore p).lowRate p) ((d.allowRestore p).elecClass p)
    match l with
    | 0 => exact ⟨h2, h1.trans (of_decide_eq_true (Bool.and_eq_true_iff.mp h).1).symm⟩
    | 1 | 2 | 3 => exact ⟨rfl, rfl⟩
  · refine ⟨rfl, rfl, fun l => ?_⟩
    rw [PortSt.lane_mapLanes]
    exact ⟨rfl, rfl⟩

/-- The device once a module is on a site. -/
def Dev.plugged (d : Dev) (m : Nat) (x : ModuleSt) : Dev := { d with modules := tset d.modules m x }

/-- The pages that are read of a module plugged in (R104). -/
def plugPages : List CmisOp := [.readPage 0x00, .readPage 0x01, .readPage 0x02, .readPage 0x10, .readPage 0x11]

/-- The device once the module of a MODULE-class port is plugged in, read and set up. -/
def Dev.pluggedIn (d : Dev) (m p : Nat) (a : ModuleAdvert) : Dev :=
  (((d.plugged m { present := true, advert := a }).remoduled p).cmis p plugPages).moduleLow p

theorem exec_modulePresence {s : State} {m : Fin 32} {a : ModuleAdvert} {p : Nat} (hp : s.portOfSite m.val = some p)
    (hm : s.isModule p = true) {d : Dev} (hd : (s.toDev.pluggedIn m.val p a).settle s.toDev = d) :
    exec (.modulePresence m true a) s = .next (s.dev d) := by
  have hsite : (s.toDev.plugged m.val { present := true, advert := a }).portOfSite m.val = some p := hp
  have hmod : (s.toDev.plugged m.val { present := true, advert := a }).isModule p = true := hm
  refine settled_run_dev (Eq.trans ?_ hd)
  refine congrArg (fun e : Dev => e.settle s.toDev) ?_
  show (match (s.toDev.plugged m.val { present := true, advert := a }).portOfSite m.val with
    | none => _
    | some p => _) = _
  rw [hsite]
  refine if_neg (fun hb : (!(s.toDev.plugged m.val { present := true, advert := a }).isModule p) = true => ?_)
  rw [hmod] at hb
  exact Bool.false_ne_true hb

section
variable {d : Dev} {m p : Nat} {a : ModuleAdvert} (hs : d.siteOf p = some m) (hm : d.isModule p = true)
include hs hm

/-- What plugging a module in leaves to be read: the site, the class of its port, and the module. -/
theorem Dev.remoduled_plugged (x : ModuleSt) : ((d.plugged m x).remoduled p).siteOf p = some m ∧
    ((d.plugged m x).remoduled p).isModule p = true ∧
    ((d.plugged m x).remoduled p).modules = tset d.modules m x := by
  refine ⟨hs, ?_, rfl⟩
  obtain ⟨-, hh, -⟩ := (d.plugged m x).port_remoduled p
  rw [← hm]
  unfold Dev.isModule Dev.elecClass
  rw [hh]
  rfl

theorem Dev.pluggedIn_modules : ∃ b, (d.pluggedIn m p a).modules =
      tset (tset d.modules m { present := true, advert := a }) m
        { present := true, advert := a, lowPower := b, dpReady := false } ∧
    (d.out ++ (.modsel d.tick m false :: plugPages.map (fun o => Out.cmis d.tick (m / 8) m o))) <+: (d.pluggedIn m p a).out := by
  obtain ⟨h1, h2, h3⟩ := Dev.remoduled_plugged hs hm ({ present := true, advert := a } : ModuleSt)
  have hget : tgetD ((d.plugged m { present := true, advert := a }).remoduled p).modules m {} =
      ({ present := true, advert := a } : ModuleSt) := by
    rw [h3, tgetD, tget_tset_same]
    rfl
  have hfr := ((d.plugged m { present := true, advert := a }).remoduled p).cmis_frame p plugPages
  have hmods : (((d.plugged m { present := true, advert := a }).remoduled p).cmis p plugPages).modules =
      tset d.modules m { present := true, advert := a } := by rw [hfr]; rfl
  have hget' : tgetD (((d.plugged m { present := true, advert := a }).remoduled p).cmis p plugPages).modules m {} =
      ({ present := true, advert := a } : ModuleSt) := by rw [hmods, ← h3, hget]
  obtain ⟨hpre, b, hb⟩ := Dev.moduleLow_present
    (d := ((d.plugged m { present := true, advert := a }).remoduled p).cmis p plugPages) (p := p) (m := m)
    (by rw [hfr]; exact h1) (by rw [hfr]; exact h2) (by rw [hget'])
  refine ⟨b, by rw [Dev.pluggedIn, hb, hget', hmods], ?_⟩
  refine List.IsPrefix.trans ?_ hpre
  rw [Dev.cmis_out h1 h2 (by rw [hget])]
  exact List.prefix_append _ _

omit hs hm in
theorem Dev.port_pluggedIn (q : Nat) : (d.pluggedIn m p a).port q = ((d.plugged m { present := true, advert := a }).remoduled p).port q := by
  rw [Dev.pluggedIn, Dev.port_moduleLow, Dev.port_cmis]

omit hs hm in
theorem Dev.pluggedIn_frame : d.pluggedIn m p a = { d with
    modules := (d.pluggedIn m p a).modules, ports := (d.pluggedIn m p a).ports, out := (d.pluggedIn m p a).out } := by
  unfold Dev.pluggedIn
  rw [Dev.moduleLow_frame, Dev.cmis_frame]
  rfl

omit hs hm in
theorem Dev.settle_pluggedIn : (d.pluggedIn m p a).settle d = d.pluggedIn m p a := by
  refine Dev.settle_of_states (fun q => ?_) (by rw [Dev.pluggedIn_frame]) (by rw [Dev.pluggedIn_frame])
  rw [Dev.port_pluggedIn]
  by_cases h : q = p
  · rw [h]
    exact ((d.plugged m { present := true, advert := a }).port_remoduled p).1
  · rw [Dev.port_remoduled_other _ h]
    rfl

end

/-- A module's flag raises the corrected source where CORR_MASK does not name it. -/
theorem Dev.pending_sample_moduleFlag (d : Dev) (p : Nat) :
    maskHas (d.sample (bark 0x0C03 accNone iniHkp false p 0)).ints.pending 0x02 =
      (maskHas d.ints.pending 0x02 || !maskHas (d.reg E.CORR_MASK) 0x0C) := by
  have hcls : (bark 0x0C03 accNone iniHkp false p 0).faultClass = .corrected := by
    unfold BarkMsg.faultClass
    simp only [bark]
    decide
  have hkind : (bark 0x0C03 accNone iniHkp false p 0).kind.toNat / 256 = 0x0C := by
    simp [bark]
  by_cases h : d.masks (bark 0x0C03 accNone iniHkp false p 0)
  · have hm := h.2
    rw [hkind] at hm
    rw [(Dev.sample_of_masks_unchanged h).1, hm, Bool.not_true, Bool.or_false]
  · have hm : maskHas (d.reg E.CORR_MASK) 0x0C = false := by
      rw [← Bool.not_eq_true, ← hkind]
      exact fun hm => h ⟨hcls, hm⟩
    have hr := (Dev.sample_of_not_masks_reacts h).2
    rw [hcls] at hr
    rw [hm, Bool.not_false, Bool.or_true]
    exact hr

/-- Settles O22: injections by `Dev.injectTick_eq`, checkers by `Dev.checked`, and modules by what `Dev.cmis` sends and
`Dev.pluggedIn` leaves. -/
theorem testLanesAndModules : Obligations.TestLanesAndModules := by
  unfold Obligations.TestLanesAndModules
  refine ⟨fun s p l j hj => ⟨fun h6 hle => ?_, fun h6 hlt => ?_, fun h2 hlt => ?_⟩,
    fun s p l n e locked ht hb => ⟨fun hk => ?_, fun hk he => ?_⟩, fun s m p hp hm => ⟨?_, fun hpr => ?_, ?_⟩,
    fun s m a p hp hm => ?_, fun s m a hp => ?_, fun s p m hs hpr => ?_⟩
  · have hi : (s.lane p.val l).injecting 6 = false := by
      unfold LaneSt.injecting
      rw [hj]
      simp [hle]
    have hidle := s.toDev.txIdle_updLane p.val l (f := fun y => { y with inject := none }) rfl (by rw [hi]; rfl)
    refine run_dev ?_
    simp only [hj]
    rw [if_pos (by simp [h6, hle]), Dev.notePins_of_same hidle]
    rfl
  · have hstep : s.toDev.injectStep p.val l j.kind = (1, 1) := by
      unfold Dev.injectStep
      rw [if_neg (by omega), if_pos h6]
    rw [Dev.injectTick_eq hj hlt]
    simp only [h6, Nat.reduceEqDiff, if_false, Dev.lane_notePins]
    rw [Dev.injected, Dev.lane_updLane_same]
    refine ⟨_, rfl, ?_, ?_⟩
    · rw [hstep, Nat.div_one]
    · unfold Dev.injectLeft
      rw [hj]
  · rw [Dev.injectTick_eq hj hlt]
    simp only [h2, if_true]
    exact (Dev.reg_countN _ _ _ _).trans (if_pos rfl)
  · rw [exec_checkerLock ht hb]
    unfold Dev.checked
    rw [if_neg (by rw [Dev.flag_false hk]; decide)]
    have hc : (locked = true ∧ 1024 ≤ n.toNat ∧ s.toDev.checkErrors p.val l e = 0) ↔
        (locked && decide (1024 ≤ n.toNat) && decide (s.toDev.checkErrors p.val l e = 0)) = true := by
      simp [and_assoc]
    simp only [← hc]
    rfl
  · obtain ⟨h1, h2, h3⟩ := E.checkCounts_ne p.val l.val
    replace he : s.reg (E.CHECK_ERRORS p.val l.val) + s.toDev.checkErrors p.val l e < 0xFFFFFFFF := he
    refine ⟨_, exec_checkerLock ht hb, ?_, ?_, ?_, fun k hk' => ?_, ?_⟩
    · exact (Dev.reg_checked_locked hk he _).trans (if_pos rfl)
    · refine (Dev.reg_checked_locked hk he _).trans ?_
      rw [if_neg h2, if_neg h1, if_pos rfl]
    · refine (Dev.reg_checked_locked hk he _).trans ?_
      rw [if_neg h3, if_pos rfl]
      rfl
    · simp only [List.mem_cons, List.not_mem_nil, or_false, not_or] at hk'
      obtain ⟨k1, k2, k3⟩ := hk'
      refine (Dev.reg_checked_locked hk he _).trans ?_
      rw [if_neg k1, if_neg k3, if_neg k2]
    · rw [Dev.checked_locked_frame hk he]
      rfl
  · refine run_dev ?_
    simp only [hp]
    exact if_pos hm
  · rw [Dev.cmis_out (Dev.siteOf_of_portOfSite hp) hm hpr]
    simp
  · rw [Dev.pending_sample_moduleFlag, Dev.cmis_frame]
    rfl
  · have hs := Dev.siteOf_of_portOfSite hp
    obtain ⟨b, hmods, hout⟩ := Dev.pluggedIn_modules (a := a) hs hm
    have hget : tgetD (s.dev (s.toDev.pluggedIn m.val p a)).modules m.val {} =
        { present := true, advert := a, lowPower := b, dpReady := false } := by
      rw [State.toDev_dev, hmods, tgetD, tget_tset_same]
      rfl
    obtain ⟨h1, h2, h3⟩ := (s.toDev.plugged m.val { present := true, advert := a }).port_remoduled p
    refine ⟨_, exec_modulePresence hp hm Dev.settle_pluggedIn, by rw [hget], by rw [hget], by rw [hget], fun k hk => ?_, hout,
      fun q hq => ?_, fun l => ?_, ?_⟩
    · rw [State.toDev_dev, hmods, tget_tset_other _ _ hk, tget_tset_other _ _ hk]
    · rw [State.toDev_dev, Dev.port_pluggedIn, Dev.port_remoduled_other _ hq]
      rfl
    · have hl : (s.toDev.pluggedIn m.val p a).lane p l = ((s.toDev.plugged m.val { present := true, advert := a }).remoduled p).lane p l := by
        rw [Dev.lane, Dev.port_pluggedIn, Dev.lane]
      rw [State.toDev_dev, hl]
      exact h3 l
    · rw [Dev.pluggedIn_frame]
      rfl
  · refine settled_run_dev (d := s.toDev.plugged m.val { present := false, advert := ⟨false, false, false, 0⟩ }) ?_
    refine Eq.trans (congrArg (fun e : Dev => e.settle s.toDev) ?_) (Dev.settle_of_states (fun _ => rfl) rfl rfl)
    show (match (s.toDev.plugged m.val { present := false, advert := ⟨false, false, false, 0⟩ }).portOfSite m.val with
      | none => _
      | some p => _) = _
    rw [show (s.toDev.plugged m.val { present := false, advert := ⟨false, false, false, 0⟩ }).portOfSite m.val = none from hp]
    rfl
  · refine run_dev ?_
    simp only [hs]
    exact if_pos hpr

end Sys2Proof.Machine
end

section
/-! A port that leaves its partner (R128, R154): where the statement about KEEP fails. -/

namespace Sys2Proof.Machine

/-! ## A port that leaves UP for IDENT is lost to its ring group (R355, R368) -/

/-- An IDENT payload of a partner of a kind. -/
def peerOfKind (k : Nat) : List Byte := List.replicate 16 0 ++ beBytes 1 k ++ List.replicate 47 0

/-- A pack of two racks with a context in COLLECT, whose ring group has port 7 alone, toward the other rack. -/
def ringOfOne : State :=
  { State.reset with
    tick := 1000000, power := { bootStage := 3 },
    ports := [(7, { state := .up, lane0 := { state := .active, rate := 2, los := false, lol := false } })],
    regs := [(E.PLAN_NX, 2), (E.PLAN_NY, 1)],
    blobs := tset (tset [(E.PEER_IDENT 7, peerOfKind 2)] (E.HIER_RECORD 1)
      ([0, 3, 0, 1] ++ List.replicate 12 0 ++ [2] ++ List.replicate 15 0 ++ [2] ++ List.replicate 239 0))
      (groupKey 0) ([0x80] ++ List.replicate 131 0),
    packs := [(5, ⟨[0, 1], 0, 24, 1⟩)],
    ctxs := [(0, { pack := 5, state := .collect, validated := [4],
                   record := some (startRecord (mkColl tStart cCUP 0 0 0 5 0 0 0 0 0 [1, 1, 1, 0x40, 0, 0, 0, 0, 16])) })] }

/-- A KEEP cell of another partner. -/
def foreignKeep : Cell := ⟨0, List.replicate 16 0 ++ [7] ++ List.replicate 47 0⟩

/-- The contexts after a step. -/
def ctxsOf (o : Host.Outcome State Fault Refusal) : Tbl Ctx :=
  match o with
  | .next t => t.ctxs
  | _ => []

/-- Refutes O26: the KEEP of another partner takes the port out of its ring group, which fails a context that has no other port
(PATH_LOST, R368), so more changes than the port, its discovery and what goes out. -/
theorem not_keepAndPortSleep : ¬ Obligations.KeepAndPortSleep := by
  unfold Obligations.KeepAndPortSleep
  rintro ⟨h, -⟩
  obtain ⟨t, ht, -, -, -, -, hframe⟩ := (h ringOfOne 7 foreignKeep (by decide +kernel)).2 (by decide +kernel) (by decide +kernel)
  have hsame : t.ctxs = ringOfOne.ctxs := (congrArg (fun s : State => s.ctxs) hframe :)
  have hlost : ctxsOf (exec (.keepCell 7 foreignKeep) ringOfOne) ≠ ringOfOne.ctxs := by decide +kernel
  rw [ht] at hlost
  exact hlost hsame

end Sys2Proof.Machine
end

section
/-! What the switch core's work with cells leaves alone (R164 to R231): moving, queueing, dropping and routing cells touches
ports, queues, counters, reports and what goes out, and nothing else of the device. -/

namespace Sys2Proof.Machine

/-- The device without what the switch core's work with cells may change. -/
def Dev.coreless (d : Dev) : Dev :=
  { d with kennel0 := {}, kennel1 := {}, ports := [], regs := [], sentry := {}, draws := 0, tele := {}, out := [], ueWords := [],
           kinject := none, routing := { d.routing with weights := [], weightTick := none, acc := [] } }

/-! ## Registers, reports and injections -/

@[simp] theorem Dev.coreless_setReg (d : Dev) (k v : Nat) : (d.setReg k v).coreless = d.coreless := rfl

@[simp] theorem Dev.coreless_setPort (d : Dev) (p : Nat) (x : PortSt) : (d.setPort p x).coreless = d.coreless := rfl

@[simp] theorem Dev.coreless_updPort (d : Dev) (p : Nat) (f : PortSt → PortSt) : (d.updPort p f).coreless = d.coreless := rfl

@[simp] theorem Dev.coreless_emit (d : Dev) (o : Out) : (d.emit o).coreless = d.coreless := rfl

@[simp] theorem Dev.coreless_drew (d : Dev) : d.drew.coreless = d.coreless := rfl

@[simp] theorem Dev.coreless_count (d : Dev) (k : Nat) : (d.count k).coreless = d.coreless := rfl

@[simp] theorem Dev.coreless_report (d : Dev) (b : BarkMsg) : (d.report b).coreless = d.coreless := rfl

@[simp] theorem Dev.coreless_rewriteWord (d : Dev) (c w : Nat) : (d.rewriteWord c w).coreless = d.coreless := rfl

@[simp] theorem Dev.coreless_setKennel (d : Dev) (s : Nat) (k : Kennel) : (d.setKennel s k).coreless = d.coreless := by
  unfold Dev.setKennel
  split <;> rfl

@[simp] theorem Dev.coreless_emitLive (d : Dev) (o : Out) : (d.emitLive o).coreless = d.coreless := by
  unfold Dev.emitLive
  split <;> rfl

@[simp] theorem Dev.coreless_countErr (d : Dev) (k : Nat) : (d.countErr k).coreless = d.coreless := by
  rw [Dev.countErr_frame]; rfl

@[simp] theorem Dev.coreless_updMap (d : Dev) (s : Nat) (f : MapGather → MapGather) : (d.updMap s f).coreless = d.coreless := by
  rw [Dev.updMap_frame]; rfl

@[simp] theorem Dev.coreless_takeInject (d : Dev) (c t : Nat) : (d.takeInject c t).2.coreless = d.coreless := by
  unfold Dev.takeInject
  split
  · rfl
  · split
    · dsimp only []
      split <;> rfl
    · rfl

@[simp] theorem Dev.coreless_takeKinject (d : Dev) (s k : Nat) : (d.takeKinject s k).2.coreless = d.coreless := by
  unfold Dev.takeKinject
  split
  · rfl
  · split
    · dsimp only []
      split <;> rfl
    · rfl

@[simp] theorem Dev.coreless_pkgTransfer (d : Dev) (l : Nat) : (d.pkgTransfer l).coreless = d.coreless := by
  unfold Dev.pkgTransfer
  split
  · rfl
  · split
    · dsimp only []
      split <;> rfl
    · rfl

@[simp] theorem Dev.coreless_cross (d : Dev) (ls : List Nat) : (d.cross ls).coreless = d.coreless :=
  foldl_keeps Dev.coreless Dev.coreless_pkgTransfer ls d

@[simp] theorem Dev.coreless_sramRead (d : Dev) (c w i : Nat) : (d.sramRead c w i).2.coreless = d.coreless := by
  unfold Dev.sramRead
  dsimp only []
  split
  · simp
  · split <;> simp

/-! ## The kennel (R188 to R196) -/

@[simp] theorem Dev.coreless_readSlot (d : Dev) (s i n : Nat) : (d.readSlot s i n).2.coreless = d.coreless :=
  Dev.coreless_sramRead ..

theorem Dev.coreless_of_readSlot {d e : Dev} {s i n : Nat} {b : Bool} (h : d.readSlot s i n = (b, e)) : e.coreless = d.coreless :=
  (congrArg (fun r => r.2.coreless) h).symm.trans (d.coreless_readSlot s i n)

@[simp] theorem Dev.coreless_kennelReport (d : Dev) (s c i p : Nat) (b : Bool) : (d.kennelReport s c i p b).coreless = d.coreless := rfl

@[simp] theorem Dev.coreless_kennelRefuse (d : Dev) (s c o p : Nat) (b : Bool) : (d.kennelRefuse s c o p b).coreless = d.coreless := by
  simp [Dev.kennelRefuse]

@[simp] theorem Dev.coreless_startRebuild (d : Dev) (s i p : Nat) (b : Bool) : (d.startRebuild s i p b).coreless = d.coreless := by
  have h : ∀ e : Dev, (e.rewriteLinks s).coreless = e.coreless := fun _ => rfl
  simp [Dev.startRebuild, h]

@[simp] theorem Dev.coreless_poolEmpty (d : Dev) (s o : Nat) (b : Bool) : (d.poolEmpty s o b).coreless = d.coreless := by
  unfold Dev.poolEmpty
  split <;> simp

@[simp] theorem Dev.coreless_notePeak (d : Dev) (s : Nat) : (d.notePeak s).coreless = d.coreless := by
  unfold Dev.notePeak
  dsimp only []
  split <;> simp

@[simp] theorem Dev.coreless_allocate (d : Dev) (s : Nat) (p : Pool) (o l : Nat) : (d.allocate s p o l).2.coreless = d.coreless := by
  unfold Dev.allocate
  dsimp only []
  split
  · simp
  · split
    · simp
    · split
      · dsimp only []
        split <;> simp
      · simp

theorem Dev.coreless_takeKinject_unless (b : Bool) (d : Dev) (s n : Nat) :
    (if b then (false, d) else d.takeKinject s n).2.coreless = d.coreless := by
  split <;> simp

@[simp] theorem Dev.coreless_release (d : Dev) (s p o : Nat) : (d.release s p o).coreless = d.coreless := by
  unfold Dev.release
  rcases h1 : d.takeKinject s 1 with ⟨i1, d1⟩
  have e1 : d1.coreless = d.coreless := by simpa [h1] using d.coreless_takeKinject s 1
  dsimp only []
  rcases h2 : (if i1 then (false, d1) else d1.takeKinject s 2) with ⟨i2, d2⟩
  have e2 : d2.coreless = d1.coreless := by simpa only [h2] using d1.coreless_takeKinject_unless i1 s 2
  dsimp only []
  rcases h3 : (if i1 || i2 then (false, d2) else d2.takeKinject s 3) with ⟨i3, d3⟩
  have e3 : d3.coreless = d2.coreless := by simpa only [h3] using d2.coreless_takeKinject_unless (i1 || i2) s 3
  dsimp only []
  rcases h4 : (if i1 || i2 || i3 then (false, d3) else d3.takeKinject s 5) with ⟨i5, d4⟩
  have e4 : d4.coreless = d3.coreless := by simpa only [h4] using d3.coreless_takeKinject_unless (i1 || i2 || i3) s 5
  dsimp only []
  generalize (if i1 then p ||| 2 ^ 30 else if i2 then p ||| 1 else p) = q
  generalize (if i3 then 135 else o) = n
  rw [← e1, ← e2, ← e3, ← e4]
  split
  · simp
  · split
    · simp
    · split
      · next hr => simpa using Dev.coreless_of_readSlot hr
      · next hr =>
        have e6 := Dev.coreless_of_readSlot hr
        split
        · simpa using e6
        · split <;> simpa using e6

@[simp] theorem Dev.coreless_handover (d : Dev) (s p o n : Nat) (q : Pool) : (d.handover s p o n q).2.coreless = d.coreless := by
  unfold Dev.handover
  split
  · simp
  · dsimp only []
    split
    · next hr => exact Dev.coreless_of_readSlot hr
    · next hr =>
      have e := Dev.coreless_of_readSlot hr
      split
      · exact e
      · split
        · simpa using e
        · split
          · exact e
          · simpa using e

/-! ## Inputs and queues (R141, R166 to R169) -/

@[simp] theorem Dev.coreless_giveCredit (d : Dev) (p i : Nat) (b : Bool) : (d.giveCredit p i b).coreless = d.coreless := rfl

@[simp] theorem Dev.coreless_returnCredit (d : Dev) (p v : Nat) (b : Bool) : (d.returnCredit p v b).coreless = d.coreless := rfl

@[simp] theorem Dev.coreless_leaveInput (d : Dev) (s : Nat) (x : KSlot) : (d.leaveInput s x).coreless = d.coreless := by
  unfold Dev.leaveInput
  split <;> rfl

@[simp] theorem Dev.coreless_dropSlot (d : Dev) (s i : Nat) : (d.dropSlot s i).coreless = d.coreless := by
  unfold Dev.dropSlot
  split <;> simp

@[simp] theorem Dev.coreless_unfan (d : Dev) (s i o : Nat) : (d.unfan s i o).coreless = d.coreless := by
  unfold Dev.unfan
  dsimp only []
  split
  · rfl
  · split <;> simp

@[simp] theorem Dev.coreless_mark (d : Dev) (s o : Nat) (c : Cell) : (d.mark s o c).2.coreless = d.coreless := by
  unfold Dev.mark
  split
  · dsimp only []
    split <;> simp
  · rfl

@[simp] theorem Dev.coreless_enqueue (d : Dev) (s i n a : Nat) (l : List Nat) (m : Bool) (c : Cell) :
    (d.enqueue s i n a l m c).coreless = d.coreless := by
  unfold Dev.enqueue
  cases m
  case false =>
    have e := d.coreless_mark s ((outputsOf s l).getD 0 0) c
    dsimp only []
    split
    · exact e
    · simp only [Bool.false_eq_true, if_false] at *
      split <;> simp
  case true =>
    dsimp only []
    split
    · rfl
    · exact (foldl_keeps Dev.coreless (fun b o => Dev.coreless_unfan b s i o) _ _).trans (Dev.coreless_setKennel ..)

@[simp] theorem Dev.coreless_flushPort (d : Dev) (p : Nat) : (d.flushPort p).coreless = d.coreless := by
  unfold Dev.flushPort
  refine (foldl_keeps Dev.coreless (fun b e => Dev.coreless_unfan b _ _ _) _ _).trans ?_
  exact foldl_keeps Dev.coreless (fun b e => (Dev.coreless_count _ _).trans (Dev.coreless_dropSlot b _ _)) _ _

/-! ## Routes (R200 to R214) -/

@[simp] theorem Dev.coreless_takeWeights (d : Dev) : d.takeWeights.coreless = d.coreless := by
  unfold Dev.takeWeights
  split <;> rfl

@[simp] theorem Dev.coreless_spray (d : Dev) (s b g : Nat) (ok : Nat → Bool) : (d.spray s b g ok).2.coreless = d.coreless := by
  unfold Dev.spray
  dsimp only []
  split <;> rfl

@[simp] theorem Dev.coreless_leaveBy (d : Dev) (s b g : Nat) (cont port : Bool) (c : Cell) :
    (d.leaveBy s b g cont port c).2.coreless = d.coreless := by
  unfold Dev.leaveBy
  split
  · rfl
  · have e := Dev.coreless_spray d s b g (d.maySend c)
    split
    all_goals
      next hr => rwa [hr] at e

/-- A choice between two routes that leave the device so leaves it so. -/
theorem Dev.coreless_ite {d : Dev} {p : Prop} [Decidable p] {a b : Route × Dev} (ha : a.2.coreless = d.coreless)
    (hb : b.2.coreless = d.coreless) : (if p then a else b).2.coreless = d.coreless :=
  iteInduction (motive := fun z : Route × Dev => z.2.coreless = d.coreless) (fun _ => ha) (fun _ => hb)

@[simp] theorem Dev.coreless_route (d : Dev) (s x : Nat) (c : Cell) : (d.route s x c).2.coreless = d.coreless := by
  unfold Dev.route
  have e : (d.takeWeights.sramRead 4 (s * 256 + c.epoch) (iniXbar s x)).2.coreless = d.coreless := by simp
  generalize (d.takeWeights.sramRead 4 (s * 256 + c.epoch) (iniXbar s x)).2 = d1 at e ⊢
  rw [← e]
  dsimp only []
  refine Dev.coreless_ite rfl (Dev.coreless_ite rfl (Dev.coreless_ite rfl ?_))
  split
  · exact Dev.coreless_ite (Dev.coreless_ite rfl (Dev.coreless_ite rfl (Dev.coreless_ite rfl rfl)))
      (Dev.coreless_ite (Dev.coreless_leaveBy ..) (Dev.coreless_ite (Dev.coreless_leaveBy ..) rfl))
  · exact Dev.coreless_ite (Dev.coreless_leaveBy ..) (Dev.coreless_ite (Dev.coreless_leaveBy ..) (Dev.coreless_ite rfl
      (Dev.coreless_ite (Dev.coreless_ite rfl (Dev.coreless_ite rfl (Dev.coreless_ite rfl rfl)))
        (Dev.coreless_ite (Dev.coreless_leaveBy ..) (Dev.coreless_ite (Dev.coreless_leaveBy ..) rfl)))))

@[simp] theorem Dev.coreless_routeDrop (d : Dev) (s x p k n : Nat) (c : Cell) : (d.routeDrop s x p k n c).coreless = d.coreless := by
  unfold Dev.routeDrop
  dsimp only []
  split <;> simp

@[simp] theorem Dev.coreless_holdBack (d : Dev) (s : Nat) (w : WaitCell) : (d.holdBack s w).coreless = d.coreless := by
  simp [Dev.holdBack]

theorem Dev.coreless_of_route {d e : Dev} {s x : Nat} {c : Cell} {r : Route} (h : d.route s x c = (r, e)) :
    e.coreless = d.coreless :=
  (congrArg (fun z => z.2.coreless) h).symm.trans (d.coreless_route s x c)

theorem Dev.coreless_of_allocate {d e : Dev} {s o l : Nat} {p : Pool} {r : Option Nat} (h : d.allocate s p o l = (r, e)) :
    e.coreless = d.coreless :=
  (congrArg (fun z => z.2.coreless) h).symm.trans (d.coreless_allocate s p o l)

theorem Dev.coreless_withRouting {d b : Dev} (h : b.coreless = d.coreless) :
    ({ b with routing := d.routing } : Dev).coreless = d.coreless :=
  congrArg (fun e : Dev => { e with routing := d.coreless.routing }) h

@[simp] theorem Dev.coreless_place (d : Dev) (s : Nat) (w : WaitCell) : (d.place s w).2.coreless = d.coreless := by
  unfold Dev.place
  dsimp only []
  split
  · rfl
  · split
    · split
      · next h => simpa using Dev.coreless_of_allocate h
      · next h => exact Dev.coreless_withRouting (Dev.coreless_of_allocate h)
    · have e := fun g => d.takeWeights.coreless_spray s d.ingressEpoch g (d.maySend (d.entering w))
      split
      · next h =>
        have e1 := (congrArg (fun z => z.2.coreless) h).symm.trans (e _)
        simpa using e1
      · next h =>
        have e1 := (congrArg (fun z => z.2.coreless) h).symm.trans (e _)
        split
        · next h1 => simpa using (Dev.coreless_of_allocate h1).trans e1
        · next h1 => exact Dev.coreless_withRouting ((Dev.coreless_of_allocate h1).trans (e1.trans d.coreless_takeWeights))
    · split
      · next h => simpa using Dev.coreless_of_route h
      · next h => simpa using Dev.coreless_of_route h
      · next h => simpa using Dev.coreless_of_route h
      · next h =>
        split <;> simpa using Dev.coreless_of_route h
      · next p dl d1 h =>
        have e1 := Dev.coreless_of_route h
        rcases ha : d1.allocate s .sta w.input (d.entering w).sl with ⟨_ | i, b⟩
        · exact Dev.coreless_withRouting ((Dev.coreless_of_allocate ha).trans e1)
        · exact (Dev.coreless_count _ _).trans ((Dev.coreless_enqueue ..).trans ((Dev.coreless_of_allocate ha).trans e1))

@[simp] theorem Dev.coreless_takeIn (d : Dev) (s : Nat) (w : WaitCell) : (d.takeIn s w).coreless = d.coreless := by
  unfold Dev.takeIn
  dsimp only []
  split
  · simp
  · split
    · simp
    · have e := (d.cross (inLink s w.input)).coreless_place s w
      split
      · next h => rw [h] at e; simpa using e
      · next h => rw [h] at e; simpa using e

@[simp] theorem Dev.coreless_emitPorts (d : Dev) (s x : Nat) (c : Cell) (ps : List Nat) :
    (d.emitPorts s x c ps).coreless = d.coreless := by
  unfold Dev.emitPorts
  dsimp only []
  split <;> simp

@[simp] theorem Dev.coreless_emitRouted (d : Dev) (s x : Nat) (c : Cell) : (d.emitRouted s x c).coreless = d.coreless :=
  Dev.coreless_takeIn ..

/-! ## Cells that go out on a port (R132, R136) -/

@[simp] theorem Dev.coreless_sendCell (d : Dev) (p : Nat) (l : Lane) (c : Cell) : (d.sendCell p l c).coreless = d.coreless := by
  rw [Dev.sendCell_frame]; rfl

@[simp] theorem Dev.coreless_sampleCell (d : Dev) (p : Nat) (tx re : Bool) (l : Lane) (c : Cell) :
    (d.sampleCell p tx re l c).coreless = d.coreless := by
  rw [Dev.sampleCell_frame]; rfl

@[simp] theorem Dev.coreless_sendNow (d : Dev) (p : Nat) (c : Cell) (slot : Option Nat) : (d.sendNow p c slot).coreless = d.coreless := by
  rw [Dev.sendNow_eq, Dev.coreless_sendCell, Dev.coreless_sampleCell]
  rfl

@[simp] theorem Dev.coreless_sendSeq (d : Dev) (p : Nat) (c : Cell) : (d.sendSeq p c).coreless = d.coreless := by
  unfold Dev.sendSeq
  split
  · split
    · split
      · next h => exact (Dev.coreless_sendNow ..).trans (Dev.coreless_of_allocate h)
      · next h => exact (Dev.coreless_updPort ..).trans (Dev.coreless_of_allocate h)
    · simp
  · rfl

@[simp] theorem Dev.coreless_sendLocal (d : Dev) (p op : Nat) (pl : List Byte) : (d.sendLocal p op pl).coreless = d.coreless :=
  Dev.coreless_sendSeq ..

@[simp] theorem Dev.coreless_sendWake (d : Dev) (p k r : Nat) : (d.sendWake p k r).coreless = d.coreless :=
  Dev.coreless_sendSeq ..

end Sys2Proof.Machine
end

section
/-! Times kept between switches, and the clocks of routing (R214, R218, R223, R227, R373, R374). -/

namespace Sys2Proof.Machine

/-! ## Time transfer (R373, R374) -/

/-- A fine time is a fraction of its tick (R374). -/
theorem Dev.fineTime_div (d : Dev) : d.fineTime / 256 = d.tick := by
  unfold Dev.fineTime
  omega

theorem exec_timeXferSend {s : State} (hp : s.reg E.TIME_PARENT_PORT ≠ 0xFF)
    (hup : (s.port (s.reg E.TIME_PARENT_PORT)).state = .up) (hk : s.peerKind (s.reg E.TIME_PARENT_PORT) = 2)
    (hdue : s.time.lastSent = none ∨ ∃ a, s.time.lastSent = some a ∧ a + s.reg E.TIME_PERIOD_TICKS ≤ s.tick) :
    exec .timeXferSend s = .next (s.dev (({ s.toDev.drew with time := { s.time with
      seq := (s.time.seq + 1) % 65536, t1 := some s.fineTime, lastSent := some s.tick } }).emitPorts 0 133
        (mkCtl tCtrl (s.peerAddr (s.reg E.TIME_PARENT_PORT)) (s.ownAddr 0xFF) 0x40 0
          (timePayload 1 ((s.time.seq + 1) % 65536) s.fineTime 0 0 0)) [s.reg E.TIME_PARENT_PORT])) := by
  have hnow : (s.time.lastSent.map (fun t => decide (t + s.reg E.TIME_PERIOD_TICKS ≤ s.tick))).getD true = true := by
    rcases hdue with h | ⟨a, h, ha⟩
    · rw [h]
      rfl
    · rw [h]
      exact decide_eq_true ha
  refine run_dev (if_neg ?_)
  simp [hp, hup, hk, hnow]

/-- A clock is aligned where each of eight samples lies within the tolerance (R374). -/
theorem Dev.timeAligned_iff (d : Dev) : d.timeAligned = true ↔
    d.time.samples.length = 8 ∧ ∀ v ∈ d.time.samples, -(d.reg E.TIME_ALIGN_TOL : Int) ≤ v ∧ v ≤ d.reg E.TIME_ALIGN_TOL := by
  simp [Dev.timeAligned]

theorem exec_timeXferAnswer {s : State} {p : Port} {c : Cell} (t4 : BitVec 64) (ht : c.type = tCtrl) (ho : c.op = 0x40)
    (hk : c.pay 0 1 = 2) (hq : c.pay 2 2 = s.time.seq) (h1 : s.time.t1 = some (c.pay 4 8))
    (hp : s.reg E.TIME_PARENT_PORT = p.val) :
    let a : Int := (c.pay 12 8 : Int) - c.pay 4 8
    let b : Int := (t4.toNat : Int) - c.pay 20 8
    let x := toSigned 64 (c.pay 28 8) - ((a - b) / 2 - toSigned 32 (s.reg E.TIME_ASYM))
    let l := (x :: s.time.samples).take 8
    exec (.timeXferAnswer p c t4) s = .next (s.dev { s.toDev with time := { s.time with
      t1 := none, samples := l, offset := meanOf l, delay := (a + b) / 2 } }) := by
  refine run_dev (if_neg ?_)
  simp [ht, ho, hk, hq, h1, hp]

/-- Settles O43: the three rows of R373 and R374, each from the checks that its command makes. -/
theorem timeTransfer : Obligations.TimeTransfer := by
  refine ⟨fun s hp hup hk hdue => ?_, fun s p c t2 t3 ht ho hk hup => ?_, fun s p c t4 ht ho hk hq h1 hp => ?_⟩
  · have htime := congrArg Dev.time (({ s.toDev.drew with time := { s.time with
      seq := (s.time.seq + 1) % 65536, t1 := some s.fineTime, lastSent := some s.tick } } : Dev).coreless_emitPorts 0 133
        (mkCtl tCtrl (s.peerAddr (s.reg E.TIME_PARENT_PORT)) (s.ownAddr 0xFF) 0x40 0
          (timePayload 1 ((s.time.seq + 1) % 65536) s.fineTime 0 0 0)) [s.reg E.TIME_PARENT_PORT])
    refine ⟨_, s.fineTime, exec_timeXferSend hp hup hk hdue, s.fineTime_div, htime, ?_⟩
    rw [State.toDev_dev]
    exact congrArg (fun x => s.dev (({ s.toDev.drew with time := x } : Dev).emitPorts 0 133 _ _)) htime.symm
  · refine run_dev (if_neg ?_)
    simp [ht, ho, hk, hup]
  · exact ⟨_, exec_timeXferAnswer t4 ht ho hk hq h1 hp, rfl, rfl, rfl, rfl, Dev.timeAligned_iff _, rfl⟩

/-! ## Banks and leashes (R214, R218, R223, R227) -/

/-- With no context open, losses of ports have nothing to end (R304, R368). -/
theorem Dev.settle_of_idle {d was : Dev} (h : d.ctxs = []) : d.settle was = d := if_pos (by simp [h])

/-- The device after a flip from the bank `live` to the other, asked for tick `t` (R214). -/
def Dev.flipFrom (d : Dev) (live t : Nat) : Dev :=
  let d1 := (d.setBank live .draining).setBank (1 - live) .live
  ({ d1 with routing := { d1.routing with flipTick := none, stuckFrom := some t } }).setReg E.LAST_FLIP_TICK t

theorem Dev.ingressEpoch_cases (d : Dev) : d.ingressEpoch = 0 ∨ d.ingressEpoch = 1 := by
  unfold Dev.ingressEpoch
  split
  · exact .inl rfl
  · exact .inr rfl

theorem Dev.flipFrom_banks (d : Dev) {e : Nat} (t : Nat) (he : e = 0 ∨ e = 1) : (d.flipFrom e t).bank e = .draining ∧
    (d.flipFrom e t).bank (1 - e) = .live ∧ (d.flipFrom e t).ingressEpoch = 1 - e := by
  rcases he with rfl | rfl <;> exact ⟨rfl, rfl, rfl⟩

theorem Dev.flipFrom_frame (d : Dev) {e : Nat} (t : Nat) (he : e = 0 ∨ e = 1) : d.flipFrom e t =
    { d.setReg E.LAST_FLIP_TICK t with routing := (d.flipFrom e t).routing } := by
  rcases he with rfl | rfl <;> rfl

theorem exec_epochFlip {s : State} {t0 : Nat} (h : s.routing.flipTick = some t0) (ht : t0 ≤ s.tick) (hc : s.ctxs = []) :
    exec .epochFlip s = .next (s.dev (s.toDev.flipFrom s.ingressEpoch t0)) := by
  refine settled_run_dev ?_
  simp only [h]
  rw [if_neg (Nat.not_lt.mpr ht)]
  exact Dev.settle_of_idle (d := s.toDev.flipFrom s.ingressEpoch t0)
    (by rw [Dev.flipFrom_frame _ _ s.ingressEpoch_cases]; exact hc)

theorem Dev.leash_setLeash_same (d : Dev) (l : Leash) : (d.setLeash l).leash l.dest = l := by
  have h : (d.routing.leashes.filter (fun m => m.dest != l.dest)).find? (fun m => m.dest = l.dest) = none :=
    List.find?_eq_none.mpr fun m hm => by simpa using (List.mem_filter.mp hm).2
  simp [Dev.leash, Dev.setLeash, List.find?_append, h]

theorem Dev.leash_setLeash_other (d : Dev) {l : Leash} {a : Nat} (ha : a ≠ l.dest) : (d.setLeash l).leash a = d.leash a := by
  have h : (d.routing.leashes.filter (fun m => m.dest != l.dest)).find? (fun m => m.dest = a) =
      d.routing.leashes.find? (fun m => m.dest = a) := by
    rw [List.find?_filter]
    exact congrArg (fun f => List.find? f _) (funext fun m => by by_cases hm : m.dest = a <;> simp [hm, ha])
  simp [Dev.leash, Dev.setLeash, List.find?_append, h, Ne.symm ha]

theorem exec_leashUp {s : State} {dest : BitVec 20} {l : Leash} (h : s.routing.leashes.find? (fun l => l.dest = dest.toNat) = some l)
    (ht : l.lastUp + s.reg E.LEASH_UP_TICKS ≤ s.tick) : exec (.leashUp dest) s = .next (s.dev
      (s.toDev.setLeash { l with rate := min 256 (l.rate + s.reg E.LEASH_STEP_UP), lastUp := s.tick })) := by
  refine run_dev ?_
  simp only [h]
  exact if_neg (Nat.not_lt.mpr ht)

/-- Settles O37: the flip by its bank, the leash by its destination, and the time-out by how often the request was sent again. -/
theorem epochFlipsAndTimeouts : Obligations.EpochFlipsAndTimeouts := by
  refine ⟨fun s t0 h ht hc => ?_, fun s t0 h ht => ?_, fun s b t0 h hb ht hn hreg => ?_, fun s b h => ?_,
    fun s dest l h ht => ?_, fun s dest seq rq h ht => ⟨fun hn => ?_, fun hn => ?_⟩⟩
  · obtain ⟨h1, h2, h3⟩ := s.toDev.flipFrom_banks t0 s.ingressEpoch_cases
    have hf := s.toDev.flipFrom_frame t0 s.ingressEpoch_cases
    refine ⟨_, exec_epochFlip h ht hc, h1, h2, h3, ?_, ?_, fun k hk => ?_, ?_⟩
    · rw [State.toDev_dev, hf]
      exact Dev.reg_setReg_same ..
    · rw [State.toDev_dev]
      rcases s.ingressEpoch_cases with he | he <;> rw [he] <;> rfl
    · rw [State.toDev_dev, hf]
      exact Dev.reg_setReg_other _ _ (by simpa using hk)
    · rw [hf]
      rfl
  · refine settled_run_dev (d := s.toDev) ?_
    simp only [h]
    rw [if_pos ht]
    exact Dev.settle_self _
  · have he : exec (.drainStuck b) s = .next (s.dev ((({ s.toDev with routing := { s.routing with stuckFrom := none } } : Dev).setReg
        (E.DRAIN_STUCK 0) (s.reg (E.DRAIN_STUCK 0) + 1)).report
          (bark 0x0304 accNone iniNone false b.val (s.drainCount b.val)))) := by
      refine run_dev ?_
      simp only [h]
      refine (if_pos (by simp [hb, ht, hn])).trans ?_
      exact congrArg (fun x : Dev => x.report _)
        (Dev.countErr_of_lt (d := { s.toDev with routing := { s.routing with stuckFrom := none } }) hreg)
    exact ⟨_, he, Dev.reg_setReg_same .., rfl, rfl, fun k hk => Dev.reg_setReg_other _ _ (by simpa using hk), rfl⟩
  · refine run_dev ?_
    simp only [h]
  · refine ⟨_, exec_leashUp h ht, ?_, fun a ha => ?_, rfl⟩
    · have hd : l.dest = dest.toNat := by simpa using List.find?_some h
      rw [← hd]
      exact Dev.leash_setLeash_same ..
    · have hd : l.dest = dest.toNat := by simpa using List.find?_some h
      exact Dev.leash_setLeash_other _ (hd.symm ▸ ha)
  · refine run_dev ?_
    simp only [h]
    rw [if_neg (Nat.not_lt.mpr ht), if_pos hn]
  · refine run_dev ?_
    simp only [h]
    rw [if_neg (Nat.not_lt.mpr ht), if_neg (Nat.not_le.mpr hn)]

end Sys2Proof.Machine
end

section
/-! Discovery (R633 to R636): what a verdict leaves of the outcomes and the logical numbers, and the comparison of identities. -/

namespace Sys2Proof.Machine

/-! ## The outcomes and logical numbers that a port's change of state leaves alone -/

/-- What discovery has found: the outcomes of ports, and their logical numbers. -/
def Dev.found (d : Dev) : Tbl Discovery × Tbl Nat := (d.discovery, d.routing.logical)

theorem Dev.found_of_coreless {d e : Dev} (h : d.coreless = e.coreless) : d.found = e.found :=
  show d.coreless.found = e.coreless.found from congrArg Dev.found h

@[simp] theorem Dev.found_updPort (d : Dev) (p : Nat) (f : PortSt → PortSt) : (d.updPort p f).found = d.found := rfl

@[simp] theorem Dev.found_setPort (d : Dev) (p : Nat) (x : PortSt) : (d.setPort p x).found = d.found := rfl

@[simp] theorem Dev.found_linkEvent (d : Dev) (p : Nat) : (d.linkEvent p).found = d.found := rfl

@[simp] theorem Dev.found_setReg (d : Dev) (k v : Nat) : (d.setReg k v).found = d.found := rfl

@[simp] theorem Dev.found_notePort (d was : Dev) (p : Nat) : (d.notePort was p).found = d.found := by
  rw [Dev.notePort_frame]; rfl

@[simp] theorem Dev.found_flushPort (d : Dev) (p : Nat) : (d.flushPort p).found = d.found :=
  Dev.found_of_coreless (d.coreless_flushPort p)

@[simp] theorem Dev.found_moduleLanes (d : Dev) (p rate : Nat) : (d.moduleLanes p rate).found = d.found := by
  rw [Dev.moduleLanes_frame]; rfl

@[simp] theorem Dev.found_sendCell (d : Dev) (p : Nat) (l : Lane) (c : Cell) : (d.sendCell p l c).found = d.found := by
  rw [Dev.sendCell_frame]; rfl

@[simp] theorem Dev.found_sendWake (d : Dev) (p kind reason : Nat) : (d.sendWake p kind reason).found = d.found :=
  Dev.found_of_coreless (d.coreless_sendWake p kind reason)

@[simp] theorem Dev.found_wake (d : Dev) (k : Nat) : (d.wake k).found = d.found := by
  unfold Dev.wake
  split
  · rfl
  · split <;> rfl

@[simp] theorem Dev.found_wakeIdent (d : Dev) : d.wakeIdent.found = d.found := by
  unfold Dev.wakeIdent Dev.unsleepPorts
  dsimp only []
  split
  · exact (foldl_keeps Dev.found (fun a q => (Dev.found_sendWake _ _ _ _).trans (Dev.found_updPort _ _ _)) _ _).trans (d.found_wake _)
  · exact d.found_wake _

@[simp] theorem Dev.found_toQuarantine (d : Dev) (p : Nat) : (d.toQuarantine p).found = d.found := by
  simp [Dev.toQuarantine]

@[simp] theorem Dev.found_identCheck (d : Dev) (p : Nat) : (d.identCheck p).found = d.found := by
  unfold Dev.identCheck
  dsimp only []
  split
  · rfl
  · split
    · simp
    · split
      · simp
      · rfl

@[simp] theorem Dev.found_setVerdict (d : Dev) (p v : Nat) : (d.setVerdict p v).found = d.found :=
  (Dev.found_identCheck _ _).trans (d.found_updPort _ _)

@[simp] theorem Dev.found_sendIdent (d : Dev) (p : Nat) : (d.sendIdent p).found = d.found := by
  simp [Dev.sendIdent]

/-! ## The comparison (R633) -/

/-- The port whose IDENT came first is compared (R633). -/
theorem exec_discoveryCompare {s : State} {p : Port} (h : s.toDev.awaitsVerdict p.val = true)
    (hfirst : ∀ q a b, q < 256 → q ≠ p.val → s.toDev.awaitsVerdict q = true → (s.port q).firstIdent = some a →
      (s.port p.val).firstIdent = some b → b < a ∨ b = a ∧ p.val < q) :
    exec (.discoveryCompare p) s = .next (s.dev (s.toDev.compare p.val)) := by
  have hident : ∀ q, s.toDev.awaitsVerdict q = true → ∃ a, (s.port q).firstIdent = some a := fun q hq =>
    Option.isSome_iff_exists.mp (by simp only [Dev.awaitsVerdict, Bool.and_eq_true] at hq; exact hq.2)
  obtain ⟨b, hb⟩ := hident _ h
  refine run_dev (if_pos ?_)
  rw [h, Bool.true_and, Bool.not_eq_true', List.any_eq_false]
  intro q hq
  by_cases hw : s.toDev.awaitsVerdict q = true
  · obtain ⟨a, ha⟩ := hident q hw
    by_cases hqp : q = p.val
    · simp [hqp]
    · have := hfirst q a b (List.mem_range.mp hq) hqp hw ha hb
      simp [hw, ha, hb]
      omega
  · simp [hw]

theorem exec_discoveryCompare_none {s : State} {p : Port} (h : s.toDev.awaitsVerdict p.val = false) :
    exec (.discoveryCompare p) s = .next s :=
  run_dev (if_neg (by simp [h]))

/-- No other port's place fits (R633). -/
theorem Dev.find_place_none {d : Dev} {n : Nat} (h : ∀ b, b < 256 → b ≠ n → d.fits n (d.planEntry (d.logical b)) = false) :
    allPorts.find? (fun b => b != n && d.fits n (d.planEntry (d.logical b))) = none :=
  List.find?_eq_none.mpr fun b hb => by
    by_cases hbn : b = n
    · simp [hbn]
    · simp [h b (List.mem_range.mp hb) hbn]

/-- The lowest port whose place fits. -/
theorem Dev.find_place {d : Dev} {n b : Nat} (hb : b < 256) (hbn : b ≠ n) (hfit : d.fits n (d.planEntry (d.logical b)) = true)
    (h : ∀ c, c < b → c ≠ n → d.fits n (d.planEntry (d.logical c)) = false) :
    allPorts.find? (fun b => b != n && d.fits n (d.planEntry (d.logical b))) = some b := by
  refine List.find?_range_eq_some.mpr ⟨by simp [hbn, hfit], List.mem_range.mpr hb, fun c hc => ?_⟩
  by_cases hcn : c = n
  · simp [hcn]
  · simp [h c hc hcn]

/-! ## The swap (R634) -/

/-- What a table of logical numbers says of a port. -/
def numberIn (t : Tbl Nat) (p : Nat) : Nat := tgetD t p p

/-- A table of logical numbers with one port's number; a port's own number needs no entry. -/
def giveNumber (t : Tbl Nat) (p n : Nat) : Tbl Nat := if p = n then terase t p else tset t p n

theorem numberIn_giveNumber_same (t : Tbl Nat) (p n : Nat) : numberIn (giveNumber t p n) p = n := by
  unfold giveNumber
  split
  · next h => subst h; simp [numberIn, tgetD, tget_terase]
  · simp [numberIn, tgetD, tget_tset_same]

theorem numberIn_giveNumber_other (t : Tbl Nat) {p q : Nat} (n : Nat) (h : q ≠ p) : numberIn (giveNumber t p n) q = numberIn t q := by
  unfold giveNumber
  split
  · simp [numberIn, tgetD, tget_terase, h]
  · simp [numberIn, tgetD, tget_tset_other _ _ h]

theorem Dev.exchange_logical (d : Dev) {a b : Nat} (h : a ≠ b) : (d.exchange a b).logical a = d.logical b ∧
    (d.exchange a b).logical b = d.logical a ∧ ∀ c, c ≠ a → c ≠ b → (d.exchange a b).logical c = d.logical c :=
  ⟨(numberIn_giveNumber_other _ _ h).trans (numberIn_giveNumber_same _ _ _), numberIn_giveNumber_same _ _ _,
    fun _ ha hb => (numberIn_giveNumber_other _ _ hb).trans (numberIn_giveNumber_other _ _ ha)⟩

/-- An outcome recorded, in what discovery has found. -/
theorem Dev.found_outcome (d : Dev) (p code other : Nat) : (d.outcome p code other).found =
    (tset d.found.1 p { outcome := code, other := other, differ := if code = 1 || code = 6 then 0 else d.differ p, tick := d.tick },
      d.found.2) := rfl

/-- A port that enters IDENT keeps the logical numbers. -/
theorem Dev.logical_toIdent (d : Dev) (p : Nat) : (d.toIdent p).found.2 = d.found.2 := by
  have h : ∀ f : PortSt → PortSt, (((d.flushPort p).updPort p f).pendDiscovery p).found.2 = d.found.2 := fun _ =>
    show (d.flushPort p).found.2 = d.found.2 from congrArg Prod.snd (d.found_flushPort p)
  unfold Dev.toIdent
  dsimp only []
  rw [Dev.found_notePort]
  exact h _

/-- What a swap that is accepted leaves (R634). -/
theorem Dev.found_swap_accepted {d : Dev} {a b : Nat} (hp : d.reg E.SWAP_POLICY = 1) (ha : d.remapHeld a = false)
    (hb : d.remapHeld b = false) : ∃ t x y, (d.swapRule a b).found = (tset (tset t a x) b y, (d.exchange a b).found.2) ∧
    (x.outcome, x.other, x.differ) = (6, b, 0) ∧ (y.outcome, y.other, y.differ) = (6, a, 0) := by
  have hd2 : ∀ e : Dev, (if (e.port b).state = .quarantine then (e.toIdent b).sendIdent b else e).found.2 = e.found.2 := by
    intro e
    split
    · exact (congrArg Prod.snd (Dev.found_sendIdent _ _)).trans (e.logical_toIdent b)
    · rfl
  unfold Dev.swapRule
  rw [if_pos (by simp [hp, ha, hb])]
  dsimp only []
  rw [Dev.found_setVerdict, Dev.found_setVerdict, Dev.found_outcome, Dev.found_outcome, hd2]
  exact ⟨_, _, _, rfl, rfl, rfl⟩

/-- What a swap that is refused leaves (R634). -/
theorem Dev.found_swap_refused {d : Dev} {a b : Nat}
    (h : d.reg E.SWAP_POLICY ≠ 1 ∨ d.remapHeld a = true ∨ d.remapHeld b = true) :
    ∃ t x y, (d.swapRule a b).found = (tset (tset t b y) a x, d.found.2) ∧ (x.outcome, x.other) = (7, b) ∧ (y.outcome, y.other) = (7, a) := by
  unfold Dev.swapRule
  rw [if_neg (by rcases h with h | h | h <;> simp [h])]
  dsimp only []
  unfold Dev.rejectPort
  rw [Dev.found_setVerdict, Dev.found_outcome]
  have hd2 : ∀ e : Dev, (if (e.port b).state = .ident then e.setVerdict b 2 else e).found = e.found := by
    intro e
    split
    · exact e.found_setVerdict b 2
    · rfl
  rw [hd2, Dev.found_outcome]
  exact ⟨_, _, _, rfl, rfl, rfl⟩

/-- Settles O58: the first in line is compared, each outcome by its branch of the comparison, and a swap by what its outcomes and
its exchange leave once the verdicts have moved the two ports. -/
theorem discoveryCompares : Obligations.DiscoveryCompares := by
  refine ⟨fun s p hw hfirst => ?_, fun s p h => exec_discoveryCompare_none h, fun d a b hab hp ha hb => ?_, fun d a b hab h => ?_⟩
  · rw [exec_discoveryCompare hw hfirst]
    refine ⟨fun hc => ?_, fun hc hi => ?_, fun hc hi hf => ?_, fun hc hi hf hn => ?_, fun b hc hi hf hb hbn hfit hlow => ⟨fun h => ?_, fun h1 h2 => ?_⟩⟩
    all_goals refine congrArg (fun d => Host.Outcome.next (s.dev d)) ?_
    all_goals unfold Dev.compare
    · exact if_pos (not_not.mp hc)
    · exact (if_neg hc).trans (if_pos (by simpa using hi))
    · exact (if_neg hc).trans ((if_neg (by simpa using hi)).trans (if_pos hf))
    · refine (if_neg hc).trans ((if_neg (by simpa using hi)).trans ((if_neg (by simp [hf])).trans ?_))
      rw [Dev.find_place_none hn]
      rfl
    · refine (if_neg hc).trans ((if_neg (by simpa using hi)).trans ((if_neg (by simp [hf])).trans ?_))
      rw [Dev.find_place hb hbn hfit hlow]
      exact if_neg (by rcases h with h | h <;> simp [h])
    · refine (if_neg hc).trans ((if_neg (by simpa using hi)).trans ((if_neg (by simp [hf])).trans ?_))
      rw [Dev.find_place hb hbn hfit hlow]
      exact if_pos (by simp [h1, h2])
  · obtain ⟨t, x, y, hr, hx, hy⟩ := Dev.found_swap_accepted hp ha hb
    obtain ⟨h1, h2, h3⟩ := d.exchange_logical hab
    have hl : ∀ c, (d.swapRule a b).logical c = (d.exchange a b).logical c := fun c =>
      congrArg (fun z : Tbl Discovery × Tbl Nat => tgetD z.2 c c) hr
    have hdisc : (d.swapRule a b).discovery = tset (tset t a x) b y := congrArg Prod.fst hr
    refine ⟨(hl a).trans h1, (hl b).trans h2, fun c hca hcb => (hl c).trans (h3 c hca hcb), ?_, ?_⟩
    · rw [hdisc, tget_tset_other _ _ hab, tget_tset_same, Option.map_some, hx]
    · rw [hdisc, tget_tset_same, Option.map_some, hy]
  · obtain ⟨t, x, y, hr, hx, hy⟩ := Dev.found_swap_refused h
    have hdisc : (d.swapRule a b).discovery = tset (tset t b y) a x := congrArg Prod.fst hr
    refine ⟨fun c => congrArg (fun z : Tbl Discovery × Tbl Nat => tgetD z.2 c c) hr, ?_, ?_⟩
    · rw [hdisc, tget_tset_same, Option.map_some, hx]
    · rw [hdisc, tget_tset_other _ _ (Ne.symm hab), tget_tset_same, Option.map_some, hy]

end Sys2Proof.Machine
end

section
/-! Contexts that end, and the messages between switches about them (R295, R302, R304, R356, R363, R366, R367). -/

namespace Sys2Proof.Machine

/-! ## Contexts read after a write -/

@[simp] theorem Dev.ctx_setCtx_same (d : Dev) (n : Nat) (x : Ctx) : (d.setCtx n x).ctx n = x := by
  simp [Dev.ctx, Dev.setCtx, tgetD, tget_tset_same]

theorem Dev.ctx_setCtx_other (d : Dev) {n m : Nat} (x : Ctx) (h : m ≠ n) : (d.setCtx n x).ctx m = d.ctx m := by
  simp [Dev.ctx, Dev.setCtx, tgetD, tget_tset_other _ _ h]

@[simp] theorem Dev.ctx_updCtx_same (d : Dev) (n : Nat) (f : Ctx → Ctx) : (d.updCtx n f).ctx n = f (d.ctx n) :=
  Dev.ctx_setCtx_same ..

theorem Dev.ctx_updCtx_other (d : Dev) {n m : Nat} (f : Ctx → Ctx) (h : m ≠ n) : (d.updCtx n f).ctx m = d.ctx m :=
  Dev.ctx_setCtx_other _ _ h

/-! ## The end of a context (R302, R304, R366) -/

/-- A context fails for want of progress, unless it meets its completion condition (R304). -/
theorem exec_ctxIdleTimeout {s : State} {n : CtxNo} (h : (s.ctx n.val).state = .collect)
    (ht : (s.ctx n.val).progressTick + s.reg E.CTX_IDLE_TICKS ≤ s.tick) :
    exec (.ctxIdleTimeout n) s = .next (s.dev (s.toDev.failLast n.val 13 0xFFFF)) :=
  run_dev (if_pos (by simp [h, ht]))

theorem Dev.failLast_of_over {d : Dev} {n : Nat} (st m : Nat) (h : d.armsOver n = true) (ht : d.coordTarget (d.ctx n) = none) :
    d.failLast n st m = d.completeCtx n := if_pos (by simp [h, ht])

theorem Dev.failLast_of_open {d : Dev} {n : Nat} (st m : Nat) (h : d.armsOver n = false ∨ d.coordTarget (d.ctx n) ≠ none) :
    d.failLast n st m = d.failCtx n st m :=
  if_neg (by rcases h with h | h <;> simp [h])

theorem Dev.coordTarget_eq_none {d : Dev} {x : Ctx} (h : (d.layout x.pack).spanning = false ∨
    (d.layout x.pack).target (x.rc.coordinator (d.layout x.pack)) = none) : d.coordTarget x = none := by
  unfold Dev.coordTarget
  rcases h with h | h <;> simp [h]

/-! ## Messages of neighbours (R356, R367) -/

/-- A status that a switch sends (R306). -/
theorem Dev.refusedStatus_range (d : Dev) : 1 ≤ d.refusedStatus ∧ d.refusedStatus ≤ 13 := by
  unfold Dev.refusedStatus
  omega

/-- No reserved code is sent on (R19). -/
theorem Dev.failedFrom_range (d : Dev) {st f : Nat} (h : st ≠ 0) :
    1 ≤ (d.failedFrom st f).1.1 ∧ (d.failedFrom st f).1.1 ≤ 13 ∧ (d.failedFrom st f).1.2 ≤ 14 := by
  have hr := d.refusedStatus_range
  unfold Dev.failedFrom
  split
  · next hk =>
    simp only [Bool.and_eq_true, decide_eq_true_eq] at hk
    exact ⟨Nat.one_le_iff_ne_zero.mpr h, hk⟩
  · dsimp only []
    refine ⟨?_, ?_, ?_⟩
    · split <;> omega
    · split <;> omega
    · generalize (if st ≤ 13 then st else d.refusedStatus) = q
      split
      · omega
      · split <;> omega

theorem Dev.failedFrom_known (d : Dev) {st f : Nat} (h : st ≤ 13) (hf : f ≤ 14) : d.failedFrom st f = ((st, f), d) :=
  if_pos (by simp [h, hf])

section
variable {s : State} {src : Src} {c : Cell} {n rack : Nat}

theorem exec_collDone (ht : c.type = tCtrl) (ho : c.op = 0x31) (hd : s.domainOff .switch = false) :
    exec (.collDone src c) s = .next (s.dev (s.toDev.collDone src c)) :=
  run_dev (if_pos (by simp [ht, ho, hd]))

variable (hn : s.openPair (bits (c.pay 0 2) 0 10) (c.pay 2 2) = some n) (ha : s.arrivedFrom src c = some rack)
  (hs : (s.layout (s.ctx n).pack).spanning = true)
include hn ha hs

/-- OK from the target (R367). -/
theorem Dev.collDone_of_target (hk : c.pay 4 1 = 0) (h : ((s.layout (s.ctx n).pack).target
    ((s.ctx n).rc.coordinator (s.layout (s.ctx n).pack))).map (·.rack) = some rack) :
    s.toDev.collDone src c = s.toDev.completeCtx n := by
  unfold Dev.collDone
  simp only [hn, ha]
  rw [if_neg (by simp [hs, h]), if_pos hk, if_pos h]

/-- OK from an upstream, for the first time (R366). -/
theorem Dev.collDone_of_upstream (hk : c.pay 4 1 = 0) (h : ((s.layout (s.ctx n).pack).target
      ((s.ctx n).rc.coordinator (s.layout (s.ctx n).pack))).map (·.rack) ≠ some rack)
    (hu : (((s.layout (s.ctx n).pack).upstreams
      ((s.ctx n).rc.coordinator (s.layout (s.ctx n).pack))).map (·.rack)).contains rack = true)
    (hf : rack ∉ (s.ctx n).doneFrom) : s.toDev.collDone src c = s.toDev.setCtx n { s.ctx n with
      doneFrom := (s.ctx n).doneFrom ++ [rack], progressTick := s.tick } := by
  unfold Dev.collDone
  simp only [hn, ha]
  rw [if_neg (by rw [hs, hu]; simp), if_pos hk, if_neg h]
  exact congrArg (fun l => s.toDev.setCtx n { s.ctx n with doneFrom := l, progressTick := s.tick }) (if_neg (by simpa using hf))

/-- A failure from a neighbour of the context (R367). -/
theorem Dev.collDone_of_failure (hk : c.pay 4 1 ≠ 0) (h : ((s.layout (s.ctx n).pack).target
      ((s.ctx n).rc.coordinator (s.layout (s.ctx n).pack))).map (·.rack) = some rack ∨
    (((s.layout (s.ctx n).pack).upstreams
      ((s.ctx n).rc.coordinator (s.layout (s.ctx n).pack))).map (·.rack)).contains rack = true) :
    s.toDev.collDone src c = (s.toDev.failedFrom (c.pay 4 1) (c.pay 5 1)).2.endCtx n false
      (s.toDev.failedFrom (c.pay 4 1) (c.pay 5 1)).1.1 (s.toDev.failedFrom (c.pay 4 1) (c.pay 5 1)).1.2 (c.pay 6 2)
      (s.ctx n).record (some rack) := by
  unfold Dev.collDone
  simp only [hn, ha]
  rw [if_neg ?_, if_neg hk]
  rcases h with h | h
  · simp [hs, h]
  · rw [hs, h]
    simp

end

/-- A target of a context that answered CONTEXT_BUSY (R295): when it is asked again. -/
def Dev.backOff (d : Dev) (rack : Nat) (t : SpanTarget) : SpanTarget :=
  if t.rack = rack then
    let w := if t.busyInt = 0 then d.reg E.BUSY_RETRY_TICKS else min (2 * t.busyInt) (d.reg E.BUSY_RETRY_MAX)
    { t with busyAt := some (d.tick + w), busyInt := w }
  else t

theorem Dev.backOff_rack (d : Dev) (rack : Nat) (t : SpanTarget) : (d.backOff rack t).rack = t.rack := by
  unfold Dev.backOff
  split <;> rfl

/-- The target that is busy is asked again later. -/
theorem Dev.backOff_same (d : Dev) {rack : Nat} {t : SpanTarget} (h : t.rack = rack) :
    ∃ w, (d.backOff rack t).busyAt = some (d.tick + w) ∧ (d.backOff rack t).busyInt = w := by
  unfold Dev.backOff
  rw [if_pos h]
  exact ⟨_, rfl, rfl⟩

theorem Dev.backOff_other (d : Dev) {rack : Nat} {t : SpanTarget} (h : t.rack ≠ rack) : d.backOff rack t = t := if_neg h

/-- A context whose neighbour is busy. -/
theorem Dev.ctx_backOff (d : Dev) (n rack now : Nat) : ((d.cameBack n).updCtx n (fun z => { z with
    progressTick := now, targets := z.targets.map (d.backOff rack) })).ctx n = { d.ctx n with
      resendAt := (d.ctx n).resendAt.map (fun _ => d.tick + (d.ctx n).resendInt), progressTick := now,
      targets := (d.ctx n).targets.map (d.backOff rack) } :=
  (Dev.ctx_updCtx_same ..).trans (congrArg (fun z : Ctx => { z with progressTick := now, targets := z.targets.map (d.backOff rack) })
    (Dev.ctx_updCtx_same ..))

theorem exec_collNak_busy {s : State} {src : Src} {c : Cell} {n rack : Nat} (ht : c.type = tCtrl) (ho : c.op = 0x30)
    (hd : s.domainOff .switch = false) (hn : s.openPair (bits (c.pay 2 2) 0 10) (c.pay 4 2) = some n)
    (ha : s.arrivedFrom src c = some rack) (hk : c.pay 0 1 = 1) (hq : ∃ q ∈ (s.ctx n).targets, q.rack = rack) :
    exec (.collNak src c) s = .next (s.dev ((s.toDev.cameBack n).updCtx n (fun z => { z with
      progressTick := s.tick, targets := z.targets.map (s.toDev.backOff rack) }))) := by
  refine run_dev ?_
  rw [if_neg (by simp [ht, ho, hd])]
  simp only [hn, ha]
  rw [if_neg (by simpa using hq), if_pos hk]
  rfl

/-- Settles O41: each row from the condition that it tests. -/
theorem contextsEnd : Obligations.ContextsEnd := by
  refine ⟨fun s n hc => ⟨fun ht => ⟨fun hv hn => ?_, fun h => ?_⟩, fun ht => ?_⟩, fun s n hc hr hh hd hv hp ha => ⟨fun h => ?_, fun h hs hy => ?_⟩,
    fun s src c n rack ht ho hd hn ha hs => ⟨fun hk h => ?_, fun hk h hu hf => ?_, fun hk h1 h2 h => ?_, fun hb hk h => ?_⟩,
    fun s src c n rack ht ho hd hn ha hk hq => ?_, fun s n q a hc hq hb ht => ?_, fun s n a hc hr ht hq => ?_⟩
  · rw [exec_ctxIdleTimeout hc ht, Dev.failLast_of_over _ _ hv hn]
  · rw [exec_ctxIdleTimeout hc ht, Dev.failLast_of_open _ _ h]
  · exact run_dev (d := s.toDev) (if_neg (by simp [hc]; omega))
  · refine run_dev ((if_pos ?_).trans ?_)
    · simp [Dev.armsOver, hc, hr, hh, hd, hv, hp, ha]
    · rw [Dev.coordTarget_eq_none h]
  · refine run_dev ((if_pos ?_).trans ?_)
    · simp [Dev.armsOver, hc, hr, hh, hd, hv, hp, ha]
    · rw [show s.toDev.coordTarget (s.ctx n.val) = some h from (if_pos hs).trans hy]
  · rw [exec_collDone ht ho hd, Dev.collDone_of_target hn ha hs hk h]
  · rw [exec_collDone ht ho hd, Dev.collDone_of_upstream hn ha hs hk h hu hf]
  · rw [exec_collDone ht ho hd, Dev.collDone_of_failure hn ha hs hk h, Dev.failedFrom_known _ h1 h2]
  · obtain ⟨h1, h2, h3⟩ := s.toDev.failedFrom_range (f := c.pay 5 1) hk
    exact ⟨h1, h2, h3, by rw [exec_collDone ht ho hd, Dev.collDone_of_failure hn ha hs hk h]⟩
  · refine ⟨_, exec_collNak_busy ht ho hd hn ha hk hq, fun m hm => ?_, ?_, ?_, ?_, fun q hq hr => ?_, fun q hq hr => ?_, rfl⟩
    · exact (Dev.ctx_updCtx_other _ _ hm).trans (Dev.ctx_updCtx_other _ _ hm)
    all_goals rw [State.toDev_dev, Dev.ctx_backOff] at *
    · obtain ⟨u, -, rfl⟩ := List.mem_map.mp hq
      exact Dev.backOff_same _ ((Dev.backOff_rack _ _ _).symm.trans hr)
    · obtain ⟨u, hu, rfl⟩ := List.mem_map.mp hq
      rw [Dev.backOff_rack] at hr
      rwa [Dev.backOff_other _ hr]
  · refine run_dev ?_
    dsimp only []
    rw [if_neg (by simp [hc]), hq]
    simp only [List.find?_cons, hb, Option.map_some, Option.getD_some, decide_eq_true ht]
    refine congrArg (fun l => (s.toDev.setCtx n.val { s.ctx n.val with targets := l }).resendTo n.val q (fun _ => true)) ?_
    rw [hq]
    simp
  · refine run_dev ?_
    simp only [hr]
    refine (if_neg (by simp [hc]; omega)).trans ?_
    exact congrArg (fun l : List SpanTarget => (l.filter _).foldl _ _) hq

end Sys2Proof.Machine
end

section
/-! Chunks that leave CHECK and chunks that are restored (R331, R334, R335, R337, R340). -/

namespace Sys2Proof.Machine

/-! ## Reads that meet no error (R504, R544) -/

theorem Dev.takeInject_of_unarmed {d : Dev} (h : d.sentry.inject = none) (c t : Nat) : d.takeInject c t = (false, d) := by
  unfold Dev.takeInject
  rw [h]

/-- A word that no injection and no mark touches comes back, and nothing changes. -/
theorem Dev.sramRead_of_clean {d : Dev} {cls word : Nat} (h : d.sentry.inject = none) (hw : sramMark cls word ∉ d.ueWords) (ini : Nat) :
    d.sramRead cls word ini = (true, d) := by
  unfold Dev.sramRead
  simp [Dev.takeInject_of_unarmed h, hw]

/-- Without an injection a chunk's release waits for the pipeline (R331). -/
theorem Dev.releaseWait_of_unarmed {d : Dev} (h : d.sentry.inject = none) (n c : Nat) :
    d.releaseWait n c = releaseTicks (d.ctx n).rc :=
  if_neg (by simp [Dev.takeInject_of_unarmed h])

/-! ## Release (R331, R335) -/

/-- A chunk in CHECK whose ticks have passed is released, where it does not go into a group (R331). -/
theorem exec_releaseCheckDone {s : State} {n : CtxNo} {c : BitVec 20} {z : Chunk} (hs : s.switchStill = false)
    (hr : s.chunkReads n.val c.toNat) (hz : tget (s.ctx n.val).chunks c.toNat = some z) (hc : z.state = .check)
    (ht : z.completeTick + releaseTicks (s.ctx n.val).rc ≤ s.tick) (hg : s.roleOf (s.ctx n.val).rc ≠ some .group) :
    exec (.releaseCheckDone n c) s = .next (s.dev (s.toDev.releaseChunk n.val c.toNat)) := by
  refine run_dev ((if_pos ?_).trans (if_neg ?_))
  · simp [hs, hz, hc, Dev.releaseWait_of_unarmed hr.1, ht]
  · simp [hg]

theorem exec_releaseCheckDone_early {s : State} {n : CtxNo} {c : BitVec 20} {z : Chunk} (hr : s.chunkReads n.val c.toNat)
    (hz : tget (s.ctx n.val).chunks c.toNat = some z) (ht : s.tick < z.completeTick + releaseTicks (s.ctx n.val).rc)
    (hd : tget (s.ctx n.val).down c.toNat = none) : exec (.releaseCheckDone n c) s = .next s := by
  refine run_dev (d := s.toDev) ((if_neg ?_).trans (if_neg ?_))
  · simp [hz, Dev.releaseWait_of_unarmed hr.1, ht]
  · simp [hd]

section
variable {d : Dev} {n c : Nat} (h : d.sentry.inject = none) (hw : sramMark 1 (storeWord n c) ∉ d.ueWords)
include h hw

/-- A chunk whose word comes back goes up toward its home. -/
theorem Dev.releaseChunk_up {q : Hop} (hs : (d.layout (d.ctx n).pack).spanning = true)
    (ht : (d.layout (d.ctx n).pack).target (d.home (d.layout (d.ctx n).pack) (d.ctx n).rc c) = some q) :
    d.releaseChunk n c = d.releasePartial n c q := by
  unfold Dev.releaseChunk Dev.storeRead
  rw [Dev.sramRead_of_clean h hw]
  simp only [hs, ht, Bool.not_true, Bool.false_eq_true, if_false, if_true]

/-- Within its rack it goes out, or to its chain. -/
theorem Dev.releaseChunk_direct (hs : (d.layout (d.ctx n).pack).spanning = false) (hr : d.roleOf (d.ctx n).rc = none) :
    d.releaseChunk n c = d.releaseDirect n c := by
  unfold Dev.releaseChunk Dev.storeRead
  rw [Dev.sramRead_of_clean h hw]
  simp only [hs, hr, Bool.not_true, Bool.false_eq_true, if_false]

theorem Dev.releaseChunk_fused (hs : (d.layout (d.ctx n).pack).spanning = false)
    (hr : d.roleOf (d.ctx n).rc = some .gradient ∨ d.roleOf (d.ctx n).rc = some .combine) :
    d.releaseChunk n c = d.releaseFused n c := by
  unfold Dev.releaseChunk Dev.storeRead
  rw [Dev.sramRead_of_clean h hw]
  rcases hr with hr | hr <;> simp only [hs, hr, Bool.not_true, Bool.false_eq_true, if_false]

end

theorem exec_switchStill {s : State} (h : s.switchStill = true) (n : CtxNo) (c : BitVec 20) :
    exec (.releaseCheckDone n c) s = .next s ∧ exec (.chunkRestoreStart n c) s = .next s ∧
      exec (.chunkRestoreEnd n c) s = .next s :=
  ⟨run_dev (d := s.toDev) ((if_neg (by simp [h])).trans (if_neg (by simp [h]))), run_dev (d := s.toDev) (if_pos h),
    run_dev (d := s.toDev) (if_pos h)⟩

/-! ## Restoring (R340) -/

/-- A LOGGED chunk that frames are given to (R340): it holds them, and its log is still to be replayed. -/
def restoredChunk (r : CollRec) (c : Nat) (z : Chunk) : Chunk := { openedChunk r c with state := .restore, log := z.log }

/-- A LOGGED chunk takes the frames given to it. -/
def Dev.restoring (d : Dev) (n c : Nat) : Dev :=
  (d.updChunk n c (restoredChunk (d.ctx n).rc c)).rewriteWord 1 (storeWord n c)

theorem exec_chunkRestoreStart {s : State} {n : CtxNo} {c : BitVec 20} (hs : s.switchStill = false)
    (h : s.nextRestore (unitOf n.val c.toNat) = some (n.val, c.toNat, false)) :
    exec (.chunkRestoreStart n c) s = .next (s.dev ((s.toDev.restoring n.val c.toNat).noteFrames (unitOf n.val c.toNat))) :=
  run_dev ((if_neg (by simp [hs])).trans (if_pos h))

theorem Dev.noteFrames_eq (d : Dev) (u : Nat) : d.noteFrames u = d ∨ ∃ v, d.noteFrames u = d.setReg (E.FRAMES_LOW u) v := by
  unfold Dev.noteFrames
  dsimp only []
  split
  · exact .inr ⟨_, rfl⟩
  · exact .inl rfl

theorem Dev.ctx_updChunk_same (d : Dev) (n c : Nat) (f : Chunk → Chunk) : (d.updChunk n c f).ctx n =
    { d.ctx n with chunks := tset (d.ctx n).chunks c (f ((d.ctx n).chunk c)) } := Dev.ctx_updCtx_same ..

theorem Dev.ctx_updChunk_other (d : Dev) {n m : Nat} (c : Nat) (f : Chunk → Chunk) (h : m ≠ n) :
    (d.updChunk n c f).ctx m = d.ctx m := Dev.ctx_updCtx_other _ _ h

theorem Dev.ctx_restoring (d : Dev) (n c : Nat) : (d.restoring n c).ctx n = { d.ctx n with
    chunks := tset (d.ctx n).chunks c (restoredChunk (d.ctx n).rc c ((d.ctx n).chunk c)) } :=
  d.ctx_updChunk_same n c (restoredChunk (d.ctx n).rc c)

theorem Ctx.chunk_of_chunks (x : Ctx) (c : Nat) (z : Chunk) : ({ x with chunks := tset x.chunks c z } : Ctx).chunk c = z := by
  simp [Ctx.chunk, tgetD, tget_tset_same]

/-- What a restored chunk's start leaves, whether or not the frames left are the fewest yet. -/
theorem Dev.restoring_noteFrames (d : Dev) (n c u : Nat) : let t := (d.restoring n c).noteFrames u
    (∀ m, t.ctx m = (d.restoring n c).ctx m) ∧ (∀ k, k ≠ E.FRAMES_LOW u → t.reg k = d.reg k) ∧
    t.ueWords = d.ueWords.filter (· != sramMark 1 (storeWord n c)) ∧
    { t with ctxs := d.ctxs, regs := d.regs, ueWords := d.ueWords } = d := by
  rcases (d.restoring n c).noteFrames_eq u with h | ⟨v, h⟩
  · rw [h]
    exact ⟨fun _ => rfl, fun _ _ => rfl, rfl, rfl⟩
  · rw [h]
    exact ⟨fun _ => rfl, fun _ hk => Dev.reg_setReg_other _ _ hk, rfl, rfl⟩

theorem exec_chunkRestoreEnd {s : State} {n : CtxNo} {c : BitVec 20} {z : Chunk} (hs : s.switchStill = false)
    (hz : tget (s.ctx n.val).chunks c.toNat = some z) (hr : z.state = .restore)
    (hc : (((s.toDev.updChunk n.val c.toNat (fun y => { y with log := [] })).replayLog n.val c.toNat z.log).ctx n.val).state = .collect) :
    exec (.chunkRestoreEnd n c) s = .next (s.dev
      (((((s.toDev.updChunk n.val c.toNat (fun y => { y with log := [] })).replayLog n.val c.toNat z.log).updChunk n.val c.toNat
        (fun y => { y with state := .opened })).count (E.CHUNKS_RESTORED (unitOf n.val c.toNat))).completeChunk n.val c.toNat)) := by
  have hchunk : (s.ctx n.val).chunk c.toNat = z := by simp [Ctx.chunk, tgetD, hz]
  refine run_dev ((if_neg (by simp [hs])).trans ((if_pos (by simp [hz, hr])).trans ?_))
  rw [hchunk]
  exact if_pos hc

/-- Settles O42: a release by the route of its chunk, a restore by the frames it takes and the log it replays. -/
theorem chunksAreReleasedAndRestored : Obligations.ChunksAreReleasedAndRestored := by
  refine ⟨fun s n c h => exec_switchStill h n c, fun s n c z hs hr hz hc => ⟨fun ht hy ho => ?_, fun ht hy ho => ?_, fun h ht hy hh ho => ?_,
    fun ht hd => exec_releaseCheckDone_early hr hz ht hd⟩, fun s n c hs h => ?_, fun s n c h1 h2 => ?_,
    fun s n c z hs hz hr hc => exec_chunkRestoreEnd hs hz hr hc⟩
  · rw [exec_releaseCheckDone hs hr hz hc ht (by simp [ho]), Dev.releaseChunk_direct hr.1 hr.2 hy ho]
  · rw [exec_releaseCheckDone hs hr hz hc ht (by rcases ho with ho | ho <;> simp [ho]), Dev.releaseChunk_fused hr.1 hr.2 hy ho]
  · rw [exec_releaseCheckDone hs hr hz hc ht (by simp [ho]), Dev.releaseChunk_up hr.1 hr.2 hy hh]
  · obtain ⟨hctx, hreg, hue, hframe⟩ := s.toDev.restoring_noteFrames n.val c.toNat (unitOf n.val c.toNat)
    have hown := (hctx n.val).trans (s.toDev.ctx_restoring n.val c.toNat)
    refine ⟨_, exec_chunkRestoreStart hs h, ?_, ?_, fun m hm => ?_, fun k hk => hreg k (by simpa using hk), fun w => ?_,
      congrArg s.dev hframe⟩
    · rw [State.toDev_dev, hown, Ctx.chunk_of_chunks]
      rfl
    · rw [State.toDev_dev, hown, Ctx.chunk_of_chunks]
      rfl
    · exact (hctx m).trans (s.toDev.ctx_updChunk_other c.toNat (restoredChunk (s.ctx n.val).rc c.toNat) hm)
    · rw [State.toDev_dev, hue]
      simp
  · refine run_dev (d := s.toDev) ?_
    dsimp only []
    rw [if_neg h1, if_neg h2, ite_self]

end Sys2Proof.Machine
end

section
/-! STARTs at a port whose logical number is out of range: where the statement about them fails (R297, R367). -/

namespace Sys2Proof.Machine

/-- A START of pack 5 for pair 0. -/
def repeatedStart : Cell := mkColl tStart cCUP 0 0 0 5 0 0 0 0 0 [1, 1, 1, 0x40, 0, 0, 0, 0, 16]

/-- A state in which port 0 has the logical number 256, the key of an upstream switch (R354), and has validated the context of its
START. -/
def upstreamMember : State :=
  { State.reset with
    tick := 1000000, power := { bootStage := 3 }, routing := { logical := [(0, 256)] },
    packs := [(5, ⟨[0], 0, 2 ^ 256, 0⟩)],
    ctxs := [(0, { pack := 5, state := .collect, validated := [256], record := some (startRecord repeatedStart) })] }

/-- Refutes O38: the state's type bounds no logical number, and a repeated START under a number that is an upstream switch's key
is progress (R367), so more changes than the count of duplicates. -/
theorem not_startsOpenContexts : ¬ Obligations.StartsOpenContexts := by
  unfold Obligations.StartsOpenContexts
  rintro ⟨-, h, -⟩
  have hstep := (h upstreamMember 0 repeatedStart 0 (startRecord repeatedStart) (by decide +kernel) (by decide +kernel)
    (by decide +kernel) (by decide +kernel) (by decide +kernel) (by decide +kernel) (by decide +kernel)).2.1
    (by decide +kernel) (by decide +kernel)
  have hprogress : ctxsOf (exec (.startCell (.fabric 0) repeatedStart) upstreamMember) ≠ upstreamMember.ctxs := by decide +kernel
  rw [hstep] at hprogress
  exact hprogress rfl

end Sys2Proof.Machine
end

section
/-! Heels: how one opens its context, is met by the others, and is released (R309, R310, R370, R448). -/

namespace Sys2Proof.Machine

/-! ## Pairs and their contexts (R290 to R292) -/

/-- The checks of R292 pass for an ACTIVE pack alone. -/
theorem Dev.pack_of_pairCode {d : Dev} {p q : Nat} {m : Bool} (h : d.pairCode p q m = 0) : ∃ k, tget d.packs p = some k := by
  rcases hp : tget d.packs p with _ | k
  · simp [Dev.pairCode, hp] at h
  · exact ⟨k, rfl⟩

theorem Dev.bindPair_of_bound {d : Dev} {p q n : Nat} (h : d.bound p q = some n) : d.bindPair p q = some (n, d) := by
  simp only [Dev.bindPair, h]

/-- A context as a pair finds it on its allocation (R271, R290, R339). -/
def Dev.freshCtx (d : Dev) (p q : Nat) : Ctx :=
  { pack := p, cseq := q, state := .collect, openTick := d.tick, progressTick := d.tick, latch := d.latchNow }

/-- A context is allocated to a pair (R290). -/
def Dev.openPairAt (d : Dev) (n p q : Nat) : Dev := (d.setCtx n (d.freshCtx p q)).count (E.OPENED p)

theorem Dev.bindPair_of_free {d : Dev} {p q n : Nat} (h : d.bound p q = none)
    (hf : (((tget d.packs p).map (·.contexts)).getD []).find? (fun n => (d.ctx n).state = .free) = some n) :
    d.bindPair p q = some (n, d.openPairAt n p q) := by
  simp only [Dev.bindPair, h, hf]
  rfl

@[simp] theorem Dev.ctx_openPairAt (d : Dev) (n p q : Nat) : (d.openPairAt n p q).ctx n = d.freshCtx p q :=
  Dev.ctx_setCtx_same ..

theorem Dev.ctx_openPairAt_other (d : Dev) {n m : Nat} (p q : Nat) (h : m ≠ n) : (d.openPairAt n p q).ctx m = d.ctx m :=
  Dev.ctx_setCtx_other _ _ h

theorem Dev.layout_members {d : Dev} {p : Nat} {k : PackSt} (h : tget d.packs p = some k) :
    (d.layout p).members = portsOf k.members := by
  simp only [Dev.layout, h, Dev.layoutOf]

/-- The members of a pack and their ports decide what keeps a heel out. -/
theorem Dev.absentMember_congr {d e : Dev} {y z : Layout} (hm : y.members = z.members) (hp : d.ports = e.ports)
    (hr : d.routing = e.routing) : d.absentMember y = e.absentMember z := by
  unfold Dev.absentMember Dev.physical Dev.logical Dev.port
  rw [hm, hp, hr]

/-! ## HEEL (R310) -/

section
variable {s : State} {p : Port} {c : Cell} {n : Nat}

/-- The pack in a HEEL's payload. -/
def heelPack (c : Cell) : Nat := bits (c.pay 0 2) 0 10

theorem Dev.heelIn_of_endpoint {d d1 : Dev} (hk : d.peerKind p.val = 1)
    (hp : d.pairCode (heelPack c) (c.pay 2 2) (d.isMember (heelPack c) (d.logical p.val)) = 0)
    (hb : d.bindPair (heelPack c) (c.pay 2 2) = some (n, d1)) :
    d.heelIn (.fabric p) c = d1.heelAt n (d.logical p.val) (d.memberVal (d.logical p.val)) c (srcIni (.fabric p)) := by
  have hnb : decide (d.peerKind p.val = 2) = false := by simp [hk]
  unfold heelPack at hp hb
  simp only [Dev.heelIn, hnb, Bool.false_eq_true, if_false, Bool.false_or, Dev.senderKey, if_true, hp, bne_self_eq_false, hb]

theorem exec_heel (ho : s.opensContexts) (ht : c.type = tCtrl) (hop : c.op = 0x10) :
    exec (.heel (.fabric p) c) s = .next (s.dev (s.toDev.heelIn (.fabric p) c)) := by
  refine run_dev ((if_pos (by simp [ht, hop])).trans ?_)
  refine (if_neg (by simp [ho.1])).trans ((if_neg (by simp [ho.2])).trans ((if_neg (by simp [ht, tCtrl, tStart])).trans
    ((if_pos ht).trans (if_pos hop))))

end

theorem firstDiffers_self (r : CollRec) : firstDiffers r r = 0 := by simp [firstDiffers]

@[simp] theorem Dev.layout_updCtx (d : Dev) (n p : Nat) (f : Ctx → Ctx) : (d.updCtx n f).layout p = d.layout p := rfl

/-- A heel waits while a member's HEEL is out. -/
theorem Dev.heelOn_of_waiting {d : Dev} {n : Nat} (h : d.heelsIn (d.ctx n) = false) : d.heelOn n = d :=
  if_pos (by simp [h])

theorem Dev.heelsIn_of_absent {d : Dev} {x : Ctx} {m : Nat} (hm : m ∈ (d.layout x.pack).members) (hv : m ∉ x.validated) :
    d.heelsIn x = false := by
  simp only [Dev.heelsIn, Bool.and_eq_false_iff]
  exact .inl (List.all_eq_false.mpr ⟨m, hm, by simpa using hv⟩)

/-- A context with the record of a heel, one sender more validated. -/
def Ctx.heeled (r : CollRec) (k tick : Nat) (z : Ctx) : Ctx :=
  { z with record := some r, validated := z.validated ++ [k], progressTick := tick }

/-- The first HEEL of a pair within its pack sets the record and waits for the others. -/
theorem Dev.heelAt_first {d : Dev} {n k who ini m : Nat} {c : Cell} (hs : (d.ctx n).state = .collect)
    (hr : (d.ctx n).record = none) (hv : (d.ctx n).validated = []) (ha : d.absentMember (d.layout (d.ctx n).pack) = none)
    (hk : (heelRecord c).kind ≠ 1) (hm : m ∈ (d.layout (d.ctx n).pack).members) (hmk : m ≠ k) :
    d.heelAt n k who c ini = d.updCtx n (Ctx.heeled (heelRecord c) k d.tick) := by
  have hctx := d.ctx_updCtx_same n (Ctx.heeled (heelRecord c) k d.tick)
  have hwait : (d.updCtx n (Ctx.heeled (heelRecord c) k d.tick)).heelOn n = d.updCtx n (Ctx.heeled (heelRecord c) k d.tick) := by
    refine Dev.heelOn_of_waiting ?_
    rw [hctx]
    exact Dev.heelsIn_of_absent (m := m) hm (by simp [Ctx.heeled, hv, hmk])
  have hprep : (d.updCtx n (Ctx.heeled (heelRecord c) k d.tick)).tryPrepare n = d.updCtx n (Ctx.heeled (heelRecord c) k d.tick) :=
    if_pos (by rw [hctx]; simp [Ctx.heeled, Ctx.rc, hk])
  unfold Dev.heelAt
  simp only [hs, hr, hv, ha, bne_self_eq_false, Bool.false_eq_true, if_false, Option.isNone_none, if_true, Option.isSome_none,
    Option.getD_none, firstDiffers_self, List.contains_nil]
  exact (congrArg (fun e : Dev => e.heelOn n) hprep).trans hwait

/-- A later HEEL that matches the record validates its sender. -/
theorem Dev.heelAt_next {d : Dev} {n k who ini : Nat} {c : Cell} {h : CollRec} (hs : (d.ctx n).state = .collect)
    (hr : (d.ctx n).record = some h) (hf : firstDiffers h (heelRecord c) = 0) (hv : k ∉ (d.ctx n).validated) :
    d.heelAt n k who c ini = (d.updCtx n (Ctx.heeled h k d.tick)).heelOn n := by
  unfold Dev.heelAt
  simp only [hs, hr, hf, bne_self_eq_false, Bool.false_eq_true, if_false, Option.isNone_some, Option.isSome_none,
    Option.getD_some, List.contains_iff_mem, hv]
  rfl

/-- The last HEEL within a rack is answered to every member (R310). -/
theorem Dev.heelOn_of_all {d : Dev} {n : Nat} (hs : (d.ctx n).state = .collect) (hi : d.heelsIn (d.ctx n) = true)
    (hk : (d.ctx n).rc.kind ≠ 1) (hd : (d.ctx n).doneSent = false) (hy : (d.layout (d.ctx n).pack).spanning = false) :
    d.heelOn n = (d.emitPorts (unitSdie (n % 16)) (unitX (n % 16)) (mkCtl tCtrl 0 (d.ownAddr 0xFF) 0x11 0
      (heelPayload (d.ctx n).pack (d.ctx n).cseq (d.ctx n).rc.step (d.ctx n).rc.kind (d.tick + d.reg E.HEEL_LEAD_TICKS)))
      (d.physicals (d.layout (d.ctx n).pack).members)).completeHeel n (d.tick + d.reg E.HEEL_LEAD_TICKS) := by
  unfold Dev.heelOn
  simp only [hs, hi, hk, hd, hy, bne_self_eq_false, Bool.not_true, decide_false, Bool.false_and, Bool.or_self, Bool.false_eq_true,
    if_false, Nat.add_zero, List.foldl_nil]

/-- A release from the coordinator's side is passed on within the rack (R370). -/
theorem Dev.heelRelease_of_leaf {d : Dev} {src : Src} {c : Cell} {n : Nat} {h : Hop}
    (hn : d.openPair (bits (c.pay 0 2) 0 10) (c.pay 2 2) = some n) (hr : (d.ctx n).rc.heel = true)
    (hs : (d.layout (d.ctx n).pack).spanning = true)
    (ht : (d.layout (d.ctx n).pack).target ((d.ctx n).rc.coordinator (d.layout (d.ctx n).pack)) = some h)
    (hf : d.arrivedFrom src c = some h.rack)
    (hu : (d.layout (d.ctx n).pack).upstreams ((d.ctx n).rc.coordinator (d.layout (d.ctx n).pack)) = [])
    (hl : d.tick < c.pay 16 8) :
    d.heelRelease src c = (d.emitPorts (unitSdie (n % 16)) (unitX (n % 16)) (mkCtl tCtrl 0 (d.ownAddr 0xFF) 0x11 0 c.payload)
      (d.physicals (d.layout (d.ctx n).pack).members)).completeHeel n (c.pay 16 8) := by
  unfold Dev.heelRelease
  simp only [hn, ht, hr, hs, hf, hu, bne_self_eq_false, Bool.not_true, Bool.or_self, Bool.false_eq_true, if_false, List.map_nil,
    List.foldl_nil]
  rw [if_neg (Nat.not_le.mpr hl)]

/-- Settles O40: a first HEEL by the context it opens, the later ones by what each adds, and a release by whom it reaches. -/
theorem heelsAreReleased : Obligations.HeelsAreReleased := by
  refine ⟨fun s p c n ho ht hop hk hp hb hf ha hkind hm => ?_, fun s p c n h ho ht hop hk hp hb hs hr hf hv => ?_,
    fun d n hs hi hk hd hy => Dev.heelOn_of_all hs hi hk hd hy, fun s src c n h ht hop hd hn hr hs hh hfrom hu hl => ?_,
    fun s n e he => ?_⟩
  · obtain ⟨m, hm, hmk⟩ := hm
    obtain ⟨k, hpack⟩ := Dev.pack_of_pairCode hp
    have hlay : ((s.toDev.openPairAt n (heelPack c) (c.pay 2 2)).layout (heelPack c)).members = (s.layout (heelPack c)).members :=
      (Dev.layout_members (d := s.toDev.openPairAt n (heelPack c) (c.pay 2 2)) hpack).trans (Dev.layout_members hpack).symm
    have hexec := (exec_heel ho ht hop).trans (congrArg (fun d => Host.Outcome.next (s.dev d))
      ((Dev.heelIn_of_endpoint hk hp (Dev.bindPair_of_free hb hf)).trans (Dev.heelAt_first (m := m) (by simp [Dev.freshCtx])
        (by simp [Dev.freshCtx]) (by simp [Dev.freshCtx]) (by
          rw [Dev.ctx_openPairAt]
          exact (Dev.absentMember_congr hlay rfl rfl).trans ha) hkind (by
          rw [Dev.ctx_openPairAt]
          exact hlay ▸ hm) hmk)))
    refine ⟨_, hexec, ?_, fun q hq => ?_, ?_, fun k hk => ?_, rfl⟩
    · rw [State.toDev_dev, Dev.ctx_updCtx_same, Dev.ctx_openPairAt]
      rfl
    · rw [State.toDev_dev, Dev.ctx_updCtx_other _ _ hq]
      exact s.toDev.ctx_openPairAt_other _ _ hq
    · exact Dev.reg_setReg_same ..
    · exact Dev.reg_setReg_other _ _ (List.ne_of_not_mem_cons hk)
  · exact (exec_heel ho ht hop).trans (congrArg (fun d => Host.Outcome.next (s.dev d))
      ((Dev.heelIn_of_endpoint hk hp (Dev.bindPair_of_bound hb)).trans (Dev.heelAt_next hs hr hf hv)))
  · exact run_dev ((if_pos (by simp [ht, hop, hd])).trans (Dev.heelRelease_of_leaf hn hr hs hh hfrom hu hl))
  · refine run_dev ?_
    simp only [he]

end Sys2Proof.Machine
end

section
/-! The cells of a contribution (R292, R297, R299, R327, R661). -/

namespace Sys2Proof.Machine

/-! ## Ingress (R292, R299) -/

section
variable {s : State} {p : Port} {c : Cell} {n : Nat}

/-- What a DATA, PROMO or CHECK cell of a pair in COLLECT does. -/
theorem Dev.dataIn_of_open {d : Dev} (hl : c.level = 0) (hcls : c.cls ≠ cCDN)
    (hp : d.pairCode c.pack c.cseq (d.isMember c.pack (d.logical p.val)) = 0) (hb : d.bound c.pack c.cseq = some n)
    (hs : (d.ctx n).state = .collect) : d.dataIn (.fabric p) c = d.contribute n (d.logical p.val) c p.val := by
  simp only [Dev.dataIn, hcls, hl, Dev.senderKey, if_true, bne_self_eq_false, Bool.false_or, hp, Dev.bindPair_of_bound hb, hs,
    decide_false, Bool.false_and, Bool.false_eq_true, if_false]
  rfl

theorem Dev.dataIn_of_refused {d : Dev} (hl : c.level = 0) (hcls : c.cls ≠ cCDN)
    (hp : d.pairCode c.pack c.cseq (d.isMember c.pack (d.logical p.val)) ≠ 0) :
    d.dataIn (.fabric p) c = d.count (dropKey (d.pairCode c.pack c.cseq (d.isMember c.pack (d.logical p.val)))) := by
  simp only [Dev.dataIn, hcls, hl, Dev.senderKey, if_true, bne_self_eq_false, Bool.false_or, decide_false, Bool.false_and,
    Bool.false_eq_true, if_false]
  exact if_pos (by simpa using hp)

theorem Dev.collCell_of_contribution {d : Dev} {src : Src} (ho : d.opensContexts) (ht : c.type ∈ [tData, tPromo, tCheck]) :
    d.collCell src c = d.dataIn src c := by
  have hstart : c.type ≠ tStart ∧ c.type ≠ tCtrl ∧ tData ≤ c.type ∧ c.type ≤ tCheck := by
    simp only [List.mem_cons, List.not_mem_nil, or_false] at ht
    rcases ht with ht | ht | ht <;> rw [ht] <;> decide
  exact (if_neg (by simp [ho.1])).trans ((if_neg (by simp [ho.2])).trans ((if_neg hstart.1).trans ((if_neg hstart.2.1).trans
    (if_pos (by simp [hstart.2.2])))))

theorem exec_dataCell {src : Src} (ho : s.opensContexts) (ht : c.type = tData) :
    exec (.dataCell src c) s = .next (s.dev (s.toDev.dataIn src c)) :=
  run_dev ((if_pos ht).trans (Dev.collCell_of_contribution ho (by simp [ht])))

theorem exec_promoCell {src : Src} (ho : s.opensContexts) (ht : c.type = tPromo) :
    exec (.promoCell src c) s = .next (s.dev (s.toDev.dataIn src c)) :=
  run_dev ((if_pos ht).trans (Dev.collCell_of_contribution ho (by simp [ht])))

theorem exec_checkCell {src : Src} (ho : s.opensContexts) (ht : c.type = tCheck) :
    exec (.checkCell src c) s = .next (s.dev (s.toDev.dataIn src c)) :=
  run_dev ((if_pos ht).trans (Dev.collCell_of_contribution ho (by simp [ht])))

end

/-! ## What the work on a cell leaves alone (R318 to R327) -/

/-- A sender's contribution to a chunk. -/
def Dev.part (d : Dev) (n c k : Nat) : Contrib := tgetD ((d.ctx n).chunk c).contribs k {}

/-- A context but for its chunks, its statistics and the tick of its progress. -/
def Ctx.head (x : Ctx) : Ctx := { x with chunks := [], health := {}, progressTick := 0 }

/-- The counters that the work on a cell of chunk `c` of context `n` moves. -/
def workKeys (n c : Nat) : List Nat := [E.PASSES (unitOf n c), E.FRAMES_LOW (unitOf n c), E.NAN_EVENTS]

/-- From `d` to `e` only the accumulators of chunk `c` of context `n`, statistics and progress have moved. -/
structure Dev.Worked (n c k : Nat) (d e : Dev) : Prop where
  frame : { e with ctxs := d.ctxs, regs := d.regs, arrivals := d.arrivals, draws := d.draws } = d
  reg : ∀ i, i ∉ workKeys n c → e.reg i = d.reg i
  head : (e.ctx n).head = (d.ctx n).head
  state : ((e.ctx n).chunk c).state = ((d.ctx n).chunk c).state
  part : { e.part n c k with v := 0 } = { d.part n c k with v := 0 }

namespace Dev.Worked
variable {n c k : Nat} {d e f : Dev}

theorem refl (n c k : Nat) (d : Dev) : Dev.Worked n c k d d := ⟨rfl, fun _ _ => rfl, rfl, rfl, rfl⟩

theorem trans (h : Dev.Worked n c k d e) (h' : Dev.Worked n c k e f) : Dev.Worked n c k d f where
  frame := (congrArg (fun x : Dev => { x with ctxs := d.ctxs, regs := d.regs, arrivals := d.arrivals, draws := d.draws }) h'.frame).trans h.frame
  reg i hi := (h'.reg i hi).trans (h.reg i hi)
  head := h'.head.trans h.head
  state := h'.state.trans h.state
  part := h'.part.trans h.part

theorem foldl {α : Type} {g : Dev → α → Dev} (h : ∀ e a, Dev.Worked n c k e (g e a)) (l : List α) (d : Dev) :
    Dev.Worked n c k d (l.foldl g d) := by
  induction l generalizing d with
  | nil => exact refl n c k d
  | cons a l ih => exact (h d a).trans (ih (g d a))

/-- A counter of the work moves. -/
theorem setReg {i : Nat} (hi : i ∈ workKeys n c) (v : Nat) : Dev.Worked n c k d (d.setReg i v) :=
  ⟨rfl, fun _ hj => Dev.reg_setReg_other _ _ (fun h => hj (h ▸ hi)), rfl, rfl, rfl⟩

/-- A chunk of the context changes as the work changes it. -/
theorem updCtx {g : Ctx → Ctx} (hh : (g (d.ctx n)).head = (d.ctx n).head)
    (hs : ((g (d.ctx n)).chunk c).state = ((d.ctx n).chunk c).state)
    (hp : ({ tgetD ((g (d.ctx n)).chunk c).contribs k {} with v := 0 } : Contrib) = { d.part n c k with v := 0 }) :
    Dev.Worked n c k d (d.updCtx n g) := by
  refine ⟨rfl, fun _ _ => rfl, ?_, ?_, ?_⟩
  · rw [Dev.ctx_updCtx_same, hh]
  · rw [Dev.ctx_updCtx_same, hs]
  · unfold Dev.part
    rw [Dev.ctx_updCtx_same, hp]
    rfl

theorem noteFrames (n c k : Nat) (d : Dev) : Dev.Worked n c k d (d.noteFrames (unitOf n c)) := by
  rcases d.noteFrames_eq (unitOf n c) with h | ⟨v, h⟩ <;> rw [h]
  · exact refl n c k d
  · exact setReg (by simp [workKeys]) v

theorem notePasses (n c k : Nat) (d : Dev) (pay : List Byte) : Dev.Worked n c k d (d.notePasses n c k pay) := by
  unfold Dev.notePasses
  dsimp only []
  split
  · exact refl n c k d
  · exact setReg (by simp [workKeys]) _

theorem nanEvent (n c k : Nat) (d : Dev) (t : NanTrap) (halt : Bool) (ini : Nat) : Dev.Worked n c k d (d.nanEvent t halt ini) :=
  ⟨rfl, fun _ hj => Dev.reg_setReg_other _ _ (fun h => hj (by simp [h, workKeys])), rfl, rfl, rfl⟩

end Dev.Worked

theorem Dev.Worked.ctxNan (n c k : Nat) (d : Dev) (j kind : Nat) : Dev.Worked n c k d (d.ctxNan n c j kind) := by
  unfold Dev.ctxNan
  refine .trans ?_ (.nanEvent ..)
  rcases hz : tget (d.ctx n).chunks c with _ | z
  · exact .updCtx rfl rfl rfl
  · refine .updCtx rfl ?_ ?_ <;>
      simp [Ctx.chunk, Dev.part, tgetD, hz, tget_tset_same]

theorem Dev.Worked.applyValues (n c k : Nat) (d : Dev) (vs : List (Nat × Exact)) : Dev.Worked n c k d (d.applyValues n c k vs) := by
  unfold Dev.applyValues
  dsimp only []
  split
  · exact .refl n c k d
  · refine .trans (.trans ?_ (.foldl (fun e (q : Nat × Exact × Nat) => .ctxNan n c k e q.1 q.2.2) _ _))
      (.foldl (fun e (q : Nat × Exact) => .ctxNan n c k e q.1 2) _ _)
    refine .updCtx rfl ?_ ?_ <;> simp [Ctx.chunk, Dev.part, tgetD, tget_tset_same]

/-! ## One cell taken (R326) -/

/-- A contribution with one cell more. -/
def Contrib.withCell (r : CollRec) (k count key : Nat) (pay : List Byte) (valid : Bool) (b : Contrib) : Contrib :=
  { b with cells := tset b.cells key pay,
           u := joinCheck ((wireType r k).getD 0) b.u
             (sentCheck ((wireType r k).getD 0) count (storedValues (wireType r k) count key pay)),
           applied := valid, data := if key < 64 then maskSet b.data key else b.data,
           promo := if 64 ≤ key then maskSet b.promo (key - 64) else b.promo, runs := b.runs }

theorem Contrib.check_withCell (r : CollRec) (k count key : Nat) (pay : List Byte) (valid : Bool) (b : Contrib) :
    (b.withCell r k count key pay valid).check = b.check := rfl

theorem Contrib.verified_withCell (r : CollRec) (k count key : Nat) (pay : List Byte) (valid : Bool) (b : Contrib) :
    (b.withCell r k count key pay valid).verified = b.verified := rfl

/-- A cell of a sender is noted in its contribution, and the values that it brings are worked on. -/
theorem Dev.worked_takeCell (d : Dev) (n c k key : Nat) (pay : List Byte) : Dev.Worked n c k
    (d.updContrib n c k (Contrib.withCell (d.ctx n).rc k (d.sentCount (d.ctx n).rc k c) key pay ((d.ctx n).validated.contains k)))
    (d.takeCell n c k key none pay) := by
  unfold Dev.takeCell
  simp only [Option.isNone_none, Bool.and_true, decide_eq_true_eq]
  have hnan := Dev.Worked.foldl (n := n) (c := c) (k := k) (g := fun (a : Dev) (v : Nat × Exact) => a.ctxNan n c v.1 1)
    (fun e v => .ctxNan n c k e v.1 1)
  split
  · exact .trans (.trans (hnan _ _) (.notePasses n c k _ pay)) (.applyValues n c k _ _)
  · exact .trans (hnan _ _) (.notePasses n c k _ pay)

theorem Dev.part_updContrib (d : Dev) (n c k : Nat) (g : Contrib → Contrib) :
    (d.updContrib n c k g).part n c k = g (d.part n c k) := by
  simp [Dev.part, Dev.updContrib, Dev.ctx_updChunk_same, Ctx.chunk, tgetD, tget_tset_same]

theorem Dev.state_updContrib (d : Dev) (n c k : Nat) (g : Contrib → Contrib) :
    (((d.updContrib n c k g).ctx n).chunk c).state = ((d.ctx n).chunk c).state := by
  simp [Dev.updContrib, Dev.ctx_updChunk_same, Ctx.chunk, tgetD, tget_tset_same]

theorem Dev.head_updContrib (d : Dev) (n c k : Nat) (g : Contrib → Contrib) :
    ((d.updContrib n c k g).ctx n).head = (d.ctx n).head := by
  simp only [Dev.updContrib, Dev.ctx_updChunk_same, Ctx.head]

/-! ## Who contributes (R300, R351) -/

namespace Dev.Worked
variable {n c k : Nat} {d e : Dev}

theorem progress (n c k : Nat) (d : Dev) : Dev.Worked n c k d (d.progress n) := .updCtx rfl rfl rfl

theorem layout (h : Dev.Worked n c k d e) (p : Nat) : e.layout p = d.layout p := by
  have hpacks : e.packs = d.packs := (congrArg Dev.packs h.frame :)
  have hblobs : e.blobs = d.blobs := (congrArg Dev.blobs h.frame :)
  have hreg : ∀ i ∈ [E.PLAN_RACK, E.PLAN_NX, E.PLAN_NY, E.HIERARCHY p], e.reg i = d.reg i := by
    intro i hi
    refine h.reg i ?_
    simp only [List.mem_cons, List.not_mem_nil, or_false, workKeys, E.PLAN_RACK, E.PLAN_NX, E.PLAN_NY, E.HIERARCHY, E.PASSES,
      E.FRAMES_LOW, E.NAN_EVENTS] at hi ⊢
    omega
  have hof : ∀ m r, e.layoutOf m r = d.layoutOf m r := by
    intro m r
    simp only [Dev.layoutOf, Dev.blob, hblobs, hreg E.PLAN_RACK (by simp), hreg E.PLAN_NX (by simp), hreg E.PLAN_NY (by simp)]
  unfold Dev.layout
  rw [hpacks, hreg (E.HIERARCHY p) (by simp)]
  simp only [hof, Dev.membersMask, Dev.blob, hblobs]

theorem contributors (h : Dev.Worked n c k d e) (y : Layout) (r : CollRec) (i : Nat) :
    e.contributors y r i = d.contributors y r i :=
  (congrArg (fun x : Dev => x.contributors y r i) h.frame :)

theorem sentCount (h : Dev.Worked n c k d e) (r : CollRec) (i j : Nat) : e.sentCount r i j = d.sentCount r i j :=
  (congrArg (fun x : Dev => x.sentCount r i j) h.frame :)

theorem rc (h : Dev.Worked n c k d e) : (e.ctx n).rc = (d.ctx n).rc := (congrArg Ctx.rc h.head :)

theorem pack (h : Dev.Worked n c k d e) : (e.ctx n).pack = (d.ctx n).pack := (congrArg Ctx.pack h.head :)

end Dev.Worked

/-! ## A cell enters a chunk (R297, R327) -/

/-- A contribution whose CHECK cell is to come, or that lacks cells, is not judged. -/
theorem Dev.checkContrib_of_open {d : Dev} {n c k : Nat}
    (h : (d.part n c k).complete (wireType (d.ctx n).rc k) (d.sentCount (d.ctx n).rc k c) = false) : d.checkContrib n c k = d :=
  if_pos (by
    unfold Dev.part at h
    simp [h])

/-- A chunk with a contribution that is not verified stays open. -/
theorem Dev.completeChunk_of_unverified {d : Dev} {n c k : Nat}
    (hk : k ∈ d.contributors (d.layout (d.ctx n).pack) (d.ctx n).rc c) (hv : (d.part n c k).verified = false) :
    d.completeChunk n c = d := by
  refine if_neg ?_
  simp only [Bool.and_eq_true, not_and, Bool.not_eq_true]
  refine fun _ => List.all_eq_false.mpr ⟨k, hk, ?_⟩
  rcases hb : tget ((d.ctx n).chunk c).contribs k with _ | b
  · simp
  · have : b = d.part n c k := by simp [Dev.part, tgetD, hb]
    simp [this, hv]

theorem Contrib.complete_of_unchecked {b : Contrib} (h : b.check = none) (t : Option Nat) (count : Nat) : b.complete t count = false := by
  simp [Contrib.complete, h]

/-- The device once a DATA or PROMO cell is taken. -/
def Dev.taken (d : Dev) (n c k key : Nat) (pay : List Byte) : Dev :=
  ((d.takeCell n c k key none pay).noteFrames (unitOf n c)).progress n

/-- The device once a CHECK cell is taken. -/
def Dev.checkTaken (d : Dev) (n c k : Nat) (g : Contrib → Contrib) : Dev :=
  ((d.updContrib n c k g).noteFrames (unitOf n c)).progress n

/-- What is there once a cell has been noted in a contribution by `g` and worked on. -/
structure Dev.Noted (d : Dev) (n c k : Nat) (g : Contrib → Contrib) (e : Dev) : Prop where
  worked : Dev.Worked n c k (d.updContrib n c k g) e
  tick : (e.ctx n).progressTick = d.tick

theorem Dev.noted_taken (d : Dev) (n c k key : Nat) (pay : List Byte) : d.Noted n c k
    (Contrib.withCell (d.ctx n).rc k (d.sentCount (d.ctx n).rc k c) key pay ((d.ctx n).validated.contains k)) (d.taken n c k key pay) := by
  have hw := (d.worked_takeCell n c k key pay).trans (.noteFrames n c k _)
  refine ⟨hw.trans (.progress n c k _), ?_⟩
  unfold Dev.taken Dev.progress
  rw [Dev.ctx_updCtx_same]
  exact (congrArg Dev.tick hw.frame :)

theorem Dev.noted_checkTaken (d : Dev) (n c k : Nat) (g : Contrib → Contrib) : d.Noted n c k g (d.checkTaken n c k g) := by
  have hw := Dev.Worked.noteFrames n c k (d.updContrib n c k g)
  refine ⟨hw.trans (.progress n c k _), ?_⟩
  unfold Dev.checkTaken Dev.progress
  rw [Dev.ctx_updCtx_same]
  exact (congrArg Dev.tick hw.frame :)

namespace Dev.Noted
variable {n c k : Nat} {d e : Dev} {g : Contrib → Contrib}

theorem part (h : d.Noted n c k g e) : { e.part n c k with v := 0 } = ({ g (d.part n c k) with v := 0 } : Contrib) := by
  rw [h.worked.part, Dev.part_updContrib]

theorem state (h : d.Noted n c k g e) : ((e.ctx n).chunk c).state = ((d.ctx n).chunk c).state := by
  rw [h.worked.state, Dev.state_updContrib]

theorem head (h : d.Noted n c k g e) : (e.ctx n).head = (d.ctx n).head := by
  rw [h.worked.head, Dev.head_updContrib]

theorem rc (h : d.Noted n c k g e) : (e.ctx n).rc = (d.ctx n).rc := (congrArg Ctx.rc h.head :)

theorem pack (h : d.Noted n c k g e) : (e.ctx n).pack = (d.ctx n).pack := (congrArg Ctx.pack h.head :)

/-- A contribution that is not verified before and lacks something still is not judged, and its chunk stays open. -/
theorem open_stays (h : d.Noted n c k g e) (hk : k ∈ d.contributors (d.layout (d.ctx n).pack) (d.ctx n).rc c)
    (hv : (g (d.part n c k)).verified = false)
    (hc : (g (d.part n c k)).complete (wireType (d.ctx n).rc k) (d.sentCount (d.ctx n).rc k c) = false) :
    (e.checkContrib n c k).completeChunk n c = e := by
  have hcheck : e.checkContrib n c k = e := by
    refine Dev.checkContrib_of_open ?_
    rw [h.rc, h.worked.sentCount]
    exact (congrArg (fun b : Contrib => b.complete (wireType (d.ctx n).rc k) (d.sentCount (d.ctx n).rc k c)) h.part :).trans hc
  rw [hcheck]
  refine Dev.completeChunk_of_unverified (k := k) ?_ ((congrArg Contrib.verified h.part :).trans hv)
  rw [h.rc, h.pack, h.worked.contributors, h.worked.layout]
  exact hk

end Dev.Noted

/-- A contribution with its CHECK cell. -/
def Contrib.withCheck (ch : Checks) (valid : Bool) (b : Contrib) : Contrib := { b with check := some ch, applied := valid }

/-- Nothing keeps a DATA or PROMO cell of a validated member from being taken: its operator adds, the context store reads, and it
keeps the arrangement of R661. -/
theorem Dev.enterCell_data {d : Dev} {n c k key ty ini : Nat} {pay : List Byte} (hi : d.sentry.inject = none)
    (hm : sramMark 1 (storeWord n c) ∉ d.ueWords) (ho : opSums (d.ctx n).rc.op = true) (hw : wireType (d.ctx n).rc k = some ty)
    (hh : tget (d.part n c k).cells key = none)
    (hb : ((d.taken n c k key pay).part n c k).breaks ty (if key < 64 then key else (key - 64) / 8) = false) :
    d.enterCell n c k (.data key pay) ini = ((d.taken n c k key pay).checkContrib n c k).completeChunk n c := by
  have hlane : ∀ vs, d.laneCheck n c k vs = (true, d) := fun _ => if_pos ho
  unfold Dev.part at hh hb
  unfold Dev.taken at hb
  have hcell : (if key < 64 then some key else some ((key - 64) / 8)) = some (if key < 64 then key else (key - 64) / 8) := by
    split <;> rfl
  unfold Dev.enterCell Dev.storeRead Dev.taken
  simp only [Contrib.has, hh, Option.isSome_none, Bool.false_eq_true, if_false, Dev.sramRead_of_clean hi hm, hlane, ite_self,
    Bool.not_true, hw, hcell, hb]

theorem Dev.enterCell_check {d : Dev} {n c k ini : Nat} {ch : Checks} (hc : (d.part n c k).check = none) :
    d.enterCell n c k (.check ch) ini =
      ((d.checkTaken n c k (Contrib.withCheck ch ((d.ctx n).validated.contains k))).checkContrib n c k).completeChunk n c := by
  unfold Dev.part at hc
  unfold Dev.enterCell Dev.checkTaken
  simp only [Contrib.has, hc, Option.isSome_none, Bool.false_eq_true, if_false, Bool.not_true]
  rfl

/-- What stands before a cell of a chunk that is open (R297, R300, R337). -/
structure Dev.TakesCell (d : Dev) (n k : Nat) (c : Cell) (r : CollRec) (z : Chunk) : Prop where
  record : (d.ctx n).record = some r
  within : c.chunk < r.nchunk
  unreleased : c.chunk ∉ (d.ctx n).released
  contributes : (d.contributors (d.layout (d.ctx n).pack) r c.chunk).contains k = true
  chunk : tget (d.ctx n).chunks c.chunk = some z
  opened : z.state = .opened
  valid : k ∈ (d.ctx n).validated

namespace Dev.TakesCell
variable {d : Dev} {n k ini : Nat} {c : Cell} {r : CollRec} {z : Chunk}

theorem rc (h : d.TakesCell n k c r z) : (d.ctx n).rc = r := by simp [Ctx.rc, h.record]

theorem part (h : d.TakesCell n k c r z) : d.part n c.chunk k = tgetD z.contribs k {} := by
  simp [Dev.part, Ctx.chunk, tgetD, h.chunk]

theorem past (h : d.TakesCell n k c r z) : (d.ctx n).past c.chunk = false := by
  simp [Ctx.past, h.unreleased, h.chunk, h.opened]

/-- A cell that is there already is a duplicate before anything else is judged (R297). -/
theorem contribute_held (h : d.TakesCell n k c r z) {w : Bring} (hw : d.bringOf r k c = some w)
    (hh : (tgetD z.contribs k {}).has w = true) : d.contribute n k c ini = d.count E.DUPLICATES := by
  have hchunk : (d.ctx n).chunk c.chunk = z := by simp [Ctx.chunk, tgetD, h.chunk]
  unfold Dev.contribute
  simp only [h.record, h.rc, h.past, hw, hchunk, hh, Option.isNone_some, Bool.false_eq_true, if_false, if_true,
    if_neg (Nat.not_le.mpr h.within)]
  rfl

/-- A cell that keeps the layout enters its chunk. -/
theorem contribute_enters (h : d.TakesCell n k c r z) {w : Bring} (hw : d.bringOf r k c = some w)
    (hrun : ∀ f l p, w ≠ .run f l p) (hh : (tgetD z.contribs k {}).has w = false) (hl : d.offLayout r k c = false) :
    d.contribute n k c ini = d.enterCell n c.chunk k w ini := by
  have hchunk : (d.ctx n).chunk c.chunk = z := by simp [Ctx.chunk, tgetD, h.chunk]
  have hplace : d.placeCell n c.chunk k w c ini = d.enterCell n c.chunk k w ini := by
    unfold Dev.placeCell
    simp [h.chunk, h.opened, h.valid]
  unfold Dev.contribute
  simp only [h.record, h.rc, h.past, hw, hchunk, hh, hl, h.contributes, Option.isNone_some, Bool.false_eq_true, if_false,
    if_neg (Nat.not_le.mpr h.within), Bool.not_true]
  cases w with
  | run f l p => exact absurd rfl (hrun f l p)
  | data key pay => exact hplace
  | check ch => exact hplace

end Dev.TakesCell

/-! ## O39 -/

theorem Dev.contribute_of_unset {d : Dev} {n k ini : Nat} {c : Cell} (h : (d.ctx n).record = none) :
    d.contribute n k c ini = d.count E.NO_RECORD_DROPS := if_pos (by simp [h])

theorem Dev.contribute_of_past {d : Dev} {n k ini : Nat} {c : Cell} (h : (d.ctx n).record ≠ none)
    (hc : c.chunk < (d.ctx n).rc.nchunk) (hp : (d.ctx n).past c.chunk = true) : d.contribute n k c ini = d.count E.DUPLICATES :=
  (if_neg (by simpa using h)).trans ((if_neg (Nat.not_le.mpr hc)).trans (if_pos hp))

theorem Dev.bringOf_data {d : Dev} {r : CollRec} {k ty : Nat} {c : Cell} (ht : c.type = tData) (hw : wireType r k = some ty) :
    d.bringOf r k c = some (.data c.cell c.payload) := by
  simp [Dev.bringOf, ht, hw, tData, tCheck, tPromo]

theorem Dev.bringOf_promo {d : Dev} {r : CollRec} {k : Nat} {c : Cell} (ht : c.type = tPromo) :
    d.bringOf r k c = some (.data (promoKey c.cell (promoSub c.payload)) c.payload) := by
  simp [Dev.bringOf, ht, tCheck, tPromo]

/-- The values in a CHECK cell (R130). -/
def Cell.checks (c : Cell) : Checks := ⟨c.pay 0 8, c.pay 8 8, c.pay 16 8, c.pay 24 4, c.pay 28 1⟩

theorem Dev.bringOf_check {d : Dev} {r : CollRec} {k : Nat} {c : Cell} (ht : c.type = tCheck) :
    d.bringOf r k c = some (.check c.checks) := if_pos ht

/-- Without promoted cells there is no arrangement to break (R661). -/
theorem Contrib.breaks_of_plain {b : Contrib} {ty : Nat} (h : elemBlocks ty = false) (cell : Nat) : b.breaks ty cell = false := by
  simp [Contrib.breaks, h]

/-- A PROMO cell alone keeps the arrangement where its own slots do (R661). -/
theorem Contrib.breaks_of_alone {b : Contrib} {ty cell sub : Nat} {pay : List Byte} (hb : b.cells = [(promoKey cell sub, pay)])
    (hc : cell < 64) (h : promoBreaks ty none pay = false) : b.breaks ty cell = false := by
  have hdata : tget b.cells cell = none := by
    have : promoKey cell sub ≠ cell := by unfold promoKey; omega
    simp [hb, tget, this]
  simp only [Contrib.breaks, Bool.and_eq_false_iff]
  refine .inr (List.any_eq_false.mpr fun s _ => ?_)
  by_cases hs : promoKey cell sub = promoKey cell s
  · have hcells : tget b.cells (promoKey cell s) = some pay := by simp [hb, tget, hs]
    simp only [hcells, hdata, h, Bool.false_eq_true, not_false_eq_true]
  · simp [hb, tget, hs]

/-- The number that a promoted cell's key carries. -/
theorem promoKey_cell (cell : Nat) (pay : List Byte) : (promoKey cell (promoSub pay) - 64) / 8 = cell := by
  have : promoSub pay < 8 := Nat.mod_lt _ (by decide)
  unfold promoKey
  omega

theorem Cell.cell_lt (c : Cell) : c.cell < 64 := Nat.mod_lt _ (by decide)

theorem Dev.offLayout_plain {d : Dev} {r : CollRec} {k ty : Nat} {c : Cell} (ht : c.type = tData) (hw : wireType r k = some ty)
    (hl : c.cell * eCell ty < d.sentCount r k c.chunk) : d.offLayout r k c = false := by
  simp [Dev.offLayout, ht, hw, tData, tCheck, tPromo, hl]

theorem Dev.offLayout_promo {d : Dev} {r : CollRec} {k ty : Nat} {c : Cell} (ht : c.type = tPromo) (hw : wireType r k = some ty)
    (hl : c.cell * eCell ty < d.sentCount r k c.chunk) (hb : promoBreaks ty none c.payload = false) : d.offLayout r k c = false := by
  simp [Dev.offLayout, ht, hw, tCheck, tPromo, hl, hb]

theorem Dev.offLayout_check {d : Dev} {r : CollRec} {k : Nat} {c : Cell} (ht : c.type = tCheck)
    (hl : c.pay 24 4 = d.sentCount r k c.chunk) : d.offLayout r k c = false := by
  simp [Dev.offLayout, ht, hl]

/-- Settles O39: a cell is turned away or reaches its context, and there it is noted in its contribution, whose check is to come. -/
theorem contributionsAreTaken : Obligations.ContributionsAreTaken := by
  refine ⟨fun s p c ho hl hcls => ⟨fun n hp hb hs => ⟨fun ht => ?_, fun ht => ?_, fun ht => ?_⟩,
      fun hp => ⟨fun ht => ?_, fun ht => ?_, fun ht => ?_⟩⟩,
    fun s n k ini c => ⟨Dev.contribute_of_unset, Dev.contribute_of_past⟩,
    fun s p c n r z ty ho hl hcls hp hb hs hr hc hrel hcon hz hread hzo hv hver hw hop => ?_⟩
  · rw [exec_dataCell ho ht, Dev.dataIn_of_open hl hcls hp hb hs]
  · rw [exec_promoCell ho ht, Dev.dataIn_of_open hl hcls hp hb hs]
  · rw [exec_checkCell ho ht, Dev.dataIn_of_open hl hcls hp hb hs]
  · rw [exec_dataCell ho ht, Dev.dataIn_of_refused hl hcls hp]
  · rw [exec_promoCell ho ht, Dev.dataIn_of_refused hl hcls hp]
  · rw [exec_checkCell ho ht, Dev.dataIn_of_refused hl hcls hp]
  · have htake : s.toDev.TakesCell n (s.logical p.val) c r z := ⟨hr, hc, hrel, hcon, hz, hzo, hv⟩
    obtain ⟨hi, hm⟩ := hread
    have hpart := htake.part
    have hin := Dev.dataIn_of_open (d := s.toDev) hl hcls hp hb hs
    have hmem : s.logical p.val ∈ s.contributors (s.layout (s.ctx n).pack) (s.ctx n).rc c.chunk := by
      rw [htake.rc]
      exact List.contains_iff_mem.mp hcon
    refine ⟨fun ht hel hlen hnew hcell hunch => ?_, fun ht hel hlen hnew hbr hunch => ?_, fun ht hlen hunch hinc => ?_,
      fun ht hlen hheld => ?_⟩
    · have hnote := s.toDev.noted_taken n c.chunk (s.logical p.val) c.cell c.payload
      have hstay := hnote.open_stays hmem ((Contrib.verified_withCell ..).trans (hpart ▸ hver))
        (Contrib.complete_of_unchecked ((Contrib.check_withCell ..).trans (hpart ▸ hunch)) _ _)
      have henter := (htake.contribute_enters (ini := p.val) (Dev.bringOf_data ht hw) (by simp) (by simp [Contrib.has, hnew])
        (Dev.offLayout_plain ht hw hlen)).trans ((Dev.enterCell_data hi hm (htake.rc ▸ hop) (htake.rc ▸ hw) (hpart ▸ hnew)
          (Contrib.breaks_of_plain hel _)).trans hstay)
      have hnow := hnote.part
      rw [hpart] at hnow
      refine ⟨_, (exec_dataCell ho ht).trans (congrArg (fun d => Host.Outcome.next (s.dev d)) (hin.trans henter)), hnote.tick,
        hnote.state.trans (by simpa [Ctx.chunk, tgetD, hz] using hzo), (congrArg Contrib.cells hnow :),
        (congrArg Contrib.data hnow :).trans (if_pos hcell), (congrArg Contrib.applied hnow :).trans (List.contains_iff_mem.mpr hv),
        (congrArg Contrib.check hnow :).trans hunch⟩
    · have hnote := s.toDev.noted_taken n c.chunk (s.logical p.val) (promoKey c.cell (promoSub c.payload)) c.payload
      have hstay := hnote.open_stays hmem ((Contrib.verified_withCell ..).trans (hpart ▸ hver))
        (Contrib.complete_of_unchecked ((Contrib.check_withCell ..).trans (hpart ▸ hunch)) _ _)
      have hnow := hnote.part
      rw [hpart] at hnow
      have hcells : ((s.toDev.taken n c.chunk (s.logical p.val) (promoKey c.cell (promoSub c.payload)) c.payload).part n c.chunk
          (s.logical p.val)).cells = [(promoKey c.cell (promoSub c.payload), c.payload)] :=
        (congrArg Contrib.cells hnow :).trans (congrArg (fun t => tset t (promoKey c.cell (promoSub c.payload)) c.payload) hnew)
      have hkey : ¬ promoKey c.cell (promoSub c.payload) < 64 := by unfold promoKey; omega
      have henter := (htake.contribute_enters (ini := p.val) (Dev.bringOf_promo ht) (by simp) (by simp [Contrib.has, hnew])
        (Dev.offLayout_promo ht hw hlen hbr)).trans ((Dev.enterCell_data hi hm (htake.rc ▸ hop) (htake.rc ▸ hw)
          (by rw [hpart, hnew]; rfl) (by
            rw [if_neg hkey, promoKey_cell]
            exact Contrib.breaks_of_alone hcells c.cell_lt hbr)).trans hstay)
      exact ⟨_, (exec_promoCell ho ht).trans (congrArg (fun d => Host.Outcome.next (s.dev d)) (hin.trans henter)), hnote.tick, hcells⟩
    · have hnote := s.toDev.noted_checkTaken n c.chunk (s.logical p.val) (Contrib.withCheck c.checks ((s.ctx n).validated.contains
        (s.logical p.val)))
      have hinc' : (Contrib.withCheck c.checks ((s.ctx n).validated.contains (s.logical p.val)) (s.part n c.chunk (s.logical p.val))).complete
          (wireType (s.ctx n).rc (s.logical p.val)) (s.sentCount (s.ctx n).rc (s.logical p.val) c.chunk) = false := by
        rw [hpart, htake.rc, hw]
        exact hinc
      have hstay := hnote.open_stays hmem (show (s.part n c.chunk (s.logical p.val)).verified = false from hpart ▸ hver) hinc'
      have henter := (htake.contribute_enters (ini := p.val) (Dev.bringOf_check ht) (by simp) (by simp [Contrib.has, hunch])
        (Dev.offLayout_check ht hlen)).trans ((Dev.enterCell_check (hpart ▸ hunch)).trans hstay)
      exact ⟨_, (exec_checkCell ho ht).trans (congrArg (fun d => Host.Outcome.next (s.dev d)) (hin.trans henter)), hnote.tick,
        (congrArg Contrib.check hnote.part :)⟩
    · rw [exec_dataCell ho ht, hin, htake.contribute_held (Dev.bringOf_data ht hw) hheld]

end Sys2Proof.Machine
end

section
/-! Packets of the host transport: where the statement about a host's requests fails, and the TX1's own requests (R478 to R491). -/

namespace Sys2Proof.Machine

/-! ## An acknowledgement of a message of two packets (R486) -/

/-- A queue pair in RTS with one SEND outstanding that counts for two packets. -/
def twoPackets : State :=
  { State.reset with
    tick := 1000000, power := { bootStage := 3 }, regs := [(E.HOST_MODE, 1)],
    qps := [(0, { state := 1, sent := [{ op := 0x04, npkts := 2, use := .bridge }] })] }

/-- An acknowledgement of the first of them. -/
def firstAck : RoceMsg :=
  { qp := 0, psn := 0, first := true, last := true, ackReq := false, rkey := 0, va := 0, dmaLen := 0, syndrome := 0x1F, ecn := false,
    icrcOk := true, invalid := false, payload := [] }

/-- The packets outstanding on queue pair 0 after a step. -/
def sentOf (o : Host.Outcome State Fault Refusal) : List QpReq :=
  match o with
  | .next t => (t.qp 0).sent
  | _ => []

/-- Refutes O47: an acknowledgement of a request's PSN takes it off only where the request is one packet, and its last clause does
not ask for that. -/
theorem not_hostRequestsAct : ¬ Obligations.HostRequestsAct := by
  unfold Obligations.HostRequestsAct
  rintro ⟨-, -, -, -, -, -, -, h⟩
  have hstep := h twoPackets firstAck ((twoPackets.toDev.count E.HOST_FRAMES).cnpFor firstAck)
    { op := 0x04, npkts := 2, use := .bridge } (by decide +kernel) (by decide +kernel) (by decide +kernel) (by decide +kernel)
    (by decide +kernel) (by decide +kernel) (by decide +kernel)
  have hkept : sentOf (exec (.acknowledge firstAck) twoPackets) ≠ [] := by decide +kernel
  rw [hstep] at hkept
  exact hkept (by decide +kernel)

/-! ## A packet that arrives (R480, R486, R487) -/

@[simp] theorem Dev.qp_setQp_same (d : Dev) (q : Nat) (x : Qp) : (d.setQp q x).qp q = x := by
  simp [Dev.qp, Dev.setQp, tgetD, tget_tset_same]

theorem Dev.qp_setQp_other (d : Dev) {q v : Nat} (x : Qp) (h : v ≠ q) : (d.setQp q x).qp v = d.qp v := by
  simp [Dev.qp, Dev.setQp, tgetD, tget_tset_other _ _ h]

@[simp] theorem Dev.qp_hostSend (d : Dev) (q : Nat) (bs : List Byte) (v : Nat) : (d.hostSend q bs).qp v = d.qp v := by
  unfold Dev.hostSend
  split <;> rfl

@[simp] theorem Dev.reg_hostSend (d : Dev) (q : Nat) (bs : List Byte) (k : Nat) : (d.hostSend q bs).reg k = d.reg k := by
  unfold Dev.hostSend
  split <;> rfl

@[simp] theorem Dev.tick_hostSend (d : Dev) (q : Nat) (bs : List Byte) : (d.hostSend q bs).tick = d.tick := by
  unfold Dev.hostSend
  split <;> rfl

/-- A queue pair but for when it last sent a CNP. -/
def Qp.uncnp (x : Qp) : Qp := { x with lastCnpSent := none }

/-- The device once it has answered a CE mark. -/
def Dev.sentCnp (d : Dev) (m : RoceMsg) : Dev :=
  ((d.setQp m.qp.val { d.qp m.qp.val with lastCnpSent := some d.tick }).hostSend m.qp.val
    (bth 0x81 0 (d.reg (E.REMOTE_QPN m.qp.val)) 0 false ++ List.replicate 16 0)).count E.CNP_SENT

theorem Dev.cnpFor_eq (d : Dev) (m : RoceMsg) : d.cnpFor m = d ∨ d.cnpFor m = d.sentCnp m := by
  unfold Dev.cnpFor
  exact (ite_eq_or_eq _ _ _).symm

theorem Dev.uncnp_cnpFor (d : Dev) (m : RoceMsg) (v : Nat) : ((d.cnpFor m).qp v).uncnp = (d.qp v).uncnp := by
  rcases d.cnpFor_eq m with h | h <;> rw [h]
  refine (congrArg Qp.uncnp (Dev.qp_hostSend _ _ _ v)).trans ?_
  by_cases hv : v = m.qp.val
  · rw [hv, Dev.qp_setQp_same]
    rfl
  · rw [Dev.qp_setQp_other _ _ hv]

theorem Dev.reg_cnpFor (d : Dev) (m : RoceMsg) {k : Nat} (h : k ≠ E.CNP_SENT) : (d.cnpFor m).reg k = d.reg k := by
  rcases d.cnpFor_eq m with hc | hc <;> rw [hc]
  exact (Dev.reg_setReg_other _ _ h).trans (Dev.reg_hostSend _ _ _ k)

theorem Dev.tick_cnpFor (d : Dev) (m : RoceMsg) : (d.cnpFor m).tick = d.tick := by
  rcases d.cnpFor_eq m with hc | hc <;> rw [hc]
  exact Dev.tick_hostSend (d.setQp m.qp.val { d.qp m.qp.val with lastCnpSent := some d.tick }) _ _

/-- What a packet that is counted leaves of the device it comes to. -/
structure State.Counted (s : State) (m : RoceMsg) (d : Dev) : Prop where
  qp : ∀ v, (d.qp v).uncnp = (s.qp v).uncnp
  reg : ∀ k, k ∉ [E.HOST_FRAMES, E.CNP_SENT] → d.reg k = s.reg k
  tick : d.tick = s.tick

theorem State.counted_of_in {s : State} {m : RoceMsg} {d : Dev} (h : s.packetIn m d) : s.Counted m d := by
  obtain ⟨-, -, -, -, rfl⟩ := h
  refine ⟨fun v => Dev.uncnp_cnpFor _ m v, fun k hk => ?_, Dev.tick_cnpFor _ m⟩
  rw [Dev.reg_cnpFor _ m (fun h => hk (by simp [h])), Dev.count, Dev.countN, Dev.reg_setReg_other _ _ (fun h => hk (by simp [h]))]

namespace State.Counted
variable {s : State} {m : RoceMsg} {d : Dev} (h : s.Counted m d)
include h

theorem state (v : Nat) : (d.qp v).state = (s.qp v).state := (congrArg Qp.state (h.qp v) :)

theorem sent (v : Nat) : (d.qp v).sent = (s.qp v).sent := (congrArg Qp.sent (h.qp v) :)

theorem reg_rnr : d.reg (E.RNR_RETRY m.qp.val) = s.reg (E.RNR_RETRY m.qp.val) := by
  refine h.reg _ ?_
  simp only [List.mem_cons, List.not_mem_nil, or_false, E.RNR_RETRY, E.HOST_FRAMES, E.CNP_SENT]
  omega

end State.Counted

/-- A packet that need not wait acts on the device that has counted it. -/
theorem Dev.hostArrive_of_in {s : State} {m : RoceMsg} {d : Dev} {k : Nat} (h : s.packetIn m d) (hw : d.hostWaits k m = false) :
    s.toDev.hostArrive k m = d.hostPacket k m := by
  obtain ⟨hup, hgate, hicrc, hstate, rfl⟩ := h
  refine (if_neg (by simp [hup])).trans ((if_neg (by simp [hgate])).trans ((if_neg (by simp [hicrc])).trans
    ((if_neg (by simp [hstate])).trans (if_neg (by simp [hw])))))

section
variable {s : State} {m : RoceMsg} {d : Dev} (h : s.packetIn m d)
include h

theorem exec_rdmaReadResponse (hw : d.hostWaits 3 m = false) : exec (.rdmaReadResponse m) s = .next (s.dev (d.takeResponse m)) := by
  have hst : (d.qp m.qp.val).state = 1 := ((State.counted_of_in h).state _).trans h.2.2.2.1
  exact run_dev ((Dev.hostArrive_of_in h hw).trans (if_neg (by simp [hst])))

theorem exec_acknowledge (hw : d.hostWaits 4 m = false) : exec (.acknowledge m) s = .next (s.dev (d.takeAck m)) := by
  have hst : (d.qp m.qp.val).state = 1 := ((State.counted_of_in h).state _).trans h.2.2.2.1
  exact run_dev ((Dev.hostArrive_of_in h hw).trans (if_neg (by simp [hst])))

end

/-! ## Responses and acknowledgements of the TX1's own requests (R486) -/

section
variable {d : Dev} {m : RoceMsg} {r : QpReq} {rest : List QpReq}

/-- What is left of the requests once a response's packet has come. -/
def QpReq.afterResponse (r : QpReq) (rest : List QpReq) (n : Nat) : List QpReq :=
  if r.npkts ≤ 1 then rest
  else { r with psn := (r.psn + 1) % 2 ^ 24, npkts := r.npkts - 1, va := r.va + n, dmaLen := r.dmaLen - n } :: rest

theorem Dev.takeResponse_of_next {ch : Nat} (hr : (d.qp m.qp.val).sent.dropWhile (fun x => x.op != 0x0C) = r :: rest)
    (hu : r.use = .dma ch) (hp : m.psn.toNat = r.psn) : d.takeResponse m = ((d.setQp m.qp.val { d.qp m.qp.val with
      sent := r.afterResponse rest (m.payload.take r.dmaLen).length, retries := 0, rnrRetries := 0, sentAt := d.tick }).dmaTake ch
        (m.payload.take r.dmaLen)).pump m.qp.val := by
  unfold Dev.takeResponse
  simp only [hr, hp, hu, bne_self_eq_false, Bool.false_eq_true, if_false, QpReq.afterResponse]

theorem Dev.takeResponse_of_other (hr : (d.qp m.qp.val).sent.dropWhile (fun x => x.op != 0x0C) = r :: rest)
    (hp : m.psn.toNat ≠ r.psn) : d.takeResponse m = d := by
  unfold Dev.takeResponse
  simp only [hr]
  exact if_pos (by simpa using hp)

theorem Dev.takeResponse_of_none (h : (d.qp m.qp.val).sent.dropWhile (fun x => x.op != 0x0C) = []) : d.takeResponse m = d := by
  unfold Dev.takeResponse
  simp only [h]

/-- The device once everything before a NAK is acknowledged. -/
def Dev.ackedBefore (d : Dev) (m : RoceMsg) : Dev := d.acked m.qp.val ((m.psn.toNat + 2 ^ 24 - 1) % 2 ^ 24)

theorem Dev.reg_acked (d : Dev) (q psn k : Nat) : (d.acked q psn).reg k = d.reg k := by
  unfold Dev.acked
  dsimp only []
  split <;> rfl

variable (hs : (d.qp m.qp.val).sent ≠ [])

theorem Dev.takeAck_of_idle (hs : (d.qp m.qp.val).sent = []) : d.takeAck m = d := if_pos hs

include hs

theorem Dev.takeAck_positive (hk : bits m.syndrome.toNat 5 2 = 0) :
    d.takeAck m = (d.acked m.qp.val m.psn.toNat).pump m.qp.val := (if_neg hs).trans (if_pos hk)

theorem Dev.takeAck_rnr (hk : bits m.syndrome.toNat 5 2 = 1)
    (hl : d.reg (E.RNR_RETRY m.qp.val) = 7 ∨ ((d.ackedBefore m).qp m.qp.val).rnrRetries < d.reg (E.RNR_RETRY m.qp.val)) :
    d.takeAck m = ((d.ackedBefore m).setQp m.qp.val { (d.ackedBefore m).qp m.qp.val with
      rnrRetries := ((d.ackedBefore m).qp m.qp.val).rnrRetries + 1 }).resendAll m.qp.val := by
  have hreg := d.reg_acked m.qp.val ((m.psn.toNat + 2 ^ 24 - 1) % 2 ^ 24) (E.RNR_RETRY m.qp.val)
  refine (if_neg hs).trans ((if_neg (by omega)).trans ((if_pos hk).trans (if_neg ?_)))
  rw [hreg]
  unfold Dev.ackedBefore at hl
  simp only [Bool.and_eq_true, bne_iff_ne, decide_eq_true_eq]
  omega

theorem Dev.takeAck_rnr_last (hk : bits m.syndrome.toNat 5 2 = 1) (h7 : d.reg (E.RNR_RETRY m.qp.val) ≠ 7)
    (hl : d.reg (E.RNR_RETRY m.qp.val) ≤ ((d.ackedBefore m).qp m.qp.val).rnrRetries) :
    d.takeAck m = (d.ackedBefore m).qpError m.qp.val m.psn.toNat := by
  have hreg := d.reg_acked m.qp.val ((m.psn.toNat + 2 ^ 24 - 1) % 2 ^ 24) (E.RNR_RETRY m.qp.val)
  refine (if_neg hs).trans ((if_neg (by omega)).trans ((if_pos hk).trans (if_pos ?_)))
  rw [hreg]
  unfold Dev.ackedBefore at hl
  simp only [Bool.and_eq_true, bne_iff_ne, decide_eq_true_eq]
  exact ⟨h7, hl⟩

theorem Dev.takeAck_nak (hk : bits m.syndrome.toNat 5 2 = 3) : d.takeAck m =
    if m.syndrome.toNat = synSEQ then (d.ackedBefore m).retry m.qp.val else (d.ackedBefore m).qpError m.qp.val m.psn.toNat :=
  (if_neg hs).trans ((if_neg (by omega)).trans ((if_neg (by omega)).trans (if_pos hk)))

end

/-! ## Retries (R486) -/

/-- Where nothing but what is sent differs, a request has the same bytes. -/
theorem Dev.reqBytes_congr {d e : Dev} (h : ∀ k, e.reg k = d.reg k) (q : Nat) (r : QpReq) : e.reqBytes q r = d.reqBytes q r := by
  unfold Dev.reqBytes
  rw [h]

/-- The packets of some requests go out in order while the host port is up. -/
theorem Dev.hostSend_all (q : Nat) (rs : List QpReq) (d : Dev) :
    rs.foldl (fun (a : Dev) r => a.hostSend q (a.reqBytes q r)) d =
      { d with out := d.out ++ (if d.hostUp = true then rs.map (fun r => Out.host d.tick q (d.reqBytes q r)) else []) } := by
  by_cases hup : d.hostUp = true
  · simp only [hup, if_true]
    induction rs generalizing d with
    | nil => simp
    | cons r rs ih =>
      rw [List.foldl_cons, show d.hostSend q (d.reqBytes q r) = d.emit (.host d.tick q (d.reqBytes q r)) from if_pos hup]
      exact (ih (d.emit (.host d.tick q (d.reqBytes q r))) hup).trans (congrArg (fun o => ({ d with out := o } : Dev))
        (List.append_assoc ..))
  · rw [if_neg hup, List.append_nil]
    induction rs with
    | nil => rfl
    | cons r rs ih =>
      rw [List.foldl_cons, show d.hostSend q (d.reqBytes q r) = d from if_neg hup]
      exact ih

theorem exec_qpRetryTimeout_early {s : State} {q : QpNo} (h : (s.qp q.val).state ≠ 1 ∨ (s.qp q.val).sent = [] ∨
    s.tick < (s.qp q.val).sentAt + s.reg (E.RETRY_TICKS q.val)) : exec (.qpRetryTimeout q) s = .next s :=
  run_dev (d := s.toDev) (if_pos (by rcases h with h | h | h <;> simp [h]))

theorem exec_qpRetryTimeout {s : State} {q : QpNo} (h1 : (s.qp q.val).state = 1) (h2 : (s.qp q.val).sent ≠ [])
    (h3 : (s.qp q.val).sentAt + s.reg (E.RETRY_TICKS q.val) ≤ s.tick) :
    exec (.qpRetryTimeout q) s = .next (s.dev (s.toDev.retry q.val)) :=
  run_dev (if_neg (by simp [h1, h2, h3]))

/-- A retry within RETRY_COUNT sends everything outstanding again, and counts. -/
def Dev.retried (d : Dev) (q : Nat) : Dev :=
  { (d.setQp q { d.qp q with retries := (d.qp q).retries + 1 }).setQp q
      { d.qp q with retries := (d.qp q).retries + 1, sentAt := d.tick } with
        out := d.out ++ (if d.hostUp = true then (d.qp q).sent.map (fun x => Out.host d.tick q (d.reqBytes q x)) else []) }

theorem Dev.retry_of_lt {d : Dev} {q : Nat} (h : (d.qp q).retries < d.reg (E.RETRY_COUNT q)) : d.retry q = d.retried q := by
  refine (if_neg (Nat.not_le.mpr h)).trans ?_
  unfold Dev.resendAll
  rw [Dev.qp_setQp_same]
  exact Dev.hostSend_all ..

theorem Dev.qp_retried_same (d : Dev) (q : Nat) :
    (d.retried q).qp q = { d.qp q with retries := (d.qp q).retries + 1, sentAt := d.tick } := Dev.qp_setQp_same ..

theorem Dev.qp_retried_other (d : Dev) (q : Nat) {v : Nat} (h : v ≠ q) : (d.retried q).qp v = d.qp v :=
  (Dev.qp_setQp_other _ _ h).trans (Dev.qp_setQp_other _ _ h)

theorem State.frame_retried (s : State) (q : Nat) :
    ({ s.dev (s.toDev.retried q) with qps := s.qps, out := s.out } : State) = s := by
  unfold Dev.retried Dev.setQp
  rfl

theorem exec_qpRetryTimeout_again {s : State} {q : QpNo} (h1 : (s.qp q.val).state = 1) (h2 : (s.qp q.val).sent ≠ [])
    (h3 : (s.qp q.val).sentAt + s.reg (E.RETRY_TICKS q.val) ≤ s.tick) (h : (s.qp q.val).retries < s.reg (E.RETRY_COUNT q.val)) :
    exec (.qpRetryTimeout q) s = .next (s.dev (s.toDev.retried q.val)) := by
  rw [exec_qpRetryTimeout h1 h2 h3, Dev.retry_of_lt h]

/-! ## CNPs, the rate, and other frames (R480, R487) -/

/-- What arrives while the port is down is not seen; while the clock stands it is held; and else it acts. -/
theorem Dev.hostTake_down {d : Dev} (h : d.hostUp = false) (x : HeldPkt) (f : Dev → Dev) : d.hostTake x f = d :=
  if_pos (by simp [h])

theorem Dev.hostTake_gated {d : Dev} (h : d.hostUp = true) (hg : d.domainGated .host = true) (x : HeldPkt) (f : Dev → Dev) :
    d.hostTake x f = d.holdPkt x := (if_neg (by simp [h])).trans (if_pos hg)

theorem Dev.hostTake_acts {d : Dev} (h : d.hostUp = true) (hg : d.domainGated .host = false) (x : HeldPkt) (f : Dev → Dev) :
    d.hostTake x f = f d := (if_neg (by simp [h])).trans (if_neg (by simp [hg]))

/-- A queue pair's rate as a CNP leaves it. -/
def Qp.slowed (x : Qp) (tick : Nat) : Qp := { x with rate := max 8 (x.rate / 2), lastCnp := some tick, lastRise := tick }

theorem Dev.takeCnp_halves {d : Dev} {q : Nat} (h1 : (d.qp q).state = 1) (h : ∀ a, (d.qp q).lastCnp = some a → a + 1250 ≤ d.tick) :
    d.takeCnp q = (d.count E.HOST_FRAMES).setQp q ((d.qp q).slowed d.tick) := by
  refine (if_neg (by simp [h1])).trans (congrArg ((d.count E.HOST_FRAMES).setQp q) (if_pos ?_))
  rcases ha : (d.qp q).lastCnp with _ | a
  · rfl
  · exact decide_eq_true (h a ha)

theorem Dev.takeCnp_again {d : Dev} {q a : Nat} (h1 : (d.qp q).state = 1) (ha : (d.qp q).lastCnp = some a) (h : d.tick < a + 1250) :
    d.takeCnp q = (d.count E.HOST_FRAMES).setQp q { d.qp q with lastRise := d.tick } := by
  refine (if_neg (by simp [h1])).trans (congrArg ((d.count E.HOST_FRAMES).setQp q) (if_neg ?_))
  simp [ha, h]

theorem exec_hostAutoneg {s : State} (hd : s.toDev.domainOff .host = false) (hf : s.toDev.fenced = false) (hm : s.reg E.HOST_MODE = 0)
    (l : List HostMode) (ok : Bool) : exec (.hostAutoneg l ok) s = .next (s.dev
      (if (s.reg E.HOST_MAX_MODE != 2 && !s.hostPort.only400) && l.contains .cr4x800 then
        (if ok then { s.toDev.setReg E.HOST_MODE 1 with hostPort := { s.hostPort with fails800 := 0 } }
         else { s.toDev with hostPort := { s.hostPort with fails800 := s.hostPort.fails800 + 1, only400 := 2 ≤ s.hostPort.fails800 } })
       else if l.contains .cr4x400 && ok then s.toDev.setReg E.HOST_MODE 2 else s.toDev)) :=
  run_dev (if_neg (by simp [hd, hf, hm]))

/-- Settles O48: a packet acts on the device that has counted it, and the requester's rows by their conditions. -/
theorem hostRequesterAndPort : Obligations.HostRequesterAndPort := by
  refine ⟨fun s l ok hd hf hm => ⟨fun hb ho => ?_, fun hb ho => ?_, fun hb h4 ho => ?_, fun hb h => ?_⟩,
    fun s m d r rest ch h hw hr hu => ⟨fun hp => ?_, fun hp => ?_⟩, fun s m d h hw hr => ?_,
    fun s m d h hw => ⟨fun hs => ?_, fun hs hk => ?_, fun hs hk hl => ?_, fun hs hk h7 hl => ?_, fun hs hk hy => ?_, fun hs hk hy => ?_⟩,
    fun s q r rest h1 h2 => ⟨fun ht => ?_, fun ht hc => ?_, fun ht hc => ?_⟩, fun s q h => ?_, fun s q h => ?_, fun s q h hg => ?_,
    fun s q h hg => ⟨fun h1 => ?_, fun h1 ha => ?_, fun a h1 ha ht => ?_⟩, fun s q => ⟨fun h => ?_, fun h => ?_⟩,
    fun s f => ⟨fun h hv hg => ?_, fun h hg => ?_, fun h hg hv => ?_, fun h => ?_⟩⟩
  · rw [exec_hostAutoneg hd hf hm, if_pos (by simp [hb]), if_pos ho]
  · rw [exec_hostAutoneg hd hf hm, if_pos (by simp [hb]), if_neg (by simp [ho])]
  · rw [exec_hostAutoneg hd hf hm, if_neg (by simpa [and_assoc] using hb), if_pos (by simp [h4, ho])]
  · rw [exec_hostAutoneg hd hf hm, if_neg (by simpa [and_assoc] using hb), if_neg (by rcases h with h | h <;> simp [h])]
    rfl
  · have hc := State.counted_of_in h
    rw [exec_rdmaReadResponse h hw, Dev.takeResponse_of_next (by rw [hc.sent]; exact hr) hu hp, hc.tick]
    rfl
  · have hc := State.counted_of_in h
    rw [exec_rdmaReadResponse h hw, Dev.takeResponse_of_other (by rw [hc.sent]; exact hr) hp]
  · have hc := State.counted_of_in h
    rw [exec_rdmaReadResponse h hw, Dev.takeResponse_of_none]
    rw [hc.sent, List.dropWhile_eq_nil_iff]
    exact fun r hm => by simpa using hr r hm
  · rw [exec_acknowledge h hw, Dev.takeAck_of_idle (((State.counted_of_in h).sent _).trans hs)]
  · rw [exec_acknowledge h hw, Dev.takeAck_positive ((State.counted_of_in h).sent m.qp.val ▸ hs) hk]
  · rw [← (State.counted_of_in h).reg_rnr] at hl
    rw [exec_acknowledge h hw, Dev.takeAck_rnr ((State.counted_of_in h).sent m.qp.val ▸ hs) hk hl]
    rfl
  · rw [← (State.counted_of_in h).reg_rnr] at h7 hl
    rw [exec_acknowledge h hw, Dev.takeAck_rnr_last ((State.counted_of_in h).sent m.qp.val ▸ hs) hk h7 hl]
    rfl
  · rw [exec_acknowledge h hw, Dev.takeAck_nak ((State.counted_of_in h).sent m.qp.val ▸ hs) hk, if_pos hy]
    rfl
  · rw [exec_acknowledge h hw, Dev.takeAck_nak ((State.counted_of_in h).sent m.qp.val ▸ hs) hk, if_neg hy]
    rfl
  · exact exec_qpRetryTimeout_early (.inr (.inr ht))
  · rw [exec_qpRetryTimeout h1 (by simp [h2]) ht]
    exact congrArg (fun d => Host.Outcome.next (s.dev d)) ((if_pos hc).trans (by simp [h2]))
  · exact ⟨_, exec_qpRetryTimeout_again h1 (by simp [h2]) ht hc, Dev.qp_retried_same _ _, h2 ▸ rfl,
      fun v hv => Dev.qp_retried_other _ _ hv, s.frame_retried q.val⟩
  · exact exec_qpRetryTimeout_early (h.imp_right .inl)
  · exact run_dev (Dev.hostTake_down h _ _)
  · exact run_dev (Dev.hostTake_gated h hg _ _)
  · exact run_dev ((Dev.hostTake_acts h hg _ _).trans (if_pos (by simpa using h1)))
  · exact run_dev ((Dev.hostTake_acts h hg _ _).trans (Dev.takeCnp_halves h1 ha))
  · exact run_dev ((Dev.hostTake_acts h hg _ _).trans (Dev.takeCnp_again h1 ha ht))
  · exact run_dev (if_neg (Nat.not_lt.mpr h))
  · exact run_dev (d := s.toDev) (if_pos h)
  · exact run_dev ((Dev.hostTake_acts h hg _ _).trans (if_neg (by simp [hv])))
  · exact run_dev (Dev.hostTake_gated h hg _ _)
  · exact run_dev ((Dev.hostTake_acts h hg _ _).trans (if_pos hv))
  · exact run_dev (Dev.hostTake_down h _ _)

end Sys2Proof.Machine
end

section
/-! DMA descriptors and the scrubber (R492, R495, R497, R503, R504). -/

namespace Sys2Proof.Machine

/-! ## Tables written twice -/

theorem tset_tset {α : Type} (t : Tbl α) (k : Nat) (a b : α) : tset (tset t k a) k b = tset t k b := by
  induction t with
  | nil => simp [tset]
  | cons e t ih =>
    obtain ⟨i, v⟩ := e
    simp only [tset]
    by_cases h1 : i < k
    · simp [tset, h1, ih]
    · by_cases h2 : i = k <;> simp [tset, h1, h2]

/-! ## Channels -/

@[simp] theorem Dev.chan_setChan_same (d : Dev) (n : Nat) (x : DmaCh) : (d.setChan n x).chan n = x := by
  simp [Dev.chan, Dev.setChan, tgetD, tget_tset_same]

theorem Dev.setChan_setChan (d : Dev) (n : Nat) (x y : DmaCh) : (d.setChan n x).setChan n y = d.setChan n y :=
  congrArg (fun t => ({ d with dma := t } : Dev)) (tset_tset ..)

theorem Dev.endAction_setChan (d : Dev) (n : Nat) (x : DmaCh) (a : Option (Nat × Nat)) (ok : Bool) :
    (d.setChan n x).endAction a ok = (d.endAction a ok).setChan n x := by
  cases a <;> rfl

@[simp] theorem Dev.dma_endAction (d : Dev) (a : Option (Nat × Nat)) (ok : Bool) : (d.endAction a ok).dma = d.dma := by
  cases a <;> rfl

theorem Dev.dma_countErr (d : Dev) (k : Nat) : (d.countErr k).dma = d.dma := by
  unfold Dev.countErr
  dsimp only []
  split
  · rfl
  · split <;> rfl

theorem Dev.dma_countErrN (d : Dev) (k n : Nat) : (d.countErrN k n).dma = d.dma := by
  unfold Dev.countErrN
  dsimp only []
  split
  · rfl
  · split <;> rfl

theorem Dev.dma_pkgTransfer (d : Dev) (l : Nat) : (d.pkgTransfer l).dma = d.dma := by
  unfold Dev.pkgTransfer
  split
  · rfl
  · split
    · dsimp only []
      split <;> rfl
    · rfl

theorem Dev.dma_addWhistle (d : Dev) (o : Origin) (w n : Nat) : (d.addWhistle o w n).dma = d.dma := by
  have hcross : (d.cross (o.links w)).dma = d.dma := foldl_keeps Dev.dma Dev.dma_pkgTransfer _ _
  unfold Dev.addWhistle
  dsimp only []
  split
  · exact hcross
  · split
    · exact hcross
    · exact (Dev.dma_countErr _ _).trans hcross

theorem Dev.dma_endOfCount (d : Dev) (n : Nat) : (d.endOfCount n).dma = d.dma :=
  (foldl_keeps Dev.dma (fun e w => e.dma_addWhistle _ w _) _ _).trans (Dev.dma_countErrN _ _ _)

/-- The last descriptor of a chain frees its channel (R495). -/
theorem Dev.dmaDone_last {d : Dev} {n : Nat} (hn : ddNext (d.chan n).desc = 0) (hq : (d.chan n).queue = []) :
    d.dmaDone n = ((d.endOfCount n).endAction (d.chan n).action true).setChan n {} := by
  have hchan : (d.endOfCount n).chan n = d.chan n := (congrArg (fun t : Tbl DmaCh => tgetD t n {}) (d.dma_endOfCount n) :)
  unfold Dev.dmaDone
  simp only [hn, decide_true, Bool.or_true, if_true, Bool.not_true, Bool.false_eq_true, if_false, Dev.endAction_setChan,
    Dev.chan_setChan_same, hchan, hq, Dev.setChan_setChan]

/-- A channel in ERROR with its code (R497). -/
theorem Dev.dmaFail_marks (d : Dev) (n code acc : Nat) :
    ((d.dmaFail n code acc).chan n).state = .error ∧ (d.dmaFail n code acc).reg (E.DMA_ERROR_CODE n) = code :=
  ⟨congrArg DmaCh.state (Dev.chan_setChan_same _ n _), Dev.reg_setReg_same ..⟩

section
variable {s : State} {ch : ChanNo}

/-- What the completion of a descriptor under way does. -/
theorem exec_dmaDescComplete (hr : (s.chan ch.val).state = .running) (hs : (s.chan ch.val).started = true)
    (hc : s.toDev.computeOff = false) : exec (.dmaDescComplete ch) s = .next (s.dev
      (if ddOp (s.chan ch.val).desc = 1 then
        (match s.toDev.readMem (ddSrc (s.chan ch.val).desc) (ddLength (s.chan ch.val).desc) (iniDma ch.val) with
         | (none, d1) => d1.dmaFail ch.val 5 accRead
         | (some bs, d1) => (d1.writeFrom (iniDma ch.val) (ddDst (s.chan ch.val).desc) bs).dmaMoved ch.val bs)
       else if s.toDev.dmaOnQp ch.val || (ddOp (s.chan ch.val).desc = 3 && (s.chan ch.val).got.length != ddLength (s.chan ch.val).desc)
         then s.toDev
       else s.toDev.dmaMoved ch.val (s.chan ch.val).got)) :=
  run_dev (if_neg (by simp [hr, hs, hc]))

theorem exec_dmaDescFail (code : BitVec 8) (h : (s.chan ch.val).state = .running ∨ (s.chan ch.val).state = .paused) :
    exec (.dmaDescFail ch code) s = .next (s.dev (if code = 5 then s.toDev.dmaFail ch.val 5 accRead
      else if code = 3 && ddOp (s.chan ch.val).desc != 1 then s.toDev.dmaFail ch.val 3 (ddHostAccess (s.chan ch.val).desc)
      else s.toDev)) :=
  run_dev (if_neg (by rcases h with h | h <;> simp [h]))

end

/-! ## The scrubber (R504) -/

/-- The scrubber reads beside the memory: no package link lies on its way. -/
theorem dieLinks_iniScrub (die : Nat) : dieLinks iniScrub die = [] := rfl

/-- A sound word that the scrubber reads changes nothing. -/
theorem Dev.readMem_scrub {d : Dev} (hi : d.sentry.inject = none) (hu : d.ueWords = []) (a n : Nat) : (d.readMem a n iniScrub).2 = d := by
  have htravel : d.travel iniScrub a = d := rfl
  unfold Dev.readMem
  simp only [htravel, Dev.takeInject_of_unarmed hi, Dev.ueIn, hu, List.any_nil, Bool.false_eq_true, if_false]
  split <;> rfl

/-- What one word's scrub does, where it lies in the tier, checks no page and is the first one found. -/
theorem exec_scrubRead {s : State} {x : BitVec 64} (o : EccOutcome) (he : s.toDev.flag E.SCRUB_ENABLE = true)
    (hc : s.toDev.computeOff = false) (hg : s.toDev.computeGated = false) (ht : s.toDev.tierExists (x.toNat / 4 * 4) 4 = true) :
    exec (.scrubRead x o) s = .next (s.dev (((match o with
      | .clean => (s.toDev.readMem (x.toNat / 4 * 4) 4 iniScrub).2
      | .corrected syn => s.toDev.memError false (x.toNat / 4 * 4) iniScrub false syn.toNat
      | .uncorrectable syn => (s.toDev.markWord (x.toNat / 4 * 4)).memError true (x.toNat / 4 * 4) iniScrub false syn.toNat).scrubPage
        (x.toNat / 4 * 4)).scrubOn (x.toNat / 4 * 4))) := by
  have hspace : tierSpace (x.toNat / 4 * 4) ≠ 3 := by
    intro h
    simp [Dev.tierExists, h] at ht
  exact run_dev ((if_neg (by simp [he])).trans ((if_neg hspace).trans (if_neg (by simp [hc, hg, ht]))))

/-- A word that is not its page's last checks nothing (R503). -/
theorem Dev.scrubPage_of_inner {d : Dev} {a : Nat} (h : a % 4096 ≠ 4092) : d.scrubPage a = d := if_neg h

theorem Dev.scrubOn_of_sram {d : Dev} {a : Nat} (h : tierSpace a ≠ 0) : d.scrubOn a = d := if_pos (by simpa using h)

theorem Dev.markWord_first {d : Dev} (h : d.ueWords = []) (a : Nat) : d.markWord a = { d with ueWords := [a] } := by
  unfold Dev.markWord
  simp [h]

/-- What one word of an SRAM without a tier address does to the scrubber. -/
theorem exec_scrubRead_sram {s : State} {x : BitVec 64} (o : EccOutcome) (he : s.toDev.flag E.SCRUB_ENABLE = true)
    (ht : tierSpace x.toNat = 3) : exec (.scrubRead x o) s = .next (s.dev (s.toDev.scrubSram x.toNat o)) := by
  have hspace : tierSpace (x.toNat / 4 * 4) = 3 := by
    unfold tierSpace bits at ht ⊢
    omega
  exact run_dev ((if_neg (by simp [he])).trans (if_pos hspace))

/-- Settles O49: each row by the branch that its conditions name. -/
theorem dmaAndScrubber : Obligations.DmaAndScrubber := by
  refine ⟨fun s ch hr hs hc => ⟨fun bs d1 ho hm => ?_, fun d1 ho hm => ?_, fun ho hq hg => ?_, fun ho hq => ?_⟩,
    fun d n bs => ⟨fun hk hx => ?_, fun hk hn hq => ?_⟩, fun s ch code h => ⟨fun h5 => ?_, fun h3 ho => ?_, fun h3 ho => ?_⟩,
    Dev.dmaFail_marks, fun s ch a ha hp => ⟨fun ht hc => ?_, fun ht => ?_⟩,
    fun s x syn he hc hg ht hpage hi hu => ⟨fun h0 hlow => ?_, fun h0 => ?_, fun h0 => ?_, fun h0 => ?_, fun h0 => ?_, fun h0 => ?_⟩,
    fun s x syn he hw ht hcls hn hu => ⟨?_, ?_⟩, fun d cls word ini hi hm => ?_⟩
  · rw [exec_dmaDescComplete hr hs hc, if_pos ho, hm]
  · rw [exec_dmaDescComplete hr hs hc, if_pos ho, hm]
  · rw [exec_dmaDescComplete hr hs hc, if_neg ho, if_neg (by simpa [hq] using hg)]
  · rw [exec_dmaDescComplete hr hs hc, if_neg ho, if_pos (by simp [hq])]
    rfl
  · exact if_pos (by simp [hk, hx])
  · refine (if_neg (by simpa using hk)).trans ?_
    exact Dev.dmaDone_last (d := d.countN (E.DMA_BYTES n) bs.length) hn hq
  · rw [exec_dmaDescFail code h, if_pos h5]
  · rw [exec_dmaDescFail code h, if_neg (by simp [h3]), if_pos (by simp [h3, ho]), ddHostAccess, if_pos ho]
  · rw [exec_dmaDescFail code h, if_neg (by simp [h3]), if_pos (by simp [h3, ho]), ddHostAccess, if_neg (by simp [ho])]
  · refine run_dev ?_
    simp only [ha]
    exact if_pos (by simp [hp, ht, hc])
  · refine run_dev (d := s.toDev) ?_
    simp only [ha]
    exact if_neg (by simp [Nat.not_lt.mpr ht])
  · rw [exec_scrubRead .clean he hc hg ht, Dev.readMem_scrub hi hu, Dev.scrubPage_of_inner hpage]
    exact congrArg (fun d => Host.Outcome.next (s.dev d)) ((if_neg (by simp [h0])).trans (if_pos hlow))
  · rw [exec_scrubRead .clean he hc hg ht, Dev.readMem_scrub hi hu, Dev.scrubPage_of_inner hpage, Dev.scrubOn_of_sram h0]
    rfl
  · rw [exec_scrubRead (.corrected syn) he hc hg ht, Dev.scrubPage_of_inner hpage]
    exact congrArg (fun d : Dev => Host.Outcome.next (s.dev (d.scrubOn _))) (if_neg (by simp [h0]))
  · rw [exec_scrubRead (.uncorrectable syn) he hc hg ht, Dev.scrubPage_of_inner hpage, Dev.markWord_first hu]
    exact congrArg (fun d : Dev => Host.Outcome.next (s.dev (d.scrubOn _))) (if_neg (by simp [h0]))
  · rw [exec_scrubRead (.corrected syn) he hc hg ht, Dev.scrubPage_of_inner hpage, Dev.scrubOn_of_sram h0]
    exact congrArg (fun d : Dev => Host.Outcome.next (s.dev d)) (if_pos (by simpa using h0))
  · rw [exec_scrubRead (.uncorrectable syn) he hc hg ht, Dev.scrubPage_of_inner hpage, Dev.markWord_first hu, Dev.scrubOn_of_sram h0]
    exact congrArg (fun d : Dev => Host.Outcome.next (s.dev d)) (if_pos (by simpa using h0))
  · rw [exec_scrubRead_sram _ he ht]
    exact congrArg (fun d : Dev => Host.Outcome.next (s.dev d)) (by
      unfold Dev.scrubSram
      simp [hw, hcls, hn])
  · rw [exec_scrubRead_sram _ he ht]
    exact congrArg (fun d : Dev => Host.Outcome.next (s.dev d)) (by
      unfold Dev.scrubSram
      simp [hw, hcls, hn, Dev.markWord_first hu])
  · unfold Dev.sramRead
    simp [Dev.takeInject_of_unarmed hi, hm]

end Sys2Proof.Machine
end

section
/-! Faults and deliveries; snapshots, maps and samples (R31, R534, R542, R559 to R573). -/

namespace Sys2Proof.Machine

/-! ## Reports and escalation (R31, R534) -/

theorem exec_bark_none (s : State) : exec (.bark none) s = .next (s.dev (match s.sentry.nextReport s.tick with
    | none => s.toDev
    | some r => { s.toDev with sentry := { s.sentry with reports := s.sentry.reports.erase r } }.sample r.msg)) := rfl

/-- The class that an open record's escalation barks (R534). -/
def FaultClass.above : FaultClass → Option FaultClass
  | .corrected => some .contained
  | .contained => some .fatal
  | .fatal => none

/-- An open record at its escalation tick. -/
def Dev.escalateDue (d : Dev) (c : FaultClass) : Bool :=
  (d.sentry.record c).isOpen && (d.sentry.record c).escTick != 0 && (d.sentry.record c).escTick ≤ d.tick

/-- A record escalates to a class. -/
def Dev.escalated (d : Dev) (c n : FaultClass) : Dev :=
  let r := d.sentry.record c
  let d1 := d.sample (bark 0x0D01 accNone iniNone false r.firstTick (r.kind * 2 ^ 32 + r.count) n)
  ({ d1 with sentry := d1.sentry.setRecord c { d1.sentry.record c with escTick := 0 } }.countErr E.ESCALATIONS).raiseInt 0x03

theorem Dev.escalate_above {d : Dev} {c n : FaultClass} (h : c.above = some n) :
    d.escalate c = if d.escalateDue c then d.escalated c n else d := by
  cases c <;> cases h <;> rfl

/-! ## Deliveries (R537, R542) -/

/-- What an interrupt group has marked. -/
def Dev.groupMarks (e : Dev) (g : Nat) : Nat := bits e.ints.marked (16 * g) 16

/-- The device once a group's delivery is counted and its hold-off begins. -/
def Dev.delivering (e : Dev) (g : Nat) : Dev :=
  { e with ints := { e.ints with
      marked := e.ints.marked - e.groupMarks g * 2 ^ (16 * g), delivered := tset e.ints.delivered g (tgetD e.ints.delivered g 0 + 1),
      holdUntil := tset e.ints.holdUntil g (e.tick + e.reg (E.HOLDOFF_TICKS g)) } }.count (E.DELIVERIES g)

/-- What a delivery does in the way that DELIVERY names. -/
def Dev.deliverBy (e : Dev) (g : Nat) (d1 : Dev) : Dev :=
  let d2 := if bits (d1.reg (E.DELIVERY g)) 0 1 = 1 then
    d1.deliverRdma g (deliveryRecord e.tick g (e.groupMarks g) (tgetD e.ints.delivered g 0 + 1)) else d1
  let d3 := if bits (d1.reg (E.DELIVERY g)) 1 1 = 1 && d2.alertHolds then d2.driveAlert true else d2
  if maskHas (d3.reg E.NOTIFY_MASK) g then ([0, 1, 2, 3] : List (Fin 4)).foldl (fun a k => a.notifyOne k g) d3 else d3

section
variable {s : State} {g : Fin 16}

theorem exec_intGroupDeliver_held (h : s.heard.groupMarks g.val = 0 ∨ s.heard.tick < tgetD s.heard.ints.holdUntil g.val 0) :
    exec (.intGroupDeliver g) s = .next (s.dev s.heard) := by
  unfold Dev.groupMarks at h
  exact run_dev (if_pos (by rcases h with h | h <;> simp [h]))

theorem exec_intGroupDeliver (ha : s.heard.alive = true) (hr : s.heard.power.resetLow = false) (hm : s.heard.groupMarks g.val ≠ 0) (hh : tgetD s.heard.ints.holdUntil g.val 0 ≤ s.heard.tick) :
    exec (.intGroupDeliver g) s = .next (s.dev (s.heard.deliverBy g.val (s.heard.delivering g.val))) := by
  unfold Dev.groupMarks at hm
  exact run_dev (if_neg (by simp [ha, hr, hm, hh]))

end

theorem Dev.reg_delivering (e : Dev) (g : Fin 16) {k : Nat} (h : k ≠ E.DELIVERIES g.val) : (e.delivering g.val).reg k = e.reg k :=
  Dev.reg_setReg_other _ _ h

theorem Dev.reg_delivery_delivering (e : Dev) (g : Fin 16) : (e.delivering g.val).reg (E.DELIVERY g.val) = e.reg (E.DELIVERY g.val) :=
  e.reg_delivering g (by simp only [E.DELIVERY, E.DELIVERIES]; omega)

theorem Dev.reg_notifyMask_delivering (e : Dev) (g : Fin 16) : (e.delivering g.val).reg E.NOTIFY_MASK = e.reg E.NOTIFY_MASK :=
  e.reg_delivering g (by simp only [E.NOTIFY_MASK, E.DELIVERIES]; omega)

theorem Dev.reg_pumpList (q : Nat) (rs : List QpReq) (d : Dev) (k : Nat) : (d.pumpList q rs).reg k = d.reg k := by
  induction rs generalizing d with
  | nil => rfl
  | cons r rs ih =>
    unfold Dev.pumpList
    dsimp only []
    split
    · rfl
    · rw [ih, Dev.reg_hostSend]
      rfl

theorem Dev.reg_post (d : Dev) (q : Nat) (rs : List QpReq) (k : Nat) : (d.post q rs).reg k = d.reg k := by
  unfold Dev.post Dev.pump
  dsimp only []
  split
  · split
    · rw [Dev.reg_pumpList]
      rfl
    · rfl
  · rfl

/-- A delivery to memory moves no entry but its own counter of failures. -/
theorem Dev.reg_deliverRdma (d : Dev) (g : Fin 16) (bs : List Byte) : (d.deliverRdma g.val bs).reg E.NOTIFY_MASK = d.reg E.NOTIFY_MASK := by
  unfold Dev.deliverRdma
  dsimp only []
  split
  · refine Dev.reg_countErr_other _ ?_ (by decide) (by decide)
    simp only [E.NOTIFY_MASK, E.DELIVERY_FAILS]
    omega
  · exact Dev.reg_post _ _ _ _

theorem Dev.reg_driveAlert (d : Dev) (on : Bool) (k : Nat) : (d.driveAlert on).reg k = d.reg k := by
  unfold Dev.driveAlert
  split <;> rfl

section
variable {e d : Dev} {g : Fin 16}

theorem Dev.deliverBy_none (hw : d.reg (E.DELIVERY g.val) = 0) (hm : maskHas (d.reg E.NOTIFY_MASK) g.val = false) :
    e.deliverBy g.val d = d := by
  unfold Dev.deliverBy
  simp [hw, hm, bits]

theorem Dev.deliverBy_rdma (hw : d.reg (E.DELIVERY g.val) = 1) (hm : maskHas (d.reg E.NOTIFY_MASK) g.val = false) :
    e.deliverBy g.val d =
      d.deliverRdma g.val (deliveryRecord e.tick g.val (e.groupMarks g.val) (tgetD e.ints.delivered g.val 0 + 1)) := by
  unfold Dev.deliverBy
  simp [hw, hm, bits, Dev.reg_deliverRdma]

theorem Dev.deliverBy_alert (hw : d.reg (E.DELIVERY g.val) = 2) (ha : d.alertHolds = true)
    (hm : maskHas (d.reg E.NOTIFY_MASK) g.val = false) : e.deliverBy g.val d = d.driveAlert true := by
  unfold Dev.deliverBy
  simp [hw, hm, ha, bits, Dev.reg_driveAlert]

theorem Dev.deliverBy_notify (hw : d.reg (E.DELIVERY g.val) = 0) (hm : maskHas (d.reg E.NOTIFY_MASK) g.val = true) :
    e.deliverBy g.val d = (((d.notifyOne 0 g.val).notifyOne 1 g.val).notifyOne 2 g.val).notifyOne 3 g.val := by
  unfold Dev.deliverBy
  simp [hw, hm, bits]

end

/-- Settles O51: reports by their precedence, escalation by the class above, and a delivery by its way. -/
theorem faultsAndDeliveries : Obligations.FaultsAndDeliveries := by
  refine ⟨fun s => ⟨fun r hr => ?_, fun hn => ?_⟩, fun s c n hcn => ⟨fun h1 h2 h3 => ?_, fun h => ?_⟩, fun s => rfl,
    fun s g ha hr => ⟨fun h => exec_intGroupDeliver_held h, fun hm hh hk => ⟨fun hw => ?_, fun hw => ?_, fun hw hal => ?_⟩,
      fun hm hh hk hw => ?_⟩⟩
  · rw [exec_bark_none, hr]
  · rw [exec_bark_none, hn]
    rfl
  · have habove : c.above = some n := by rcases hcn with ⟨rfl, rfl⟩ | ⟨rfl, rfl⟩ <;> rfl
    exact run_dev ((Dev.escalate_above habove).trans (if_pos (by simp [Dev.escalateDue, h1, h2, h3])))
  · have habove : c.above = some n := by rcases hcn with ⟨rfl, rfl⟩ | ⟨rfl, rfl⟩ <;> rfl
    refine run_dev (d := s.toDev) ((Dev.escalate_above habove).trans (if_neg ?_))
    rcases h with h | h | h <;> simp [Dev.escalateDue, h]
  all_goals
    have hdel := s.heard.reg_delivery_delivering g
    have hmask := s.heard.reg_notifyMask_delivering g
    refine (exec_intGroupDeliver ha hr hm hh).trans (congrArg (fun d => Host.Outcome.next (s.dev d)) ?_)
  · exact Dev.deliverBy_none (hdel.trans hw) (hmask ▸ hk)
  · exact Dev.deliverBy_rdma (hdel.trans hw) (hmask ▸ hk)
  · exact Dev.deliverBy_alert (hdel.trans hw) hal (hmask ▸ hk)
  · exact Dev.deliverBy_notify (hdel.trans hw) (hmask ▸ hk)

/-! ## Snapshots (R559, R560, R565) -/

theorem mem_placeShadow_self (sh : List ShadowSet) (x : ShadowSet) : x ∈ placeShadow sh x := by
  unfold placeShadow
  split
  · split <;> simp
  · simp

/-- With a place empty a set goes behind the others. -/
theorem placeShadow_of_lt {sh : List ShadowSet} (x : ShadowSet) (h : sh.length < 2) : placeShadow sh x = sh ++ [x] := by
  unfold placeShadow
  split
  · simp at h
  · rfl

/-- The set that an armed snapshot copies. -/
def State.copied (s : State) (a : SnapArm) : ShadowSet :=
  { id := a.id, target := a.target, taken := false, image := s.boundary.getD s.toDev }

section
variable {s : State} {a : SnapArm} (ha : s.tele.arm = some a)
include ha

theorem exec_snapCopy (hc : s.tele.copied = false) (ht : a.target ≤ s.tick) :
    exec .snapCopy s = .next { s with shadows := placeShadow s.shadows (s.copied a), boundary := none,
                                      tele := { s.tele with copied := true } } := by
  show execSnapCopy s = _
  unfold execSnapCopy
  simp only [ha]
  exact if_neg (by simp [hc, ht])

theorem exec_snapCopy_early (h : s.tele.copied = true ∨ s.tick < a.target) : exec .snapCopy s = .next s := by
  show execSnapCopy s = _
  unfold execSnapCopy
  simp only [ha]
  exact if_pos (by rcases h with h | h <;> simp [h])

/-- The device once a snapshot is complete. -/
def Dev.snapDone (d : Dev) : Dev :=
  { d with tele := { d.tele with arm := none, copied := false, snapState := 2 } }.count E.SNAPS_TAKEN

theorem exec_snapTaken (hc : s.tele.copied = true) (ht : a.target + 4 ≤ s.tick) : exec .snapTaken s = .next { s with
    toDev := s.toDev.snapDone, shadows := s.shadows.map (fun x => if x.id = a.id then { x with taken := true } else x) } := by
  show execSnapTaken s = _
  unfold execSnapTaken
  simp only [ha]
  exact if_neg (by simp [hc, ht])

theorem exec_snapTaken_early (h : s.tele.copied = false ∨ s.tick < a.target + 4) : exec .snapTaken s = .next s := by
  show execSnapTaken s = _
  unfold execSnapTaken
  simp only [ha]
  exact if_pos (by rcases h with h | h <;> simp [h])

/-- The boundary that an armed snapshot copies is the first that has reached its TARGET_TICK. -/
theorem State.boundary_clock (hp : s.power.off = false) (hc : s.tele.copied = false) (hb : s.boundary = none)
    (ht : a.target ≤ s.heard.countTick.tick) : s.clock.boundary = some s.heard.countTick := by
  have hcut : s.cut = some s.heard.countTick := by
    unfold State.cut
    simp only [ha]
    exact if_pos (by simp [hb, hc, show a.target ≤ s.toDev.sampleEvents.countTick.tick from ht])
  unfold State.clock
  rw [if_neg (by simp [hp])]
  exact hcut

end

/-! ## Maps and samples (R567, R569, R573) -/

theorem Dev.map_setMap (d : Dev) (x : Sdie) (m : MapGather) : (d.setMap x.val m).tele.map x.val = m := by
  unfold Dev.setMap Telemetry.map
  split <;> simp_all

theorem Dev.map_updMap {d : Dev} {x : Sdie} (ha : (d.tele.map x.val).active = true) (f : MapGather → MapGather) :
    (d.updMap x.val f).tele.map x.val = f (d.tele.map x.val) := by
  unfold Dev.updMap
  rw [if_neg (by simp [ha])]
  unfold Telemetry.map
  split <;> rfl

/-- Sampling the queues keeps the maps that are closed and the window that is open. -/
theorem Dev.map_sampleQ (d : Dev) (x : Sdie) :
    ((d.sampleQ x.val).tele.map x.val).closed = (d.tele.map x.val).closed ∧
      ((d.sampleQ x.val).tele.map x.val).start = (d.tele.map x.val).start := by
  unfold Dev.sampleQ
  split
  · exact ⟨rfl, rfl⟩
  · rename_i hact
    rw [Dev.map_updMap (by simpa using hact)]
    exact Prod.mk.inj (foldl_keeps (fun m : MapGather => (m.closed, m.start)) (fun m i => by dsimp only; split <;> rfl) _ _)

theorem Dev.map_closeMap (d : Dev) (x : Sdie) :
    ((d.closeMap x.val).tele.map x.val).closed = (d.tele.map x.val).closed ++
        [((d.tele.map x.val).start / d.reg E.MAP_PERIOD_TICKS, d.mapBytes x.val (d.reg E.MAP_PERIOD_TICKS))] ∧
      ((d.closeMap x.val).tele.map x.val).start = d.tick / d.reg E.MAP_PERIOD_TICKS * d.reg E.MAP_PERIOD_TICKS := by
  unfold Dev.closeMap Dev.startMap
  simp only [Dev.map_setMap, and_self]

section
variable {d : Dev} {x : Sdie} (he : d.flag E.MAP_ENABLE = true) (ho : d.domainOff .switch = false)
  (ha : (d.tele.map x.val).active = true)
include he ho ha

theorem Dev.tickMap_open (h : d.tick < (d.tele.map x.val).start + d.reg E.MAP_PERIOD_TICKS) :
    d.tickMap x.val = d.sampleQ x.val := by
  simp only [Dev.tickMap]
  rw [if_neg (by simp [he, ho]), if_pos ha, if_pos h]

theorem Dev.tickMap_end (h : (d.tele.map x.val).start + d.reg E.MAP_PERIOD_TICKS ≤ d.tick) :
    d.tickMap x.val = (d.closeMap x.val).sampleQ x.val := by
  simp only [Dev.tickMap]
  rw [if_neg (by simp [he, ho]), if_pos ha, if_neg (by omega)]

end

theorem exec_mapWindowEnd {s : State} {x : Sdie} {w : Nat} {b : List Byte} {rest : List (Nat × List Byte)}
    (ho : s.domainOff .switch = false) (hc : (s.tele.map x.val).closed = (w, b) :: rest) :
    exec (.mapWindowEnd x) s =
      .next (s.dev ((s.toDev.setMap x.val { s.tele.map x.val with closed := rest }).endMap x.val w b)) := by
  refine run_dev ?_
  simp only [hc]
  exact if_neg (by simp [ho])

section
variable (d : Dev) (x : Sdie) (w : Nat) (b : List Byte)

theorem Dev.endMap_skipped
    (h : d.domainOff (.compute (Fin.ofNat 4 (tierCdie (d.reg E.MAP_ADDR)))) = true ∨ d.fenced = true) :
    d.endMap x.val w b = (d.setBlob (if x.val = 0 then E.MAP_LATEST_0 else E.MAP_LATEST_1) b).countErr E.MAPS_SKIPPED :=
  if_pos (by
    rcases h with h | h
    · exact Bool.or_eq_true_iff.2 (.inl h)
    · exact Bool.or_eq_true_iff.2 (.inr h))

theorem Dev.endMap_written
    (h : ¬ (d.domainOff (.compute (Fin.ofNat 4 (tierCdie (d.reg E.MAP_ADDR)))) = true ∨ d.fenced = true))
    (hl : d.linkDown (4 * x.val + tierCdie (d.mapAddr x.val w)) = false) :
    d.endMap x.val w b =
      (((d.setBlob (if x.val = 0 then E.MAP_LATEST_0 else E.MAP_LATEST_1) b).pkgTransfer
          (4 * x.val + tierCdie (d.mapAddr x.val w))).writeMem (d.mapAddr x.val w) b).count E.MAPS_WRITTEN :=
  (if_neg (fun hc => h (Bool.or_eq_true_iff.1 hc))).trans (if_neg (fun hc => Bool.false_ne_true (hl.symm.trans hc)))

end

/-- Settles O52: a shadow set placed and completed, the maps closed and written, and a sample passed on. -/
theorem snapshotsMapsAndSamples : Obligations.SnapshotsMapsAndSamples := by
  refine ⟨fun s a ha => ⟨fun hc ht => ⟨_, exec_snapCopy ha hc ht, ⟨mem_placeShadow_self _ _, placeShadow_of_lt _, ?_⟩, rfl⟩,
      exec_snapCopy_early ha, fun hc ht => ⟨_, exec_snapTaken ha hc ht, rfl, rfl, ?_, ?_, rfl⟩, exec_snapTaken_early ha⟩,
    fun s p c hk hi hz => ?_, fun s p c hi => ?_, fun s t0 a hp ha hc hb ht htt => ?_, fun s x w b rest ho hc => ?_,
    fun s x hc => ?_, fun d x he ho ha => ?_, fun s g x rest hq => ⟨fun ht => ?_, fun ht hr => ?_, fun ht hr => ?_⟩⟩
  · intro y z hyz
    simp only [hyz]
    rfl
  · exact (Dev.reg_countN _ E.SNAPS_TAKEN 1 E.SNAPS_TAKEN).trans (if_pos rfl)
  · exact fun k hk => (Dev.reg_countN _ E.SNAPS_TAKEN 1 k).trans (if_neg (by simpa using hk))
  · exact run_dev (if_pos (by simp [hk, hi, hz]))
  · exact run_dev (d := s.toDev) (if_neg (by simp [hi]))
  · exact State.boundary_clock ha hp hc hb (ht ▸ htt)
  · exact ⟨fun hs hl => (exec_mapWindowEnd ho hc).trans
        (congrArg (fun e => Host.Outcome.next (s.dev e)) (Dev.endMap_written _ x w b hs hl)),
      fun hs => (exec_mapWindowEnd ho hc).trans
        (congrArg (fun e => Host.Outcome.next (s.dev e)) (Dev.endMap_skipped _ x w b hs))⟩
  · exact run_dev (d := s.toDev) (by simp only [hc])
  · refine ⟨fun hend => ?_, fun hopen => ?_⟩
    · rw [Dev.tickMap_end he ho ha hend, (Dev.map_sampleQ _ x).1, (Dev.map_sampleQ _ x).2]
      exact d.map_closeMap x
    · rw [Dev.tickMap_open he ho ha hopen]
      exact d.map_sampleQ x
  · refine run_dev (d := s.toDev) ?_
    simp only [hq]
    exact if_pos ht
  · refine run_dev ?_
    simp only [hq]
    rw [if_neg (by omega), if_neg (by omega), if_neg (by omega)]
  · refine run_dev ?_
    simp only [hq]
    rw [if_neg (by omega), if_pos (by omega), if_pos (by omega)]

end Sys2Proof.Machine
end

section
/-! Burns, firmware trials and the test port (O53): what one programmed word changes, and what an instruction shows. -/

namespace Sys2Proof.Machine

/-! ## Burns (R576, R621) -/

theorem Dev.otpWord_burnBits_same (d : Dev) (w v : Nat) : (d.burnBits w v).otpWord w = d.otpWord w ||| v :=
  congrArg (·.getD 0) (tget_tset_same _ _ _)

theorem Dev.otpWord_burnBits_other (d : Dev) {w u : Nat} (v : Nat) (h : u ≠ w) : (d.burnBits w v).otpWord u = d.otpWord u :=
  congrArg (·.getD 0) (tget_tset_other _ _ h)

/-- What the end of a burn leaves of the firmware's store. -/
def FwStore.burned (f : FwStore) : BurnKind → FwStore
  | .key 0 _ => { f with pubkey0 := [] }
  | .key _ _ => { f with pubkey1 := [] }
  | .profile _ _ | .rollback | .spent => f

theorem Dev.burned_eq (d : Dev) (k : BurnKind) : d.burned k = { d with fw := d.fw.burned k } := by
  cases k with
  | key k g => cases k <;> rfl
  | profile _ _ | rollback | spent => rfl

/-- A warm reset waits for the word under the burner. -/
def Dev.warmDue (d : Dev) : Bool := d.power.resetPending.any (fun r => r.1 = some .warm && r.2 ≤ d.tick)

theorem Dev.warmDue_of_mem {d : Dev} {a : Nat} (hm : (some ResetKind.warm, a) ∈ d.power.resetPending) (ha : a ≤ d.tick) :
    d.warmDue = true :=
  List.any_eq_true.2 ⟨_, hm, by simp [ha]⟩

theorem Dev.warmDue_of_not_due {d : Dev} (h : ∀ a, (some ResetKind.warm, a) ∈ d.power.resetPending → d.tick < a) :
    d.warmDue = false := by
  refine List.any_eq_false.2 fun r hr hc => ?_
  obtain ⟨hk, hd⟩ : r.1 = some ResetKind.warm ∧ r.2 ≤ d.tick := by simpa using hc
  exact absurd (h r.2 (hk ▸ hr)) (by omega)

section
variable {d : Dev} {b : Burn} {w v : Nat} {rest : List (Nat × Nat)} (hw : b.words = (w, v) :: rest)
include hw

theorem Dev.burnStep_last (hr : rest = []) : d.burnStep b = { d.burnBits w v with
    burn := none, burnState := if b.kind = .spent then d.burnState else 2, fw := d.fw.burned b.kind } := by
  unfold Dev.burnStep
  simp only [hw]
  rw [if_pos hr, Dev.burned_eq]
  rfl

theorem Dev.burnStep_next (hr : rest ≠ []) (hd : d.warmDue = false) :
    d.burnStep b = { d.burnBits w v with burn := some { b with words := rest, start := d.tick } } := by
  unfold Dev.burnStep
  simp only [hw]
  rw [if_neg hr]
  exact if_neg (fun hc => Bool.false_ne_true (hd.symm.trans hc))

theorem Dev.burnStep_abandoned (hr : rest ≠ []) (hd : d.warmDue = true) :
    d.burnStep b = { d.burnBits w v with burn := none, burnState := 3 } := by
  unfold Dev.burnStep
  simp only [hw]
  rw [if_neg hr]
  exact if_pos hd

theorem Dev.burnPart_word : d.burnPart b = { (d.burnBits w (v &&& (Config.freeWord d.draws).toNat)).drew with
    burn := none, burnState := 3 } := by
  unfold Dev.burnPart
  simp only [hw]

/-- A burn's step changes the burn, its outcome and the firmware's store beside the word. -/
theorem Dev.burnStep_frame : ∃ n c f, d.burnStep b = { d.burnBits w v with burn := n, burnState := c, fw := f } := by
  by_cases hr : rest = []
  · exact ⟨_, _, _, Dev.burnStep_last hw hr⟩
  · cases hd : d.warmDue
    · exact ⟨_, _, _, Dev.burnStep_next hw hr hd⟩
    · exact ⟨_, _, _, Dev.burnStep_abandoned hw hr hd⟩

end

section
variable {s : State} {b : Burn} (hb : s.burn = some b)
include hb

theorem exec_otpWordBurned_early (h : s.tick < b.start + 18000) (ok : Bool) : exec (.otpWordBurned ok) s = .next s := by
  refine run_dev (d := s.toDev) ?_
  simp only [hb]
  exact if_pos h

theorem exec_otpWordBurned (h : b.start + 18000 ≤ s.tick) (ok : Bool) :
    exec (.otpWordBurned ok) s = .next (s.dev (if ok then s.toDev.burnStep b else s.toDev.burnPart b)) := by
  refine run_dev ?_
  simp only [hb]
  exact if_neg (by omega)

end

/-! ## Trials (R594) -/

theorem exec_trialExpired {s : State} {a : Nat} (ha : s.fw.trialSince = some a) : exec .trialExpired s = .next (s.dev
    (if s.tick < a + s.reg E.FW_TRIAL_TICKS then s.toDev else ({ s.toDev with fw := s.fw.unmark }).fwStatus 4)) := by
  refine run_dev ?_
  simp only [ha]

/-! ## The test port (R589, R652) -/

/-- What an instruction puts between TDI and TDO. -/
def TestInstr.shown (x : TestInstr) (t : Nat) : List Out :=
  match x with
  | .idcode => [.tdo t 32 (Config.idcode ||| 1)]
  | .bypass => [.tdo t 1 0]
  | .extest | .samplePreload | .other _ => []

/-- Whether EXTEST drives the outputs changes with an instruction. -/
def TestInstr.turns (x y : TestInstr) (t : Nat) : List Out :=
  if (x = .extest) = (y = .extest) then [] else [.extest t (x = .extest)]

theorem Dev.tapLoad_eq (d : Dev) (x : TestInstr) :
    d.tapLoad x = { d with testPort := x, out := d.out ++ x.turns d.testPort d.tick ++ x.shown d.tick } := by
  unfold Dev.tapLoad TestInstr.turns
  by_cases h : (x = .extest) = (d.testPort = .extest)
  · simp only [if_pos h, List.append_nil]
    cases x <;> simp [TestInstr.shown, Dev.emit]
  · simp only [if_neg h]
    cases x <;> simp [TestInstr.shown, Dev.emit]

theorem exec_testPort_off {s : State} (x : TestInstr) (h : s.power.off = true) : exec (.testPortInstruction x) s = .next s :=
  if_pos h

/-- Settles O53: each programmed word and the end of its burn, the end of a trial, and the test port's instructions. -/
theorem burnsTrialsAndTestPort : Obligations.BurnsTrialsAndTestPort := by
  refine ⟨fun s b w v rest hb hw => ⟨fun ok h => exec_otpWordBurned_early hb h ok, fun h => ?_, fun h => ?_⟩,
    fun s a ha => ⟨fun h => ?_, fun h => ?_⟩, fun s x h => exec_testPort_off x h, fun s x hp hx => ?_,
    fun s hp => ⟨fun hr => ?_, fun hr => ?_, fun ir => ⟨fun hd hf => ?_, fun h => ?_⟩⟩, fun d x => ?_⟩
  · obtain ⟨n, c, f, hstep⟩ := Dev.burnStep_frame (d := s.toDev) hw
    refine ⟨_, exec_otpWordBurned hb h true, ?_, fun u hu => ?_, fun hr => ?_, fun hr hd => ?_, fun a hr hm ha => ?_, ?_⟩
    · show (s.toDev.burnStep b).otpWord w = _
      rw [hstep]
      exact s.toDev.otpWord_burnBits_same w v
    · show (s.toDev.burnStep b).otpWord u = _
      rw [hstep]
      exact s.toDev.otpWord_burnBits_other v hu
    · have hlast := Dev.burnStep_last (d := s.toDev) hw hr
      exact ⟨congrArg Dev.burn hlast, congrArg Dev.burnState hlast, congrArg Dev.fw hlast⟩
    · have hnext := Dev.burnStep_next (d := s.toDev) hw hr (Dev.warmDue_of_not_due hd)
      exact ⟨congrArg Dev.burn hnext, (congrArg Dev.burnState hnext :), (congrArg Dev.fw hnext :)⟩
    · have hend := Dev.burnStep_abandoned (d := s.toDev) hw hr (Dev.warmDue_of_mem hm ha)
      exact ⟨congrArg Dev.burn hend, congrArg Dev.burnState hend, (congrArg Dev.fw hend :)⟩
    · show ({ s.dev (s.toDev.burnStep b) with otp := s.otp, burn := s.burn, burnState := s.burnState, fw := s.fw } : State) = s
      rw [hstep]
      rfl
  · have hpart := Dev.burnPart_word (d := s.toDev) hw
    refine ⟨_, (Config.freeWord s.draws).toNat, exec_otpWordBurned hb h false, congrArg Dev.burn hpart,
      congrArg Dev.burnState hpart, ?_, fun u hu => ?_, ?_⟩
    · show (s.toDev.burnPart b).otpWord w = _
      rw [hpart]
      exact s.toDev.otpWord_burnBits_same w _
    · show (s.toDev.burnPart b).otpWord u = _
      rw [hpart]
      exact s.toDev.otpWord_burnBits_other _ hu
    · show ({ s.dev (s.toDev.burnPart b) with
        otp := s.otp, burn := s.burn, burnState := s.burnState, draws := s.draws } : State) = s
      rw [hpart]
      rfl
  · exact (exec_trialExpired ha).trans (congrArg (fun d => Host.Outcome.next (s.dev d)) (if_neg (by omega)))
  · exact (exec_trialExpired ha).trans (congrArg (fun d => Host.Outcome.next (s.dev d)) (if_pos h))
  · rcases hx with rfl | rfl | rfl <;> exact if_neg (by simp [hp])
  · refine (if_neg (by simp [hp])).trans (congrArg (fun x => Host.Outcome.next (s.dev (s.toDev.tapLoad x))) (if_pos hr))
  · refine (if_neg (by simp [hp])).trans (congrArg (fun x => Host.Outcome.next (s.dev (s.toDev.tapLoad x))) (if_neg (by simp [hr])))
  · exact (if_neg (by simp [hp])).trans (if_neg (by simp [hd, hf]))
  · exact (if_neg (by simp [hp])).trans (if_pos (by rcases h with h | h <;> simp [h]))
  · dsimp only
    rw [d.tapLoad_eq x]
    refine ⟨rfl, rfl, fun hd => ?_, fun hd hx => ?_⟩
    · cases x <;> simp [TestInstr.turns, TestInstr.shown, hd]
    · simp [TestInstr.turns, hd, hx]

end Sys2Proof.Machine
end

section
/-! Power faults, caps and heat, and the rack clock (O54, O55). -/

namespace Sys2Proof.Machine

/-! ## Power faults (R601) -/

theorem ofSigned_toNat (x : BitVec 32) : ofSigned 64 (x.toNat : Int) = x.toNat := by
  have := x.isLt
  unfold ofSigned
  omega

theorem Dev.powerFault_toNat (d : Dev) (kind code : Nat) (x : BitVec 32) :
    d.powerFault kind code (x.toNat : Int) = d.sample (bark kind accNone iniNone false code x.toNat) :=
  congrArg (fun r => d.sample (bark kind accNone iniNone false code r)) (ofSigned_toNat x)

/-- Every domain that R601 names is without power after a fast power-off. -/
theorem Dev.domainOff_fastPowerOff (d : Dev) :
    (∀ c, d.fastPowerOff.domainOff (.compute c) = true) ∧ d.fastPowerOff.domainOff .switch = true ∧
      d.fastPowerOff.domainOff .host = true ∧ d.fastPowerOff.domainOff .lanes = true := by
  have hoff : d.fastPowerOff.power.fastOff = true := rfl
  simp [Dev.domainOff, hoff]

/-- Settles O54: the bark of each power fault, and the power it takes. -/
theorem powerFaults : Obligations.PowerFaults := by
  refine ⟨fun s x hp => ?_, fun s z x hp => ⟨fun h => ?_, fun h => ?_⟩, fun d => ?_⟩
  · have halive : s.toDev.alive = true := by simp [Dev.alive, hp]
    simp only [← Dev.powerFault_toNat]
    refine ⟨fun h => ?_, fun h => ?_, fun h => ?_, fun h => ?_, fun h => ?_, fun h => ?_, fun r h => ?_, fun r h h' => ?_⟩
    · exact run_dev (if_neg (by simp [halive]; omega))
    · exact run_dev (d := s.toDev) (if_pos (by simp [h]))
    · exact run_dev (if_neg (by simp [halive]; omega))
    · exact run_dev (d := s.toDev) (if_pos (by simp [h]))
    · exact run_dev (if_neg (by simp [halive]; omega))
    · exact run_dev (d := s.toDev) (if_pos (by simp [h]))
    · exact run_dev (if_neg (by simp [halive]; omega))
    · exact run_dev (d := s.toDev) (if_pos (by simp [h, h']))
  · exact run_dev (if_neg (by simp [Dev.alive, hp]; omega))
  · exact run_dev (d := s.toDev) (if_pos (by simp [h]))
  · obtain ⟨hc, hs, hh, hl⟩ := d.domainOff_fastPowerOff
    exact ⟨rfl, hc, hs, hh, hl, Dev.reg_setReg_same _ _ _, rfl, rfl⟩

/-! ## Power events (R623) -/

theorem Dev.reg_of_regs {d e : Dev} (h : e.regs = d.regs) (k : Nat) : e.reg k = d.reg k := by
  unfold Dev.reg
  rw [h]

/-- `e` is `d` with another last power event, and with source 0x07 pending where it was. -/
def Dev.Signalled (d e : Dev) : Prop :=
  ∃ ev i, e = { d with power := { d.power with event := ev }, ints := i } ∧
    (maskHas d.ints.pending 7 = true → maskHas i.pending 7 = true)

theorem Dev.Signalled.refl (d : Dev) : d.Signalled d := ⟨d.power.event, d.ints, rfl, id⟩

theorem Dev.signalled_powerEvent (d : Dev) (code sensor : Nat) (r : Int) : d.Signalled (d.powerEvent code sensor r) :=
  ⟨_, _, rfl, fun _ => maskHas_maskSet_same d.ints.pending 7⟩

theorem Dev.pending_powerEvent (d : Dev) (code sensor : Nat) (r : Int) :
    maskHas (d.powerEvent code sensor r).ints.pending 7 = true := maskHas_maskSet_same d.ints.pending 7

theorem Dev.signalled_throttleEvents (d : Dev) (was : Power) (code : Nat) (r : Int) :
    d.Signalled (d.throttleEvents was code r) := by
  simp only [Dev.throttleEvents]
  split
  · exact d.signalled_powerEvent _ _ _
  · split
    · exact d.signalled_powerEvent _ _ _
    · exact .refl d

/-- The switch clock that was not halved and now is, signals. -/
theorem Dev.pending_throttleEvents {d : Dev} {was : Power} (hw : was.switchHalved = false) (hd : d.power.switchHalved = true)
    (code : Nat) (r : Int) : maskHas (d.throttleEvents was code r).ints.pending 7 = true := by
  simp only [Dev.throttleEvents]
  rw [if_pos (by simp [hw, hd])]
  exact d.pending_powerEvent _ _ _

/-! ## The governor (R602) -/

/-- The windows in a row that have stayed 150 W below the ceiling. -/
def Power.lowNow (w : Power) (c : Nat) : Nat :=
  if w.inputMv * w.inputMa + 150000000 ≤ c * 1000000 then w.lowRun + 1 else 0

theorem Power.govern_eq (w : Power) (c : Nat) : w.govern c =
    if (decide (c * 1000000 < w.inputMv * w.inputMa) || w.hotCompute) = true then
      { w with step := max 4 (w.step - 1), lowRun := w.lowNow c }
    else if (decide (4 ≤ w.lowNow c) && decide (w.warm = []) && decide (w.step < 16)) = true then
      { w with step := w.step + 1, lowRun := 0 }
    else { w with lowRun := w.lowNow c } := rfl

/-- The governor's step changes n and the count of low windows only. -/
theorem Power.govern_frame (w : Power) (c : Nat) : ∃ n r, w.govern c = { w with step := n, lowRun := r } := by
  rw [Power.govern_eq]
  split
  · exact ⟨_, _, rfl⟩
  · split
    · exact ⟨_, _, rfl⟩
    · exact ⟨w.step, _, rfl⟩

/-- The record with another last power event. -/
def Power.noted (w : Power) (ev : List Byte) : Power := { w with event := ev }

/-- The last power event does not matter to the governor. -/
theorem Power.govern_noted (w : Power) (c : Nat) (ev : List Byte) : (w.noted ev).govern c = (w.govern c).noted ev := by
  rw [Power.govern_eq w, apply_ite (Power.noted · ev), apply_ite (Power.noted · ev)]
  rfl

section
variable {w : Power} {c : Nat}

theorem Power.govern_down (h : c * 1000000 < w.inputMv * w.inputMa ∨ w.hotCompute = true) :
    w.govern c = { w with step := max 4 (w.step - 1), lowRun := w.lowNow c } := if_pos (by simpa using h)

theorem Power.govern_up (hl : w.inputMv * w.inputMa + 150000000 ≤ c * 1000000) (hr : 3 ≤ w.lowRun)
    (hh : w.hotCompute = false) (hw : w.warm = []) (hs : w.step < 16) :
    w.govern c = { w with step := w.step + 1, lowRun := 0 } := by
  have hlow : w.lowNow c = w.lowRun + 1 := if_pos hl
  refine (if_neg (by simp [hh]; omega)).trans (if_pos ?_)
  show (decide (4 ≤ w.lowNow c) && decide (w.warm = []) && decide (w.step < 16)) = true
  simp [hlow, hw, hs]
  omega

theorem Power.govern_keep (hl : w.inputMv * w.inputMa ≤ c * 1000000) (hu : c * 1000000 < w.inputMv * w.inputMa + 150000000)
    (hh : w.hotCompute = false) : w.govern c = { w with lowRun := 0 } := by
  have hlow : w.lowNow c = 0 := if_neg (by omega)
  refine (if_neg (by simp [hh]; omega)).trans ((if_neg ?_).trans ?_)
  · show ¬ (decide (4 ≤ w.lowNow c) && decide (w.warm = []) && decide (w.step < 16)) = true
    simp [hlow]
  · show ({ w with lowRun := w.lowNow c } : Power) = _
    rw [hlow]

end

/-- The power domain's record of a window that has ended, before the governor's step. -/
def Power.windowed (w : Power) (mv ma tick : Nat) : Power :=
  { w with inputMv := mv, inputMa := ma, windowAt := some tick, inputOut := w.inputOut || !inRange mv,
           capInForce := w.capPending.getD w.capInForce, capPending := none }

/-- A window's end with n below 16 or the switch clock halved is counted. -/
def Dev.windowTold (d : Dev) (mv ma : Nat) : Dev :=
  if d.power.step < 16 || d.power.switchHalved then
    { d with power := d.power.windowed mv ma d.tick }.count E.THROTTLE_WINDOWS
  else { d with power := d.power.windowed mv ma d.tick }

/-- The device whose window's end has been counted and whose cap is in force. -/
def Dev.windowed (d : Dev) (mv ma : Nat) : Dev :=
  if d.power.capPending.isSome then (d.windowTold mv ma).powerEvent 0x01 0 0 else d.windowTold mv ma

theorem Dev.windowTold_frame (d : Dev) (mv ma : Nat) : ∃ r,
    d.windowTold mv ma = { d with power := d.power.windowed mv ma d.tick, regs := r } := by
  unfold Dev.windowTold
  split
  · exact ⟨_, rfl⟩
  · exact ⟨d.regs, rfl⟩

theorem Dev.reg_windowTold (d : Dev) (mv ma k : Nat) : (d.windowTold mv ma).reg k =
    if k = E.THROTTLE_WINDOWS ∧ (d.power.step < 16 ∨ d.power.switchHalved = true) then (d.reg k + 1) % 2 ^ 64 else d.reg k := by
  unfold Dev.windowTold
  by_cases hc : d.power.step < 16 ∨ d.power.switchHalved = true
  · rw [if_pos (by simpa using hc)]
    refine (Dev.reg_countN _ _ 1 k).trans ?_
    by_cases hk : k = E.THROTTLE_WINDOWS
    · rw [if_pos hk, if_pos ⟨hk, hc⟩, hk]
      rfl
    · rw [if_neg hk, if_neg (fun h => hk h.1)]
      rfl
  · rw [if_neg (by simpa using hc), if_neg (fun h => hc h.2)]
    rfl

/-- What a window's end leaves beside the governor's step. -/
theorem Dev.windowed_frame (d : Dev) (mv ma : Nat) : ∃ ev i r,
    d.windowed mv ma = { d with power := { d.power.windowed mv ma d.tick with event := ev }, ints := i, regs := r } ∧
      (d.power.capPending.isSome = true → maskHas i.pending 7 = true) := by
  obtain ⟨r, hr⟩ := d.windowTold_frame mv ma
  unfold Dev.windowed
  rw [hr]
  by_cases hp : d.power.capPending.isSome = true
  · rw [if_pos hp]
    exact ⟨_, _, r, rfl, fun _ => Dev.pending_powerEvent _ _ _ _⟩
  · rw [if_neg hp]
    exact ⟨d.power.event, d.ints, r, rfl, fun h => absurd h hp⟩

theorem Dev.reg_windowed (d : Dev) (mv ma k : Nat) : (d.windowed mv ma).reg k =
    if k = E.THROTTLE_WINDOWS ∧ (d.power.step < 16 ∨ d.power.switchHalved = true) then (d.reg k + 1) % 2 ^ 64 else d.reg k := by
  rw [← d.reg_windowTold mv ma k]
  unfold Dev.windowed
  split
  · rfl
  · rfl

/-- The ceiling of a window that has ended (R599). -/
def Power.ceilingOf (w : Power) (mv : Nat) : Nat := min (capWatts (w.capPending.getD w.capInForce)) (min 4000 (mv / 10))

/-- The governor acts on the device. -/
def Dev.govern (d : Dev) : Dev := { d with power := d.power.govern d.ceiling }

/-- The device after a window's end. -/
def Dev.governed (d : Dev) (mv ma : Nat) : Dev := (d.windowed mv ma).govern.throttleEvents d.power 0 0

theorem Dev.reg_throttleEvents (d : Dev) (was : Power) (code : Nat) (r : Int) (k : Nat) :
    (d.throttleEvents was code r).reg k = d.reg k := by
  obtain ⟨ev, i, h, -⟩ := d.signalled_throttleEvents was code r
  exact Dev.reg_of_regs (congrArg Dev.regs h) k

theorem Dev.regs_power (d : Dev) (w : Power) : ({ d with power := w } : Dev).regs = d.regs := rfl

theorem Dev.regs_govern (d : Dev) : d.govern.regs = d.regs := d.regs_power (d.power.govern d.ceiling)

theorem Dev.reg_governed (d : Dev) (mv ma k : Nat) : (d.governed mv ma).reg k = (d.windowed mv ma).reg k :=
  (Dev.reg_throttleEvents (d.windowed mv ma).govern d.power 0 0 k).trans (Dev.reg_of_regs (Dev.regs_govern _) k)

/-- The governor at a window's end works on the record of that window. -/
theorem Dev.govern_windowed (d : Dev) (mv ma : Nat) : ∃ ev i r,
    (d.windowed mv ma).govern = { d with
      power := ((d.power.windowed mv ma d.tick).govern (d.power.ceilingOf mv)).noted ev, ints := i, regs := r } ∧
    (d.power.capPending.isSome = true → maskHas i.pending 7 = true) := by
  obtain ⟨ev, i, r, hd, hpend⟩ := d.windowed_frame mv ma
  have hp : (d.windowed mv ma).power = (d.power.windowed mv ma d.tick).noted ev := congrArg Dev.power hd
  have hc : (d.windowed mv ma).ceiling = d.power.ceilingOf mv := by
    unfold Dev.ceiling
    rw [hp]
    rfl
  refine ⟨ev, i, r, ?_, hpend⟩
  unfold Dev.govern
  rw [hp, hc, Power.govern_noted, hd]

theorem Dev.note_again (d : Dev) (w : Power) (r : Tbl Nat) (ev : List Byte) (i i' : IntCtl) (ev' : List Byte) :
    ({ ({ d with power := w.noted ev, ints := i, regs := r } : Dev) with power := { (w.noted ev) with event := ev' }, ints := i' } : Dev) =
      { d with power := w.noted ev', ints := i', regs := r } := rfl

/-- What a window's end makes of the power domain's record, and what else it changes. -/
theorem Dev.governed_frame (d : Dev) (mv ma : Nat) : ∃ ev i r,
    d.governed mv ma = { d with
      power := ((d.power.windowed mv ma d.tick).govern (d.power.ceilingOf mv)).noted ev, ints := i, regs := r } ∧
    (d.power.capPending.isSome = true → maskHas i.pending 7 = true) := by
  obtain ⟨ev, i, r, hg, hpend⟩ := d.govern_windowed mv ma
  obtain ⟨ev', i', ht, hpend'⟩ := (d.windowed mv ma).govern.signalled_throttleEvents d.power 0 0
  refine ⟨ev', i', r, Eq.trans ht ?_, fun h => hpend' ?_⟩
  · rw [hg]
    exact d.note_again _ r ev i i' ev'
  · rw [hg]
    exact hpend h

theorem exec_governorWindow {s : State} {x y : BitVec 32} (hp : s.power.off = false) (ht : s.tick % 256 = 0)
    (hw : s.power.windowAt ≠ some s.tick) :
    exec (.governorWindow x y) s = .next (s.dev (s.toDev.governed x.toNat y.toNat)) :=
  run_dev (if_neg (by simp [Dev.alive, hp, ht, hw]))

theorem exec_governorWindow_early {s : State} (x y : BitVec 32) (h : s.tick % 256 ≠ 0 ∨ s.power.windowAt = some s.tick) :
    exec (.governorWindow x y) s = .next s :=
  run_dev (d := s.toDev) (if_pos (by rcases h with h | h <;> simp [h]))

theorem inRange_eq_false {mv : Nat} : inRange mv = false ↔ mv < 36000 ∨ 44000 < mv := by
  simp [inRange]
  omega

/-! ## Heat (R603) -/

/-- Whether a sensor is an S-die's. -/
def Sensor.onSdie (z : Sensor) : Bool :=
  match z with
  | .sdie _ => true
  | .cdie _ | .ltile _ | .hbm _ | .mtile => false

theorem Sensor.onSdie_iff (z : Sensor) : z.onSdie = true ↔ ∃ i, z = .sdie i := by
  cases z <;> simp [Sensor.onSdie]

/-- The power domain's record of a sensor's reading against its throttle point. -/
def Power.heated (w : Power) (z : Sensor) (at0 r : Int) : Power :=
  let c := sensorCode z
  let above : Bool := at0 < r
  let hot := w.hot.filter (· != c) ++ (if above then [c] else [])
  let warm := w.warm.filter (· != c) ++ (if at0 - 5000 < r then [c] else [])
  { w with hot := hot, warm := warm, switchHalved := (w.switchHalved || (above && z.onSdie)) && warm != [] }

section
variable (w : Power) (z : Sensor) {at0 r : Int}

theorem Power.mem_hot_heated (h : at0 < r) (k : Nat) : k ∈ (w.heated z at0 r).hot ↔ k = sensorCode z ∨ k ∈ w.hot := by
  by_cases hk : k = sensorCode z <;> simp [Power.heated, h, hk]

theorem Power.hot_heated (h : r ≤ at0) : (w.heated z at0 r).hot = w.hot.filter (· != sensorCode z) := by
  simp [Power.heated, h]

theorem Power.mem_warm_heated (h : at0 - 5000 < r) (k : Nat) : k ∈ (w.heated z at0 r).warm ↔ k = sensorCode z ∨ k ∈ w.warm := by
  by_cases hk : k = sensorCode z <;> simp [Power.heated, h, hk]

theorem Power.warm_heated (h : r ≤ at0 - 5000) : (w.heated z at0 r).warm = w.warm.filter (· != sensorCode z) := by
  simp [Power.heated, Int.not_lt.mpr h]

theorem Power.halved_heated (h : at0 - 5000 < r) :
    (w.heated z at0 r).switchHalved = (w.switchHalved || (decide (at0 < r) && z.onSdie)) := by
  simp [Power.heated, h]

theorem Power.halved_heated_cool (h : r ≤ at0 - 5000) :
    (w.heated z at0 r).switchHalved = (w.switchHalved && w.warm.filter (· != sensorCode z) != []) := by
  simp [Power.heated, Int.not_lt.mpr h, show ¬ at0 < r by omega]

end

theorem exec_thermalThrottle {s : State} {z : Sensor} {x : BitVec 32} {at0 : Int} (hp : s.power.off = false)
    (ht : s.toDev.throttleAt z = some at0) : exec (.thermalThrottle z x) s = .next (s.dev
      ({ s.toDev with power := s.power.heated z at0 x.toInt }.throttleEvents s.power (sensorShown z) x.toInt)) := by
  refine run_dev ?_
  simp only [ht]
  refine (if_neg (by simp [Dev.alive, hp])).trans ?_
  cases z <;> rfl

/-- What a sensor's reading makes of the power domain's record. -/
theorem Dev.throttled_frame (d : Dev) (w : Power) (code : Nat) (r : Int) : ∃ ev i,
    ({ d with power := w } : Dev).throttleEvents d.power code r = { d with power := w.noted ev, ints := i } := by
  obtain ⟨ev, i, h, -⟩ := ({ d with power := w } : Dev).signalled_throttleEvents d.power code r
  exact ⟨ev, i, h⟩

/-! ## The rack clock (R606 to R608) -/

/-- Holdover ends at a marker that follows the rack clock's return by 25,000 ticks. -/
def Dev.leavesHoldover (d : Dev) : Bool := d.power.holdover && d.power.rackclkSince + 25000 ≤ d.tick

theorem Dev.leavesHoldover_iff (d : Dev) :
    d.leavesHoldover = true ↔ d.power.holdover = true ∧ d.power.rackclkSince + 25000 ≤ d.tick := by
  simp [Dev.leavesHoldover]

/-- The first marker sets the counter. -/
def Dev.lockTick (d : Dev) (v : Nat) (h : Bool) : Dev :=
  let d1 := (d.shiftDue v).rebase d.tick v
  { d1 with power := { d1.power with tickLocked := true, lastMarker := v, holdover := h } }.openPorts

/-- A marker within 64 ticks of the counter, at the end of holdover, steps it. -/
def Dev.stepTick (d : Dev) (v : Nat) : Dev :=
  ({ d.shiftDue v with tick := v, power := { d.power with lastMarker := v } }).powerEvent 0x08 0 0

/-- The counter's marker at its tick. -/
def Dev.marked (d : Dev) (h : Bool) : Dev := { d with power := { d.power with holdover := h, lastMarker := d.tick } }

section
variable {s : State} {v : BitVec 64} (hp : s.power.off = false)
include hp

theorem exec_rsyncMarker_first (hl : s.power.tickLocked = false) : exec (.rsyncMarker true v) s = .next (s.dev
    (if s.toDev.leavesHoldover then (s.toDev.lockTick v.toNat false).powerEvent 0x05 0 0
     else s.toDev.lockTick v.toNat s.power.holdover)) := by
  refine run_dev ((if_neg (by simp [Dev.alive, hp])).trans ((if_pos (by simp [hl])).trans ?_))
  show (if s.toDev.leavesHoldover then (s.toDev.lockTick v.toNat (s.power.holdover && !s.toDev.leavesHoldover)).powerEvent 0x05 0 0
    else s.toDev.lockTick v.toNat (s.power.holdover && !s.toDev.leavesHoldover)) = _
  cases s.toDev.leavesHoldover
  · rw [Bool.not_false, Bool.and_true, if_neg Bool.false_ne_true, if_neg Bool.false_ne_true]
  · rw [Bool.not_true, Bool.and_false, if_pos rfl, if_pos rfl]

theorem exec_rsyncMarker_again (hl : s.power.tickLocked = true) (ha : s.toDev.leavesHoldover = false) :
    exec (.rsyncMarker true v) s = .next (s.dev (if v.toNat = s.tick then s.toDev.marked s.power.holdover
      else (s.toDev.marked s.power.holdover).markerOff)) :=
  run_dev ((if_neg (by simp [Dev.alive, hp])).trans ((if_neg (by simp [hl])).trans
    (if_neg (fun h => Bool.false_ne_true (ha.symm.trans h)))))

/-- The end of holdover: the counter's marker, one that steps the counter, or one that is counted. -/
theorem exec_rsyncMarker_return (hl : s.power.tickLocked = true) (ha : s.toDev.leavesHoldover = true) :
    exec (.rsyncMarker true v) s = .next (s.dev ((if (v.toNat : Int) - s.tick = 0 then s.toDev.marked false
      else if ((v.toNat : Int) - s.tick).natAbs ≤ 64 then (s.toDev.marked false).stepTick v.toNat
      else (s.toDev.marked false).markerOff).powerEvent 0x05 0 0)) :=
  run_dev ((if_neg (by simp [Dev.alive, hp])).trans ((if_neg (by simp [hl])).trans (if_pos ha)))

theorem exec_rsyncMissing (hl : s.power.tickLocked = true) (h : s.power.lastMarker + 65537 ≤ s.tick) :
    exec .rsyncMissing s = .next (s.dev
      (({ s.toDev with power := { s.power with lastMarker := s.tick } }.countErr E.RSYNC_MISSING).powerEvent 0x07 0 0)) :=
  run_dev (if_neg (by simp [Dev.alive, hp, hl, h]))

theorem exec_holdoverOn : exec .holdoverOn s = .next (s.dev
    (let d := { s.toDev with power := { s.power with holdover := true, rackclkSince := s.tick + 1 } }
     if s.power.holdover then d else (d.countErr E.HOLDOVERS).powerEvent 0x04 0 0)) :=
  run_dev (if_neg (by simp [Dev.alive, hp]))

end

/-- Settles O55: the governor's window, a sensor's reading, and the markers of the rack clock, each by its cases. -/
theorem capsHeatAndRackClock : Obligations.CapsHeatAndRackClock := by
  refine ⟨fun s x y hp => ⟨fun h => exec_governorWindow_early x y h, fun ht hw => ?_⟩,
    fun s z x at0 hp ht => ⟨fun h => ?_, fun h => ?_, fun h h' => ?_⟩, fun s v hp => ?_, fun s hp => ?_⟩
  · obtain ⟨ev, i, r, heq, hpend⟩ := s.toDev.governed_frame x.toNat y.toNat
    obtain ⟨n, low, hgov⟩ := (s.power.windowed x.toNat y.toNat s.tick).govern_frame (s.power.ceilingOf x.toNat)
    have hreg : ∀ k, (s.toDev.governed x.toNat y.toNat).reg k = (s.toDev.windowed x.toNat y.toNat).reg k :=
      s.toDev.reg_governed x.toNat y.toNat
    have hpow : (s.toDev.governed x.toNat y.toNat).power =
        ((s.power.windowed x.toNat y.toNat s.tick).govern (s.power.ceilingOf x.toNat)).noted ev := by rw [heq]
    have hfix : (s.toDev.governed x.toNat y.toNat).power =
        ({ s.power.windowed x.toNat y.toNat s.tick with step := n, lowRun := low } : Power).noted ev := hgov ▸ hpow
    refine ⟨_, exec_governorWindow hp ht hw, congrArg Power.inputMv hfix, congrArg Power.inputMa hfix, congrArg Power.windowAt hfix,
      congrArg Power.capInForce hfix, congrArg Power.capPending hfix, ?_, fun h => ?_, fun h1 h2 h3 h4 h5 => ?_, fun h1 h2 h3 => ?_,
      ?_, fun h => ?_, fun k hk => ?_, ?_⟩
    · rw [show (s.dev (s.toDev.governed x.toNat y.toNat)).power.inputOut = (s.power.inputOut || !inRange x.toNat) from
        congrArg Power.inputOut hfix, Bool.or_eq_true, Bool.not_eq_true', inRange_eq_false]
    · exact congrArg Power.step (hpow.trans (congrArg (Power.noted · ev) (Power.govern_down h)))
    · have hup := hpow.trans (congrArg (Power.noted · ev) (Power.govern_up h1 h2 h3 h4 h5))
      exact ⟨congrArg Power.step hup, congrArg Power.lowRun hup⟩
    · have hkeep := hpow.trans (congrArg (Power.noted · ev) (Power.govern_keep h1 h2 h3))
      exact ⟨(congrArg Power.step hkeep :), congrArg Power.lowRun hkeep⟩
    · exact (hreg _).trans ((Dev.reg_windowed _ _ _ _).trans (by simp))
    · exact (congrArg (fun d : Dev => maskHas d.ints.pending 7) heq).trans (hpend h)
    · exact (hreg k).trans ((Dev.reg_windowed _ _ _ _).trans (if_neg (fun h => hk (by simp [h.1]))))
    · show ({ s.dev (s.toDev.governed x.toNat y.toNat) with power := s.power, regs := s.regs, ints := s.ints } : State) = s
      rw [heq]
      rfl
  · obtain ⟨ev, i, heq⟩ := s.toDev.throttled_frame (s.power.heated z at0 x.toInt) (sensorShown z) x.toInt
    have hnear : at0 - 5000 < x.toInt := by omega
    have hhalved : (s.power.heated z at0 x.toInt).switchHalved = (s.power.switchHalved || z.onSdie) := by
      rw [Power.halved_heated _ _ hnear, decide_eq_true h, Bool.true_and]
    refine ⟨_, (exec_thermalThrottle hp ht).trans (congrArg (fun d => Host.Outcome.next (s.dev d)) heq),
      (Power.mem_hot_heated _ _ h _).2 (.inl rfl), fun k hk => (Power.mem_hot_heated _ _ h k).trans (by simp [hk]),
      (Power.mem_warm_heated _ _ hnear _).2 (.inl rfl), fun k hk => (Power.mem_warm_heated _ _ hnear k).trans (by simp [hk]), ?_,
      fun hs hh => ?_, rfl⟩
    · exact (Bool.eq_iff_iff.1 hhalved).trans (by rw [Bool.or_eq_true, z.onSdie_iff])
    · have hpend := Dev.pending_throttleEvents (d := { s.toDev with power := s.power.heated z at0 x.toInt }) (was := s.power) hh
        (hhalved.trans (by simp [z.onSdie_iff.2 hs])) (sensorShown z) x.toInt
      rwa [heq] at hpend
  · obtain ⟨ev, i, heq⟩ := s.toDev.throttled_frame (s.power.heated z at0 x.toInt) (sensorShown z) x.toInt
    refine ⟨_, (exec_thermalThrottle hp ht).trans (congrArg (fun d => Host.Outcome.next (s.dev d)) heq),
      Power.hot_heated _ _ (by omega), Power.warm_heated _ _ h, ?_, rfl⟩
    exact (Bool.eq_iff_iff.1 (Power.halved_heated_cool s.power z h)).trans (by simp)
  · obtain ⟨ev, i, heq⟩ := s.toDev.throttled_frame (s.power.heated z at0 x.toInt) (sensorShown z) x.toInt
    refine ⟨_, (exec_thermalThrottle hp ht).trans (congrArg (fun d => Host.Outcome.next (s.dev d)) heq),
      Power.hot_heated _ _ h', (Power.mem_warm_heated _ _ h _).2 (.inl rfl),
      fun k hk => (Power.mem_warm_heated _ _ h k).trans (by simp [hk]), ?_, rfl, rfl⟩
    exact (Power.halved_heated s.power z h).trans (by simp [h'])
  · refine ⟨run_dev (d := s.toDev) (if_pos (by simp)), fun hl => ⟨rfl, fun ha => ?_, fun ha => ?_⟩, fun hl ha hv => ?_,
      fun hl ha hv => ?_, fun hl ha hv => ?_, fun hl ha hv h1 h2 => ?_, fun hl ha hv => ?_⟩
    · rw [exec_rsyncMarker_first hp hl, if_neg (mt s.toDev.leavesHoldover_iff.1 ha)]
      rfl
    · rw [exec_rsyncMarker_first hp hl, if_pos (s.toDev.leavesHoldover_iff.2 ha)]
      rfl
    · rw [exec_rsyncMarker_again hp hl (Bool.eq_false_iff.2 (mt s.toDev.leavesHoldover_iff.1 ha)), if_pos hv]
      rfl
    · rw [exec_rsyncMarker_again hp hl (Bool.eq_false_iff.2 (mt s.toDev.leavesHoldover_iff.1 ha)), if_neg hv]
      rfl
    · rw [exec_rsyncMarker_return hp hl (s.toDev.leavesHoldover_iff.2 ha), if_pos (by omega)]
      rfl
    · rw [exec_rsyncMarker_return hp hl (s.toDev.leavesHoldover_iff.2 ha), if_neg (by omega), if_pos (by omega)]
      exact ⟨_, rfl, rfl, rfl, rfl, rfl, rfl⟩
    · rw [exec_rsyncMarker_return hp hl (s.toDev.leavesHoldover_iff.2 ha), if_neg (by omega), if_neg (by omega)]
      rfl
  · refine ⟨fun hl h => exec_rsyncMissing hp hl h, fun h => run_dev (d := s.toDev) (if_pos ?_), fun h => ?_, fun h => ?_⟩
    · rcases h with h | h <;> simp [h]
    · exact (exec_holdoverOn hp).trans (congrArg (fun d => Host.Outcome.next (s.dev d)) (if_pos h))
    · exact (exec_holdoverOn hp).trans (congrArg (fun d => Host.Outcome.next (s.dev d)) (if_neg (by simp [h])))

end Sys2Proof.Machine
end

section
/-! Sleep and wake (O56): what every port keeps through a sleep state's entry, and what ends an entry or a wake. -/

namespace Sys2Proof.Machine

/-! ## A change of every port -/

theorem tgetD_map_snd {α : Type} (t : Tbl α) (f : α → α) {z : α} (hz : f z = z) (k : Nat) :
    tgetD (t.map (fun e => (e.1, f e.2))) k z = f (tgetD t k z) := by
  induction t with
  | nil => exact hz.symm
  | cons e t ih =>
    by_cases h : e.1 = k
    · simp [tgetD, tget, h]
    · simpa [tgetD, tget, h] using ih

theorem Dev.port_sleepStore (d : Dev) (p : Nat) : d.sleepStore.port p = (d.port p).mapLanes (fun _ y => y.sleepStore) :=
  tgetD_map_snd d.ports (fun x => x.mapLanes (fun _ y => y.sleepStore)) rfl p

theorem Dev.lane_sleepStore (d : Dev) (p : Nat) (l : Lane) : d.sleepStore.lane p l = (d.lane p l).sleepStore := by
  unfold Dev.lane
  rw [Dev.port_sleepStore, PortSt.lane_mapLanes]

theorem Dev.port_giveBackAll (d : Dev) (p : Nat) : d.giveBackAll.port p = (d.port p).giveBack :=
  tgetD_map_snd d.ports PortSt.giveBack (by decide) p

theorem LaneSt.state_store (x : LaneSt) : x.store.state = x.state := by
  unfold LaneSt.store
  split
  · rfl
  · split <;> rfl

theorem LaneSt.state_sleepStore (x : LaneSt) : x.sleepStore.state = x.state := by
  unfold LaneSt.sleepStore
  split
  case h_4 => rfl
  all_goals exact x.state_store

theorem LaneSt.set200_sleepStore {x : LaneSt} (h : x.state = .active) (hr : x.rate = 2) :
    x.sleepStore.set200 = some ⟨x.peak, x.taps⟩ := by
  unfold LaneSt.sleepStore LaneSt.store
  rw [h, if_pos hr]

/-! ## Sleep states (R613, R616) -/

theorem Dev.frame_enterSleep (d : Dev) (x : SleepState) :
    { d.enterSleep x with power := d.power, ints := d.ints, ports := d.ports } = d := rfl

theorem Dev.lane_enterSleep (d : Dev) (x : SleepState) (p : Nat) (l : Lane) : (d.enterSleep x).lane p l = (d.lane p l).sleepStore :=
  d.lane_sleepStore p l

section
variable {s : State} (hb : s.power.bootStage = 3) (hp : s.power.off = false) (hw : s.toDev.wakeLow = false)

theorem exec_autoIdle_still (h : s.power.sleep = .idle ∨ s.reg E.AUTO_IDLE_TICKS = 0 ∨ s.toDev.working = true ∨
    s.tick < s.power.lastWork + s.reg E.AUTO_IDLE_TICKS ∨ s.toDev.wakeLow = true) : exec .autoIdle s = .next s :=
  run_dev (d := s.toDev) (if_neg (by rcases h with h | h | h | h | h <;> simp [h]))

theorem exec_autoDoze_still (h : s.reg E.AUTO_DOZE_TICKS = 0 ∨ s.toDev.dozeOk = false ∨ s.power.dozeSince = none ∨
    s.toDev.wakeLow = true) : exec .autoDoze s = .next s :=
  run_dev (d := s.toDev) (if_neg (by rcases h with h | h | h | h <;> simp [h]))

include hb hp hw

theorem exec_autoIdle (ha : s.power.sleep = .active) (hn : s.reg E.AUTO_IDLE_TICKS ≠ 0) (hk : s.toDev.working = false)
    (hl : s.power.lastWork + s.reg E.AUTO_IDLE_TICKS ≤ s.tick) : exec .autoIdle s = .next (s.dev (s.toDev.enterSleep .idle)) :=
  run_dev (if_pos (by simp [ha, hb, Dev.alive, hp, hn, hw, hk, hl]))

theorem exec_autoDoze {a : Nat} (ha : s.power.sleep = .active ∨ s.power.sleep = .idle) (hn : s.reg E.AUTO_DOZE_TICKS ≠ 0)
    (hd : s.toDev.dozeOk = true) (hs : s.power.dozeSince = some a) (hl : a + s.reg E.AUTO_DOZE_TICKS ≤ s.tick) :
    exec .autoDoze s = .next (s.dev (s.toDev.enterSleep .doze)) :=
  run_dev (if_pos (by rcases ha with ha | ha <;> simp [ha, hb, Dev.alive, hp, hn, hw, hd, hs, hl]))

end

/-- The S-dies are powered with their clock stopped in IDLE, where they are powered at all. -/
theorem Dev.switchGated_of_idle {d : Dev} (h : d.power.sleep = .idle) : d.domainGated .switch = !d.domainOff .switch := by
  simp [Dev.domainGated, Power.sleepPower, h]

/-- No C-die runs in DOZE. -/
theorem Dev.cdieRuns_of_doze {d : Dev} (h : d.power.sleep = .doze) (c : Nat) : d.cdieRuns c = false := by
  simp [Dev.cdieRuns, Dev.domainOff, Power.sleepPower, Power.cdieBack, h]

/-! ## The entry to KEEPALIVE (R616) -/

theorem PortSt.lane_darkLanes (x : PortSt) (l : Lane) :
    (x.darkLanes.lane l).state = if l = 0 then (x.lane l).state else .off := by
  unfold PortSt.darkLanes
  rw [PortSt.lane_mapLanes]
  split <;> rfl

/-- The device that has lost the power of its host port, its S-dies and its lanes 1 to 3. -/
def Dev.keepDark (d : Dev) : Dev :=
  { d.hostDark with ports := d.ports.map (fun e => (e.1, e.2.darkLanes)), kennel0 := {}, kennel1 := {} }

theorem Dev.port_keepDark (d : Dev) (p : Nat) : d.keepDark.port p = (d.port p).darkLanes :=
  tgetD_map_snd d.ports PortSt.darkLanes rfl p

theorem any_up_iff (d : Dev) : allPorts.any (fun p => (d.port p).state = .up) = true ↔ ∃ p, p < 256 ∧ (d.port p).state = .up := by
  simp [allPorts]

theorem exec_keepalivePowerOff {s : State} {a : Nat} (hs : s.power.sleep = .entering) (ha : s.power.sleepTs = some a)
    (ht : a ≤ s.tick) (hu : ∀ p, p < 256 → (s.port p).state ≠ .up) :
    exec .keepalivePowerOff s = .next (s.dev (s.toDev.keepDark.enterSleep .keepalive)) := by
  have hnone : allPorts.any (fun p => (s.toDev.port p).state = .up) = false :=
    Bool.eq_false_iff.2 (mt (any_up_iff s.toDev).1 (fun ⟨p, hp, hup⟩ => hu p hp hup))
  refine run_dev ?_
  simp only [ha]
  exact if_pos (by rw [hnone]; simp [hs, ht])

theorem exec_keepalivePowerOff_still {s : State} {a : Nat} (ha : s.power.sleepTs = some a)
    (h : s.tick < a ∨ ∃ p, p < 256 ∧ (s.port p).state = .up) : exec .keepalivePowerOff s = .next s := by
  refine run_dev (d := s.toDev) ?_
  simp only [ha]
  rcases h with h | h
  · exact if_neg (by simp [h])
  · exact if_neg (by rw [(any_up_iff s.toDev).2 h]; simp)

theorem exec_sleepAbandons {s : State} {a : Nat} (hs : s.power.sleep = .entering) (hn : s.power.sleepTs = none)
    (ha : s.power.entryStart = some a) (ht : a + s.reg E.KEEPALIVE_DRAIN_TICKS ≤ s.tick) :
    exec .sleepAbandons s = .next (s.dev (s.toDev.abandonEntry.countErr E.SLEEP_ABANDONS)) := by
  refine run_dev ?_
  simp only [ha]
  exact if_pos (by simp [hs, hn, ht])

/-- An entry that did not begin in DOZE ends in ACTIVE, with the credits given back. -/
theorem Dev.abandonEntry_active {d : Dev} (h : d.power.wakeFrom ≠ .doze) :
    d.abandonEntry = ({ d with power := { d.power with entryStart := none, sleepTs := none, lastWork := d.tick, sleep := .active }
      }.giveBackAll).powerEvent 0x0B 0 0 := by
  unfold Dev.abandonEntry
  simp only [if_neg h]

/-! ## WAKE_N and the end of a wake (R614, R617, R648) -/

theorem exec_wakePin {s : State} (hp : s.power.off = false) (hf : s.power.wakePinFresh s.tick = true) :
    exec .wakePin s = .next (s.dev (
      let d := { s.toDev with draws := s.draws + 1,
                              power := { s.power with wakePinAt := some s.tick, wakeUntil := s.tick + Config.freeChoice s.draws } }
      if (decide (s.power.sleep = .entering) && s.power.sleepTs.isSome) = true then (d.wake wkPIN).unsleepPorts 256 else d.wake wkPIN)) :=
  run_dev (if_neg (by simp [Dev.alive, hp, hf]))

theorem Power.wakePinFresh_of_late {w : Power} {t : Nat} (h : ∀ a, w.wakePinAt = some a → a + 3 ≤ t) : w.wakePinFresh t = true := by
  unfold Power.wakePinFresh
  split
  · next a ha => exact decide_eq_true (h a ha)
  · rfl

/-- The device whose wake is complete, before what was held is served. -/
def Dev.awake (d : Dev) : Dev :=
  ({ d with power := { d.power with sleep := .active, wakeFrom := .active, wakeDue := none,
                                    selfRefresh := d.fenced, lastWork := d.tick } }.count E.WAKES).powerEvent 0x0A 0 0

theorem exec_wakeComplete {s : State} {a : Nat} (hs : s.power.sleep = .waking) (ha : s.power.wakeDue = some a) :
    exec .wakeComplete s = if (decide (s.tick < a) || !s.toDev.alive) = true then .next s else .next (s.dev
      (({ s.toDev.awake with mgmt := { s.toDev.awake.mgmt with heldReqs := [] } }.releaseHeldPkts.releaseSols).requests s.shadows
        s.toDev.awake.mgmt.heldReqs)) := by
  show execWakeComplete s = _
  unfold execWakeComplete
  simp only [hs, ha]
  rfl

theorem Dev.releaseHeldPkts_none {d : Dev} (h : d.heldPkts = []) : d.releaseHeldPkts = d := by
  have hd : ({ d with heldPkts := [] } : Dev) = d := h ▸ rfl
  unfold Dev.releaseHeldPkts
  rw [h, hd, List.foldl_nil]

theorem Dev.releaseSols_none {d : Dev} (h : d.mgmt.heldSols = []) : d.releaseSols = d := by
  have hd : ({ d with mgmt := { d.mgmt with heldSols := [] } } : Dev) = d := h ▸ rfl
  simp only [Dev.releaseSols]
  rw [h, hd, List.foldl_nil]

/-- Nothing held is nothing to serve. -/
theorem Dev.served_none {d : Dev} (hr : d.mgmt.heldReqs = []) (hk : d.heldPkts = []) (hs : d.mgmt.heldSols = []) (sh : List ShadowSet) :
    (({ d with mgmt := { d.mgmt with heldReqs := [] } }.releaseHeldPkts.releaseSols).requests sh d.mgmt.heldReqs) = d := by
  have hd : ({ d with mgmt := { d.mgmt with heldReqs := [] } } : Dev) = d := hr ▸ rfl
  rw [hd, Dev.releaseHeldPkts_none hk, Dev.releaseSols_none hs, hr]
  rfl

/-- Settles O56: the entry into each sleep state on its conditions, its abandonment, and the end of a wake. -/
theorem sleepAndWake : Obligations.SleepAndWake := by
  refine ⟨fun s hs hb hp hw => ⟨fun ha hn hk hl => ⟨_, exec_autoIdle hb hp hw ha hn hk hl, rfl, Dev.switchGated_of_idle rfl,
        fun p l => ⟨?_, fun hst hr => ?_⟩, rfl⟩, fun h => exec_autoIdle_still (by tauto),
      fun a hn hd hz hl => ⟨_, exec_autoDoze hb hp hw hs hn hd hz hl, rfl, rfl,
        ⟨Dev.cdieRuns_of_doze rfl 0, Dev.cdieRuns_of_doze rfl 1, Dev.cdieRuns_of_doze rfl 2, Dev.cdieRuns_of_doze rfl 3⟩, rfl⟩,
      fun h => exec_autoDoze_still (by tauto)⟩,
    fun s hw => ⟨exec_autoIdle_still (by tauto), exec_autoDoze_still (by tauto)⟩,
    fun s hs hn => ⟨fun hd => run_dev (if_pos (by simp [hs, hn, hd])), fun hd => run_dev (d := s.toDev) (if_neg (by simp [hd])),
      fun a ha ht hf => ⟨_, exec_sleepAbandons hs hn ha ht, ?_⟩, fun a ha ht => ?_⟩,
    fun s a hs ha => ⟨fun ht hu => ⟨_, exec_keepalivePowerOff hs ha ht hu, rfl, rfl, rfl, rfl, rfl, ?_, fun p l => ⟨?_, ?_⟩, fun k hk => ?_, rfl, rfl⟩,
      exec_keepalivePowerOff_still ha⟩,
    fun s hf => run_dev (d := s.toDev) (if_pos (by simp [hf])),
    fun s hp hl => ⟨fun hs ht => ?_, fun h => ?_⟩, fun s a hs ha => ⟨fun ht => ?_, fun ht hp => ⟨fun h1 h2 h3 => ?_, ?_⟩⟩⟩
  · exact (congrArg LaneSt.state (Dev.lane_enterSleep _ _ p l)).trans (LaneSt.state_sleepStore _)
  · exact (congrArg LaneSt.set200 (Dev.lane_enterSleep _ _ p l)).trans (LaneSt.set200_sleepStore hst hr)
  · rw [Dev.abandonEntry_active hf, Dev.countErr_frame]
    exact ⟨rfl, rfl, Dev.pending_powerEvent _ _ _ _, fun p => congrArg PortSt.withheld (Dev.port_giveBackAll _ p)⟩
  · refine run_dev (d := s.toDev) ?_
    simp only [ha]
    exact if_neg (by simp [ht])
  · exact (Dev.reg_of_regs rfl _).trans (Dev.reg_setReg_same _ _ _)
  · refine (congrArg PortSt.state (Dev.port_sleepStore _ p)).trans ?_
    exact (congrArg PortSt.state (s.toDev.port_keepDark p) :)
  · refine (congrArg LaneSt.state (Dev.lane_enterSleep _ _ p l)).trans ((LaneSt.state_sleepStore _).trans ?_)
    unfold Dev.lane
    rw [Dev.port_keepDark]
    exact PortSt.lane_darkLanes _ l
  · exact (Dev.reg_of_regs rfl _).trans (Dev.reg_setReg_other _ _ (by simpa using hk))
  · exact (exec_wakePin hp (Power.wakePinFresh_of_late hl)).trans (congrArg (fun d => Host.Outcome.next (s.dev d)) (if_pos (by simp [hs, ht])))
  · exact (exec_wakePin hp (Power.wakePinFresh_of_late hl)).trans (congrArg (fun d => Host.Outcome.next (s.dev d))
      (if_neg (by rcases h with h | h <;> simp [h])))
  · exact (exec_wakeComplete hs ha).trans (if_pos (by simp [ht]))
  · exact (exec_wakeComplete hs ha).trans ((if_neg (by simp [ht, Dev.alive, hp])).trans
      (congrArg (fun d => Host.Outcome.next (s.dev d)) (Dev.served_none (d := s.toDev.awake) h1 h2 h3 s.shadows)))
  · exact (exec_wakeComplete hs ha).trans (if_neg (by simp [ht, Dev.alive, hp]))

end Sys2Proof.Machine
end

section
/-! Resets and boot (O57): what the ports' entry into OFF and DETECT leaves alone, and what each reset keeps. -/

namespace Sys2Proof.Machine

/-! ## What outlasts the ports of a reset of the switch domain -/

/-- What no entry into OFF or DETECT changes. -/
def Dev.lasting (d : Dev) : Tbl Nat × Mfg × Power × Tbl Ctx × Tbl PackSt × Tbl Whistle :=
  (d.otp, d.mfg, d.power, d.ctxs, d.packs, d.whistles)

theorem Dev.lasting_of_coreless {d e : Dev} (h : d.coreless = e.coreless) : d.lasting = e.lasting :=
  show d.coreless.lasting = e.coreless.lasting from congrArg Dev.lasting h

theorem Dev.lasting_of_portless {d e : Dev} (h : d.portless = e.portless) : d.lasting = e.lasting :=
  show d.portless.lasting = e.portless.lasting from congrArg Dev.lasting h

@[simp] theorem Dev.lasting_setReg (d : Dev) (k v : Nat) : (d.setReg k v).lasting = d.lasting := rfl

@[simp] theorem Dev.lasting_updPort (d : Dev) (p : Nat) (f : PortSt → PortSt) : (d.updPort p f).lasting = d.lasting := rfl

@[simp] theorem Dev.lasting_takeSite (d : Dev) (p : Nat) : (d.takeSite p).lasting = d.lasting := rfl

@[simp] theorem Dev.lasting_pendDiscovery (d : Dev) (p : Nat) : (d.pendDiscovery p).lasting = d.lasting := rfl

@[simp] theorem Dev.lasting_notePort (d was : Dev) (p : Nat) : (d.notePort was p).lasting = d.lasting :=
  Dev.lasting_of_portless (d.portless_notePort was p)

@[simp] theorem Dev.lasting_freeSite (d : Dev) (m : Option Nat) : (d.freeSite m).lasting = d.lasting :=
  Dev.lasting_of_portless (d.portless_freeSite m)

@[simp] theorem Dev.lasting_siteLos (d : Dev) (p : Nat) : (d.siteLos p).lasting = d.lasting :=
  Dev.lasting_of_portless (d.portless_siteLos p)

@[simp] theorem Dev.lasting_moduleLow (d : Dev) (p : Nat) : (d.moduleLow p).lasting = d.lasting :=
  Dev.lasting_of_portless (d.portless_moduleLow p)

@[simp] theorem Dev.lasting_flushPort (d : Dev) (p : Nat) : (d.flushPort p).lasting = d.lasting :=
  Dev.lasting_of_coreless (d.coreless_flushPort p)

@[simp] theorem Dev.lasting_discardReplay (d : Dev) (p : Nat) : (d.discardReplay p).lasting = d.lasting := by
  unfold Dev.discardReplay
  rw [Dev.lasting_updPort]
  refine foldl_keeps Dev.lasting (fun a k => ?_) _ d
  split
  · exact Dev.lasting_of_coreless (Dev.coreless_release ..)
  · rfl

@[simp] theorem Dev.lasting_toDetect (d : Dev) (p : Nat) : (d.toDetect p).lasting = d.lasting := by
  unfold Dev.toDetect
  simp only [Dev.lasting_moduleLow, Dev.lasting_siteLos, Dev.lasting_freeSite, Dev.lasting_notePort, Dev.lasting_pendDiscovery,
    Dev.lasting_setReg, Dev.lasting_updPort, Dev.lasting_takeSite, Dev.lasting_discardReplay, Dev.lasting_flushPort]

@[simp] theorem Dev.lasting_toOff (d : Dev) (p : Nat) : (d.toOff p).lasting = d.lasting := by
  unfold Dev.toOff
  simp only [Dev.lasting_moduleLow, Dev.lasting_notePort, Dev.lasting_setReg]
  refine (foldl_keeps Dev.lasting (fun a l => by simp only [Dev.lasting_setReg]) _ _).trans ?_
  simp only [Dev.lasting_updPort, Dev.lasting_discardReplay, Dev.lasting_flushPort]

@[simp] theorem Dev.lasting_openPorts (d : Dev) : d.openPorts.lasting = d.lasting := by
  unfold Dev.openPorts
  refine foldl_keeps Dev.lasting (fun a p => ?_) _ d
  split
  · exact a.lasting_toDetect p
  · rfl

@[simp] theorem Dev.lasting_portsDark (d : Dev) : d.portsDark.lasting = d.lasting := by
  unfold Dev.portsDark
  refine foldl_keeps Dev.lasting (fun a e => ?_) _ d
  exact a.lasting_toOff e.1

@[simp] theorem Dev.lasting_writeMem (d : Dev) (a : Nat) (bs : List Byte) : (d.writeMem a bs).lasting = d.lasting := by
  unfold Dev.writeMem
  split <;> rfl

@[simp] theorem Dev.lasting_writeFrom (d : Dev) (i a : Nat) (bs : List Byte) : (d.writeFrom i a bs).lasting = d.lasting := by
  have htravel : (d.travel i a).lasting = d.lasting := Dev.lasting_of_coreless (d.coreless_cross _)
  unfold Dev.writeFrom
  split
  · rw [Dev.lasting_writeMem, htravel]
  · exact htravel

@[simp] theorem Dev.lasting_dropStashed (d : Dev) (n : Nat) (f : Stashed → Bool) : (d.dropStashed n f).lasting = d.lasting := by
  simp only [Dev.dropStashed]
  split
  · rfl
  · refine (foldl_keeps Dev.lasting (fun a z => ?_) _ _).trans rfl
    split
    · rfl
    · exact Dev.lasting_writeFrom ..

/-! ## The resets (R618 to R621) -/

theorem Dev.cutBurn_none {d : Dev} (h : d.burn = none) : d.cutBurn = d := by
  unfold Dev.cutBurn
  rw [h]

theorem Dev.frame_driveAlert (d : Dev) (on : Bool) : ∃ i o, d.driveAlert on = { d with ints := i, out := o } := by
  unfold Dev.driveAlert
  split
  · exact ⟨d.ints, d.out, rfl⟩
  · exact ⟨_, _, rfl⟩

theorem Dev.frame_startBoot (d : Dev) (k : ResetKind) (t : Nat) : ∃ b n, d.startBoot k t = { d with
    burn := b, power := { d.power with bootStage := 1, bootAt := d.tick, bootWait := n, lastReset := k, bootKind := k, resetTick := t } } := by
  have hspent : ∃ b, d.burnSpent = { d with burn := b } := by
    simp only [Dev.burnSpent]
    split
    · exact ⟨d.burn, rfl⟩
    · exact ⟨_, rfl⟩
  obtain ⟨b, hb⟩ := hspent
  unfold Dev.startBoot
  rw [hb]
  exact ⟨b, _, rfl⟩

/-- What a cold reset brings up where no burn is in progress (R619). -/
theorem Dev.coldReset_of_noBurn {d : Dev} (h : d.burn = none) : d.coldReset.otp = d.otp ∧ d.coldReset.mfg = d.mfg ∧
    d.coldReset.power.off = false ∧ d.coldReset.power.bootStage = 1 ∧ d.coldReset.power.lastReset = .cold ∧
    d.coldReset.power.resetTick = d.tick ∧ d.coldReset.tick = 0 ∧ d.coldReset.mem = [] ∧ d.coldReset.ports = [] ∧
    d.coldReset.sentry = {} := by
  obtain ⟨i, o, ha⟩ := d.frame_driveAlert false
  unfold Dev.coldReset
  rw [Dev.cutBurn_none h, ha]
  obtain ⟨b, n, hb⟩ := Dev.frame_startBoot _ .cold d.tick
  rw [hb]
  exact ⟨rfl, rfl, rfl, rfl, rfl, rfl, rfl, rfl, rfl, rfl⟩

/-- What a warm reset keeps where no burn is in progress (R619). -/
theorem Dev.warmReset_keeps (d : Dev) : d.warmReset.otp = d.otp ∧ d.warmReset.mfg = d.mfg ∧
    d.warmReset.power.off = false ∧ d.warmReset.power.bootStage = 1 ∧ d.warmReset.power.lastReset = .warm ∧
    d.warmReset.power.resetTick = d.tick ∧ d.warmReset.tick = d.tick ∧
    d.warmReset.mem = d.mem.filter (fun e => decide (tierSpace e.1 = 0)) ∧ d.warmReset.ports = [] ∧
    d.warmReset.sentry = d.sentry.kept ∧ d.warmReset.reg E.ACTIVE_PROFILE = d.warmProfile := by
  obtain ⟨i, o, ha⟩ := d.frame_driveAlert false
  unfold Dev.warmReset
  rw [ha]
  obtain ⟨b, n, hb⟩ := Dev.frame_startBoot _ .warm d.tick
  rw [hb]
  exact ⟨rfl, rfl, rfl, rfl, rfl, rfl, rfl, rfl, rfl, rfl,
    (Dev.reg_of_regs (d := { d with regs := d.regs.filter (fun e => warmKept e.1) }.setReg E.ACTIVE_PROFILE d.warmProfile)
      rfl _).trans (Dev.reg_setReg_same _ _ _)⟩

/-- What OFF leaves where no burn is in progress (R613). -/
theorem Dev.toOffState_of_noBurn {d : Dev} (h : d.burn = none) : d.toOffState.otp = d.otp ∧ d.toOffState.mfg = d.mfg := by
  obtain ⟨i, o, ha⟩ := d.frame_driveAlert false
  unfold Dev.toOffState
  rw [Dev.cutBurn_none h, ha]
  exact ⟨rfl, rfl⟩

/-- The device that a reset of the switch domain starts from: no chunk waits at a chain, and every port is OFF. -/
def Dev.switchDark (d : Dev) : Dev := ((d.chains.map (·.1)).foldl (fun a i => a.dropStashed i (fun _ => true)) d).portsDark

theorem Dev.lasting_switchDark (d : Dev) : d.switchDark.lasting = d.lasting :=
  (Dev.lasting_portsDark _).trans (foldl_keeps Dev.lasting (fun a i => a.lasting_dropStashed i _) _ d)

/-- A reset of the switch domain leaves OTP and what was made, and no context, pack or whistle. -/
theorem Dev.lasting_switchReset (d : Dev) : d.switchReset.lasting = (d.switchDark.otp, d.switchDark.mfg,
    { d.switchDark.power with lastReset := .switch, resetTick := d.tick,
                              switchOn := d.switchDark.power.sleepPower = .keepalive, wakePorts := [] }, [], [], []) := by
  unfold Dev.switchReset
  exact Dev.lasting_openPorts _

/-- What a reset of the switch domain keeps and clears (R619). -/
theorem Dev.switchReset_keeps (d : Dev) : d.switchReset.otp = d.otp ∧ d.switchReset.mfg = d.mfg ∧
    d.switchReset.power.lastReset = .switch ∧ d.switchReset.power.resetTick = d.tick ∧ d.switchReset.ctxs = [] ∧
    d.switchReset.packs = [] ∧ d.switchReset.whistles = [] := by
  have hlast := d.lasting_switchReset
  have hdark := d.lasting_switchDark
  simp only [Dev.lasting, Prod.mk.injEq] at hlast hdark
  obtain ⟨hotp, hmfg, hpow, hctxs, hpacks, hwh⟩ := hlast
  exact ⟨hotp.trans hdark.1, hmfg.trans hdark.2.1, congrArg Power.lastReset hpow, congrArg Power.resetTick hpow, hctxs, hpacks, hwh⟩

/-- A warm reset with no burn in progress takes effect at once. -/
theorem State.warm_of_noBurn {s : State} {d : Dev} (h : d.burn = none) :
    s.warm d = { s with toDev := d.warmReset, shadows := s.shadows.filter (·.taken), boundary := none } := by
  have hw : d.warmWaits = none := by
    unfold Dev.warmWaits
    rw [h]
  unfold State.warm Dev.takeWarm
  rw [hw, h]
  rfl

/-- The device from which a due request is taken. -/
def Dev.takenReset (d : Dev) (r : Option ResetKind × Nat) : Dev :=
  { d with power := { d.power with resetPending := d.power.resetPending.erase r } }

section
variable {s : State} {r : Option ResetKind} {a : Nat} (hr : s.power.dueReset s.tick = some (r, a)) (hp : s.power.off = false)
  (hl : s.power.resetLow = false)
include hr hp hl

theorem exec_resetTakesEffect : exec .resetTakesEffect s = .next (match r with
    | none => s.lose (fun _ => (s.toDev.takenReset (r, a)).toOffState)
    | some .cold => s.lose (fun _ => (s.toDev.takenReset (r, a)).coldReset)
    | some .warm => s.warmOrHeld (s.toDev.takenReset (r, a))
    | some .switch => { s with toDev := (s.toDev.takenReset (r, a)).switchReset }) := by
  show execResetTakesEffect s = _
  unfold execResetTakesEffect
  simp only [hr]
  rw [if_neg (by simp [Dev.alive, hp, hl])]
  rcases r with _ | k
  · rfl
  · cases k <;> rfl

end

theorem exec_resetTakesEffect_still {s : State} (h : s.power.dueReset s.tick = none ∨ s.power.resetLow = true) :
    exec .resetTakesEffect s = .next s := by
  show execResetTakesEffect s = _
  unfold execResetTakesEffect
  cases hd : s.power.dueReset s.tick with
  | none => simp only [hd]; rfl
  | some r =>
    simp only [hd]
    exact if_pos (by simp [h.resolve_left (by simp [hd])])

/-! ## RESET_N, the input and the temperature (R598, R601, R618) -/

section
variable {s : State} {n : BitVec 64} (ha : s.power.alwaysOn = true) (hp : s.power.off = false)
include ha hp

theorem exec_resetNRise_cold (h : 1 ≤ n.toNat ∧ s.power.memoryOff = true ∨ 25000 ≤ n.toNat) :
    exec (.resetNRise n) s = .next (s.lose Dev.coldReset) := by
  refine (if_neg (by simp [ha])).trans ((if_neg (by simp [hp])).trans ((if_neg (by omega)).trans ?_))
  by_cases hm : s.power.memoryOff = true
  · exact if_pos hm
  · have hn : 25000 ≤ n.toNat := h.resolve_left (fun h => hm h.2)
    exact (if_neg hm).trans ((if_neg (by omega)).trans (if_pos hn))

theorem exec_resetNRise_short (h : n.toNat < 4) (hm : s.power.memoryOff = false) : exec (.resetNRise n) s = .next s := by
  refine (if_neg (by simp [ha])).trans ((if_neg (by simp [hp])).trans ?_)
  by_cases hn : n.toNat = 0
  · exact if_pos hn
  · exact (if_neg hn).trans ((if_neg (by simp [hm])).trans (if_pos h))

theorem exec_resetNRise_warm (h : 4 ≤ n.toNat) (h' : n.toNat < 25000) (hm : s.power.memoryOff = false) :
    exec (.resetNRise n) s = .next (if (s.power.inputOut || s.power.overtempHold) = true then
      { s with toDev := { s.toDev.endExtest with power := { s.power with heldWarm := true, resetLow := false } } }
      else s.warm s.toDev) := by
  refine (if_neg (by simp [ha])).trans ((if_neg (by simp [hp])).trans ((if_neg (by omega)).trans ((if_neg (by simp [hm])).trans
    ((if_neg (by omega)).trans ((if_neg (by omega)).trans (apply_ite Host.Outcome.next _ _ _).symm)))))

end

theorem State.heldReset_none {s : State} {d : Dev} (h : d.power.heldWarm = false ∨ d.power.resetLow = true) :
    s.heldReset d = { s with toDev := d } :=
  if_neg (by rcases h with h | h <;> simp [h])

/-- A held warm reset with no burn in progress takes effect once nothing holds it. -/
theorem State.heldReset_warm {s : State} {d : Dev} (hh : d.power.heldWarm = true) (hi : d.power.inputOut = false)
    (ho : d.power.overtempHold = false) (hl : d.power.resetLow = false) (hb : d.burn = none) :
    s.heldReset d = { s with toDev := d.warmReset, shadows := s.shadows.filter (·.taken), boundary := none } :=
  (if_pos (by simp [hh, hi, ho, hl])).trans (State.warm_of_noBurn hb)

theorem exec_inputBackInRange {s : State} {x : BitVec 32} (hp : s.power.off = false) (hl : 36000 ≤ x.toNat) (hu : x.toNat ≤ 44000) :
    exec (.inputBackInRange x) s = .next (s.heldReset { s.toDev with power := { s.power with inputOut := false } }) :=
  if_neg (by simp [Dev.alive, hp, inRange, hl, hu])

theorem exec_overtempRecovered {s : State} (hp : s.power.off = false) :
    exec .overtempRecovered s = .next (s.heldReset { s.toDev with power := { s.power with overtempHold := false } }) :=
  if_neg (by simp [Dev.alive, hp])

theorem not_inRange (mv : Nat) : (!inRange mv) = decide (mv < 36000 ∨ 44000 < mv) := by
  rw [Bool.eq_iff_iff, Bool.not_eq_true', inRange_eq_false, decide_eq_true_iff]

/-! ## Firmware and boot (R594, R620) -/

/-- The boot runs the committed slot where no trial is marked and its image is valid (R594). -/
theorem Dev.chooseSlot_committed {d : Dev} (ht : d.fw.trial = none) (hv : d.fwValid d.fw.committed = true) :
    d.chooseSlot = { d with fw := { d.fw with running := d.fw.committed, trialSince := none, verified := false, romOnly := false } }.fwStatus 0 := by
  unfold Dev.chooseSlot
  simp [ht, hv]

/-- The device whose committed slot runs. -/
def Dev.runCommitted (d : Dev) : Dev :=
  { d with fw := { d.fw with running := d.fw.committed, trialSince := none, verified := false, romOnly := false },
           power := { d.power with bootStage := 2 } }.fwStatus 0

theorem exec_firmwareStart {s : State} (hp : s.power.off = false) (hl : s.power.resetLow = false) (hs : s.power.bootStage = 1)
    (hr : s.fw.romOnly = false) (hb : s.burn = none) (h : s.power.bootAt + 252500 + s.power.bootWait ≤ s.tick)
    (ht : s.fw.trial = none) (hv : s.toDev.fwValid s.fw.committed = true) :
    exec .firmwareStart s = .next (s.dev s.toDev.runCommitted) := by
  refine run_dev ((if_neg (by simp [Dev.alive, hp, hl, hs, hr, hb]; omega)).trans ?_)
  simp only [Dev.chooseSlot_committed ht hv]
  exact if_neg Bool.false_ne_true

/-- Settles O57: each reset by its kind, the level of RESET_N, the input, and the boot. -/
theorem resetsAndBoot : Obligations.ResetsAndBoot := by
  refine ⟨fun s r a hr hp hl hb ho => ?_, fun s h => exec_resetTakesEffect_still h, fun s hp => run_dev (if_neg (by simp [Dev.alive, hp])),
    fun s n ha hp hn => ?_, fun s n ha hp => ?_, fun s x => ?_, fun s x hp hh => ?_, fun s x hp hh hl hb => ?_,
    fun s hp hl hs hr hb => ?_, fun s hp hl ho hs => ?_⟩
  · have hb' : (s.toDev.takenReset (r, a)).burn = none := hb
    have hexec := exec_resetTakesEffect hr hp hl
    rcases r with _ | _ | _ | _
    · obtain ⟨hotp, hmfg⟩ := Dev.toOffState_of_noBurn hb'
      exact ⟨_, hexec, hotp, rfl, hmfg, fun _ => ⟨rfl, rfl, rfl, rfl⟩, nofun, nofun, nofun⟩
    · obtain ⟨hotp, hmfg, h1, h2, h3, h4, h5, h6, h7, h8⟩ := Dev.coldReset_of_noBurn hb'
      exact ⟨_, hexec, hotp, rfl, hmfg, nofun, fun _ => ⟨h1, h2, h3, h4, h5, h6, h7, rfl, h8⟩, nofun, nofun⟩
    · have hwarm : s.warmOrHeld (s.toDev.takenReset (some .warm, a)) = _ := (if_neg (by simp [Dev.takenReset, ho])).trans (State.warm_of_noBurn (s := s) hb')
      obtain ⟨hotp, hmfg, h1, h2, h3, h4, h5, h6, h7, h8, h9⟩ := (s.toDev.takenReset (some .warm, a)).warmReset_keeps
      exact ⟨_, hexec.trans (congrArg Host.Outcome.next hwarm), hotp, rfl, hmfg, nofun, nofun,
        fun _ => ⟨h1, h2, h3, h4, h5, h6, h7, h8, h9, rfl⟩, nofun⟩
    · obtain ⟨hotp, hmfg, h1, h2, h3, h4, h5⟩ := (s.toDev.takenReset (some .switch, a)).switchReset_keeps
      generalize (s.toDev.takenReset (some .switch, a)).switchReset = d at hexec hotp hmfg h1 h2 h3 h4 h5
      exact ⟨_, hexec, hotp, rfl, hmfg, nofun, nofun, nofun, fun _ => ⟨h1, h2, h3, h4, h5, rfl⟩⟩
  · exact (if_neg (by simp [ha])).trans ((if_pos hp).trans (if_neg (by omega)))
  · refine ⟨fun h1 h2 => exec_resetNRise_cold ha hp (.inl ⟨h1, h2⟩), exec_resetNRise_short ha hp,
      fun h => exec_resetNRise_cold ha hp (.inr h), fun h1 h2 h3 h4 => ?_, fun h1 h2 h3 h4 h5 hb => ?_⟩
    · exact (exec_resetNRise_warm ha hp h1 h2 h3).trans (congrArg Host.Outcome.next (if_pos (by simpa using h4)))
    · exact (exec_resetNRise_warm ha hp h1 h2 h3).trans (congrArg Host.Outcome.next
        ((if_neg (by simp [h4, h5])).trans (State.warm_of_noBurn hb)))
  · refine ⟨fun ha hx => ?_, fun h => ?_, fun ha hx => ?_, fun h => ?_⟩
    · rw [← not_inRange]
      exact if_neg (by simp [ha]; omega)
    · exact if_pos (by rcases h with h | h <;> simp [h])
    · exact ⟨_, if_neg (by simp [ha]; omega), rfl, rfl, rfl, rfl, rfl, rfl, fun hb => (Dev.toOffState_of_noBurn hb).1⟩
    · exact if_pos (by rcases h with h | h <;> simp [h])
  · refine ⟨fun h1 h2 => ?_, fun h => ?_, ?_⟩
    · exact (exec_inputBackInRange hp h1 h2).trans (congrArg Host.Outcome.next (State.heldReset_none hh))
    · exact if_pos (by rw [inRange_eq_false.2 h]; simp)
    · exact (exec_overtempRecovered hp).trans (congrArg Host.Outcome.next (State.heldReset_none hh))
  · refine ⟨fun h1 h2 ho => ?_, fun hi => ?_⟩
    · exact (exec_inputBackInRange hp h1 h2).trans (congrArg Host.Outcome.next (State.heldReset_warm hh rfl ho hl hb))
    · exact (exec_overtempRecovered hp).trans (congrArg Host.Outcome.next (State.heldReset_warm hh hi rfl hl hb))
  · refine ⟨fun h => run_dev (d := s.toDev) (if_pos (by simp [h])), fun h hv ht =>
      ⟨_, exec_firmwareStart hp hl hs hr hb h ht hv, rfl, rfl, Dev.reg_setReg_same _ _ _,
        fun k hk => Dev.reg_setReg_other _ _ (by simpa using hk), rfl⟩⟩
  · exact ⟨fun h => run_dev (d := s.toDev) (if_pos (by simp [h])), fun h => run_dev (if_neg (by simp [Dev.alive, hp, hl, ho, hs, h]))⟩

end Sys2Proof.Machine
end

section
/-! Whistles, actions and chains (O44 to O46): what the compute tier's own commands do in each of their cases. -/

namespace Sys2Proof.Machine

/-! ## Action queues (R408, R411) -/

theorem Dev.actions_setActions (d : Dev) (n : Nat) (as : List Action) : (d.setActions n as).actions n = as := by
  unfold Dev.setActions Dev.actions
  split <;> rfl

theorem Dev.frame_setActions (d : Dev) (n : Nat) (as : List Action) :
    ∃ a b, d.setActions n as = { d with actions0 := a, actions1 := b } := by
  unfold Dev.setActions
  split
  · exact ⟨_, _, rfl⟩
  · exact ⟨_, _, rfl⟩

/-- A ready action is taken: it starts, and ends at once where its outcome is known. -/
theorem Dev.takeAction_ready {d : Dev} {n code : Nat} {a : Action} (h : d.actionReady n code a)
    (f : Dev → Action → Option Bool × Dev) : d.takeAction n code f =
      ((f (d.startAction n code a) a).1.elim (f (d.startAction n code a) a).2
        (fun ok => (f (d.startAction n code a) a).2.actionEnded a ok)) := by
  obtain ⟨hf, hh, hr⟩ := h
  unfold Dev.takeAction
  simp only [hf]
  rw [if_neg (by simp [hh]), if_neg (by simp [hr])]
  rcases f (d.startAction n code a) a with ⟨_ | ok, e⟩ <;> rfl

theorem Dev.takeAction_ends {d : Dev} {n code : Nat} {a : Action} (h : d.actionReady n code a)
    {f : Dev → Action → Option Bool × Dev} {ok : Bool} {e : Dev} (hf : f (d.startAction n code a) a = (some ok, e)) :
    d.takeAction n code f = e.actionEnded a ok := by
  rw [Dev.takeAction_ready h, hf]
  rfl

theorem Dev.takeAction_goesOn {d : Dev} {n code : Nat} {a : Action} (h : d.actionReady n code a)
    {f : Dev → Action → Option Bool × Dev} {e : Dev} (hf : f (d.startAction n code a) a = (none, e)) :
    d.takeAction n code f = e := by
  rw [Dev.takeAction_ready h, hf]
  rfl

/-! ## Whistles (R407 to R413) -/

theorem Dev.whistle_setWhistle_same (d : Dev) (w : Nat) (x : Whistle) : (d.setWhistle w x).whistle w = x :=
  congrArg (·.getD ({} : Whistle)) (tget_tset_same _ _ _)

theorem Dev.whistle_setWhistle_other (d : Dev) {w v : Nat} (x : Whistle) (h : v ≠ w) : (d.setWhistle w x).whistle v = d.whistle v :=
  congrArg (·.getD ({} : Whistle)) (tget_tset_other _ _ h)

/-- What a wake changes: the power domain's record, the ports' withheld credits and the last power event. -/
theorem Dev.frame_wake (d : Dev) (k : Nat) : ∃ w p i, d.wake k = { d with power := w, ports := p, ints := i } := by
  unfold Dev.wake
  split
  · exact ⟨d.power, d.ports, d.ints, rfl⟩
  · split
    · exact ⟨_, _, _, rfl⟩
    · exact ⟨_, d.ports, d.ints, rfl⟩

/-- An armed whistle at its threshold, after its fire. -/
def Whistle.fired (x : Whistle) : Whistle :=
  { x with count := x.count - x.threshold, fires := x.fires + 1,
           state := if x.repeats != 0 && x.fires + 1 = x.repeats then .spent else .armed }

/-- The action of a fire. -/
def Whistle.action (x : Whistle) (n : Nat) : Action := Action.mk n x.fires x.code x.cdie (x.address x.fires) x.arg2 .queued

/-- The device once a whistle has fired, before its action wakes or occupies the TX1. -/
def Dev.fired (d : Dev) (n : Nat) : Dev :=
  let d2 := (d.setWhistle n (d.whistle n).fired).setActions (n / 4096) (d.actions (n / 4096) ++ [(d.whistle n).action n])
  d2.setReg E.QUEUE_PEAK (max (d2.reg E.QUEUE_PEAK) (queued (d2.actions (n / 4096))))

theorem Dev.whistle_fired (d : Dev) (n : Nat) :
    (d.fired n).whistle n = (d.whistle n).fired ∧ (∀ v, v ≠ n → (d.fired n).whistle v = d.whistle v) := by
  obtain ⟨a, b, h⟩ := (d.setWhistle n (d.whistle n).fired).frame_setActions (n / 4096) (d.actions (n / 4096) ++ [(d.whistle n).action n])
  unfold Dev.fired
  rw [h]
  exact ⟨d.whistle_setWhistle_same n _, fun v hv => d.whistle_setWhistle_other _ hv⟩

theorem Dev.actions_fired (d : Dev) (n : Nat) :
    (d.fired n).actions (n / 4096) = d.actions (n / 4096) ++ [(d.whistle n).action n] :=
  Dev.actions_setActions (d.setWhistle n (d.whistle n).fired) (n / 4096) _

theorem Dev.mem_fired (d : Dev) (n : Nat) : (d.fired n).mem = d.mem := by
  obtain ⟨a, b, h⟩ := (d.setWhistle n (d.whistle n).fired).frame_setActions (n / 4096) (d.actions (n / 4096) ++ [(d.whistle n).action n])
  unfold Dev.fired
  rw [h]
  rfl

theorem Dev.reg_fired (d : Dev) (n : Nat) {k : Nat} (hk : k ≠ E.QUEUE_PEAK) : (d.fired n).reg k = d.reg k := by
  obtain ⟨a, b, h⟩ := (d.setWhistle n (d.whistle n).fired).frame_setActions (n / 4096) (d.actions (n / 4096) ++ [(d.whistle n).action n])
  unfold Dev.fired
  rw [h]
  exact (Dev.reg_setReg_other _ _ hk).trans (Dev.reg_of_regs rfl k)

theorem exec_whistleFire {s : State} {w : WhistleNo} (ho : s.domainOff .switch = false) (ha : (s.whistle w.val).state = .armed)
    (ht : (s.whistle w.val).threshold ≤ (s.whistle w.val).count) (hq : queued (s.actions (w.val / 4096)) < 1024)
    (hl : 1 ≤ (s.whistle w.val).code) (hu : (s.whistle w.val).code ≤ acINT) :
    exec (.whistleFire w) s = .next (s.dev (if (s.toDev.fired w.val).actionWaits (s.whistle w.val).code then
      (s.toDev.fired w.val).wake wkWHISTLE else (s.toDev.fired w.val).worked)) := by
  have hbad : ((s.whistle w.val).code = 0 || acINT < (s.whistle w.val).code : Bool) = false := by
    simp [Nat.not_lt.mpr hu]
    omega
  refine run_dev ((if_neg (by simp [ho, ha]; omega)).trans ?_)
  simp only [hbad]
  rfl

/-- What follows a fire changes no whistle, action, memory or entry. -/
theorem Dev.frame_afterFire (d : Dev) (c : Nat) : ∃ w p i,
    (if d.actionWaits c then d.wake wkWHISTLE else d.worked) = { d with power := w, ports := p, ints := i } := by
  split
  · exact d.frame_wake wkWHISTLE
  · exact ⟨_, d.ports, d.ints, rfl⟩

/-! ## The end of an action (R407) -/

section
variable {s : State} {w : WhistleNo} {a : Action} {r : List Action} (hq : s.actions (w.val / 4096) = a :: r) (hw : a.whistle = w.val)
include hq hw

theorem exec_actionComplete_succeeded (hs : a.stage = .succeeded) : exec (.actionComplete w true) s = .next (s.dev
    (if bits (s.whistle w.val).doneWhistle 15 1 = 1 then (s.toDev.setActions (w.val / 4096) r).addWhistle (doneOrigin (w.val / 4096) a)
        ((s.whistle w.val).doneWhistle % 8192) (s.whistle w.val).doneInc
     else s.toDev.setActions (w.val / 4096) r)) := by
  obtain ⟨x, y, hf⟩ := s.toDev.frame_setActions (w.val / 4096) r
  refine run_dev ?_
  simp only [hq, List.find?_cons, dropFirst, hw, hs, if_true, and_self, decide_true]
  rw [hf]
  rfl

/-- The device after a failed action, before its report. -/
def Dev.actionFailed (d : Dev) (w : Nat) (r : List Action) : Dev :=
  ((d.setActions (w / 4096) r).setWhistle w { d.whistle w with
    state := if (d.whistle w).state = .disarmed then .disarmed else .spent }).setReg E.LAST_ACTION_FAIL w

theorem exec_actionComplete_failed (hs : a.stage = .failed) : exec (.actionComplete w false) s = .next (s.dev
    ((s.toDev.actionFailed w.val r).report (bark 0x0710 accNone iniNone false a.addr w.val))) := by
  obtain ⟨x, y, hf⟩ := s.toDev.frame_setActions (w.val / 4096) r
  refine run_dev ?_
  unfold Dev.actionFailed
  simp only [hq, List.find?_cons, dropFirst, hw, hs, Bool.false_eq_true, if_false, if_true, and_self, decide_true]
  rw [hf]
  rfl

end

/-- What a failed action leaves of its whistle, its queue and the entries. -/
theorem Dev.actionFailed_keeps (d : Dev) (w : Nat) (r : List Action) :
    (d.actionFailed w r).whistle w = { d.whistle w with state := if (d.whistle w).state = .disarmed then .disarmed else .spent } ∧
      (d.actionFailed w r).actions (w / 4096) = r ∧ (d.actionFailed w r).reg E.LAST_ACTION_FAIL = w ∧
      (∀ k, k ≠ E.LAST_ACTION_FAIL → (d.actionFailed w r).reg k = d.reg k) ∧
      (d.actionFailed w r).sentry = d.sentry ∧ (d.actionFailed w r).sampledAt = d.sampledAt := by
  obtain ⟨x, y, hf⟩ := d.frame_setActions (w / 4096) r
  refine ⟨?_, d.actions_setActions _ r, Dev.reg_setReg_same _ _ _, fun k hk => ?_, ?_, ?_⟩
  · exact Dev.whistle_setWhistle_same (d.setActions (w / 4096) r) w _
  · refine (Dev.reg_setReg_other _ _ hk).trans (Dev.reg_of_regs ?_ k)
    rw [hf]
    rfl
  · unfold Dev.actionFailed
    rw [hf]
    rfl
  · unfold Dev.actionFailed
    rw [hf]
    rfl

/-- Settles O44: the fire of a whistle, the actions that end at once or start a channel, and the end of an action. -/
theorem whistlesFire : Obligations.WhistlesFire := by
  refine ⟨fun s w ho ha ht hq hl hu => ⟨_, exec_whistleFire ho ha ht hq hl hu, ?_⟩, fun s w h => run_dev (d := s.toDev) (if_pos ?_),
    fun s sd a h => ⟨fun hn => run_dev (Dev.takeAction_ends h (if_neg (by omega))), fun hn => run_dev (Dev.takeAction_ends h (if_pos hn))⟩,
    fun s sd a h hn => fun hf => run_dev (Dev.takeAction_goesOn h (if_neg ?_)), fun s w a r hq hw => ⟨fun hs hb => ?_, fun hs hb => ?_, fun hs ha => ?_⟩⟩
  · obtain ⟨p, ps, i, hafter⟩ := (s.toDev.fired w.val).frame_afterFire (s.whistle w.val).code
    obtain ⟨hsame, hother⟩ := s.toDev.whistle_fired w.val
    rw [hafter]
    refine ⟨hsame.trans ?_, hother, s.toDev.actions_fired w.val, s.toDev.mem_fired w.val,
      fun k hk => (Dev.reg_of_regs rfl k).trans (s.toDev.reg_fired w.val (by simpa using hk))⟩
    simp [Whistle.fired]
  · rcases h with h | h <;> simp [h]
  · simp [hf, hn]
  · exact (exec_actionComplete_succeeded hq hw hs).trans (congrArg (fun d => Host.Outcome.next (s.dev d)) (if_neg (by simp [hb])))
  · exact (exec_actionComplete_succeeded hq hw hs).trans (congrArg (fun d => Host.Outcome.next (s.dev d)) (if_pos hb))
  · obtain ⟨hwh, hact, hlast, hother, hsent, hat⟩ := s.toDev.actionFailed_keeps w.val r
    refine ⟨_, exec_actionComplete_failed hq hw hs, (congrArg Whistle.state hwh).trans (if_neg (by simp [ha])), hlast, hact,
      fun k hk => hother k (by simpa using hk), ?_⟩
    show (s.toDev.actionFailed w.val r).sentry.reports ++ [Report.mk (s.toDev.actionFailed w.val r).sampledAt _] = _
    rw [hsent, hat]

/-! ## Products (R390, R395, R425) -/

theorem exec_productComplete {s : State} {id : BitVec 64} {p : Product} (hp : tget s.products id.toNat = some p)
    (hw : s.actionWaits acLAUNCH = false) : exec (.productComplete id) s = .next (s.dev
      (if pdKind p.desc = 1 then (s.toDev.runProduct p).dev.endProduct id.toNat p (s.toDev.runProduct p).failed.isNone
       else if p.failed.isSome then s.toDev.endProduct id.toNat p false
       else if s.chains.any (fun e => e.2.stash.any (fun z => z.prod = some id.toNat)) then s.toDev
       else s.toDev.endProduct id.toNat p true)) := by
  refine run_dev ?_
  simp only [hp]
  exact if_neg (by simp [hw])

/-- Settles O45: a launch taken up or refused, the cells that stand in memory, and the end of a product. -/
theorem actionsRun : Obligations.ActionsRun := by
  refine ⟨fun s sd a h => ⟨fun hr => ?_, fun b d2 hr hm hk hn => ?_⟩, fun s sd a b d2 h hr hl hm ht hf => ?_,
    fun s sd a b d2 h hr hm ht ho hf => ?_, fun s id p hp hw => ⟨fun hk => ?_, fun hk hn hs => ?_, fun hk hn => ?_⟩, fun s id hp => ?_⟩
  · exact run_dev (Dev.takeAction_ends h (if_pos (by simp [hr])))
  · refine run_dev (Dev.takeAction_goesOn h ((if_neg (by simp [hr])).trans ?_))
    simp only [hm, hn]
    exact if_pos hk
  · refine run_dev (Dev.takeAction_ends h ((if_neg (by simp [hr])).trans ((if_neg (by simp [hl])).trans ?_)))
    simp only [hm]
    exact if_neg (by simp [ht, hf])
  · refine run_dev (Dev.takeAction_ends h ((if_neg (by simp [hr])).trans ?_))
    simp only [hm]
    exact if_neg (by simp [ht, ho, hf])
  · rw [exec_productComplete hp hw, if_pos hk]
  · rw [exec_productComplete hp hw, if_neg hk, if_neg (by simp [hn]), if_neg (by simpa using hs)]
  · rw [exec_productComplete hp hw, if_neg hk, if_pos (Option.isSome_iff_ne_none.2 hn)]
  · refine run_dev (d := s.toDev) ?_
    simp only [hp]

/-! ## Chains and COMMIT heels (R414, R426, R430, R448) -/

/-- Settles O46: a chunk handed to its chain, its end, and the heel that prepares. -/
theorem chainsRun : Obligations.ChainsRun := by
  refine ⟨fun s n c slot t0 hs hr hh hw ho hg hc hq ht hl => run_dev ?_, fun s n c h => run_dev (d := s.toDev) (if_pos ?_),
    fun s k c h => run_dev (if_pos (by simpa using h)), fun s k c h => run_dev (d := s.toDev) (if_neg (by simpa using h)),
    fun s n hs hh hk hc hb hf => run_dev ((if_pos (by simp [hs, hh, hk, hc])).trans ?_)⟩
  · refine (if_neg (by simp [hs, Option.isSome_iff_ne_none.1 hr, hh, hw, ho, hg])).trans ?_
    simp only [hc, hq]
    unfold Dev.gradientChunk
    simp only [ht, hl]
  · rcases h with h | h | h | h <;> simp [h]
  · refine congrArg (Dev.heelOn · n.val) ((if_neg (by simp [hk, hc])).trans ((if_neg ?_).trans (if_neg ?_)))
    · simpa using hf
    · simp [hb]

end Sys2Proof.Machine
end

section
/-! The trial of a written value (R51): the row of the entry, the checks of its length, range and Meaning, and its effect. Each
accepted or refused write of an entry is then a short use of these. -/

namespace Sys2Proof.Machine

/-! ## Bounds between entries -/

/-- The entries that bind one another, but for MODULE_SITE (R659). -/
def boundKeys : List Nat :=
  [E.MARGIN_LOW, E.SPRAY_MARGIN_GOOD, E.PEAK_WATCH_TICKS, E.PEAK_PERIOD_TICKS, E.COLL_RESEND_TICKS, E.COLL_RESEND_MAX,
   E.CTX_IDLE_TICKS, E.BUSY_RETRY_TICKS, E.BUSY_RETRY_MAX, E.SPAN_RESEND_TICKS, E.SPAN_RESEND_MAX, E.PLAN_RACK, E.PLAN_NX,
   E.PLAN_NY, E.MAP_ADDR, E.MAP_RECORDS]

theorem Dev.mem_boundKeys (d : Dev) {b : Nat × Nat × Bool} (h : b ∈ d.bounds.take 10) : b.1 ∈ boundKeys ∧ b.2.1 ∈ boundKeys := by
  have hten : d.bounds.take 10 = d.bounds.take 10 := rfl
  conv at hten => rhs; unfold Dev.bounds
  rw [hten, List.take_append_of_le_length (Nat.le_refl 10)] at h
  simp only [List.take_succ_cons, List.take_zero, List.mem_cons, List.not_mem_nil, or_false] at h
  rcases h with rfl | rfl | rfl | rfl | rfl | rfl | rfl | rfl | rfl | rfl <;> simp [boundKeys]

/-- No bound stands in the way of an entry that takes part in none. -/
theorem Dev.breaks_of_free (d : Dev) {k : Nat} (hk : k ∉ boundKeys) (hs : k / 256 ≠ 0x2610) (v : Nat) : d.breaks k v = false := by
  refine (if_neg (Ne.symm hs)).trans (List.any_eq_false.2 fun b hb => ?_)
  obtain ⟨h1, h2⟩ := (d.setReg k v).mem_boundKeys hb
  have hne1 : b.1 ≠ k := fun h => hk (h ▸ h1)
  have hne2 : b.2.1 ≠ k := fun h => hk (h ▸ h2)
  simp [hne1, hne2]

/-! ## The trial of a value -/

/-- The commands whose act itself may fail. -/
def commandKeys : List Nat := [E.CHAIN_CMD, E.STEP_CMD, E.PROG_CMD]

theorem Dev.tierCmd_of_other (d : Dev) {k : Nat} (h : k ∉ commandKeys) (v : Nat) (bs : List Byte) : d.tierCmd k v bs = none := by
  simp only [commandKeys, List.mem_cons, List.not_mem_nil, or_false, not_or] at h
  obtain ⟨h1, h2, h3⟩ := h
  exact (if_neg h1).trans ((if_neg h2).trans (if_neg h3))

/-- The number that a payload writes to an entry. -/
def EntryRow.value (r : EntryRow) (bs : List Byte) : Nat := if typeFixed r.ty then beNat bs else 0

/-- Entry `k` stands at index `i` and sub-index `n` with row `r`, binds no other entry, and is no command that may still fail. -/
structure PlainEntry (k i n : Nat) (r : EntryRow) : Prop where
  key : k = i * 256 + n
  sub_lt : n < 256
  row : findRow i n = some r
  unbound : k ∉ boundKeys
  site : i ≠ 0x2610
  command : k ∉ commandKeys

/-- The indices of the entries that bind others, or whose command may still fail. -/
def boundIndices : List Nat :=
  [0x2000, 0x2001, 0x2610, 0x3220, 0x3400, 0x4400, 0x4600, 0x5200, 0x5210, 0x5400, 0x8030]

theorem PlainEntry.of_index {i n : Nat} {r : EntryRow} (hn : n < 256) (hr : findRow i n = some r) (hi : i ∉ boundIndices) :
    PlainEntry (i * 256 + n) i n r where
  key := rfl
  sub_lt := hn
  row := hr
  unbound hb := by
    have hall : ∀ b ∈ boundKeys, b / 256 ∈ boundIndices := by decide
    have := hall _ hb
    rw [show (i * 256 + n) / 256 = i by omega] at this
    exact hi this
  site h := hi (h ▸ by decide)
  command hc := by
    have hall : ∀ b ∈ commandKeys, b / 256 ∈ boundIndices := by decide
    have := hall _ hc
    rw [show (i * 256 + n) / 256 = i by omega] at this
    exact hi this

/-- A row that stands for a range of indices is found at each of them, where no row before it in the table stands for an index
of the range and the same sub-index. -/
theorem findRow_of_range {g lo hi n i : Nat} {r : EntryRow} (hg : i / 0x1000 = g) (hlo : lo ≤ i) (hhi : i ≤ hi)
    (hfind : (entryRows g).find? (fun x => x.lo ≤ hi && lo ≤ x.hi && (if x.lane then n % 16 == x.sub && n / 16 < 4 else n == x.sub)) =
      some r) (hr : r.lo ≤ lo ∧ hi ≤ r.hi) : findRow i n = some r := by
  obtain ⟨hp, as, bs, hl, hbefore⟩ := List.find?_eq_some_iff_append.1 hfind
  simp only [Bool.and_eq_true] at hp
  refine (congrArg (fun k => (entryRows k).find? (fun x => x.names i n)) hg).trans
    (List.find?_eq_some_iff_append.2 ⟨?_, as, bs, hl, fun a ha => ?_⟩)
  · simp only [EntryRow.names, Bool.and_eq_true, decide_eq_true_eq]
    exact ⟨⟨by omega, by omega⟩, hp.2⟩
  · have hno := hbefore a ha
    rw [Bool.not_eq_true', Bool.and_eq_false_iff, Bool.and_eq_false_iff] at hno
    rw [EntryRow.names, Bool.not_eq_true', Bool.and_eq_false_iff, Bool.and_eq_false_iff]
    simp only [decide_eq_false_iff_not] at hno ⊢
    exact hno.imp_left fun h => h.imp (fun h => by omega) fun h => by omega

/-- An entry of a range of indices from `lo` on. -/
theorem PlainEntry.of_range {lo w n : Nat} {r : EntryRow} (p : Fin w) (hn : n < 256) (hg : (lo + w - 1) / 0x1000 = lo / 0x1000)
    (hfind : (entryRows (lo / 0x1000)).find? (fun x => x.lo ≤ lo + w - 1 && lo ≤ x.hi &&
      (if x.lane then n % 16 == x.sub && n / 16 < 4 else n == x.sub)) = some r)
    (hr : r.lo ≤ lo ∧ lo + w - 1 ≤ r.hi) (hi : ∀ b ∈ boundIndices, b < lo ∨ lo + w ≤ b) :
    PlainEntry ((lo + p.val) * 256 + n) (lo + p.val) n r := by
  have hp := p.isLt
  refine .of_index hn (findRow_of_range (by omega) (by omega) (by omega) hfind hr) fun hb => ?_
  have := hi _ hb
  omega

/-- An entry that the spec's table names by its key. -/
theorem PlainEntry.of_key {k i n : Nat} {r : EntryRow} (hk : k = i * 256 + n) (hn : n < 256) (hr : findRow i n = some r)
    (hi : i ∉ boundIndices) : PlainEntry k i n r := hk ▸ .of_index hn hr hi

section
variable {k i n : Nat} {r : EntryRow} (h : PlainEntry k i n r) {pl : List Byte}
include h

theorem PlainEntry.index : k / 256 = i := by
  have := h.key
  have := h.sub_lt
  omega

theorem PlainEntry.sub : k % 256 = n := by
  have := h.key
  have := h.sub_lt
  omega

theorem PlainEntry.breaks (d : Dev) (v : Nat) : d.breaks (i * 256 + n) v = false :=
  h.key ▸ d.breaks_of_free h.unbound (h.index.symm ▸ h.site) v

/-- A value of the entry's length and range is tried by the rules of its Meaning. -/
theorem PlainEntry.tried (d : Dev) (sh : List ShadowSet) (token : BitVec 64) (hl : lengthFits r k pl.length = true)
    (hv : rangeFits r (r.value pl) = true) : d.tryWrite sh false token (k / 256) (k % 256) pl =
      match d.refuseEntry sh false i n (r.value pl) pl with
      | some e => (some e, d)
      | none => (none, d.writeEntry r token i n (r.value pl) pl) := by
  have hk := h.key
  rw [h.index, h.sub]
  unfold Dev.tryWrite
  simp only [h.row]
  rw [← hk, hl, if_neg (by simp)]
  refine (if_neg (by rw [← EntryRow.value, hv]; simp)).trans ?_
  rw [d.tierCmd_of_other h.command]
  rfl

variable {s : State} {d d1 : Dev} (hl : lengthFits r k pl.length = true) (hv : rangeFits r (r.value pl) = true)
include hl hv

theorem PlainEntry.takes (hs : d.refuseEntry s.shadows false i n (r.value pl) pl = none)
    (hw : ∀ token, d.writeEntry r token i n (r.value pl) pl = d1) : s.takes k pl d d1 := by
  intro j q role hj hm
  refine exec_write_of_tried (st := none) hj hm ((h.tried d _ _ hl hv).trans ?_)
  rw [hs, hw]

theorem PlainEntry.turnsAway {st : Status} (hs : d.refuseEntry s.shadows false i n (r.value pl) pl = some st) :
    s.turnsAway k pl d st := by
  intro j q role hj hm
  refine exec_write_of_tried (st := some st) hj hm ((h.tried d _ _ hl hv).trans ?_)
  rw [hs]

end

theorem State.takes.takesTo {s : State} {k : Nat} {pl : List Byte} {d d1 : Dev} {P : Dev → Prop} (h : s.takes k pl d d1) (hP : P d1) :
    s.takesTo k pl d P := fun i q role hi hm => ⟨d1, h i q role hi hm, hP⟩

/-! ## The rules and effects of each range of indices -/

/-- The refusal of a range of indices, by its first digit. -/
def Dev.refuseRange (d : Dev) (sh : List ShadowSet) (g i n v : Nat) (bs : List Byte) : Option Status :=
  match g with
  | 2 => d.refuseLink i n v
  | 3 => d.refuseSwitch i n v bs
  | 4 => d.refuseColl i n v bs
  | 5 | 6 => d.refuseTier i n v bs
  | _ => d.refuseUpper sh (i * 256 + n) v bs

/-- The effect of a range of indices, by its first digit. -/
def Dev.writeRange (d : Dev) (r : EntryRow) (token : BitVec 64) (g i n v : Nat) (bs : List Byte) : Dev :=
  match g with
  | 2 => d.writeLink i n v
  | 3 => d.writeSwitch i n v bs
  | 4 => d.writeColl r i n v bs
  | 5 | 6 => d.writeTier r i n v bs
  | _ => d.writeUpper r token (i * 256 + n) v bs

section
variable {k i n : Nat} {r : EntryRow} (h : PlainEntry k i n r) {pl : List Byte} {g v : Nat} (hg : i / 0x1000 = g)
include h hg

theorem PlainEntry.refuseEntry_eq (d : Dev) (sh : List ShadowSet) (bs : List Byte) :
    d.refuseEntry sh false i n v bs = d.refuseRange sh g i n v bs := by
  subst hg
  exact if_neg (by simp [h.breaks])

variable {s : State} {d d1 : Dev} (hl : lengthFits r k pl.length = true) (hv : r.value pl = v) (hr : rangeFits r v = true)
include hl hv hr

/-- A value that the rules of its range let pass is written. -/
theorem PlainEntry.takes_of (hs : d.refuseRange s.shadows g i n v pl = none)
    (hw : ∀ token, d.writeRange r token g i n v pl = d1) : s.takes k pl d d1 := by
  subst hv
  refine h.takes hl hr ((h.refuseEntry_eq hg d _ pl).trans hs) fun token => ?_
  subst hg
  exact hw token

theorem PlainEntry.turnsAway_of {st : Status} (hs : d.refuseRange s.shadows g i n v pl = some st) : s.turnsAway k pl d st := by
  subst hv
  exact h.turnsAway hl hr ((h.refuseEntry_eq hg d _ pl).trans hs)

end

end Sys2Proof.Machine
end

section
/-! The writes of queue pairs, DMA channels and CONSUMED (O32). -/

namespace Sys2Proof.Machine

/-! ## Numbers as bytes -/

theorem leNat_leBytes (n v : Nat) : leNat (leBytes n v) = v % 256 ^ n := by
  induction n generalizing v with
  | zero => simp [leBytes, leNat, Nat.mod_one]
  | succ n ih =>
    have hstep : leNat (leBytes (n + 1) v) = v % 256 + 256 * leNat (leBytes n (v / 256)) := by simp [leBytes, leNat]
    rw [hstep, ih, Nat.pow_succ', Nat.mod_mul]

theorem length_leBytes (n v : Nat) : (leBytes n v).length = n := by
  induction n generalizing v with
  | zero => rfl
  | succ n ih => simp [leBytes, ih]

@[simp] theorem length_beBytes (n v : Nat) : (beBytes n v).length = n := by simp [beBytes, length_leBytes]

theorem beNat_reverse (bs : List Byte) : beNat bs.reverse = leNat bs := by
  simp only [beNat, leNat, List.foldl_reverse]
  congr
  funext b a
  omega

theorem beNat_beBytes {n v : Nat} (h : v < 256 ^ n) : beNat (beBytes n v) = v := by
  rw [beBytes, beNat_reverse, leNat_leBytes, Nat.mod_eq_of_lt h]

/-! ## The entries -/

theorem plainEntry_qpState (n : QpNo) :
    PlainEntry (E.QP_STATE n.val) (0x6040 + n.val) 1 (row 0x6040 0x607f 1 .u8 .rw 0 0 1 none) :=
  .of_range n (by decide) (by decide) rfl (by decide) (by decide)

theorem plainEntry_dmaStart (n : ChanNo) :
    PlainEntry (E.DMA_START n.val) (0x6100 + n.val) 1 (row 0x6100 0x613f 1 .u64 .wo 0 0 0xffffffffffffffff none) :=
  .of_range n (by decide) (by decide) rfl (by decide) (by decide)

theorem plainEntry_dmaCmd (n : ChanNo) :
    PlainEntry (E.DMA_CMD n.val) (0x6100 + n.val) 3 (row 0x6100 0x613f 3 .u8 .wo 0 1 1 none) :=
  .of_range n (by decide) (by decide) rfl (by decide) (by decide)

theorem plainEntry_consumed (n : ChanNo) :
    PlainEntry (E.CONSUMED n.val) (0x6100 + n.val) 8 (row 0x6100 0x613f 8 .u64 .rw 0 0 0xffffffffffffffff none) :=
  .of_range n (by decide) (by decide) rfl (by decide) (by decide)

/-! ## Their rules and effects -/

section
variable (d : Dev) (r : EntryRow) (v : Nat) (bs : List Byte)

theorem Dev.refuseTier_qpState (n : QpNo) : d.refuseTier (0x6040 + n.val) 1 v bs = d.refuseQpState n.val v := by
  unfold Dev.refuseTier
  iterate 3 refine (if_neg (by simp only [E.COMPUTE_INJECT, E.BINDINGS, E.WHISTLE_DESC]; omega)).trans ?_
  refine (if_pos (by simp; omega)).trans ((if_pos rfl).trans ?_)
  rw [Nat.add_sub_cancel_left]

theorem Dev.refuseTier_dma (n : ChanNo) (sub : Nat) : d.refuseTier (0x6100 + n.val) sub v bs =
    if sub = 1 then d.refuseDmaStart n
    else if sub = 5 || sub = 6 then
      let d1 := d.setReg ((0x6100 + n.val) * 256 + sub) v
      let hi := d1.reg (E.PACE_HIGH n)
      let lo := d1.reg (E.PACE_LOW n)
      orElse (refuseIf (hi ≤ lo && (hi != 0 || lo != 0)) .invalidValue) (refuseIf ((d.chan n).state != .idle) .stateConflict)
    else if sub = 8 then d.refuseConsumed n v
    else none := by
  unfold Dev.refuseTier
  iterate 3 refine (if_neg (by simp only [E.COMPUTE_INJECT, E.BINDINGS, E.WHISTLE_DESC]; omega)).trans ?_
  iterate 2 refine (if_neg (by simp; omega)).trans ?_
  refine (if_pos (by simp; omega)).trans ?_
  rw [Nat.add_sub_cancel_left]

theorem Dev.writeTier_qpState (n : QpNo) : d.writeTier r (0x6040 + n.val) 1 v bs = d.writeQpState n.val v := by
  unfold Dev.writeTier
  iterate 7
    refine (if_neg (by
      simp only [E.COMPUTE_INJECT, E.WHISTLE_DESC, E.WHISTLE_COUNT, E.WHISTLE_CMD, E.CHAIN_ADDR, E.INIT_STEP, E.PROG_IMAGE]
      omega)).trans ?_
  refine (if_pos (by simp; omega)).trans ((if_pos rfl).trans ?_)
  rw [Nat.add_sub_cancel_left]

theorem Dev.writeTier_dma (n : ChanNo) (sub : Nat) (hs : sub < 256) : d.writeTier r (0x6100 + n.val) sub v bs =
    if sub = 1 then d.dmaStart n ⟨v, none⟩
    else if sub = 3 then d.dmaReset n
    else if sub = 8 then d.writeConsumed n v
    else d.setReg ((0x6100 + n.val) * 256 + sub) v := by
  unfold Dev.writeTier
  iterate 7
    refine (if_neg (by
      simp only [E.COMPUTE_INJECT, E.WHISTLE_DESC, E.WHISTLE_COUNT, E.WHISTLE_CMD, E.CHAIN_ADDR, E.INIT_STEP, E.PROG_IMAGE]
      omega)).trans ?_
  refine (if_neg (by simp; omega)).trans ((if_pos (by simp; omega)).trans ?_)
  rw [Nat.add_sub_cancel_left]

end

/-! ## What the writes do -/

/-- Users that are no channel's descriptor do not fail with their queue pair. -/
theorem Dev.failUsers_of_no_dma (d : Dev) {us : List QpUse} (h : ∀ u ∈ us, ∀ c, u ≠ .dma c) : d.failUsers us = d := by
  induction us with
  | nil => rfl
  | cons u us ih =>
    have hrest := ih fun x hx => h x (List.mem_cons_of_mem _ hx)
    cases u with
    | dma c => exact absurd rfl (h _ List.mem_cons_self c)
    | bridge => exact hrest
    | interrupt _ => exact hrest
    | dropped => exact hrest

section
variable {s : State} {d : Dev}

theorem State.takes_qpRts (n : QpNo) (h : (d.qp n.val).state = 0) : s.takes (E.QP_STATE n.val) [1] d
    (d.setQp n.val { state := 1, sqPsn := d.reg (E.SQ_PSN n.val), rqPsn := d.reg (E.RQ_PSN n.val), lastRise := d.tick }) := by
  refine (plainEntry_qpState n).takes_of (g := 6) (v := 1) (by omega) rfl rfl rfl ?_ fun _ => d.writeTier_qpState _ _ _ n
  exact (d.refuseTier_qpState _ _ n).trans ((if_neg (by decide)).trans (if_neg (by simp [h])))

theorem State.turnsAway_qpRts (n : QpNo) (h : (d.qp n.val).state ≠ 0) : s.turnsAway (E.QP_STATE n.val) [1] d .stateConflict := by
  refine (plainEntry_qpState n).turnsAway_of (g := 6) (v := 1) (by omega) rfl rfl rfl ?_
  exact (d.refuseTier_qpState _ _ n).trans ((if_neg (by decide)).trans (if_pos (by simp [h])))

theorem State.takes_qpReset (n : QpNo) (h : ∀ u ∈ d.qpUses n.val, ∀ c, u ≠ .dma c) : s.takes (E.QP_STATE n.val) [0] d
    { d.setQp n.val {} with bridge := d.bridge.filter (fun r => r.qp != n.val) } := by
  refine (plainEntry_qpState n).takes_of (g := 6) (v := 0) (by omega) rfl rfl rfl ?_ fun _ => ?_
  · exact (d.refuseTier_qpState _ _ n).trans rfl
  · exact (d.writeTier_qpState _ _ _ n).trans (Dev.failUsers_of_no_dma _ h)

theorem Dev.chan_dmaReset_same (n : Nat) : (d.dmaReset n).chan n = {} := Dev.chan_setChan_same d n {}

theorem Dev.chan_dmaReset_other {n m : Nat} (h : m ≠ n) : (d.dmaReset n).chan m = d.chan m :=
  (congrArg (Option.getD · ({} : DmaCh)) (tget_tset_other d.dma {} h) :)

theorem Dev.produced_dmaReset (n : Nat) : (d.dmaReset n).reg (E.PRODUCED n) = 0 := by
  unfold Dev.dmaReset
  rw [Dev.reg_setReg_other _ _ (by simp [E.PRODUCED, E.CONSUMED]), Dev.reg_setReg_same]

theorem Dev.consumed_dmaReset (n : Nat) : (d.dmaReset n).reg (E.CONSUMED n) = 0 := Dev.reg_setReg_same _ _ _

theorem State.takes_dmaReset (n : ChanNo) : s.takes (E.DMA_CMD n.val) [1] d (d.dmaReset n.val) :=
  (plainEntry_dmaCmd n).takes_of (g := 6) (v := 1) (by omega) rfl rfl rfl (d.refuseTier_dma _ _ n 3)
    fun _ => d.writeTier_dma _ _ _ n 3 (by decide)

variable (n : ChanNo) (v : BitVec 64)

theorem value_beBytes_u64 {r : EntryRow} (hr : r.ty = .u64) : r.value (beBytes 8 v.toNat) = v.toNat := by
  rw [EntryRow.value, hr]
  exact beNat_beBytes v.isLt

theorem rangeFits_u64 {r : EntryRow} (hmin : r.minV = 0) (hmax : r.maxV = 0xffffffffffffffff) : rangeFits r v.toNat = true := by
  have := v.isLt
  simp only [rangeFits, hmin, hmax]
  simp
  omega

theorem State.takes_dmaStart (h : d.dmaFull n.val = false) :
    s.takes (E.DMA_START n.val) (beBytes 8 v.toNat) d (d.dmaStart n.val ⟨v.toNat, none⟩) := by
  refine (plainEntry_dmaStart n).takes_of (g := 6) (by omega) (by rw [length_beBytes]; rfl) (value_beBytes_u64 v rfl)
    (rangeFits_u64 v rfl rfl) ?_ fun _ => d.writeTier_dma _ _ _ n 1 (by decide)
  exact (d.refuseTier_dma _ _ n 1).trans (if_neg (by simp [h]) : d.refuseDmaStart n.val = none)

theorem State.turnsAway_dmaStart (h : d.dmaFull n.val = true) :
    s.turnsAway (E.DMA_START n.val) (beBytes 8 v.toNat) d .stateConflict := by
  refine (plainEntry_dmaStart n).turnsAway_of (g := 6) (by omega) (by rw [length_beBytes]; rfl) (value_beBytes_u64 v rfl)
    (rangeFits_u64 v rfl rfl) ?_
  exact (d.refuseTier_dma _ _ n 1).trans (if_pos h : d.refuseDmaStart n.val = _)

theorem State.takes_consumed (h : v.toNat ≤ d.reg (E.PRODUCED n.val)) :
    s.takes (E.CONSUMED n.val) (beBytes 8 v.toNat) d (d.writeConsumed n.val v.toNat) := by
  refine (plainEntry_consumed n).takes_of (g := 6) (by omega) (by rw [length_beBytes]; rfl) (value_beBytes_u64 v rfl)
    (rangeFits_u64 v rfl rfl) ?_ fun _ => d.writeTier_dma _ _ _ n 8 (by decide)
  exact (d.refuseTier_dma _ _ n 8).trans (if_neg (Nat.not_lt.2 h) : d.refuseConsumed n.val v.toNat = none)

theorem State.turnsAway_consumed (h : d.reg (E.PRODUCED n.val) < v.toNat) :
    s.turnsAway (E.CONSUMED n.val) (beBytes 8 v.toNat) d .invalidValue := by
  refine (plainEntry_consumed n).turnsAway_of (g := 6) (by omega) (by rw [length_beBytes]; rfl) (value_beBytes_u64 v rfl)
    (rangeFits_u64 v rfl rfl) ?_
  exact (d.refuseTier_dma _ _ n 8).trans (if_pos h : d.refuseConsumed n.val v.toNat = _)

end

/-- Only a paused channel notes that its fill level has fallen. -/
theorem Dev.writeConsumed_of_running {d : Dev} {n : Nat} (h : (d.chan n).state = .running) (v : Nat) :
    d.writeConsumed n v = d.setReg (E.CONSUMED n) v := by
  have hst : ((d.setReg (E.CONSUMED n) v).chan n).state = .running := h
  exact if_neg (by simp [hst])

/-- Settles O32: each entry's row, rule and effect are read off its index, and the effect's fields follow. -/
theorem hostAndDmaWrites : Obligations.HostAndDmaWrites := by
  refine ⟨fun _ _ n h => State.takes_qpRts n h, fun _ _ n h => State.turnsAway_qpRts n h,
    fun _ _ n h => State.takes_qpReset n h, fun _ d n a => ⟨State.turnsAway_dmaStart n a, fun hf hr => ?_, fun hf hi => ?_⟩,
    fun _ _ n => (State.takes_dmaReset n).takesTo ?_, fun _ d n v => ⟨State.turnsAway_consumed n v, fun hv hr => ?_⟩⟩
  · have hstart : d.dmaStart n.val ⟨a.toNat, none⟩ = _ := if_neg (by rw [hr]; decide)
    exact hstart ▸ State.takes_dmaStart n a hf
  · have hstart : d.dmaStart n.val ⟨a.toNat, none⟩ = _ := if_pos hi
    exact hstart ▸ State.takes_dmaStart n a hf
  · exact ⟨Dev.chan_dmaReset_same _, Dev.produced_dmaReset _, Dev.consumed_dmaReset _, rfl, fun _ => Dev.chan_dmaReset_other⟩
  · exact Dev.writeConsumed_of_running hr v.toNat ▸ State.takes_consumed n v hv

end Sys2Proof.Machine
end

section
/-! The writes of the sentry and of telemetry (O33). -/

namespace Sys2Proof.Machine

/-! ## Numbers as bytes -/

theorem beNat_append (a b : List Byte) : beNat (a ++ b) = beNat a * 256 ^ b.length + beNat b := by
  induction b using List.reverseRecOn with
  | nil => simp [beNat]
  | append_singleton b x ih =>
    have hlast : ∀ bs : List Byte, beNat (bs ++ [x]) = beNat bs * 256 + x.toNat := fun bs => by simp [beNat]
    rw [← List.append_assoc, hlast, hlast, ih, List.length_append, List.length_singleton, Nat.pow_succ]
    ring

theorem beNat_cons (x : Byte) (b : List Byte) : beNat (x :: b) = x.toNat * 256 ^ b.length + beNat b := by
  have hone : beNat [x] = x.toNat := by simp [beNat]
  rw [← List.singleton_append, beNat_append, hone]

theorem beNat_lt (b : List Byte) : beNat b < 256 ^ b.length := by
  induction b with
  | nil => simp [beNat]
  | cons x b ih =>
    have := x.isLt
    rw [beNat_cons, List.length_cons, Nat.pow_succ]
    nlinarith

theorem beNat_zeros (n : Nat) : beNat (List.replicate n 0) = 0 := by
  induction n with
  | zero => rfl
  | succ n ih => rw [List.replicate_succ, beNat_cons, ih]; simp

/-- A fixed number within the width of its type is in the range of an entry that takes every value. -/
theorem rangeFits_of_le {r : EntryRow} {v : Nat} (h1 : r.minV ≤ v) (h2 : v ≤ r.maxV) : rangeFits r v = true := by
  simp [rangeFits, h1, h2]

/-! ## The entries -/

theorem plainEntry_faultAck : PlainEntry E.FAULT_ACK 0x7000 4 (row 0x7000 0x7000 4 .u64 .wo 0 0 0xffffffffffffffff none) :=
  .of_key rfl (by decide) rfl (by decide)

theorem plainEntry_faultInject : PlainEntry E.FAULT_INJECT 0x7040 1 (row 0x7040 0x7040 1 .u32 .wo 0 0 0xffffffff none) :=
  .of_key rfl (by decide) rfl (by decide)

theorem plainEntry_counterClear : PlainEntry E.COUNTER_CLEAR 0x8000 2 (row 0x8000 0x8000 2 .u32 .wo 0 0 0xffffffff none) :=
  .of_key rfl (by decide) rfl (by decide)

theorem plainEntry_snapCmd : PlainEntry E.SNAP_CMD 0x8020 1 (row 0x8020 0x8020 1 .octets .wo 0 0x10 0x10 none) :=
  .of_key rfl (by decide) rfl (by decide)

theorem plainEntry_sampleDir : PlainEntry E.SAMPLE_DIR 0x8040 3 (row 0x8040 0x8040 3 .u8 .rwp 3 0 3 none) :=
  .of_key rfl (by decide) rfl (by decide)

section
variable {s : State} {d : Dev}

/-! ## FAULT_ACK -/

theorem classOf_classCode (c : FaultClass) : classOf (classCode c) = some c := by cases c <;> rfl

section
variable {c : FaultClass} {v : List Byte} (hl : v.length = 8) (hc : bits (beNat v) 56 8 = classCode c) (hz : bits (beNat v) 32 24 = 0)
include hc

theorem Dev.refuseAck_of_class (d : Dev) (hz : bits (beNat v) 32 24 = 0) : d.refuseAck (beNat v) =
    if (d.sentry.record c).isOpen && (d.sentry.record c).count = bits (beNat v) 0 32 then none else some .stateConflict := by
  unfold Dev.refuseAck
  simp only [hc, classOf_classCode]
  exact if_neg (by simp [hz])

theorem Dev.writeAck_of_class (d : Dev) : d.writeAck (beNat v) = { d with sentry := d.sentry.setRecord c {} } := by
  unfold Dev.writeAck
  simp only [hc, classOf_classCode]

include hl hz

theorem State.takes_faultAck (ho : (d.sentry.record c).isOpen = true) (hn : (d.sentry.record c).count = bits (beNat v) 0 32) :
    s.takes E.FAULT_ACK v d { d with sentry := d.sentry.setRecord c {} } := by
  have hlt := beNat_lt v
  rw [hl] at hlt
  refine plainEntry_faultAck.takes_of (g := 7) rfl (by rw [hl]; rfl) rfl (rangeFits_of_le (Nat.zero_le _) (Nat.le_of_lt_succ hlt)) ?_
    fun _ => Dev.writeAck_of_class hc d
  exact (Dev.refuseAck_of_class hc d hz).trans (if_pos (by simp [ho, hn]))

theorem State.turnsAway_faultAck (h : (d.sentry.record c).isOpen = false ∨ (d.sentry.record c).count ≠ bits (beNat v) 0 32) :
    s.turnsAway E.FAULT_ACK v d .stateConflict := by
  have hlt := beNat_lt v
  rw [hl] at hlt
  refine plainEntry_faultAck.turnsAway_of (g := 7) rfl (by rw [hl]; rfl) rfl
    (rangeFits_of_le (Nat.zero_le _) (Nat.le_of_lt_succ hlt)) ?_
  exact (Dev.refuseAck_of_class hc d hz).trans (if_neg (by simpa [or_iff_not_imp_left] using h))

end

/-! ## FAULT_INJECT -/

section
variable {pl : List Byte} (hl : pl.length = 4) (h1 : 1 ≤ bits (beNat pl) 24 8) (h14 : bits (beNat pl) 24 8 ≤ 14)
  (ht : bits (beNat pl) 16 8 = 0) (hn : bits (beNat pl) 0 16 ≠ 0)

include h1 h14 ht hn in
theorem Dev.refuseFaultInject_of_target (d : Dev) :
    d.refuseFaultInject (beNat pl) = if d.reg E.FAULT_INJECT_LEFT != 0 then some .stateConflict else none := by
  have hc : (bits (beNat pl) 24 8 = 0) = False := eq_false (by omega)
  have hc14 : (0x0E < bits (beNat pl) 24 8) = False := eq_false (by omega)
  unfold Dev.refuseFaultInject
  simp only [ht, hc, hc14, hn, decide_false, Bool.false_or, Nat.zero_le, decide_true]
  refine if_neg ?_
  cases injectTop (bits (beNat pl) 24 8) <;> simp

include ht in
theorem Dev.writeFaultInject_of_target (d : Dev) : d.writeFaultInject (beNat pl) =
    { d.setReg E.FAULT_INJECT_LEFT (bits (beNat pl) 0 16) with
      sentry := { d.sentry with inject := some ⟨bits (beNat pl) 24 8, 0⟩ } } := by
  unfold Dev.writeFaultInject
  simp only [ht, ite_self]

include hl h1 h14 ht hn

theorem State.takes_faultInject (h : d.reg E.FAULT_INJECT_LEFT = 0) : s.takes E.FAULT_INJECT pl d
    { d.setReg E.FAULT_INJECT_LEFT (bits (beNat pl) 0 16) with
      sentry := { d.sentry with inject := some ⟨bits (beNat pl) 24 8, 0⟩ } } := by
  have hlt := beNat_lt pl
  rw [hl] at hlt
  refine plainEntry_faultInject.takes_of (g := 7) rfl (by rw [hl]; rfl) rfl
    (rangeFits_of_le (Nat.zero_le _) (Nat.le_of_lt_succ hlt)) ?_ fun _ => Dev.writeFaultInject_of_target ht d
  exact (Dev.refuseFaultInject_of_target h1 h14 ht hn d).trans (if_neg (by simp [h]))

theorem State.turnsAway_faultInject (h : d.reg E.FAULT_INJECT_LEFT ≠ 0) : s.turnsAway E.FAULT_INJECT pl d .stateConflict := by
  have hlt := beNat_lt pl
  rw [hl] at hlt
  refine plainEntry_faultInject.turnsAway_of (g := 7) rfl (by rw [hl]; rfl) rfl
    (rangeFits_of_le (Nat.zero_le _) (Nat.le_of_lt_succ hlt)) ?_
  exact (Dev.refuseFaultInject_of_target h1 h14 ht hn d).trans (if_pos (by simp [h]))

end

/-! ## COUNTER_CLEAR -/

theorem State.takes_counterClear {k : BitVec 24} (hk : isCounter (k.toNat / 256) (k.toNat % 256) = true) :
    s.takes E.COUNTER_CLEAR (0 :: beBytes 3 k.toNat) d (d.writeClear k.toNat) := by
  have hlt := k.isLt
  have hv : beNat (0 :: beBytes 3 k.toNat) = k.toNat := by
    rw [beNat_cons, beNat_beBytes (by simpa using hlt)]
    simp
  refine plainEntry_counterClear.takes_of (g := 8) rfl (by rw [List.length_cons, length_beBytes]; rfl) hv
    (rangeFits_of_le (Nat.zero_le _) (by change _ ≤ 0xffffffff; omega)) ?_ fun _ => rfl
  have hhi : bits k.toNat 24 8 = 0 := by simp only [bits]; omega
  have hidx : bits k.toNat 8 16 = k.toNat / 256 := by simp only [bits]; omega
  have hsub : bits k.toNat 0 8 = k.toNat % 256 := by simp [bits]
  show refuseClear k.toNat = none
  unfold refuseClear
  simp only [hhi, hidx, hsub, hk]
  simp

theorem State.takes_counterClearAll : s.takes E.COUNTER_CLEAR [0, 0, 0, 0] d d.clearAll :=
  plainEntry_counterClear.takes_of (g := 8) (v := 0) rfl rfl rfl rfl rfl fun _ => rfl

theorem Dev.writeClear_of_register {k : Nat} (h0 : k ≠ 0) (hw : k ≠ E.WHISTLE_FIRES) (hp : k ≠ E.PROG_ELEMENTS) :
    d.writeClear k = d.clearCounter k := (if_neg h0).trans ((if_neg hw).trans (if_neg hp))

theorem Dev.reg_clearCounter_same {k : Nat} (h : keyDefault k = 0) : (d.clearCounter k).reg k = 0 := by
  show (tget (terase d.regs k) k).getD _ = 0
  rw [tget_terase, if_pos rfl]
  exact h

theorem Dev.reg_clearCounter_other {j k : Nat} (h : j ≠ k) : (d.clearCounter k).reg j = d.reg j := by
  show (tget (terase d.regs k) j).getD _ = _
  rw [tget_terase, if_neg h]
  rfl

theorem Dev.reg_clearAll {k : Nat} (hk : isCounter (k / 256) (k % 256) = true) (h0 : keyDefault k = 0) : d.clearAll.reg k = 0 := by
  show (tget (d.regs.filter (fun e => !isCounter (e.1 / 256) (e.1 % 256) && e.1 != E.ANY_SATURATED)) k).getD _ = 0
  rw [tget_filter (fun j => !isCounter (j / 256) (j % 256) && j != E.ANY_SATURATED), if_neg (by simp [hk])]
  exact h0

/-! ## SNAP_CMD -/

section
variable {id : BitVec 32} {w : List Byte}

theorem snapId : beNat (slice (beBytes 4 id.toNat ++ w) 0 4) = id.toNat := by
  rw [slice, List.drop_zero, List.take_left' (length_beBytes 4 _)]
  exact beNat_beBytes id.isLt

/-- A field of SNAP_CMD behind the SNAP_ID. -/
theorem slice_snap (a n : Nat) : slice (beBytes 4 id.toNat ++ w) (4 + a) n = slice w a n := by
  unfold slice
  rw [← List.drop_drop, List.drop_left' (length_beBytes 4 _)]

end

theorem Dev.refuseSnap_of_fresh {sh : List ShadowSet} {v : List Byte} (hz : beNat (slice v 5 3) = 0) (he : beNat (slice v 4 1) ≤ 1)
    (ha : d.tele.arm = none) (h0 : 0 < beNat (slice v 0 4)) (hs : ∀ x ∈ sh, x.id ≠ beNat (slice v 0 4))
    (ht : d.tick + 64 ≤ beNat (slice v 8 8)) : d.refuseSnap sh v = none := by
  have hc : d.snapCancels v = false := by
    unfold Dev.snapCancels
    rw [ha]
  refine (if_neg (by simp [hz, he])).trans ((if_neg (by simp [hc])).trans ?_)
  refine (if_neg ?_).trans ((if_neg (Nat.not_lt.2 ht)).trans (if_neg (by simp [ha])))
  simp only [List.any_eq_true, decide_eq_true_eq, Bool.or_eq_true, not_or, not_exists, not_and]
  exact ⟨by omega, hs⟩

theorem Dev.refuseRange_snapCmd (sh : List ShadowSet) (v : List Byte) : d.refuseRange sh 8 0x8020 1 0 v = d.refuseSnap sh v := rfl

theorem Dev.writeRange_snapCmd (r : EntryRow) (token : BitVec 64) (v : List Byte) :
    d.writeRange r token 8 0x8020 1 0 v = d.writeSnap v := rfl

theorem State.takes_snap {v : List Byte} (hl : v.length = 16) (h : d.refuseSnap s.shadows v = none) :
    s.takes E.SNAP_CMD v d (d.writeSnap v) :=
  plainEntry_snapCmd.takes_of (g := 8) (v := 0) rfl (by rw [hl]; rfl) rfl rfl ((d.refuseRange_snapCmd _ v).trans h)
    fun _ => d.writeRange_snapCmd _ _ v

theorem Dev.snapCancels_of_armed {v : List Byte} {a : SnapArm} (ha : d.tele.arm = some a) (hid : a.id = beNat (slice v 0 4))
    (hz : beNat (slice v 8 8) = 0) (ht : d.tick < a.target) : d.snapCancels v = true := by
  unfold Dev.snapCancels
  rw [ha]
  simp [hid, hz, ht]

theorem Dev.refuseSnap_of_cancel {sh : List ShadowSet} {v : List Byte} (hz : beNat (slice v 5 3) = 0) (he : beNat (slice v 4 1) = 0)
    (hc : d.snapCancels v = true) : d.refuseSnap sh v = none :=
  (if_neg (by simp [hz, he])).trans (if_pos hc)

/-- SNAP_CMD with no ENDPOINTS and a tick ahead arms a snapshot. -/
theorem State.takes_snapArm {id : BitVec 32} {t : BitVec 64} (ha : d.tele.arm = none) (h0 : 0 < id.toNat)
    (hs : ∀ x ∈ s.shadows, x.id ≠ id.toNat) (ht : d.tick + 64 ≤ t.toNat) :
    s.takes E.SNAP_CMD (beBytes 4 id.toNat ++ List.replicate 4 0 ++ beBytes 8 t.toNat) d { d with tele := { d.tele with
        arm := some { id := id.toNat, target := t.toNat, endpoints := false, armedAt := d.tick }, lastId := id.toNat, copied := false,
        snapState := 1, epTaken := 0, epLate := 0 } } := by
  rw [List.append_assoc]
  have hep : beNat (slice (beBytes 4 id.toNat ++ (List.replicate 4 0 ++ beBytes 8 t.toNat)) 4 1) = 0 := by
    rw [slice_snap 0 1]
    rfl
  have hz : beNat (slice (beBytes 4 id.toNat ++ (List.replicate 4 0 ++ beBytes 8 t.toNat)) 5 3) = 0 := by
    rw [slice_snap 1 3]
    rfl
  have htick : beNat (slice (beBytes 4 id.toNat ++ (List.replicate 4 0 ++ beBytes 8 t.toNat)) 8 8) = t.toNat := by
    rw [slice_snap 4 8, slice, List.drop_left' (List.length_replicate ..), List.take_of_length_le (by simp)]
    exact beNat_beBytes t.isLt
  have hok : d.refuseSnap s.shadows (beBytes 4 id.toNat ++ (List.replicate 4 0 ++ beBytes 8 t.toNat)) = none := by
    refine Dev.refuseSnap_of_fresh hz (hep ▸ Nat.zero_le _) ha ?_ ?_ ?_
    · rwa [snapId]
    · rwa [snapId]
    · rwa [htick]
  have hc : d.snapCancels (beBytes 4 id.toNat ++ (List.replicate 4 0 ++ beBytes 8 t.toNat)) = false := by
    unfold Dev.snapCancels
    rw [ha]
  have hw := State.takes_snap (by simp) hok
  unfold Dev.writeSnap at hw
  rw [hc, snapId, htick, hep] at hw
  exact hw

/-- SNAP_CMD with the armed SNAP_ID and no tick cancels it. -/
theorem State.takes_snapCancel {id : BitVec 32} {a : SnapArm} (ha : d.tele.arm = some a) (hid : a.id = id.toNat)
    (ht : d.tick < a.target) : s.takes E.SNAP_CMD (beBytes 4 id.toNat ++ List.replicate 12 0) d
      { d with tele := { d.tele with arm := none, snapState := 0 } } := by
  have hc : d.snapCancels (beBytes 4 id.toNat ++ List.replicate 12 0) = true := by
    refine Dev.snapCancels_of_armed ha (snapId.symm ▸ hid) ?_ ht
    rw [slice_snap 4 8]
    rfl
  have hz : beNat (slice (beBytes 4 id.toNat ++ List.replicate 12 0) 5 3) = 0 := by
    rw [slice_snap 1 3]
    rfl
  have hep : beNat (slice (beBytes 4 id.toNat ++ List.replicate 12 0) 4 1) = 0 := by
    rw [slice_snap 0 1]
    rfl
  have hok : d.refuseSnap s.shadows (beBytes 4 id.toNat ++ List.replicate 12 0) = none :=
    Dev.refuseSnap_of_cancel hz hep hc
  have hw := State.takes_snap (by simp) hok
  unfold Dev.writeSnap at hw
  rwa [hc] at hw

/-! ## The sampling entries -/

theorem Dev.port_sampleReset (d : Dev) (p : Nat) : d.sampleReset.port p = { d.port p with sampRx := 0, sampTx := 0 } :=
  tgetD_map_snd d.ports (fun x => { x with sampRx := 0, sampTx := 0 }) rfl p

theorem State.takes_sampleDir {b : Byte} (h : b.toNat ≤ 3) :
    s.takes E.SAMPLE_DIR [b] d (d.setReg E.SAMPLE_DIR b.toNat).sampleReset := by
  have hv : beNat [b] = b.toNat := by simp [beNat]
  exact plainEntry_sampleDir.takes_of (g := 8) rfl rfl hv (rangeFits_of_le (Nat.zero_le _) h) rfl fun _ => rfl

end

/-- Settles O33: each entry's row, rule and effect are read off its index, and the effect's fields follow. -/
theorem sentryAndTelemetryWrites : Obligations.SentryAndTelemetryWrites := by
  refine ⟨fun s d c v hl hc hz => ⟨State.takes_faultAck hl hc hz, State.turnsAway_faultAck hl hc hz⟩,
    fun s d pl hl h1 h14 ht hn => ⟨State.takes_faultInject hl h1 h14 ht hn, State.turnsAway_faultInject hl h1 h14 ht hn⟩,
    fun s d k hk h0 hw hp hd => (State.takes_counterClear hk).takesTo ?_,
    fun s d => ⟨State.takes_counterClearAll, fun k => Dev.reg_clearAll⟩,
    fun s d id t => ⟨State.takes_snapArm, fun a => State.takes_snapCancel⟩,
    fun s d b hb => (State.takes_sampleDir hb).takesTo ⟨Dev.reg_setReg_same d _ _, fun p => ?_⟩⟩
  · rw [Dev.writeClear_of_register h0 hw hp]
    exact ⟨Dev.reg_clearCounter_same hd, by simp [Dev.clearCounter], by simp [Dev.clearCounter],
      fun j => Dev.reg_clearCounter_other⟩
  · rw [Dev.port_sampleReset]
    exact ⟨rfl, rfl, rfl⟩

end Sys2Proof.Machine
end

section
/-! The writes of sessions, keys, profiles, firmware, attestation, sleep and reset (O34). -/

namespace Sys2Proof.Machine

/-! ## The entries -/

theorem plainEntry_endSessions : PlainEntry E.END_SESSIONS 0x1024 4 (row 0x1024 0x1024 4 .bool .wo 0 1 1 none) :=
  .of_key rfl (by decide) rfl (by decide)

theorem plainEntry_keyBurn : PlainEntry E.KEY_BURN 0xA100 5 (row 0xa100 0xa100 5 .octets .mz 0 0x20 0x20 none) :=
  .of_key rfl (by decide) rfl (by decide)

theorem plainEntry_profileCmd : PlainEntry E.PROFILE_CMD 0xA000 5 (row 0xa000 0xa000 5 .u8 .mz 0 1 1 none) :=
  .of_key rfl (by decide) rfl (by decide)

theorem plainEntry_ownerPubkey : PlainEntry E.OWNER_PUBKEY 0xA100 6 (row 0xa100 0xa100 6 .octets .rw 0 0x180 0x180 none) :=
  .of_key rfl (by decide) rfl (by decide)

theorem plainEntry_fwData : PlainEntry E.FW_DATA 0xA400 4 (row 0xa400 0xa400 4 .octets .mz 0 1 0x10000 none) :=
  .of_key rfl (by decide) rfl (by decide)

theorem plainEntry_fwCmd : PlainEntry E.FW_CMD 0xA400 5 (row 0xa400 0xa400 5 .u8 .mz 0 1 0xff none) :=
  .of_key rfl (by decide) rfl (by decide)

theorem plainEntry_attestNonce : PlainEntry E.ATTEST_NONCE 0xA500 3 (row 0xa500 0xa500 3 .octets .wo 0 0x20 0x20 none) :=
  .of_key rfl (by decide) rfl (by decide)

theorem plainEntry_sleepCmd : PlainEntry E.SLEEP_CMD 0x9100 1 (row 0x9100 0x9100 1 .u8 .wo 0 0 3 none) :=
  .of_key rfl (by decide) rfl (by decide)

theorem plainEntry_resetCmd : PlainEntry E.RESET_CMD 0x9200 1 (row 0x9200 0x9200 1 .u8 .mz 0 1 3 none) :=
  .of_key rfl (by decide) rfl (by decide)

theorem beNat_singleton (b : Byte) : beNat [b] = b.toNat := by simp [beNat]

section
variable {s : State} {d : Dev}

theorem State.takes.congr {k : Nat} {pl : List Byte} {d1 d2 : Dev} (h : s.takes k pl d d1) (he : d1 = d2) : s.takes k pl d d2 := he ▸ h

/-! ## END_SESSIONS -/

theorem exec_endSessions {q : Req} {role : Option Scope} (hm : s.mayWrite q E.END_SESSIONS [1] role d) :
    exec (.endSessions q) s = .next (s.wrote q E.END_SESSIONS [1] .ok (d.endSessions q.session)) := by
  refine exec_write_of_tried (st := none) rfl hm ((plainEntry_endSessions.tried d _ _ rfl rfl).trans ?_)
  rw [plainEntry_endSessions.refuseEntry_eq (g := 1) rfl]
  rfl

/-! ## Keys and profiles -/

section
variable {h : List Byte} (hl : h.length = 32)
include hl

theorem State.takes_keyBurn (hr : d.refuseKeyBurn (d.reg E.KEY_SLOT_SELECT) = none) :
    s.takes E.KEY_BURN h d (d.writeKeyBurn (d.reg E.KEY_SLOT_SELECT) h) :=
  plainEntry_keyBurn.takes_of (g := 10) (v := 0) rfl (by rw [hl]; rfl) rfl rfl hr fun _ => rfl

theorem State.turnsAway_keyBurn (hb : d.burn ≠ none) : s.turnsAway E.KEY_BURN h d .stateConflict := by
  refine plainEntry_keyBurn.turnsAway_of (g := 10) (v := 0) rfl (by rw [hl]; rfl) rfl rfl ?_
  show d.refuseKeyBurn (d.reg E.KEY_SLOT_SELECT) = _
  exact if_pos (by simp [Option.isSome_iff_ne_none.2 hb])

end

theorem Dev.refuseSave_of_burn (hb : d.burn ≠ none) : d.refuseSave = some .stateConflict := by
  unfold Dev.refuseSave refuseIf
  generalize d.saveImage.length = n
  simp [Option.isSome_iff_ne_none.2 hb]

theorem Dev.refuseSave_of_free (hb : d.burn = none) (hf : frozen (d.profileGens (d.reg E.ACTIVE_PROFILE)) = false)
    (hn : d.saveImage.length ≤ 16352) : d.refuseSave = none := by
  unfold Dev.refuseSave refuseIf
  generalize d.saveImage.length = n at *
  simp [hb, hf, hn]

theorem Dev.refuseRange_profileCmd (sh : List ShadowSet) (v : Nat) (bs : List Byte) :
    d.refuseRange sh 10 0xA000 5 v bs = d.refuseSave := by
  show d.refuseUpper sh (0xA000 * 256 + 5) v bs = d.refuseSave
  unfold Dev.refuseUpper
  iterate 9 refine (if_neg (by decide)).trans ?_
  exact if_pos rfl

theorem Dev.writeRange_profileCmd (r : EntryRow) (token : BitVec 64) (v : Nat) (bs : List Byte) :
    d.writeRange r token 10 0xA000 5 v bs = d.save := by
  show d.writeUpper r token (0xA000 * 256 + 5) v bs = d.save
  unfold Dev.writeUpper
  iterate 12 refine (if_neg (by decide)).trans ?_
  exact if_pos rfl

theorem State.turnsAway_save (hb : d.burn ≠ none) : s.turnsAway E.PROFILE_CMD [1] d .stateConflict :=
  plainEntry_profileCmd.turnsAway_of (g := 10) (v := 1) rfl rfl rfl rfl
    ((d.refuseRange_profileCmd _ _ _).trans (Dev.refuseSave_of_burn hb))

theorem State.takes_save (hr : d.refuseSave = none) : s.takes E.PROFILE_CMD [1] d d.save :=
  plainEntry_profileCmd.takes_of (g := 10) (v := 1) rfl rfl rfl rfl ((d.refuseRange_profileCmd _ _ _).trans hr)
    fun _ => d.writeRange_profileCmd _ _ _ _

theorem Dev.writeKeyBurn_of_next {g k : Nat} (hg : nextGen (d.keyGens k) = some g) (h : List Byte) :
    d.writeKeyBurn k h = d.startBurn (.key k g) (genWords (keyOff k g) (padTo 56 h)) := by
  unfold Dev.writeKeyBurn
  rw [hg]

theorem Dev.refusePubkey_of_hash {k : Nat} {v : List Byte} (ha : (activeGen (d.keyGens k)).isSome = true) (hv : sha256 v = d.keyHash k) :
    d.refusePubkey k v = none := if_pos (by simp [ha, hv])

theorem State.takes_ownerPubkey {v : List Byte} (hl : v.length = 384)
    (hr : d.refusePubkey (d.reg E.KEY_SLOT_SELECT) v = none) :
    s.takes E.OWNER_PUBKEY v d (d.writePubkey (d.reg E.KEY_SLOT_SELECT) v) :=
  plainEntry_ownerPubkey.takes_of (g := 10) (v := 0) rfl (by rw [hl]; rfl) rfl rfl hr fun _ => rfl

/-! ## Firmware -/

theorem State.takes_fwData {v : List Byte} (h1 : 1 ≤ v.length) (hn : v.length ≤ 65536)
    (hf : d.reg E.FW_OFFSET + v.length ≤ fwSlotBytes) : s.takes E.FW_DATA v d (d.writeFwData v) := by
  have hfit : lengthFits (row 0xa400 0xa400 4 .octets .mz 0 1 0x10000 none) E.FW_DATA v.length = true := by
    show (decide (1 ≤ v.length) && decide (v.length ≤ 65536) && true) = true
    simp [h1, hn]
  exact plainEntry_fwData.takes_of (g := 10) (v := 0) rfl hfit rfl rfl (if_neg (Nat.not_lt.2 hf) : d.refuseFwData v = none) fun _ => rfl

/-- What is not written of a slot, and the other slot, stay. -/
theorem FwStore.slot_write_other (f : FwStore) {i j : Nat} (hi : i ≤ 1) (hj : j ≤ 1) (hij : i ≠ j) (off : Nat) (v : List Byte) :
    (f.write j off v).slot i = f.slot i := by
  unfold FwStore.write
  by_cases hf : f.factory = some j
  · rw [if_pos hf]; rfl
  · rw [if_neg hf]
    by_cases h0 : j = 0
    · rw [if_pos h0]
      have hi0 : i ≠ 0 := fun h => hij (h.trans h0.symm)
      simp [FwStore.slot, hi0]
    · rw [if_neg h0]
      have hi0 : i = 0 := by omega
      simp [FwStore.slot, hi0]

theorem FwStore.slot_write_same (f : FwStore) {j : Nat} (hf : f.factory ≠ some j) (off : Nat) (v : List Byte) :
    (f.write j off v).slot j = splice (padTo (max (f.slot j).length off) (f.slot j)) off v := by
  unfold FwStore.write
  rw [if_neg hf]
  by_cases h0 : j = 0
  · rw [if_pos h0]; simp [FwStore.slot, h0]
  · rw [if_neg h0]; simp [FwStore.slot, h0]

theorem FwStore.verified_write (f : FwStore) (j off : Nat) (v : List Byte) : (f.write j off v).verified = false := by
  unfold FwStore.write
  split
  · rfl
  · split <;> rfl

theorem FwStore.write_factory {f : FwStore} {j : Nat} (hf : f.factory = some j) (off : Nat) (v : List Byte) :
    f.write j off v = { f with patches := (off, v) :: f.patches, verified := false } := if_pos hf

theorem FwStore.idle_le (f : FwStore) : f.idle ≤ 1 := Nat.sub_le 1 _

/-- A byte of the slot made at manufacture is the latest piece's that covers it. -/
theorem FwStore.byte_patched {f : FwStore} {i : Nat} (hf : f.factory = some i) (off : Nat) (v : List Byte) (k : Nat) :
    ({ f with patches := (off, v) :: f.patches }).bytes i k 1 =
      if off ≤ k ∧ k < off + v.length then [v.getD (k - off) 0] else f.bytes i k 1 := by
  have hnew : ({ f with patches := (off, v) :: f.patches }).bytes i k 1 = ({ f with patches := (off, v) :: f.patches }).patched k 1 :=
    if_pos hf
  have hold : f.bytes i k 1 = f.patched k 1 := if_pos hf
  rw [hnew, hold]
  by_cases h : off ≤ k ∧ k < off + v.length
  · rw [if_pos h]
    simp [FwStore.patched, h]
  · rw [if_neg h]
    have hc : (decide (off ≤ k) && decide (k < off + v.length)) = false := by simpa using h
    simp [FwStore.patched, hc]

theorem Dev.writeFwData_of_factory (hf : d.fw.factory = some d.fw.idle) (v : List Byte) : d.writeFwData v =
    ({ d with fw := { d.fw with patches := (d.reg E.FW_OFFSET, v) :: d.fw.patches, verified := false } }).setReg
      E.FW_OFFSET (d.reg E.FW_OFFSET + v.length) := by
  unfold Dev.writeFwData
  dsimp only
  rw [FwStore.write_factory hf]

theorem State.takes_fwCmd (b : Byte) (h1 : 1 ≤ b.toNat) (hr : d.refuseFwCmd b.toNat = none) :
    s.takes E.FW_CMD [b] d (d.writeFwCmd b.toNat) :=
  plainEntry_fwCmd.takes_of (g := 10) rfl rfl (beNat_singleton b) (rangeFits_of_le h1 (Nat.le_of_lt_succ b.isLt)) hr fun _ => rfl

theorem State.turnsAway_fwCmd (b : Byte) (h1 : 1 ≤ b.toNat) {st : Status} (hr : d.refuseFwCmd b.toNat = some st) :
    s.turnsAway E.FW_CMD [b] d st :=
  plainEntry_fwCmd.turnsAway_of (g := 10) (pl := [b]) rfl rfl (beNat_singleton b) (rangeFits_of_le h1 (Nat.le_of_lt_succ b.isLt)) hr

theorem Dev.refuseFwCmd_verify : d.refuseFwCmd 1 = none := rfl

theorem Dev.refuseFwCmd_activate : d.refuseFwCmd 2 = if d.fw.verified then none else some .stateConflict := by
  cases h : d.fw.verified <;> simp [Dev.refuseFwCmd, h]

theorem Dev.refuseFwCmd_commit_of_no_trial (h : d.fw.trialSince = none) : d.refuseFwCmd 3 = some .stateConflict := by
  simp [Dev.refuseFwCmd, h]

theorem Dev.refuseFwCmd_commit (h : d.fw.trialSince ≠ none) (hs : fwSecurity (d.fw.header d.fw.running) ≤ d.rollback) :
    d.refuseFwCmd 3 = none := by
  simp [Dev.refuseFwCmd, h, Nat.not_lt.2 hs]

theorem Dev.refuseFwCmd_erase (h : d.fw.trialSince = none) : d.refuseFwCmd 4 = none := by
  simp [Dev.refuseFwCmd, h]

/-- COMMIT of an image whose SECURITY_VERSION the rollback counter already holds burns nothing. -/
theorem Dev.writeFwCmd_commit (hs : fwSecurity (d.fw.header d.fw.running) ≤ d.rollback) :
    d.writeFwCmd 3 = ({ d with fw := { d.fw.unmark with committed := d.fw.running } }).fwStatus 0 :=
  if_neg (Nat.not_lt.2 hs)

theorem FwStore.slot_erase (f : FwStore) {i j : Nat} (hi : i ≤ 1) (hj : j ≤ 1) :
    (f.erase j).slot i = if i = j then [] else f.slot i := by
  rcases Nat.le_one_iff_eq_zero_or_eq_one.1 hj with rfl | rfl
  · rcases Nat.le_one_iff_eq_zero_or_eq_one.1 hi with rfl | rfl <;> by_cases hf : f.factory = some 0 <;>
      simp [FwStore.erase, FwStore.slot, hf]
  · rcases Nat.le_one_iff_eq_zero_or_eq_one.1 hi with rfl | rfl <;> by_cases hf : f.factory = some 1 <;>
      simp [FwStore.erase, FwStore.slot, hf]

theorem FwStore.factory_erase (f : FwStore) (j : Nat) : (f.erase j).factory ≠ some j := by
  by_cases h0 : j = 0 <;> by_cases hf : f.factory = some j <;> simp_all [FwStore.erase]

theorem FwStore.verified_erase (f : FwStore) (j : Nat) : (f.erase j).verified = false := by
  by_cases h0 : j = 0 <;> by_cases hf : f.factory = some j <;> simp_all [FwStore.erase]

/-! ## Attestation -/

theorem length_padTo (n : Nat) (bs : List Byte) : (padTo n bs).length = n := by
  simp only [padTo, List.length_append, List.length_take, List.length_replicate]
  omega

theorem Dev.length_reportBody (d : Dev) (nonce : List Byte) (p : Nat) : (d.reportBody nonce p).length = 256 := length_padTo _ _

theorem Dev.length_signed (d : Dev) (body : List Byte) : (d.signed body).length = 384 := by
  unfold Dev.signed
  dsimp only
  split <;> exact length_beBytes _ _

theorem State.takes_attest {v : List Byte} (hl : v.length = 32) : s.takes E.ATTEST_NONCE v d (d.attest v) :=
  plainEntry_attestNonce.takes_of (g := 10) (v := 0) rfl (by rw [hl]; rfl) rfl rfl rfl fun _ => rfl

theorem Dev.blob_attest (v : List Byte) : (d.attest v).blob E.ATTEST_REPORT =
    d.reportBody v (d.reg E.ACTIVE_PROFILE) ++ d.signed (d.reportBody v (d.reg E.ACTIVE_PROFILE)) := by
  unfold Dev.attest
  dsimp only
  generalize d.reportBody v (d.reg E.ACTIVE_PROFILE) ++ d.signed (d.reportBody v (d.reg E.ACTIVE_PROFILE)) = x
  exact Dev.blob_setBlob_same _ _ _

theorem Dev.attests_attest (v : List Byte) : (d.attest v).reg E.ATTESTS = (d.reg E.ATTESTS + 1) % 2 ^ 64 :=
  (Dev.reg_count _ _ _).trans (if_pos rfl)

/-! ## Sleep -/

theorem State.takes_sleepCmd (b : Byte) (h3 : b.toNat ≤ 3) (hr : d.refuseSleep b.toNat = none) :
    s.takes E.SLEEP_CMD [b] d (d.writeSleep b.toNat) :=
  plainEntry_sleepCmd.takes_of (g := 9) rfl rfl (beNat_singleton b) (rangeFits_of_le (Nat.zero_le _) h3) hr fun _ => rfl

theorem State.turnsAway_sleepCmd (b : Byte) (h3 : b.toNat ≤ 3) {st : Status} (hr : d.refuseSleep b.toNat = some st) :
    s.turnsAway E.SLEEP_CMD [b] d st :=
  plainEntry_sleepCmd.turnsAway_of (g := 9) (pl := [b]) rfl rfl (beNat_singleton b) (rangeFits_of_le (Nat.zero_le _) h3) hr

section
variable (hb : d.power.bootStage = 3) (hw : d.wakeLow = false)
include hb hw

theorem Dev.refuseSleep_of_active (ha : d.power.sleep = .active) {v : Nat} (h2 : v = 2 → d.dozeOk = true)
    (h3 : v = 3 → d.noCollect = true ∧ d.dmaIdle = true ∧ queued d.actions0 = 0 ∧ queued d.actions1 = 0) : d.refuseSleep v = none := by
  have hdoze : (v = 2 && !d.dozeOk) = false := by simpa using h2
  have hdrain : (v = 3 && (!d.noCollect || !d.dmaIdle || queued d.actions0 != 0 || queued d.actions1 != 0)) = false := by
    by_cases hv : v = 3
    · obtain ⟨hn, hd, h0, h1⟩ := h3 hv
      simp [hn, hd, h0, h1]
    · simp [hv]
  unfold Dev.refuseSleep
  simp only [hb, hw, ha, hdoze, hdrain]
  simp

theorem Dev.refuseSleep_doze (h : d.dozeOk = false) : d.refuseSleep 2 = some .stateConflict := by
  unfold Dev.refuseSleep
  simp only [hb, hw, h]
  simp

end

section
variable (ha : d.power.sleep = .active)
include ha

theorem Dev.writeSleep_active : d.writeSleep 0 = d := by
  unfold Dev.writeSleep
  simp only [ha]
  rfl

theorem Dev.writeSleep_idle : d.writeSleep 1 = d.enterSleep .idle := by
  unfold Dev.writeSleep
  simp only [ha]
  rfl

theorem Dev.writeSleep_doze : d.writeSleep 2 = d.enterSleep .doze := by
  unfold Dev.writeSleep
  simp only [ha]
  rfl

theorem Dev.writeSleep_keepalive : d.writeSleep 3 = { d with power := { d.power with
    sleep := .entering, wakeFrom := .active, entryStart := some d.tick, sleepTs := none } } := by
  unfold Dev.writeSleep
  simp only [ha]
  rfl

end

/-! ## Resets -/

theorem State.takes_resetCmd (b : Byte) (h1 : 1 ≤ b.toNat) (h3 : b.toNat ≤ 3) (hr : d.refuseReset b.toNat = none) :
    s.takes E.RESET_CMD [b] d (d.writeReset b.toNat) :=
  plainEntry_resetCmd.takes_of (g := 9) rfl rfl (beNat_singleton b) (rangeFits_of_le h1 h3) hr fun _ => rfl

theorem Dev.refuseReset_of_cool (h : d.power.overtempHold = false) {v : Nat} (h1 : 1 ≤ v) (h3 : v ≤ 3) : d.refuseReset v = none := by
  have h0 : v ≠ 0 := by omega
  simp [Dev.refuseReset, h, h0, Nat.not_lt.2 h3]

theorem Dev.writeReset_warm (hm : d.power.memoryOff = false) (hi : d.power.inputOut = false) : d.writeReset 1 =
    { d with power := { d.power with resetPending := d.power.resetPending ++ [(some .warm, d.tick + 2500)] } } := by
  have hk : d.power.warmKind = .warm := by simp [Power.warmKind, hm]
  unfold Dev.writeReset
  simp only [hi, hk]
  rfl

end

/-- Settles O34: each entry's row, rule and effect are read off its index, and the effect's fields follow. -/
theorem identityAndPowerWrites : Obligations.IdentityAndPowerWrites := by
  refine ⟨fun s q role d => exec_endSessions, fun s d h hl => ⟨fun hb => ⟨State.turnsAway_keyBurn hl hb, State.turnsAway_save hb⟩,
      fun g hb hg hf => ?_, fun hb hf hn => State.takes_save (Dev.refuseSave_of_free hb hf hn)⟩,
    fun s d v hl h0 ha hv => ?_, fun s d v h1 hn hf => ⟨fun hne => (State.takes_fwData h1 hn hf).takesTo ?_, fun heq => ?_⟩,
    fun f off v i k hf => f.byte_patched hf off v k, fun s d => ⟨?_, fun hv => ?_, fun hv => ?_, fun ht => ?_, fun ht hs => ?_, fun ht => ?_⟩,
    fun s d v hl => ⟨d.length_reportBody _ _, d.length_signed _,
      (State.takes_attest hl).takesTo ⟨Dev.blob_attest v, Dev.attests_attest v⟩⟩,
    fun s d hb ha hw => ⟨?_, ?_, fun hd => ?_, fun hd => ?_, fun hn hi h0 h1 => ?_⟩, fun s d hm hi ho => ⟨?_, ?_, ?_⟩⟩
  · have hr : d.refuseKeyBurn (d.reg E.KEY_SLOT_SELECT) = none := if_neg (by simp [hb, hf])
    exact Dev.writeKeyBurn_of_next hg h ▸ State.takes_keyBurn hl hr
  · have hr : d.refusePubkey (d.reg E.KEY_SLOT_SELECT) v = none := h0 ▸ Dev.refusePubkey_of_hash ha hv
    have hw := State.takes_ownerPubkey (s := s) hl hr
    rw [h0] at hw
    exact hw
  · exact ⟨FwStore.slot_write_same _ hne _ _, fun i hi hij => FwStore.slot_write_other _ hi d.fw.idle_le hij _ _,
      FwStore.verified_write _ _ _ _, Dev.reg_setReg_same _ _ _⟩
  · exact Dev.writeFwData_of_factory heq v ▸ State.takes_fwData h1 hn hf
  · exact (State.takes_fwCmd 1 (by decide) Dev.refuseFwCmd_verify).takesTo ⟨rfl, Dev.reg_setReg_same _ _ _⟩
  · exact State.turnsAway_fwCmd 2 (by decide) (Dev.refuseFwCmd_activate.trans (if_neg (by simp [hv])))
  · exact State.takes_fwCmd 2 (by decide) (Dev.refuseFwCmd_activate.trans (if_pos hv))
  · exact State.turnsAway_fwCmd 3 (by decide) (Dev.refuseFwCmd_commit_of_no_trial ht)
  · exact (State.takes_fwCmd 3 (by decide) (Dev.refuseFwCmd_commit ht hs)).congr (Dev.writeFwCmd_commit hs)
  · exact (State.takes_fwCmd 4 (by decide) (Dev.refuseFwCmd_erase ht)).takesTo
      ⟨(FwStore.slot_erase _ d.fw.idle_le d.fw.idle_le).trans (if_pos rfl), FwStore.factory_erase _ _,
        fun i hi hij => (FwStore.slot_erase _ hi d.fw.idle_le).trans (if_neg hij), FwStore.verified_erase _ _,
        Dev.reg_setReg_same _ _ _⟩
  · have hr : d.refuseSleep 0 = none := Dev.refuseSleep_of_active hb hw ha (absurd · (by decide)) (absurd · (by decide))
    exact (State.takes_sleepCmd 0 (by decide) hr).congr (Dev.writeSleep_active ha)
  · have hr : d.refuseSleep 1 = none := Dev.refuseSleep_of_active hb hw ha (absurd · (by decide)) (absurd · (by decide))
    refine (State.takes_sleepCmd 1 (by decide) hr).takesTo ?_
    rw [show (1 : Byte).toNat = 1 from rfl, Dev.writeSleep_idle ha]
    exact ⟨rfl, Dev.pending_powerEvent _ _ _ _⟩
  · have hr : d.refuseSleep 2 = none := Dev.refuseSleep_of_active hb hw ha (fun _ => hd) (absurd · (by decide))
    refine (State.takes_sleepCmd 2 (by decide) hr).takesTo ?_
    rw [show (2 : Byte).toNat = 2 from rfl, Dev.writeSleep_doze ha]
    exact ⟨rfl, rfl⟩
  · exact State.turnsAway_sleepCmd 2 (by decide) (Dev.refuseSleep_doze hb hw hd)
  · have hr : d.refuseSleep 3 = none := Dev.refuseSleep_of_active hb hw ha (absurd · (by decide)) fun _ => ⟨hn, hi, h0, h1⟩
    exact (State.takes_sleepCmd 3 (by decide) hr).congr (Dev.writeSleep_keepalive ha)
  · exact (State.takes_resetCmd 1 (by decide) (by decide) (Dev.refuseReset_of_cool ho (by decide) (by decide))).congr
      (Dev.writeReset_warm hm hi)
  · exact State.takes_resetCmd 2 (by decide) (by decide) (Dev.refuseReset_of_cool ho (by decide) (by decide))
  · exact State.takes_resetCmd 3 (by decide) (by decide) (Dev.refuseReset_of_cool ho (by decide) (by decide))

end Sys2Proof.Machine
end

section
/-! The writes of packs, whistles and the compute injection (O30). -/

namespace Sys2Proof.Machine

/-! ## The entries -/

theorem plainEntry_packCmd (p : PackNo) :
    PlainEntry (E.PACK_CMD p.val) (0x4000 + p.val) 6 (row 0x4000 0x43ff 6 .u8 .wo 0 1 3 none) :=
  .of_range p (by decide) (by decide) rfl (by decide) (by decide)

theorem plainEntry_whistleCmd : PlainEntry E.WHISTLE_CMD 0x5300 5 (row 0x5300 0x5300 5 .u8 .wo 0 1 2 none) :=
  .of_key rfl (by decide) rfl (by decide)

theorem plainEntry_whistleCount : PlainEntry E.WHISTLE_COUNT 0x5300 3 (row 0x5300 0x5300 3 .u32 .rw 0 0 0xffffffff none) :=
  .of_key rfl (by decide) rfl (by decide)

theorem plainEntry_computeInject : PlainEntry E.COMPUTE_INJECT 0x5010 3 (row 0x5010 0x5010 3 .u32 .wo 0 0 0xffffffff none) :=
  .of_key rfl (by decide) rfl (by decide)

section
variable {s : State} {d : Dev}

/-! ## PACK_CMD -/

theorem Dev.refuseColl_packCmd (p : PackNo) (v : Nat) (bs : List Byte) : d.refuseColl (0x4000 + p.val) 6 v bs =
    if v = 1 then d.refuseActivate p.val else if v = 2 then d.refuseDeactivate p.val
    else refuseIf (tget d.packs p.val).isNone .stateConflict := by
  have hp := p.isLt
  unfold Dev.refuseColl
  refine (if_pos (by omega)).trans ((if_pos rfl).trans ?_)
  rw [Nat.add_sub_cancel_left]

theorem Dev.writeColl_packCmd (r : EntryRow) (p : PackNo) (v : Nat) (bs : List Byte) : d.writeColl r (0x4000 + p.val) 6 v bs =
    if v = 1 then d.activate p.val else if v = 2 then d.deactivate p.val else d.abortPack p.val := by
  have hp := p.isLt
  unfold Dev.writeColl
  refine (if_pos (by simp; omega)).trans ?_
  rw [Nat.add_sub_cancel_left]

theorem State.takes_activate (p : PackNo) (h : d.refuseActivate p.val = none) :
    s.takes (E.PACK_CMD p.val) [1] d (d.activate p.val) :=
  (plainEntry_packCmd p).takes_of (g := 4) (v := 1) (by omega) rfl rfl rfl ((d.refuseColl_packCmd p _ _).trans h)
    fun _ => d.writeColl_packCmd _ p _ _

theorem State.takes_deactivate (p : PackNo) (h : d.refuseDeactivate p.val = none) :
    s.takes (E.PACK_CMD p.val) [2] d (d.deactivate p.val) :=
  (plainEntry_packCmd p).takes_of (g := 4) (v := 2) (by omega) rfl rfl rfl ((d.refuseColl_packCmd p _ _).trans h)
    fun _ => d.writeColl_packCmd _ p _ _

theorem State.turnsAway_deactivate (p : PackNo) {st : Status} (h : d.refuseDeactivate p.val = some st) :
    s.turnsAway (E.PACK_CMD p.val) [2] d st :=
  (plainEntry_packCmd p).turnsAway_of (g := 4) (v := 2) (by omega) rfl rfl rfl ((d.refuseColl_packCmd p _ _).trans h)

theorem State.takes_abortPack (p : PackNo) (h : tget d.packs p.val ≠ none) :
    s.takes (E.PACK_CMD p.val) [3] d (d.abortPack p.val) :=
  (plainEntry_packCmd p).takes_of (g := 4) (v := 3) (by omega) rfl rfl rfl
    ((d.refuseColl_packCmd p _ _).trans (if_neg (by simpa using h) : refuseIf (tget d.packs p.val).isNone .stateConflict = none))
    fun _ => d.writeColl_packCmd _ p _ _

/-! ## ACTIVATE binds the lowest free contexts (R278) -/

/-- The context numbers that ACTIVATE takes: the lowest that no ACTIVE pack has. -/
def Dev.freeContexts (d : Dev) (n : Nat) : List Nat :=
  ((List.range 4096).filter (fun i => !(d.packs.flatMap (fun e => e.2.contexts)).contains i)).take n

theorem Dev.activate_eq (p : Nat) : d.activate p = (d.freeContexts (d.reg (E.RESERVE p))).foldl
    (fun (a : Dev) n => a.setCtx n { pack := p })
    { d with packs := tset d.packs p ⟨d.freeContexts (d.reg (E.RESERVE p)), d.reg (E.FIRST_CSEQ p), d.membersMask p,
                                      d.reg (E.HIERARCHY p)⟩ } := rfl

theorem Dev.freeContexts_free {n i : Nat} (h : i ∈ d.freeContexts n) : ∀ e ∈ d.packs, i ∉ e.2.contexts := by
  obtain ⟨-, hfree⟩ := List.mem_filter.1 (List.mem_of_mem_take h)
  intro e he hi
  have hin : i ∈ d.packs.flatMap (fun e => e.2.contexts) := List.mem_flatMap.2 ⟨e, he, hi⟩
  simp [hin] at hfree

/-- Contexts set one after another to the same value: each of them has it, and the packs stay. -/
theorem Dev.setCtxs_same (x : Ctx) (ns : List Nat) (a : Dev) :
    (ns.foldl (fun (a : Dev) n => a.setCtx n x) a).packs = a.packs ∧
      ∀ n, n ∈ ns ∨ tget a.ctxs n = some x → tget (ns.foldl (fun (a : Dev) n => a.setCtx n x) a).ctxs n = some x := by
  induction ns generalizing a with
  | nil => exact ⟨rfl, fun n h => h.resolve_left List.not_mem_nil⟩
  | cons m ns ih =>
    obtain ⟨hpacks, hctx⟩ := ih (a.setCtx m x)
    refine ⟨hpacks, fun n h => hctx n ?_⟩
    show n ∈ ns ∨ tget (tset a.ctxs m x) n = some x
    rw [tget_tset]
    by_cases hm : n = m
    · exact .inr (if_pos hm)
    · rw [if_neg hm]
      exact h.imp_left fun h => (List.mem_cons.1 h).resolve_left hm

theorem Dev.packs_activate (p : Nat) : (d.activate p).packs = tset d.packs p
    ⟨d.freeContexts (d.reg (E.RESERVE p)), d.reg (E.FIRST_CSEQ p), d.membersMask p, d.reg (E.HIERARCHY p)⟩ := by
  rw [Dev.activate_eq]
  exact (Dev.setCtxs_same _ _ _).1

theorem Dev.ctx_activate {p n : Nat} (h : n ∈ d.freeContexts (d.reg (E.RESERVE p))) :
    tget (d.activate p).ctxs n = some { pack := p } := by
  rw [Dev.activate_eq]
  exact (Dev.setCtxs_same _ _ _).2 n (.inl h)

/-! ## Whistles -/

theorem Dev.refuseRange_five (sh : List ShadowSet) (i n v : Nat) (bs : List Byte) :
    d.refuseRange sh 5 i n v bs = d.refuseTier i n v bs := rfl

theorem Dev.writeRange_five (r : EntryRow) (token : BitVec 64) (i n v : Nat) (bs : List Byte) :
    d.writeRange r token 5 i n v bs = d.writeTier r i n v bs := rfl

theorem Dev.refuseRange_whistleCmd (sh : List ShadowSet) (v : Nat) (bs : List Byte) : d.refuseRange sh 5 0x5300 5 v bs = none := by
  rw [Dev.refuseRange_five]
  unfold Dev.refuseTier
  iterate 7 refine (if_neg (by decide)).trans ?_
  exact if_neg (by decide)

theorem Dev.refuseRange_whistleCount (sh : List ShadowSet) (v : Nat) (bs : List Byte) : d.refuseRange sh 5 0x5300 3 v bs = none := by
  rw [Dev.refuseRange_five]
  unfold Dev.refuseTier
  iterate 7 refine (if_neg (by decide)).trans ?_
  exact if_neg (by decide)

theorem Dev.writeRange_whistleCmd (r : EntryRow) (token : BitVec 64) (v : Nat) (bs : List Byte) :
    d.writeRange r token 5 0x5300 5 v bs = d.writeWhistleCmd (d.reg E.WHISTLE_SELECT) v := by
  rw [Dev.writeRange_five]
  unfold Dev.writeTier
  iterate 3 refine (if_neg (by decide)).trans ?_
  exact if_pos rfl

theorem Dev.writeRange_whistleCount (r : EntryRow) (token : BitVec 64) (v : Nat) (bs : List Byte) :
    d.writeRange r token 5 0x5300 3 v bs = d.writeWhistleCount (d.reg E.WHISTLE_SELECT) v := by
  rw [Dev.writeRange_five]
  unfold Dev.writeTier
  iterate 2 refine (if_neg (by decide)).trans ?_
  exact if_pos rfl

theorem State.takes_whistleCmd (b : Byte) (h1 : 1 ≤ b.toNat) (h2 : b.toNat ≤ 2) :
    s.takes E.WHISTLE_CMD [b] d (d.writeWhistleCmd (d.reg E.WHISTLE_SELECT) b.toNat) :=
  plainEntry_whistleCmd.takes_of (g := 5) rfl rfl (beNat_singleton b) (rangeFits_of_le h1 h2) (d.refuseRange_whistleCmd _ _ _)
    fun _ => d.writeRange_whistleCmd _ _ _ _

theorem State.takes_whistleCount (v : BitVec 32) : s.takes E.WHISTLE_COUNT (beBytes 4 v.toNat) d
    (d.setWhistle (d.reg E.WHISTLE_SELECT) { d.whistle (d.reg E.WHISTLE_SELECT) with count := v.toNat }) := by
  have hv : beNat (beBytes 4 v.toNat) = v.toNat := beNat_beBytes v.isLt
  exact plainEntry_whistleCount.takes_of (g := 5) rfl (by rw [length_beBytes]; rfl) hv
    (rangeFits_of_le (Nat.zero_le _) (Nat.le_of_lt_succ v.isLt)) (d.refuseRange_whistleCount _ _ _)
    fun _ => d.writeRange_whistleCount _ _ _ _

theorem Dev.writeWhistleCmd_arm {w : Nat} (h : (d.whistle w).state = .disarmed) :
    d.writeWhistleCmd w 1 = d.setWhistle w { d.whistle w with state := .armed, fires := 0, cleared := 0 } := if_pos h

theorem Dev.writeWhistleCmd_disarm {w : Nat} (h : (d.whistle w).state ≠ .disarmed) :
    d.writeWhistleCmd w 2 = (d.setWhistle w { d.whistle w with state := .disarmed }).setActions (w / 4096)
      ((d.actions (w / 4096)).filter (fun a => !(a.whistle = w && a.stage = .queued))) := if_neg h

theorem Dev.whistle_setActions (n w : Nat) (as : List Action) : (d.setActions n as).whistle w = d.whistle w := by
  obtain ⟨a, b, h⟩ := d.frame_setActions n as
  rw [h]
  rfl

/-! ## COMPUTE_INJECT -/

section
variable {pl : List Byte} (hl : pl.length = 4) (h1 : 1 ≤ bits (beNat pl) 28 4) (h4 : bits (beNat pl) 28 4 ≤ 4)
  (hz : bits (beNat pl) 16 10 = 0) (hn : bits (beNat pl) 0 16 ≠ 0)

include h1 h4 hz hn in
theorem Dev.refuseComputeInject_of_kind (d : Dev) :
    d.refuseComputeInject (beNat pl) = if d.reg E.COMPUTE_INJECT_LEFT != 0 then some .stateConflict else none := by
  have hk : (bits (beNat pl) 28 4 = 0) = False := eq_false (by omega)
  have hk4 : (4 < bits (beNat pl) 28 4) = False := eq_false (by omega)
  unfold Dev.refuseComputeInject
  simp only [hz, hk, hk4, hn]
  rfl

include hl h1 h4 hz hn

theorem State.takes_computeInject (h : d.reg E.COMPUTE_INJECT_LEFT = 0) :
    s.takes E.COMPUTE_INJECT pl d (d.writeComputeInject (beNat pl)) := by
  have hlt := beNat_lt pl
  rw [hl] at hlt
  refine plainEntry_computeInject.takes_of (g := 5) rfl (by rw [hl]; rfl) rfl
    (rangeFits_of_le (Nat.zero_le _) (Nat.le_of_lt_succ hlt)) ?_ fun _ => rfl
  exact (Dev.refuseComputeInject_of_kind h1 h4 hz hn d).trans (if_neg (by simp [h]))

theorem State.turnsAway_computeInject (h : d.reg E.COMPUTE_INJECT_LEFT ≠ 0) :
    s.turnsAway E.COMPUTE_INJECT pl d .stateConflict := by
  have hlt := beNat_lt pl
  rw [hl] at hlt
  refine plainEntry_computeInject.turnsAway_of (g := 5) rfl (by rw [hl]; rfl) rfl
    (rangeFits_of_le (Nat.zero_le _) (Nat.le_of_lt_succ hlt)) ?_
  exact (Dev.refuseComputeInject_of_kind h1 h4 hz hn d).trans (if_pos (by simp [h]))

end

end

/-- Settles O30: each entry's row, rule and effect are read off its index, and the effect's fields follow. -/
theorem packAndWhistleWrites : Obligations.PackAndWhistleWrites := by
  refine ⟨fun s d p h => (State.takes_activate p h).takesTo ⟨d.freeContexts (d.reg (E.RESERVE p.val)), ?_⟩,
    fun s d p hp => ⟨fun h0 => ?_, fun h0 => ?_, State.takes_abortPack p hp⟩,
    fun s d h => (State.takes_whistleCmd 1 (by decide) (by decide)).congr (Dev.writeWhistleCmd_arm h),
    fun s d h => (State.takes_whistleCmd 2 (by decide) (by decide)).takesTo ?_,
    fun s d v => State.takes_whistleCount v,
    fun s d pl hl h1 h4 hz hn => ⟨State.takes_computeInject hl h1 h4 hz hn, State.turnsAway_computeInject hl h1 h4 hz hn⟩⟩
  · rw [Dev.packs_activate]
    exact ⟨tget_tset_same _ _ _, List.length_take_le _ _, fun n => Dev.ctx_activate, fun n => Dev.freeContexts_free,
      fun k hk => tget_tset_other _ _ hk⟩
  · have hr : d.refuseDeactivate p.val = none := if_neg (by simp [h0, hp])
    refine (State.takes_deactivate p hr).takesTo ⟨?_, fun k hk => ?_⟩
    · exact (tget_terase d.packs p.val p.val).trans (if_pos rfl)
    · exact (tget_terase d.packs p.val k).trans (if_neg hk)
  · exact State.turnsAway_deactivate p (if_pos (by simp [h0]))
  · have hne : (d.whistle (d.reg E.WHISTLE_SELECT)).state ≠ .disarmed := by simp [h]
    have hw : d.writeWhistleCmd (d.reg E.WHISTLE_SELECT) (2 : Byte).toNat = _ := Dev.writeWhistleCmd_disarm hne
    rw [hw]
    refine ⟨?_, Dev.actions_setActions _ _ _⟩
    rw [Dev.whistle_setActions, Dev.whistle_setWhistle_same]

end Sys2Proof.Machine
end

section
/-! What moves of a port between its states change, where nothing is queued to it and it keeps no RPY slot (R103, R154). -/

namespace Sys2Proof.Machine

/-! ## Registers and the replay buffer of a port that enters DETECT -/

/-- The entries that a site without a module may touch: its lanes' LOS counts, and what a saturation notes. -/
def losKeys (p : Nat) : List Nat := [E.ANY_SATURATED, E.SATURATION_EVENTS] ++ lanes4.map (fun l => E.LOS_EVENTS p l.val)

theorem Dev.reg_siteLos_other (d : Dev) {p k : Nat} (h : k ∉ losKeys p) : (d.siteLos p).reg k = d.reg k := by
  have hs : k ≠ E.ANY_SATURATED := fun e => h (by simp [losKeys, e])
  have he : k ≠ E.SATURATION_EVENTS := fun e => h (by simp [losKeys, e])
  have hl : ∀ l : Lane, k ≠ E.LOS_EVENTS p l.val := fun l e => h (List.mem_append_right _ (e ▸ List.mem_map_of_mem (by fin_cases l <;> simp [lanes4])))
  unfold Dev.siteLos
  split
  · refine foldl_keeps (fun e : Dev => e.reg k) (fun a l => ?_) lanes4 d
    split
    · rfl
    · exact Dev.reg_countErr_other _ (hl l) hs he
  · rfl

@[simp] theorem PortSt.setLane_kept (x : PortSt) (l : Lane) (v : LaneSt) : (x.setLane l v).kept = x.kept := by
  rw [PortSt.setLane_frame]

@[simp] theorem Dev.kept_siteLos (d : Dev) (p : Nat) : ((d.siteLos p).port p).kept = (d.port p).kept := by
  unfold Dev.siteLos
  split
  · refine foldl_keeps (fun e : Dev => (e.port p).kept) (fun a l => ?_) lanes4 d
    split
    · rfl
    · rw [Dev.port_countErr, Dev.port_updLane_same, PortSt.setLane_kept]
  · rfl

@[simp] theorem Dev.reg_moduleLow (d : Dev) (p k : Nat) : (d.moduleLow p).reg k = d.reg k := by
  rw [Dev.moduleLow_frame]; rfl

@[simp] theorem Dev.reg_freeSite (d : Dev) (m : Option Nat) (k : Nat) : (d.freeSite m).reg k = d.reg k := by
  rw [Dev.freeSite_frame]; rfl

/-- What an entry into OFF writes for a lane's test and loop. -/
def Dev.stopTest (a : Dev) (p : Nat) (l : Lane) : Dev :=
  ((a.setReg (E.TEST_MODE p l.val) 0).setReg (E.LOOP p l.val) 0).setReg (E.CHECK_LOCK p l.val) 0

theorem Dev.port_stopTests (a : Dev) (p q : Nat) : (lanes4.foldl (fun a l => a.stopTest p l) a).port q = a.port q :=
  foldl_keeps (fun e : Dev => e.port q) (fun e l => by simp only [Dev.stopTest, Dev.port_setReg]) lanes4 a

theorem Dev.toOff_eq (d : Dev) (p : Nat) : d.toOff p =
    (((((lanes4.foldl (fun a l => a.stopTest p l) (((d.flushPort p).discardReplay p).updPort p (fun x =>
      ({ x.abandon.startLink with state := .off, since := d.tick, heldClass := none, peakBase := none }).mapLanes
        (fun _ y => y.toOff)))).setReg (E.FABRIC_LEVEL p) 0).setReg (E.LANE0_MISWIRED p) 0).notePort d p).moduleLow p) := rfl

section
variable {d : Dev} {p : Nat} (hq : d.queuedTo p = false) (hk : ∀ k ∈ (d.port p).kept, k.slot = none)
include hq hk

theorem Dev.reg_leaveQueues (k : Nat) : ((d.flushPort p).discardReplay p).reg k = d.reg k := by
  rw [Dev.flushPort_of_empty hq, Dev.discardReplay_of_slotless hk]
  rfl

theorem Dev.reg_toDetect {k : Nat} (h : k ∉ losKeys p) :
    (d.toDetect p).reg k = if k = E.FABRIC_LEVEL p then 0 else d.reg k := by
  rw [← Dev.reg_leaveQueues hq hk k]
  unfold Dev.toDetect
  generalize (d.flushPort p).discardReplay p = e
  rw [Dev.reg_moduleLow, Dev.reg_siteLos_other _ h, Dev.reg_freeSite, Dev.reg_notePort]
  exact Dev.reg_setReg _ (E.FABRIC_LEVEL p) k 0

theorem Dev.kept_toDetect : ((d.toDetect p).port p).kept = [] := by
  have hkept : (((d.flushPort p).discardReplay p).port p).kept = [] := by
    rw [Dev.flushPort_of_empty hq, Dev.discardReplay_of_slotless hk, Dev.port_updPort_same]
  unfold Dev.toDetect
  generalize (d.flushPort p).discardReplay p = e at hkept ⊢
  refine (congrArg PortSt.kept (Dev.port_moduleLow _ _ _)).trans <| (Dev.kept_siteLos _ _).trans <|
    (congrArg PortSt.kept ((Dev.port_freeSite _ _ _).trans <| (Dev.port_notePort _ _ _ _).trans <|
      (Dev.port_pendDiscovery _ _ _).trans <| (Dev.port_setReg _ _ _ _).trans (Dev.port_updPort_same _ _ _))).trans ?_
  dsimp only []
  rw [Dev.port_updPort_same, Dev.port_takeSite]
  generalize e.port p = x at hkept ⊢
  split
  · split <;> exact hkept
  · exact hkept

/-! ## Entry into OFF (R103, R154) -/

theorem Dev.port_toOff_other {q : Nat} (h : q ≠ p) : (d.toOff p).port q = d.port q := by
  have hd : ((d.flushPort p).discardReplay p).port q = d.port q := by
    rw [Dev.flushPort_of_empty hq, Dev.discardReplay_of_slotless hk, Dev.port_updPort_other _ _ h]
  rw [Dev.toOff_eq, ← hd]
  generalize (d.flushPort p).discardReplay p = e
  refine (Dev.port_moduleLow _ _ _).trans <| (Dev.port_notePort _ _ _ _).trans <| (Dev.port_setReg _ _ _ _).trans <| (Dev.port_setReg _ _ _ _).trans <| (Dev.port_stopTests _ _ _).trans ?_
  exact Dev.port_updPort_other _ _ h

omit hq hk in
theorem Dev.port_toOff_same : (d.toOff p).port p =
    ({ (((d.flushPort p).discardReplay p).port p).abandon.startLink with
      state := .off, since := d.tick, heldClass := none, peakBase := none }).mapLanes (fun _ y => y.toOff) := by
  rw [Dev.toOff_eq]
  generalize (d.flushPort p).discardReplay p = e
  refine (Dev.port_moduleLow _ _ _).trans <| (Dev.port_notePort _ _ _ _).trans <| (Dev.port_setReg _ _ _ _).trans <| (Dev.port_setReg _ _ _ _).trans <| (Dev.port_stopTests _ _ _).trans ?_
  exact Dev.port_updPort_same _ _ _

omit hq hk in
theorem Dev.state_toOff : ((d.toOff p).port p).state = .off := by
  rw [Dev.port_toOff_same]
  rfl

omit hq hk in
theorem Dev.lane_toOff (l : Lane) : ((d.toOff p).lane p l).state = .off := by
  rw [Dev.lane, Dev.port_toOff_same, PortSt.lane_mapLanes]
  rfl

/-- The entries that an entry into OFF writes. -/
def offKeys (p : Nat) : List Nat :=
  [E.FABRIC_LEVEL p, E.LANE0_MISWIRED p] ++
    lanes4.flatMap (fun l => [E.TEST_MODE p l.val, E.LOOP p l.val, E.CHECK_LOCK p l.val])

theorem Dev.reg_toOff {k : Nat} (h : k ∉ offKeys p) : (d.toOff p).reg k = d.reg k := by
  simp only [offKeys, List.mem_append, List.mem_cons, List.not_mem_nil, or_false, not_or, List.mem_flatMap, not_exists, not_and] at h
  obtain ⟨⟨hlevel, hwired⟩, hlane⟩ := h
  rw [← Dev.reg_leaveQueues hq hk k]
  rw [Dev.toOff_eq]
  generalize (d.flushPort p).discardReplay p = e
  rw [Dev.reg_moduleLow, Dev.reg_notePort, Dev.reg_setReg_other _ _ hwired, Dev.reg_setReg_other _ _ hlevel]
  refine (foldl_keeps (fun e : Dev => e.reg k) (fun a l => ?_) lanes4 _).trans rfl
  obtain ⟨htest, hloop, hlock⟩ := hlane l (by fin_cases l <;> simp [lanes4])
  rw [Dev.stopTest, Dev.reg_setReg_other _ _ hlock, Dev.reg_setReg_other _ _ hloop, Dev.reg_setReg_other _ _ htest]

/-! ## Entry into IDENT (R148, R154) -/

omit hk in
theorem Dev.port_toIdent_same : (d.toIdent p).port p =
    ({ (d.port p).abandon.closeCredits.endMiswire with
      state := .ident, fresh := true, since := d.tick, lastIdent := d.tick, lastGood := d.tick }).mapLanes
        (fun l y => y.toDetect l (d.lowRate p) (d.elecClass p)) := by
  unfold Dev.toIdent
  rw [Dev.flushPort_of_empty hq]
  exact (Dev.port_notePort _ _ _ _).trans <| (Dev.port_pendDiscovery _ _ _).trans (Dev.port_updPort_same _ _ _)

omit hk in
theorem Dev.port_toIdent_other {q : Nat} (h : q ≠ p) : (d.toIdent p).port q = d.port q := by
  unfold Dev.toIdent
  rw [Dev.flushPort_of_empty hq]
  exact (Dev.port_notePort _ _ _ _).trans <| (Dev.port_pendDiscovery _ _ _).trans (Dev.port_updPort_other _ _ h)

omit hk in
theorem Dev.ctxs_toIdent : (d.toIdent p).ctxs = d.ctxs := by
  unfold Dev.toIdent
  rw [Dev.flushPort_of_empty hq, Dev.notePort_frame]
  rfl

end

end Sys2Proof.Machine
end

section
/-! The writes of ports, of the switch and of the plan (O29). -/

namespace Sys2Proof.Machine

/-! ## The entries -/

theorem plainEntry_portEnable (p : Port) :
    PlainEntry (E.PORT_ENABLE p.val) (0x2500 + p.val) 1 (row 0x2500 0x25ff 1 .bool .rwp 1 0 1 none) :=
  .of_range p (by decide) (by decide) rfl (by decide) (by decide)

theorem plainEntry_retrain (p : Port) :
    PlainEntry (E.RETRAIN p.val) (0x2500 + p.val) 14 (row 0x2500 0x25ff 0xe .bool .wo 0 1 1 none) :=
  .of_range p (by decide) (by decide) rfl (by decide) (by decide)

theorem plainEntry_release (p : Port) :
    PlainEntry (E.RELEASE p.val) (0x3500 + p.val) 3 (row 0x3500 0x35ff 3 .bool .wo 0 1 1 none) :=
  .of_range p (by decide) (by decide) rfl (by decide) (by decide)

theorem plainEntry_planNeighbour (p : Port) :
    PlainEntry (E.PLAN_NEIGHBOUR p.val) (0x3500 + p.val) 1 (row 0x3500 0x35ff 1 .octets .rwp 0 0x18 0x18 none) :=
  .of_range p (by decide) (by decide) rfl (by decide) (by decide)

theorem plainEntry_strayReclaim : PlainEntry E.STRAY_RECLAIM 0x3010 3 (row 0x3010 0x3010 3 .bits32 .wo 0 0 3 none) :=
  .of_key rfl (by decide) rfl (by decide)

theorem plainEntry_kennelInject : PlainEntry E.KENNEL_INJECT 0x3040 1 (row 0x3040 0x3040 1 .u32 .wo 0 0 0xffffffff none) :=
  .of_key rfl (by decide) rfl (by decide)

theorem plainEntry_flipTick : PlainEntry E.FLIP_TICK 0x3200 2 (row 0x3200 0x3200 2 .tick .rw 0 0 0xffffffffffffffff none) :=
  .of_key rfl (by decide) rfl (by decide)

theorem plainEntry_bankRetire : PlainEntry E.BANK_RETIRE 0x3200 10 (row 0x3200 0x3200 0xa .u8 .wo 0 0 1 none) :=
  .of_key rfl (by decide) rfl (by decide)

/-- The plan's index holds entries that bind one another; REMAP_CLEAR is none of them. -/
theorem plainEntry_remapClear : PlainEntry E.REMAP_CLEAR 0x3400 6 (row 0x3400 0x3400 6 .bool .wo 0 1 1 none) where
  key := rfl
  sub_lt := by decide
  row := rfl
  unbound := by decide
  site := by decide
  command := by decide

section
variable {s : State} {d : Dev}

/-! ## The rules and effects of their ranges -/

theorem Dev.refuseRange_two (sh : List ShadowSet) (i n v : Nat) (bs : List Byte) : d.refuseRange sh 2 i n v bs = d.refuseLink i n v := rfl

theorem Dev.writeRange_two (r : EntryRow) (token : BitVec 64) (i n v : Nat) (bs : List Byte) :
    d.writeRange r token 2 i n v bs = d.writeLink i n v := rfl

theorem Dev.refuseRange_three (sh : List ShadowSet) (i n v : Nat) (bs : List Byte) :
    d.refuseRange sh 3 i n v bs = d.refuseSwitch i n v bs := rfl

theorem Dev.writeRange_three (r : EntryRow) (token : BitVec 64) (i n v : Nat) (bs : List Byte) :
    d.writeRange r token 3 i n v bs = d.writeSwitch i n v bs := rfl

/-- The per-port entries from 0x2500 on carry no rule of their own. -/
theorem Dev.refuseLink_port (p : Port) {n : Nat} (hn : n < 256) (v : Nat) : d.refuseLink (0x2500 + p.val) n v = none := by
  have hp := p.isLt
  unfold Dev.refuseLink
  refine (if_neg (by simp only [E.PEAK_WATCH_TICKS]; omega)).trans ?_
  iterate 2 refine (if_neg (by simp; omega)).trans ?_
  iterate 2 refine (if_neg (by omega)).trans ?_
  exact if_neg (by simp; omega)

theorem Dev.writeLink_portEnable (p : Port) (v : Nat) :
    d.writeLink (0x2500 + p.val) 1 v = (d.writeEnable p.val v).settle d := by
  have hp := p.isLt
  unfold Dev.writeLink
  refine (if_neg (by simp; omega)).trans ((if_neg (by simp)).trans ((if_neg (by omega)).trans ?_))
  refine (if_neg (by simp; omega)).trans ((if_neg (by simp)).trans ((if_neg (by simp)).trans ((if_neg (by simp; omega)).trans ?_)))
  refine (if_pos (by simp; omega)).trans ?_
  rw [show (0x2500 + p.val) % 256 = p.val by omega]

theorem Dev.writeLink_retrain (p : Port) (v : Nat) : d.writeLink (0x2500 + p.val) 14 v = (d.retrain p.val).settle d := by
  have hp := p.isLt
  unfold Dev.writeLink
  refine (if_neg (by simp)).trans ((if_neg (by simp)).trans ((if_neg (by omega)).trans ?_))
  iterate 5 refine (if_neg (by simp)).trans ?_
  refine (if_pos (by simp; omega)).trans ?_
  rw [show (0x2500 + p.val) % 256 = p.val by omega]

theorem Dev.refuseSwitch_release (p : Port) (v : Nat) (bs : List Byte) :
    d.refuseSwitch (0x3500 + p.val) 3 v bs = d.refuseRelease p.val := by
  have hp := p.isLt
  unfold Dev.refuseSwitch
  refine (if_neg (by omega)).trans ?_
  iterate 3 refine (if_neg (by simp only [E.KENNEL_INJECT, E.FLIP_TICK, E.BANK_RETIRE]; omega)).trans ?_
  iterate 2 refine (if_neg (by simp; omega)).trans ?_
  refine (if_neg (by simp only [E.REMAP_CLEAR]; omega)).trans ((if_neg (by omega)).trans ((if_neg (by simp)).trans ?_))
  refine (if_pos (by simp; omega)).trans ?_
  rw [show (0x3500 + p.val) % 256 = p.val by omega]

theorem Dev.refuseSwitch_planNeighbour (p : Port) (v : Nat) (bs : List Byte) :
    d.refuseSwitch (0x3500 + p.val) 1 v bs = d.refuseNeighbour p.val bs := by
  have hp := p.isLt
  unfold Dev.refuseSwitch
  refine (if_neg (by omega)).trans ?_
  iterate 3 refine (if_neg (by simp only [E.KENNEL_INJECT, E.FLIP_TICK, E.BANK_RETIRE]; omega)).trans ?_
  iterate 2 refine (if_neg (by simp; omega)).trans ?_
  refine (if_neg (by simp only [E.REMAP_CLEAR]; omega)).trans ((if_neg (by omega)).trans ?_)
  refine (if_pos (by simp; omega)).trans ?_
  rw [show (0x3500 + p.val) % 256 = p.val by omega]

theorem Dev.writeSwitch_release (p : Port) (v : Nat) (bs : List Byte) :
    d.writeSwitch (0x3500 + p.val) 3 v bs = (d.toIdent p.val).settle d := by
  have hp := p.isLt
  unfold Dev.writeSwitch
  iterate 4 refine (if_neg (by simp only [E.STRAY_RECLAIM, E.KENNEL_INJECT, E.FLIP_TICK, E.BANK_RETIRE]; omega)).trans ?_
  refine (if_neg (by simp; omega)).trans ((if_neg (by simp only [E.REMAP_CLEAR]; omega)).trans ((if_neg (by simp)).trans ?_))
  refine (if_pos (by simp; omega)).trans ?_
  rw [show (0x3500 + p.val) % 256 = p.val by omega]

theorem Dev.writeSwitch_planNeighbour (p : Port) (v : Nat) (bs : List Byte) :
    d.writeSwitch (0x3500 + p.val) 1 v bs = d.writeNeighbour p.val bs := by
  have hp := p.isLt
  unfold Dev.writeSwitch
  iterate 4 refine (if_neg (by simp only [E.STRAY_RECLAIM, E.KENNEL_INJECT, E.FLIP_TICK, E.BANK_RETIRE]; omega)).trans ?_
  refine (if_neg (by simp; omega)).trans ((if_neg (by simp only [E.REMAP_CLEAR]; omega)).trans ?_)
  refine (if_pos (by simp; omega)).trans ?_
  rw [show (0x3500 + p.val) % 256 = p.val by omega]

theorem Dev.refuseSwitch_strayReclaim (v : Nat) (bs : List Byte) : d.refuseSwitch 0x3010 3 v bs = none := by
  unfold Dev.refuseSwitch
  iterate 9 refine (if_neg (by decide)).trans ?_
  exact if_neg (by decide)

theorem Dev.refuseSwitch_kennelInject (v : Nat) (bs : List Byte) : d.refuseSwitch 0x3040 1 v bs = d.refuseKennelInject v := by
  unfold Dev.refuseSwitch
  exact (if_neg (by decide)).trans (if_pos rfl)

theorem Dev.refuseSwitch_flipTick (v : Nat) (bs : List Byte) : d.refuseSwitch 0x3200 2 v bs = d.refuseFlip v := by
  unfold Dev.refuseSwitch
  iterate 2 refine (if_neg (by decide)).trans ?_
  exact if_pos rfl

theorem Dev.refuseSwitch_bankRetire (v : Nat) (bs : List Byte) : d.refuseSwitch 0x3200 10 v bs = d.refuseRetire v := by
  unfold Dev.refuseSwitch
  iterate 3 refine (if_neg (by decide)).trans ?_
  exact if_pos rfl

theorem Dev.refuseSwitch_remapClear (v : Nat) (bs : List Byte) : d.refuseSwitch 0x3400 6 v bs = d.refuseRemap := by
  unfold Dev.refuseSwitch
  iterate 6 refine (if_neg (by decide)).trans ?_
  exact if_pos rfl

theorem Dev.writeSwitch_strayReclaim (v : Nat) (bs : List Byte) : d.writeSwitch 0x3010 3 v bs =
    if bits v 1 1 = 1 then (if bits v 0 1 = 1 then d.reclaim 0 else d).reclaim 1 else if bits v 0 1 = 1 then d.reclaim 0 else d := by
  unfold Dev.writeSwitch
  exact if_pos rfl

theorem Dev.writeSwitch_kennelInject (v : Nat) (bs : List Byte) : d.writeSwitch 0x3040 1 v bs =
    { d.setReg E.KENNEL_INJECT_LEFT (bits v 0 16) with kinject := some ⟨bits v 28 4, bits v 27 1⟩ } := by
  unfold Dev.writeSwitch
  exact (if_neg (by decide)).trans (if_pos rfl)

theorem Dev.writeSwitch_flipTick (v : Nat) (bs : List Byte) : d.writeSwitch 0x3200 2 v bs = d.writeFlip v := by
  unfold Dev.writeSwitch
  iterate 2 refine (if_neg (by decide)).trans ?_
  exact if_pos rfl

theorem Dev.writeSwitch_bankRetire (v : Nat) (bs : List Byte) : d.writeSwitch 0x3200 10 v bs = d.retire v := by
  unfold Dev.writeSwitch
  iterate 3 refine (if_neg (by decide)).trans ?_
  exact if_pos rfl

theorem Dev.writeSwitch_remapClear (v : Nat) (bs : List Byte) : d.writeSwitch 0x3400 6 v bs = d.clearRemap := by
  unfold Dev.writeSwitch
  iterate 5 refine (if_neg (by decide)).trans ?_
  exact if_pos rfl

/-! ## PORT_ENABLE, RETRAIN and RELEASE -/

theorem State.takes_portEnable (p : Port) (b : Byte) (h : b.toNat ≤ 1) :
    s.takes (E.PORT_ENABLE p.val) [b] d ((d.writeEnable p.val b.toNat).settle d) :=
  (plainEntry_portEnable p).takes_of (g := 2) (by omega) rfl (beNat_singleton b) (rangeFits_of_le (Nat.zero_le _) h)
    ((d.refuseRange_two _ _ _ _ _).trans (d.refuseLink_port p (by decide) _))
    fun _ => (d.writeRange_two _ _ _ _ _ _).trans (d.writeLink_portEnable p _)

theorem State.takes_retrain (p : Port) : s.takes (E.RETRAIN p.val) [1] d ((d.retrain p.val).settle d) :=
  (plainEntry_retrain p).takes_of (g := 2) (v := 1) (by omega) rfl rfl rfl
    ((d.refuseRange_two _ _ _ _ _).trans (d.refuseLink_port p (by decide) _))
    fun _ => (d.writeRange_two _ _ _ _ _ _).trans (d.writeLink_retrain p _)

theorem State.takes_release (p : Port) (h : (d.port p.val).state = .quarantine) :
    s.takes (E.RELEASE p.val) [1] d ((d.toIdent p.val).settle d) :=
  (plainEntry_release p).takes_of (g := 3) (v := 1) (by omega) rfl rfl rfl
    ((d.refuseRange_three _ _ _ _ _).trans ((d.refuseSwitch_release p _ _).trans (if_pos h)))
    fun _ => (d.writeRange_three _ _ _ _ _ _).trans (d.writeSwitch_release p _ _)

theorem State.turnsAway_release (p : Port) (h : (d.port p.val).state ≠ .quarantine) :
    s.turnsAway (E.RELEASE p.val) [1] d .stateConflict :=
  (plainEntry_release p).turnsAway_of (g := 3) (v := 1) (by omega) rfl rfl rfl
    ((d.refuseRange_three _ _ _ _ _).trans ((d.refuseSwitch_release p _ _).trans (if_neg h)))

theorem Dev.writeEnable_off {p : Nat} (h : (d.port p).state = .off) : d.writeEnable p 0 = d.setReg (E.PORT_ENABLE p) 0 := by
  unfold Dev.writeEnable
  dsimp only
  rw [if_pos rfl, Dev.port_setReg, if_pos h]

theorem Dev.writeEnable_clear {p : Nat} (h : (d.port p).state ≠ .off) :
    d.writeEnable p 0 = (d.setReg (E.PORT_ENABLE p) 0).toOff p := by
  unfold Dev.writeEnable
  dsimp only
  rw [if_pos rfl, Dev.port_setReg, if_neg h]

theorem Dev.writeEnable_set {p : Nat} (h : (d.port p).state = .off) (hm : (d.setReg (E.PORT_ENABLE p) 1).mayLeaveOff p = true) :
    d.writeEnable p 1 = (d.setReg (E.PORT_ENABLE p) 1).toDetect p := by
  unfold Dev.writeEnable
  dsimp only
  rw [if_neg Nat.one_ne_zero, if_pos (by rw [Dev.port_setReg, h, hm]; rfl)]

theorem Dev.retrain_of_open {p : Nat} (h : (d.port p).state ≠ .off) : d.retrain p = d.toDetect p := if_neg (by simp [h])

theorem Dev.ctxs_toDetect (d : Dev) (p : Nat) : (d.toDetect p).ctxs = d.ctxs := congrArg (fun x => x.2.2.2.1) (d.lasting_toDetect p)

theorem Dev.ctxs_toOff (d : Dev) (p : Nat) : (d.toOff p).ctxs = d.ctxs := congrArg (fun x => x.2.2.2.1) (d.lasting_toOff p)

/-! ## The switch -/

theorem State.takes_strayReclaim (b : Byte) (h : b.toNat ≤ 3) : s.takes E.STRAY_RECLAIM [0, 0, 0, b] d
    (if bits b.toNat 1 1 = 1 then (if bits b.toNat 0 1 = 1 then d.reclaim 0 else d).reclaim 1
      else if bits b.toNat 0 1 = 1 then d.reclaim 0 else d) := by
  have hv : beNat [0, 0, 0, b] = b.toNat := by simp [beNat]
  exact plainEntry_strayReclaim.takes_of (g := 3) rfl rfl hv (rangeFits_of_le (Nat.zero_le _) h)
    ((d.refuseRange_three _ _ _ _ _).trans (d.refuseSwitch_strayReclaim _ _))
    fun _ => (d.writeRange_three _ _ _ _ _ _).trans (d.writeSwitch_strayReclaim _ _)

section
variable {pl : List Byte} (hl : pl.length = 4) (h1 : 1 ≤ bits (beNat pl) 28 4) (h5 : bits (beNat pl) 28 4 ≤ 5)
  (hz : bits (beNat pl) 16 11 = 0) (hn : bits (beNat pl) 0 16 ≠ 0)

include h1 h5 hz hn in
theorem Dev.refuseKennelInject_of_kind (d : Dev) :
    d.refuseKennelInject (beNat pl) = if d.reg E.KENNEL_INJECT_LEFT != 0 then some .stateConflict else none := by
  have hk : (bits (beNat pl) 28 4 = 0) = False := eq_false (by omega)
  have hk5 : (5 < bits (beNat pl) 28 4) = False := eq_false (by omega)
  unfold Dev.refuseKennelInject
  simp only [hz, hk, hk5, hn]
  rfl

include hl h1 h5 hz hn

theorem State.takes_kennelInject (h : d.reg E.KENNEL_INJECT_LEFT = 0) : s.takes E.KENNEL_INJECT pl d
    { d.setReg E.KENNEL_INJECT_LEFT (bits (beNat pl) 0 16) with kinject := some ⟨bits (beNat pl) 28 4, bits (beNat pl) 27 1⟩ } := by
  have hlt := beNat_lt pl
  rw [hl] at hlt
  refine plainEntry_kennelInject.takes_of (g := 3) rfl (by rw [hl]; rfl) rfl
    (rangeFits_of_le (Nat.zero_le _) (Nat.le_of_lt_succ hlt))
    ((d.refuseRange_three _ _ _ _ _).trans ((d.refuseSwitch_kennelInject _ _).trans ?_))
    fun _ => (d.writeRange_three _ _ _ _ _ _).trans (d.writeSwitch_kennelInject _ _)
  exact (Dev.refuseKennelInject_of_kind h1 h5 hz hn d).trans (if_neg (by simp [h]))

theorem State.turnsAway_kennelInject (h : d.reg E.KENNEL_INJECT_LEFT ≠ 0) :
    s.turnsAway E.KENNEL_INJECT pl d .stateConflict := by
  have hlt := beNat_lt pl
  rw [hl] at hlt
  refine plainEntry_kennelInject.turnsAway_of (g := 3) rfl (by rw [hl]; rfl) rfl
    (rangeFits_of_le (Nat.zero_le _) (Nat.le_of_lt_succ hlt))
    ((d.refuseRange_three _ _ _ _ _).trans ((d.refuseSwitch_kennelInject _ _).trans ?_))
  exact (Dev.refuseKennelInject_of_kind h1 h5 hz hn d).trans (if_pos (by simp [h]))

end

theorem State.takes_flipTick (t : BitVec 64) (h : d.refuseFlip t.toNat = none) :
    s.takes E.FLIP_TICK (beBytes 8 t.toNat) d (d.writeFlip t.toNat) :=
  plainEntry_flipTick.takes_of (g := 3) rfl (by rw [length_beBytes]; rfl) (beNat_beBytes t.isLt : beNat _ = _)
    (rangeFits_of_le (Nat.zero_le _) (Nat.le_of_lt_succ t.isLt))
    ((d.refuseRange_three _ _ _ _ _).trans ((d.refuseSwitch_flipTick _ _).trans h))
    fun _ => (d.writeRange_three _ _ _ _ _ _).trans (d.writeSwitch_flipTick _ _)

theorem Dev.refuseFlip_of_ahead {t : Nat} (ht : d.tick + 64 ≤ t) (hf : d.routing.flipTick = none)
    (hb : d.bank (1 - d.ingressEpoch) = .idle) : d.refuseFlip t = none :=
  (if_neg (by omega)).trans ((if_neg (by omega)).trans ((if_neg (by simp [hf])).trans (if_neg (by simp [hb]))))

theorem beNat_beBytes_bank (b : Fin 2) : beNat (beBytes 1 b.val) = b.val := beNat_beBytes (by omega)

theorem State.takes_bankRetire (b : Fin 2) (hb : d.bank b.val = .draining) (h0 : d.drainCount b.val = 0) :
    s.takes E.BANK_RETIRE (beBytes 1 b.val) d (d.setBank b.val .idle) :=
  plainEntry_bankRetire.takes_of (g := 3) rfl (by rw [length_beBytes]; rfl) (beNat_beBytes_bank b)
    (rangeFits_of_le (Nat.zero_le _) (Nat.le_of_lt_succ b.isLt))
    ((d.refuseRange_three _ _ _ _ _).trans ((d.refuseSwitch_bankRetire _ _).trans
      (if_pos (by simp [hb, h0]) : d.refuseRetire b.val = none)))
    fun _ => (d.writeRange_three _ _ _ _ _ _).trans (d.writeSwitch_bankRetire _ _)

theorem State.turnsAway_bankRetire (b : Fin 2) (h0 : d.drainCount b.val ≠ 0) :
    s.turnsAway E.BANK_RETIRE (beBytes 1 b.val) d .stateConflict :=
  plainEntry_bankRetire.turnsAway_of (g := 3) (pl := beBytes 1 b.val) rfl (by rw [length_beBytes]; rfl) (beNat_beBytes_bank b)
    (rangeFits_of_le (Nat.zero_le _) (Nat.le_of_lt_succ b.isLt))
    ((d.refuseRange_three _ _ _ _ _).trans ((d.refuseSwitch_bankRetire _ _).trans
      (if_neg (by simp [h0]) : d.refuseRetire b.val = _)))

/-! ## The plan -/

section
variable {n : Nat} {v : List Byte} (hsame : planReach v = planReach (d.planEntry n))
include hsame

theorem Dev.refuseNeighbour_of_reach (hk : planKind v ≤ 3) (hz : beNat (slice v 20 4) = 0) (hc : beNat (slice v 17 1) ≤ 1) :
    d.refuseNeighbour n v = none :=
  (if_neg (by simp [hk, hz, hc])).trans (if_pos hsame)

theorem Dev.writeNeighbour_of_reach (hst : (d.port (d.physical n)).state ≠ .detect) :
    d.writeNeighbour n v = d.setBlob (E.PLAN_NEIGHBOUR n) v := by
  have hport : ((d.setBlob (E.PLAN_NEIGHBOUR n) v).port (d.physical n)).state ≠ .detect := hst
  unfold Dev.writeNeighbour
  dsimp only
  rw [if_pos hsame.symm, if_neg (by simp [hport])]

end

theorem State.takes_planNeighbour (n : Port) {v : List Byte} (hl : v.length = 24) (h : d.refuseNeighbour n.val v = none) :
    s.takes (E.PLAN_NEIGHBOUR n.val) v d (d.writeNeighbour n.val v) := by
  have hfit : lengthFits (row 0x3500 0x35ff 1 .octets .rwp 0 0x18 0x18 none) (E.PLAN_NEIGHBOUR n.val) v.length = true := by
    have hk : E.PLAN_NEIGHBOUR n.val ≠ E.EF_TABLE := by simp only [E.PLAN_NEIGHBOUR, E.EF_TABLE]; omega
    rw [hl]
    simp [lengthFits, typeFixed, row, hk]
  exact (plainEntry_planNeighbour n).takes_of (g := 3) (v := 0) (by omega) hfit rfl rfl
    ((d.refuseRange_three _ _ _ _ _).trans ((d.refuseSwitch_planNeighbour n _ _).trans h))
    fun _ => (d.writeRange_three _ _ _ _ _ _).trans (d.writeSwitch_planNeighbour n _ _)

theorem State.takes_remapClear (h : d.refuseRemap = none) : s.takes E.REMAP_CLEAR [1] d d.clearRemap :=
  plainEntry_remapClear.takes_of (g := 3) (v := 1) rfl rfl rfl rfl
    ((d.refuseRange_three _ _ _ _ _).trans ((d.refuseSwitch_remapClear _ _).trans h))
    fun _ => (d.writeRange_three _ _ _ _ _ _).trans (d.writeSwitch_remapClear _ _)

end

/-- Logical numbers take no part in what the loss of a port does. -/
theorem Dev.settle_logical (d : Dev) : ({ d with routing := { d.routing with logical := [] } } : Dev).settle d =
    ({ d with routing := { d.routing with logical := [] } } : Dev).settle { d with routing := { d.routing with logical := [] } } := rfl

theorem Dev.clearRemap_of_none {d : Dev} (h : d.remapped = []) :
    d.clearRemap = { d with routing := { d.routing with logical := [] } } := by
  unfold Dev.clearRemap
  dsimp only
  rw [h, List.foldl_nil, Dev.settle_logical]
  exact Dev.settle_of_states (fun _ => rfl) rfl rfl

/-- Settles O29: each entry's row, rule and effect are read off its index, and the effect's fields follow from what a port's
entries into OFF, DETECT and IDENT change where nothing is queued to it. -/
theorem portAndSwitchWrites : Obligations.PortAndSwitchWrites := by
  refine ⟨fun s d p hc hq hk => ⟨fun h => ?_, fun h => ?_, fun h hm => ?_, fun h => ?_, fun h => ?_, State.turnsAway_release p⟩,
    fun s d => ⟨State.takes_strayReclaim 1 (by decide), State.takes_strayReclaim 2 (by decide)⟩,
    fun s d pl hl h1 h5 hz hn => ⟨State.takes_kennelInject hl h1 h5 hz hn, State.turnsAway_kennelInject hl h1 h5 hz hn⟩,
    fun s d t ht h0 hf hb => (State.takes_flipTick t (Dev.refuseFlip_of_ahead ht hf hb)).congr ?_,
    fun s d => State.takes_flipTick 0 rfl,
    fun s d b hb => ⟨State.takes_bankRetire b hb, State.turnsAway_bankRetire b⟩,
    fun s d n v hl hk hz hc hr hst => (State.takes_planNeighbour n hl (Dev.refuseNeighbour_of_reach hr hk hz hc)).congr
      (Dev.writeNeighbour_of_reach hr hst),
    fun s d hr => (State.takes_remapClear (if_neg (by simp [hr]))).congr ?_⟩
  · refine (State.takes_portEnable p 0 (by decide)).congr ?_
    rw [show (0 : Byte).toNat = 0 from rfl, Dev.writeEnable_off h]
    exact Dev.settle_of_idle hc
  · have hw : (d.writeEnable p.val (0 : Byte).toNat).settle d = (d.setReg (E.PORT_ENABLE p.val) 0).toOff p.val := by
      rw [show (0 : Byte).toNat = 0 from rfl, Dev.writeEnable_clear (by simp [h])]
      exact Dev.settle_of_idle ((Dev.ctxs_toOff _ _).trans hc)
    refine (State.takes_portEnable p 0 (by decide)).takesTo (hw ▸ ⟨Dev.state_toOff, ?_, Dev.lane_toOff, fun q h => ?_⟩)
    · refine (Dev.reg_toOff (d := d.setReg (E.PORT_ENABLE p.val) 0) hq hk ?_).trans (Dev.reg_setReg_same _ _ _)
      simp [offKeys, lanes4, E.PORT_ENABLE, E.FABRIC_LEVEL, E.LANE0_MISWIRED, E.TEST_MODE, E.LOOP, E.CHECK_LOCK]
      omega
    · exact Dev.port_toOff_other (d := d.setReg (E.PORT_ENABLE p.val) 0) hq hk h
  · have hw : (d.writeEnable p.val (1 : Byte).toNat).settle d = (d.setReg (E.PORT_ENABLE p.val) 1).toDetect p.val := by
      rw [show (1 : Byte).toNat = 1 from rfl, Dev.writeEnable_set h hm]
      exact Dev.settle_of_idle ((Dev.ctxs_toDetect _ _).trans hc)
    refine (State.takes_portEnable p 1 (by decide)).takesTo (hw ▸ ⟨Dev.state_toDetect _ _, ?_⟩)
    refine (Dev.reg_toDetect (d := d.setReg (E.PORT_ENABLE p.val) 1) hq hk ?_).trans
      ((if_neg (by simp [E.PORT_ENABLE, E.FABRIC_LEVEL])).trans (Dev.reg_setReg_same _ _ _))
    simp [losKeys, lanes4, E.PORT_ENABLE, E.LOS_EVENTS, E.ANY_SATURATED, E.SATURATION_EVENTS]
    omega
  · have hw : (d.retrain p.val).settle d = d.toDetect p.val := by
      rw [Dev.retrain_of_open (by simp [h])]
      exact Dev.settle_of_idle ((Dev.ctxs_toDetect _ _).trans hc)
    refine (State.takes_retrain p).takesTo (hw ▸ ⟨Dev.state_toDetect _ _, Dev.kept_toDetect hq hk, ?_, fun q h =>
      Dev.port_toDetect_other hq hk h⟩)
    refine (Dev.reg_toDetect hq hk ?_).trans (if_pos rfl)
    simp [losKeys, lanes4, E.FABRIC_LEVEL, E.LOS_EVENTS, E.ANY_SATURATED, E.SATURATION_EVENTS]
    omega
  · have hw : (d.toIdent p.val).settle d = d.toIdent p.val := Dev.settle_of_idle ((Dev.ctxs_toIdent hq).trans hc)
    refine ((State.takes_release p h).congr hw).takesTo ⟨?_, ?_, fun q h => Dev.port_toIdent_other hq h⟩
    · rw [Dev.port_toIdent_same hq]
      rfl
    · rw [Dev.port_toIdent_same hq]
      rfl
  · have ht : t.toNat ≠ 0 := by omega
    unfold Dev.writeFlip
    rw [if_neg ht]
  · exact Dev.clearRemap_of_none hr

end Sys2Proof.Machine
end

section
/-! The writes of lane entries (O28). -/

namespace Sys2Proof.Machine

/-! ## The entries -/

/-- A per-lane entry of a port. -/
theorem PlainEntry.of_lane {lo sub : Nat} {r : EntryRow} (p : Port) (l : Lane)
    (h : PlainEntry ((lo + p.val) * 256 + (16 * l.val + sub)) (lo + p.val) (16 * l.val + sub) r) :
    PlainEntry ((lo + p.val) * 256 + 16 * l.val + sub) (lo + p.val) (16 * l.val + sub) r := by
  rwa [Nat.add_assoc]

theorem plainEntry_inject (p : Port) (l : Lane) : PlainEntry (E.INJECT p.val l.val) (0x2300 + p.val) (16 * l.val + 8)
    (laneRow 0x2300 0x23ff 8 .u32 .wo 0 0 0xffffffff none) := by
  refine .of_lane p l ?_
  fin_cases l <;> exact .of_range p (by decide) (by decide) rfl (by decide) (by decide)

theorem plainEntry_peakSet (p : Port) (l : Lane) : PlainEntry (E.PEAK_SET p.val l.val) (0x2200 + p.val) (16 * l.val + 13)
    (laneRow 0x2200 0x22ff 0xd .u8 .rw 0 0 0x1f none) := by
  refine .of_lane p l ?_
  fin_cases l <;> exact .of_range p (by decide) (by decide) rfl (by decide) (by decide)

theorem plainEntry_testMode (p : Port) (l : Lane) : PlainEntry (E.TEST_MODE p.val l.val) (0x2300 + p.val) (16 * l.val + 1)
    (laneRow 0x2300 0x23ff 1 .u8 .rw 0 0 3 none) := by
  refine .of_lane p l ?_
  fin_cases l <;> exact .of_range p (by decide) (by decide) rfl (by decide) (by decide)

theorem plainEntry_loop (p : Port) (l : Lane) : PlainEntry (E.LOOP p.val l.val) (0x2300 + p.val) (16 * l.val + 4)
    (laneRow 0x2300 0x23ff 4 .u8 .rw 0 0 3 none) := by
  refine .of_lane p l ?_
  fin_cases l <;> exact .of_range p (by decide) (by decide) rfl (by decide) (by decide)

theorem plainEntry_maxRate (p : Port) :
    PlainEntry (E.MAX_RATE p.val) (0x2100 + p.val) 2 (row 0x2100 0x21ff 2 .u8 .rwp 2 1 2 none) :=
  .of_range p (by decide) (by decide) rfl (by decide) (by decide)

theorem plainEntry_elecClass (p : Port) :
    PlainEntry (E.ELEC_CLASS p.val) (0x2100 + p.val) 1 (row 0x2100 0x21ff 1 .u8 .rwp 0 0 2 none) :=
  .of_range p (by decide) (by decide) rfl (by decide) (by decide)

theorem plainEntry_checkBits (p : Port) (l : Lane) : PlainEntry (E.CHECK_BITS p.val l.val) (0x2300 + p.val) (16 * l.val + 5)
    (laneRow 0x2300 0x23ff 5 .u64 .ro 0 0 0xffffffffffffffff none) := by
  refine .of_lane p l ?_
  fin_cases l <;> exact .of_range p (by decide) (by decide) rfl (by decide) (by decide)

theorem plainEntry_checkErrors (p : Port) (l : Lane) : PlainEntry (E.CHECK_ERRORS p.val l.val) (0x2300 + p.val) (16 * l.val + 6)
    (laneRow 0x2300 0x23ff 6 .u32 .ro 0 0 0xffffffff none) := by
  refine .of_lane p l ?_
  fin_cases l <;> exact .of_range p (by decide) (by decide) rfl (by decide) (by decide)

theorem PlainEntry.default {k i n : Nat} {r : EntryRow} (h : PlainEntry k i n r) : keyDefault k = r.dflt := by
  unfold keyDefault
  rw [h.index, h.sub, h.row]

theorem laneOf_lane (l : Lane) {sub : Nat} (h : sub < 16) : laneOf (16 * l.val + sub) = l := by
  refine Fin.ext ?_
  show (16 * l.val + sub) / 16 % 4 = l.val
  omega

section
variable {s : State} {d : Dev} (p : Port) (l : Lane)

/-! ## Their rules and effects -/

/-- The rules of the entries 0x2300 to 0x23FF, by the sub-index within the lane. -/
theorem Dev.refuseLink_lane {sub : Nat} (h : sub < 16) (v : Nat) : d.refuseLink (0x2300 + p.val) (16 * l.val + sub) v =
    if sub = 1 then d.refuseTest p.val l v true
    else if sub = 2 then d.refusePattern p.val l v
    else if sub = 4 then d.refuseTest p.val l v false
    else if sub = 8 then d.refuseInject p.val l v
    else if sub = 0xA then refuseIf (l != 0 && v = 0) .invalidValue
    else none := by
  have hp := p.isLt
  have hl := l.isLt
  unfold Dev.refuseLink
  refine (if_neg (by simp only [E.PEAK_WATCH_TICKS]; omega)).trans ?_
  iterate 2 refine (if_neg (by simp; omega)).trans ?_
  refine (if_neg (by omega)).trans ((if_pos (by omega)).trans ?_)
  rw [laneOf_lane l h, show (0x2300 + p.val) % 256 = p.val by omega, show (16 * l.val + sub) % 16 = sub by omega]

/-- The effects of the entries 0x2300 to 0x23FF that have one of their own. -/
theorem Dev.writeLink_lane {sub : Nat} (h : sub = 1 ∨ sub = 4 ∨ sub = 8) (v : Nat) :
    d.writeLink (0x2300 + p.val) (16 * l.val + sub) v =
      if sub = 1 then d.writeTestMode p.val l v else if sub = 4 then d.writeLoop p.val l v else d.writeInject p.val l v := by
  have hp := p.isLt
  have hl := l.isLt
  have hidx : (0x2300 + p.val) / 256 = 0x23 := by omega
  have hport : (0x2300 + p.val) % 256 = p.val := by omega
  have hsub : (16 * l.val + sub) % 16 = sub := by omega
  unfold Dev.writeLink
  simp only [hidx, hport, hsub, laneOf_lane l (show sub < 16 by omega)]
  rcases h with rfl | rfl | rfl <;> simp

theorem Dev.refuseLink_peakSet (v : Nat) : d.refuseLink (0x2200 + p.val) (16 * l.val + 13) v =
    refuseIf (d.flag E.PEAK_ADAPT) .stateConflict := by
  have hp := p.isLt
  have hl := l.isLt
  unfold Dev.refuseLink
  refine (if_neg (by simp only [E.PEAK_WATCH_TICKS]; omega)).trans ?_
  iterate 2 refine (if_neg (by simp)).trans ?_
  exact if_pos (by omega)

theorem Dev.writeLink_peakSet (v : Nat) : d.writeLink (0x2200 + p.val) (16 * l.val + 13) v = d.writePeak p.val l v := by
  have hp := p.isLt
  have hl := l.isLt
  unfold Dev.writeLink
  iterate 2 refine (if_neg (by simp)).trans ?_
  refine (if_pos (by omega)).trans ?_
  rw [laneOf_lane l (by decide), show (0x2200 + p.val) % 256 = p.val by omega]

theorem Dev.refuseLink_elecClass (v : Nat) : d.refuseLink (0x2100 + p.val) 1 v = d.refuseClass p.val v := by
  have hp := p.isLt
  unfold Dev.refuseLink
  refine (if_neg (by simp only [E.PEAK_WATCH_TICKS]; omega)).trans ((if_pos (by simp; omega)).trans ?_)
  rw [show (0x2100 + p.val) % 256 = p.val by omega]

theorem Dev.writeLink_elecClass (v : Nat) : d.writeLink (0x2100 + p.val) 1 v = d.writeClass p.val v := by
  have hp := p.isLt
  unfold Dev.writeLink
  refine (if_pos (by simp; omega)).trans ?_
  rw [show (0x2100 + p.val) % 256 = p.val by omega]

theorem Dev.refuseLink_maxRate (v : Nat) : d.refuseLink (0x2100 + p.val) 2 v = none := by
  have hp := p.isLt
  unfold Dev.refuseLink
  refine (if_neg (by simp only [E.PEAK_WATCH_TICKS]; omega)).trans ((if_neg (by simp)).trans ((if_neg (by simp)).trans ?_))
  iterate 2 refine (if_neg (by omega)).trans ?_
  exact if_neg (by simp; omega)

theorem Dev.writeLink_maxRate (v : Nat) : d.writeLink (0x2100 + p.val) 2 v = d.writeMaxRate p.val v := by
  have hp := p.isLt
  unfold Dev.writeLink
  refine (if_neg (by simp)).trans ((if_pos (by simp; omega)).trans ?_)
  rw [show (0x2100 + p.val) % 256 = p.val by omega]

/-! ## Writes that pass, and writes turned away -/

theorem State.takes_testMode (b : Byte) (h3 : b.toNat ≤ 3) (hr : d.refuseTest p.val l b.toNat true = none) :
    s.takes (E.TEST_MODE p.val l.val) [b] d (d.writeTestMode p.val l b.toNat) :=
  (plainEntry_testMode p l).takes_of (g := 2) (by omega) rfl (beNat_singleton b) (rangeFits_of_le (Nat.zero_le _) h3)
    ((d.refuseRange_two _ _ _ _ _).trans ((d.refuseLink_lane p l (by decide) _).trans hr))
    fun _ => (d.writeRange_two _ _ _ _ _ _).trans (d.writeLink_lane p l (.inl rfl) _)

theorem State.takes_loop (b : Byte) (h3 : b.toNat ≤ 3) (hr : d.refuseTest p.val l b.toNat false = none) :
    s.takes (E.LOOP p.val l.val) [b] d (d.writeLoop p.val l b.toNat) :=
  (plainEntry_loop p l).takes_of (g := 2) (by omega) rfl (beNat_singleton b) (rangeFits_of_le (Nat.zero_le _) h3)
    ((d.refuseRange_two _ _ _ _ _).trans ((d.refuseLink_lane p l (by decide) _).trans hr))
    fun _ => (d.writeRange_two _ _ _ _ _ _).trans (d.writeLink_lane p l (.inr (.inl rfl)) _)

theorem State.takes_inject {pl : List Byte} (hl : pl.length = 4) (hr : d.refuseInject p.val l (beNat pl) = none) :
    s.takes (E.INJECT p.val l.val) pl d (d.writeInject p.val l (beNat pl)) := by
  have hlt := beNat_lt pl
  rw [hl] at hlt
  exact (plainEntry_inject p l).takes_of (g := 2) (by omega) (by rw [hl]; rfl) rfl
    (rangeFits_of_le (Nat.zero_le _) (Nat.le_of_lt_succ hlt))
    ((d.refuseRange_two _ _ _ _ _).trans ((d.refuseLink_lane p l (by decide) _).trans hr))
    fun _ => (d.writeRange_two _ _ _ _ _ _).trans (d.writeLink_lane p l (.inr (.inr rfl)) _)

theorem State.turnsAway_inject {pl : List Byte} (hl : pl.length = 4) {st : Status}
    (hr : d.refuseInject p.val l (beNat pl) = some st) : s.turnsAway (E.INJECT p.val l.val) pl d st := by
  have hlt := beNat_lt pl
  rw [hl] at hlt
  exact (plainEntry_inject p l).turnsAway_of (g := 2) (by omega) (by rw [hl]; rfl) rfl
    (rangeFits_of_le (Nat.zero_le _) (Nat.le_of_lt_succ hlt))
    ((d.refuseRange_two _ _ _ _ _).trans ((d.refuseLink_lane p l (by decide) _).trans hr))

theorem State.takes_peakSet (b : Byte) (h : b.toNat ≤ 31) (hf : d.flag E.PEAK_ADAPT = false) :
    s.takes (E.PEAK_SET p.val l.val) [b] d (d.writePeak p.val l b.toNat) :=
  (plainEntry_peakSet p l).takes_of (g := 2) (by omega) rfl (beNat_singleton b) (rangeFits_of_le (Nat.zero_le _) h)
    ((d.refuseRange_two _ _ _ _ _).trans ((d.refuseLink_peakSet p l _).trans (if_neg (by simp [hf]))))
    fun _ => (d.writeRange_two _ _ _ _ _ _).trans (d.writeLink_peakSet p l _)

theorem State.takes_maxRate (b : Byte) (h1 : 1 ≤ b.toNat) (h2 : b.toNat ≤ 2) :
    s.takes (E.MAX_RATE p.val) [b] d (d.writeMaxRate p.val b.toNat) :=
  (plainEntry_maxRate p).takes_of (g := 2) (by omega) rfl (beNat_singleton b) (rangeFits_of_le h1 h2)
    ((d.refuseRange_two _ _ _ _ _).trans (d.refuseLink_maxRate p _))
    fun _ => (d.writeRange_two _ _ _ _ _ _).trans (d.writeLink_maxRate p _)

theorem State.takes_elecClass (b : Byte) (h2 : b.toNat ≤ 2) (hr : d.refuseClass p.val b.toNat = none) :
    s.takes (E.ELEC_CLASS p.val) [b] d (d.writeClass p.val b.toNat) :=
  (plainEntry_elecClass p).takes_of (g := 2) (by omega) rfl (beNat_singleton b) (rangeFits_of_le (Nat.zero_le _) h2)
    ((d.refuseRange_two _ _ _ _ _).trans ((d.refuseLink_elecClass p _).trans hr))
    fun _ => (d.writeRange_two _ _ _ _ _ _).trans (d.writeLink_elecClass p _)

theorem State.turnsAway_elecClass (b : Byte) (h2 : b.toNat ≤ 2) {st : Status} (hr : d.refuseClass p.val b.toNat = some st) :
    s.turnsAway (E.ELEC_CLASS p.val) [b] d st :=
  (plainEntry_elecClass p).turnsAway_of (g := 2) (pl := [b]) (by omega) rfl (beNat_singleton b)
    (rangeFits_of_le (Nat.zero_le _) h2) ((d.refuseRange_two _ _ _ _ _).trans ((d.refuseLink_elecClass p _).trans hr))

end

/-! ## INJECT -/

section
variable {d : Dev} {p : Nat} {l : Lane} {v : Nat} (h1 : 1 ≤ bits v 28 4) (h6 : bits v 28 4 ≤ 6) (hn : bits v 0 24 ≠ 0)
  (hs : bits v 28 4 = 2 ∨ bits v 28 4 = 4 → bits v 24 4 ≠ 0)
include h1 h6 hn hs

/-- A value that names a kind, a count and the symbols it needs is refused by state only. -/
theorem Dev.refuseInject_of_value : d.refuseInject p l v =
    if d.injectLeft p l != 0 then some .stateConflict
    else if (bits v 28 4 = 1 && (d.lane p l).state != .test) || (d.lane p l).state = .off then some .stateConflict
    else none := by
  refine if_neg ?_
  simp only [Bool.or_eq_true, decide_eq_true_eq, Bool.and_eq_true, not_or, not_and]
  exact ⟨⟨⟨by omega, by omega⟩, hn⟩, hs⟩

theorem Dev.refuseInject_of_free (h0 : d.injectLeft p l = 0) (ho : (d.lane p l).state ≠ .off)
    (ht : bits v 28 4 = 1 → (d.lane p l).state = .test) : d.refuseInject p l v = none := by
  rw [Dev.refuseInject_of_value h1 h6 hn hs, if_neg (by simp [h0])]
  refine if_neg ?_
  simp only [Bool.or_eq_true, decide_eq_true_eq, Bool.and_eq_true, not_or, not_and, bne_iff_ne, ne_eq, not_not]
  exact ⟨ht, ho⟩

theorem Dev.refuseInject_of_left (h0 : d.injectLeft p l ≠ 0) : d.refuseInject p l v = some .stateConflict := by
  rw [Dev.refuseInject_of_value h1 h6 hn hs, if_pos (by simp [h0])]

end

theorem Dev.writeInject_eq (d : Dev) (p : Nat) (l : Lane) (v : Nat) : d.writeInject p l v =
    (d.updLane p l (fun y => { y with inject := some ⟨bits v 28 4,
      if bits v 28 4 = 3 ∨ bits v 28 4 = 5 then 16 else bits v 24 4, bits v 0 24, 0, 0⟩ })).notePins d p l := by
  unfold Dev.writeInject
  simp only [Bool.or_eq_true, decide_eq_true_eq]

/-! ## TEST_MODE and LOOP -/

section
variable {d : Dev} {p : Nat} {l : Lane}

theorem Dev.refuseTest_off_mode {v : Nat} (h : (d.lane p l).state = .off)
    (hp : patternSuits (d.reg (E.PATTERN p l.val)) (d.reg (E.TEST_RATE p l.val)) = true) : d.refuseTest p l v true = none := by
  have he : d.testEligible p l = true := by
    unfold Dev.testEligible
    rw [Dev.lane] at h
    simp [h]
  have hr : d.patternRate p l = d.reg (E.TEST_RATE p l.val) := if_neg (by simp [h])
  unfold Dev.refuseTest
  simp [he, hr, hp]

theorem Dev.refuseTest_off_loop {v : Nat} (h : (d.lane p l).state = .off) : d.refuseTest p l v false = none := by
  have he : d.testEligible p l = true := by
    unfold Dev.testEligible
    rw [Dev.lane] at h
    simp [h]
  unfold Dev.refuseTest
  simp [he]

/-- A lane that leaves another state for TEST. -/
theorem Dev.setTest_enters (hrun : d.reg (E.TEST_MODE p l.val) ≠ 0 ∨ d.reg (E.LOOP p l.val) ≠ 0) (hst : (d.lane p l).state ≠ .test) :
    d.setTest p l = d.updLane p l (fun y => { (y.fresh.load (d.reg (E.TEST_RATE p l.val)) (d.elecClass p)) with
      state := .test, leftState := y.state, rate := d.reg (E.TEST_RATE p l.val), flips := 0 }) :=
  (if_pos (by simpa using hrun)).trans (if_neg hst)

/-- A lane that leaves TEST. -/
theorem Dev.setTest_leaves (hm : d.reg (E.TEST_MODE p l.val) = 0) (hl : d.reg (E.LOOP p l.val) = 0) (hst : (d.lane p l).state = .test) :
    d.setTest p l = (d.updLane p l (fun y => { y.fresh with state := y.leftState, rate := 0 })).setReg (E.CHECK_LOCK p l.val) 0 :=
  (if_neg (by simp [hm, hl])).trans (if_pos hst)

/-- The registers of a test that starts. -/
def Dev.clearedTest (d : Dev) (p : Nat) (l : Lane) (v : Nat) : Dev :=
  (((d.setReg (E.TEST_MODE p l.val) v).clearCounter (E.CHECK_BITS p l.val)).clearCounter (E.CHECK_ERRORS p l.val)).setReg
    (E.CHECK_LOCK p l.val) 0

theorem Dev.writeTestMode_eq (v : Nat) : d.writeTestMode p l v = ((d.clearedTest p l v).setTest p l).notePins d p l := rfl

theorem Dev.reg_clearedTest (v k : Nat) : (d.clearedTest p l v).reg k =
    if k = E.CHECK_LOCK p l.val then 0
    else if k = E.CHECK_ERRORS p l.val ∨ k = E.CHECK_BITS p l.val then keyDefault k
    else if k = E.TEST_MODE p l.val then v else d.reg k := by
  have hclear : ∀ (e : Dev) (c : Nat), (e.clearCounter c).reg k = if k = c then keyDefault k else e.reg k := fun e c => by
    by_cases h : k = c
    · rw [if_pos h, h]
      show (tget (terase e.regs c) c).getD _ = _
      rw [tget_terase, if_pos rfl]
      rfl
    · rw [if_neg h, Dev.reg_clearCounter_other h]
  unfold Dev.clearedTest
  rw [Dev.reg_setReg, hclear, hclear, Dev.reg_setReg]
  by_cases h1 : k = E.CHECK_ERRORS p l.val
  · simp [h1]
  · simp [h1]

theorem Dev.lane_clearedTest (v : Nat) : (d.clearedTest p l v).lane p l = d.lane p l := rfl

end

@[simp] theorem Dev.reg_updLane (d : Dev) (p : Nat) (l : Lane) (f : LaneSt → LaneSt) (k : Nat) : (d.updLane p l f).reg k = d.reg k := rfl

/-! ## MAX_RATE and ELEC_CLASS -/

theorem Dev.lane_allowRestore (d : Dev) (p : Nat) (l : Lane) :
    (d.allowRestore p).lane p l = { d.lane p l with noRestore := false, askOff := false } := by
  unfold Dev.allowRestore
  rw [Dev.lane, Dev.port_updPort_same, PortSt.lane_mapLanes]
  rfl

theorem Dev.writeMaxRate_raise {d : Dev} {p : Nat} (h : d.reg (E.MAX_RATE p) = 1) :
    d.writeMaxRate p 2 = (d.allowRestore p).setReg (E.MAX_RATE p) 2 := by
  unfold Dev.writeMaxRate
  dsimp only
  rw [if_neg (by decide), if_neg (by rw [h]; decide)]

theorem Dev.elecClass_writeClass (d : Dev) (p v : Nat) : (d.writeClass p v).elecClass p = v := by
  unfold Dev.elecClass Dev.writeClass
  show (tget (tset _ _ _) _).getD _ = v
  rw [tget_tset_same]
  rfl

theorem Dev.refuseClass_cable {d : Dev} {p : Nat} (h : ∀ l : Lane, (d.lane p l).state = .off) : d.refuseClass p 0 = none :=
  (if_neg (by simp)).trans ((if_neg (by simp [h])).trans (if_neg (by simp)))

theorem Dev.refuseClass_running {d : Dev} {p : Nat} (h : (d.lane p 0).state ≠ .off) : d.refuseClass p 0 = some .stateConflict :=
  (if_neg (by simp)).trans (if_pos (List.any_eq_true.2 ⟨0, by decide, by simp [h]⟩))

/-- Settles O28: each entry's row, rule and effect are read off its index, and the effect's fields follow. -/
theorem laneWrites : Obligations.LaneWrites := by
  refine ⟨fun s d p l pl hl h1 h6 hn hs => ⟨fun h0 ho ht => ?_, fun h0 => ?_⟩,
    fun s d p l b hb hf => State.takes_peakSet p l b hb hf, fun s d p l h hp => ?_, fun s d p l h hm => ?_,
    fun s d p l h hm => ?_, fun s d p h => ?_, fun s d p h => ?_, fun s d p h => ?_⟩
  · exact (State.takes_inject p l hl (Dev.refuseInject_of_free h1 h6 hn hs h0 ho ht)).congr (d.writeInject_eq _ _ _)
  · exact State.turnsAway_inject p l hl (Dev.refuseInject_of_left h1 h6 hn hs h0)
  · have hmode : (d.clearedTest p.val l 3).reg (E.TEST_MODE p.val l.val) = 3 := by
      rw [Dev.reg_clearedTest]
      simp [E.TEST_MODE, E.CHECK_LOCK, E.CHECK_ERRORS, E.CHECK_BITS]
    have hrate : (d.clearedTest p.val l 3).reg (E.TEST_RATE p.val l.val) = d.reg (E.TEST_RATE p.val l.val) := by
      rw [Dev.reg_clearedTest]
      simp [E.TEST_RATE, E.TEST_MODE, E.CHECK_LOCK, E.CHECK_ERRORS, E.CHECK_BITS]
    have henter := Dev.setTest_enters (d := d.clearedTest p.val l 3) (.inl (by rw [hmode]; decide))
      (by rw [Dev.lane_clearedTest, h]; decide)
    refine (State.takes_testMode p l 3 (by decide) (Dev.refuseTest_off_mode h hp)).takesTo ?_
    rw [show (3 : Byte).toNat = 3 from rfl, Dev.writeTestMode_eq, henter, hrate]
    simp only [Dev.lane_notePins, Dev.reg_notePins, Dev.lane_updLane_same, Dev.reg_updLane]
    refine ⟨trivial, trivial, hmode, ?_, ?_, ?_⟩
    · rw [Dev.reg_clearedTest, if_neg (by simp [E.CHECK_LOCK, E.CHECK_BITS]), if_pos (.inr rfl), (plainEntry_checkBits p l).default]
      rfl
    · rw [Dev.reg_clearedTest, if_neg (by simp [E.CHECK_LOCK, E.CHECK_ERRORS]), if_pos (.inl rfl),
        (plainEntry_checkErrors p l).default]
      rfl
    · rw [Dev.reg_clearedTest, if_pos rfl]
  · have hloop : (d.setReg (E.LOOP p.val l.val) 1).reg (E.LOOP p.val l.val) = 1 := Dev.reg_setReg_same _ _ _
    have henter := Dev.setTest_enters (d := d.setReg (E.LOOP p.val l.val) 1) (p := p.val) (l := l) (.inr (by rw [hloop]; decide))
      (by rw [Dev.lane, Dev.port_setReg, ← Dev.lane, h]; decide)
    refine (State.takes_loop p l 1 (by decide) (Dev.refuseTest_off_loop h)).takesTo ?_
    unfold Dev.writeLoop
    rw [show (1 : Byte).toNat = 1 from rfl, henter, Dev.lane_notePins, Dev.lane_updLane_same]
    exact ⟨rfl, h⟩
  · have hloop : (d.setReg (E.LOOP p.val l.val) 0).reg (E.LOOP p.val l.val) = 0 := Dev.reg_setReg_same _ _ _
    have hmode : (d.setReg (E.LOOP p.val l.val) 0).reg (E.TEST_MODE p.val l.val) = 0 := by
      rw [Dev.reg_setReg_other _ _ (by simp [E.TEST_MODE, E.LOOP]), hm]
    have hleave := Dev.setTest_leaves (d := d.setReg (E.LOOP p.val l.val) 0) hmode hloop
      (by rw [Dev.lane, Dev.port_setReg, ← Dev.lane, h])
    refine (State.takes_loop p l 0 (by decide) rfl).takesTo ?_
    unfold Dev.writeLoop
    rw [show (0 : Byte).toNat = 0 from rfl, hleave, Dev.lane_notePins, Dev.lane, Dev.port_setReg, ← Dev.lane, Dev.lane_updLane_same]
    exact ⟨rfl, rfl⟩
  · refine (State.takes_maxRate p 2 (by decide) (by decide)).takesTo ?_
    rw [show (2 : Byte).toNat = 2 from rfl, Dev.writeMaxRate_raise h]
    refine ⟨Dev.reg_setReg_same _ _ _, fun l => ?_⟩
    rw [Dev.lane, Dev.port_setReg, ← Dev.lane, Dev.lane_allowRestore]
    exact ⟨rfl, rfl⟩
  · exact (State.takes_elecClass p 0 (by decide) (Dev.refuseClass_cable h)).takesTo (Dev.elecClass_writeClass _ _ _)
  · exact State.turnsAway_elecClass p 0 (by decide) (Dev.refuseClass_running h)

end Sys2Proof.Machine
end

section
/-! The kennel's operations (O35). -/

namespace Sys2Proof.Machine

/-! ## Rules of an S-die's kennel -/

section
variable (d : Dev) (k : Kennel) {s : Nat}

theorem Dev.kennel_setKennel_same (s : Nat) : (d.setKennel s k).kennel s = k := by
  unfold Dev.setKennel Dev.kennel
  by_cases h : s = 0
  · rw [if_pos h, if_pos h]
  · rw [if_neg h, if_neg h]

theorem Dev.kennel_setKennel_other (hs : s < 2) : (d.setKennel s k).kennel (1 - s) = d.kennel (1 - s) := by
  rcases Nat.le_one_iff_eq_zero_or_eq_one.1 (Nat.le_of_lt_succ hs) with rfl | rfl <;> rfl

theorem Dev.setKennel_self (s : Nat) : d.setKennel s (d.kennel s) = d := by
  unfold Dev.setKennel Dev.kennel
  by_cases h : s = 0
  · rw [if_pos h, if_pos h]
  · rw [if_neg h, if_neg h]

theorem Dev.setKennel_frame (s : Nat) : ∃ a b, d.setKennel s k = { d with kennel0 := a, kennel1 := b } := by
  unfold Dev.setKennel
  split
  · exact ⟨k, d.kennel1, rfl⟩
  · exact ⟨d.kennel0, k, rfl⟩

end

theorem Kennel.walk_of_idle {k : Kennel} (h : k.rebuild = none) (t : Nat) : k.walk t = k := by
  unfold Kennel.walk
  rw [h]

theorem Kennel.appendFree_of_idle {k : Kennel} (h : k.rebuild = none) (i : Nat) :
    k.appendFree i = { k with free := k.free ++ [(i, i)] } := by
  unfold Kennel.appendFree
  rw [h]

theorem Dev.walked_of_idle {d : Dev} {s : Nat} (h : (d.kennel s).rebuild = none) :
    d.setKennel s ((d.kennel s).walk d.tick) = d := by
  rw [Kennel.walk_of_idle h, Dev.setKennel_self]

theorem Dev.takeKinject_of_unarmed {d : Dev} (h : d.kinject = none) (s kind : Nat) : d.takeKinject s kind = (false, d) := by
  unfold Dev.takeKinject
  rw [h]

theorem Dev.readSlot_of_clean {d : Dev} {s i : Nat} (h : d.sentry.inject = none) (hw : sramMark 0 (s * slotCount + i) ∉ d.ueWords)
    (ini : Nat) : d.readSlot s i ini = (true, d) := Dev.sramRead_of_clean h hw ini

/-- A word that holds no uncorrectable error is written again. -/
theorem Dev.rewriteWord_of_clean {d : Dev} {c w : Nat} (h : sramMark c w ∉ d.ueWords) : d.rewriteWord c w = d := by
  have hf : d.ueWords.filter (· != sramMark c w) = d.ueWords :=
    List.filter_eq_self.2 fun a ha => bne_iff_ne.2 fun e => h (e ▸ ha)
  unfold Dev.rewriteWord
  rw [hf]

theorem Dev.updMap_tele (d : Dev) (s : Nat) (f : MapGather → MapGather) : ∃ x, d.updMap s f = { d with tele := x } := by
  unfold Dev.updMap
  dsimp only
  split
  · exact ⟨d.tele, rfl⟩
  · exact ⟨_, rfl⟩

/-- What the peak of SHR may change. -/
theorem Dev.notePeak_frame (d : Dev) (s : Nat) : ∃ r x, d.notePeak s = { d with regs := r, tele := x } := by
  obtain ⟨x, hx⟩ := d.updMap_tele s (fun m => { m with shrPeak := max m.shrPeak ((d.kennel s).used .shr) })
  unfold Dev.notePeak
  dsimp only
  rw [hx]
  split
  · exact ⟨_, x, rfl⟩
  · exact ⟨d.regs, x, rfl⟩

theorem Dev.reg_notePeak (d : Dev) {s k : Nat} (h : k ≠ E.SHR_PEAK s) : (d.notePeak s).reg k = d.reg k := by
  obtain ⟨x, hx⟩ := d.updMap_tele s (fun m => { m with shrPeak := max m.shrPeak ((d.kennel s).used .shr) })
  unfold Dev.notePeak
  dsimp only
  rw [hx]
  split
  · exact Dev.reg_setReg_other _ _ h
  · rfl

@[simp] theorem Dev.kennel_notePeak (d : Dev) (s t : Nat) : (d.notePeak s).kennel t = d.kennel t := by
  obtain ⟨r, x, h⟩ := d.notePeak_frame s
  rw [h]
  rfl

/-! ## Pointers (R176, R177) -/

section
variable {s i : Nat} (hs : s < 2) (hi : i < slotCount)
include hs hi

theorem slotPtr_lt : slotPtr s i < 2 ^ 28 := by
  simp only [slotPtr, slotCount] at *
  omega

theorem ptrCheck_slotPtr : ptrCheck s (slotPtr s i) = none := by
  have h28 : bits (slotPtr s i) 28 4 = 0 := by simp only [bits, slotPtr, slotCount] at *; omega
  have h0 : bits (slotPtr s i) 0 27 = i * 128 := by simp only [bits, slotPtr, slotCount] at *; omega
  have h7 : bits (slotPtr s i) 0 7 = 0 := by simp only [bits, slotPtr, slotCount] at *; omega
  have hd : bits (slotPtr s i) 27 1 = s := by simp only [bits, slotPtr, slotCount] at *; omega
  unfold ptrCheck
  rw [h28, h0, h7, hd]
  simp only [slotCount] at hi
  simp
  omega

omit hs in
theorem slot_slotPtr : bits (slotPtr s i) 7 20 = i := by simp only [bits, slotPtr, slotCount] at *; omega

theorem toNat_slotPtr : (BitVec.ofNat 32 (slotPtr s i)).toNat = slotPtr s i := by
  have := slotPtr_lt hs hi
  rw [BitVec.toNat_ofNat]
  omega

end

/-! ## ALLOCATE (R188) -/

section
variable {d : Dev} {s o sl lo hi : Nat} {pool : Pool} {rest : List (Nat × Nat)} (hr : (d.kennel s).rebuild = none)
include hr

theorem Dev.allocate_full (hf : d.poolSize s pool ≤ (d.kennel s).used pool) :
    d.allocate s pool o sl = (none, d.poolEmpty s o (pool != .shr)) := by
  unfold Dev.allocate
  rw [Dev.walked_of_idle hr]
  exact if_pos hf

theorem Dev.allocate_no_slot (hf : (d.kennel s).used pool < d.poolSize s pool) (h0 : (d.kennel s).free = []) :
    d.allocate s pool o sl = (none, d.poolEmpty s o true) := by
  unfold Dev.allocate
  rw [Dev.walked_of_idle hr]
  dsimp only
  rw [if_neg (Nat.not_le.2 hf), h0]

/-- The kennel of an S-die whose first free slot is taken. -/
def Kennel.pop (k : Kennel) (lo hi : Nat) (rest : List (Nat × Nat)) (x : KSlot) : Kennel :=
  { k with free := if lo < hi then (lo + 1, hi) :: rest else rest, slots := tset k.slots lo x }

theorem Dev.allocate_head (hj : d.kinject = none) (hi0 : d.sentry.inject = none) (hw : sramMark 0 (s * slotCount + lo) ∉ d.ueWords)
    (hf : (d.kennel s).used pool < d.poolSize s pool) (hfree : (d.kennel s).free = (lo, hi) :: rest)
    (hslot : tget (d.kennel s).slots lo = none) :
    d.allocate s pool o sl = (some lo, (d.setKennel s ((d.kennel s).pop lo hi rest
      { pool := pool, owner := o, sl := sl, allocTick := d.tick % 2 ^ 32 })).notePeak s) := by
  have hclean : ∀ k : Kennel, (d.setKennel s k).rewriteWord 0 (s * slotCount + lo) = d.setKennel s k := fun k => by
    refine Dev.rewriteWord_of_clean ?_
    obtain ⟨a, b, h⟩ := d.setKennel_frame k s
    rw [h]
    exact hw
  unfold Dev.allocate
  rw [Dev.walked_of_idle hr]
  dsimp only
  rw [if_neg (Nat.not_le.2 hf), hfree, Dev.takeKinject_of_unarmed hj]
  dsimp only
  rw [Dev.readSlot_of_clean hi0 hw]
  dsimp only
  rw [hslot, if_neg (by decide), hclean]
  rfl

end

section
variable {d : Dev} {s o : Nat} (hreg : d.reg (E.ALLOC_FAILS s) < 0xFFFFFFFE)
include hreg

theorem Dev.poolEmpty_quiet : d.poolEmpty s o false = d.setReg (E.ALLOC_FAILS s) (d.reg (E.ALLOC_FAILS s) + 1) := by
  unfold Dev.poolEmpty
  exact Dev.countErr_of_lt hreg

theorem Dev.poolEmpty_reported : d.poolEmpty s o true = (d.setReg (E.ALLOC_FAILS s) (d.reg (E.ALLOC_FAILS s) + 1)).report
    (bark 0x0401 accKennel (iniXbar s (o % 256)) false nullPtr (d.reg (E.LAST_REFUSAL s))) := by
  unfold Dev.poolEmpty
  rw [Dev.countErr_of_lt hreg]
  dsimp only
  rw [if_pos rfl, Dev.kennelReport, Dev.reg_setReg_other _ _ (by simp [E.LAST_REFUSAL, E.ALLOC_FAILS])]

end

/-! ## RELEASE and HANDOVER (R188, R189) -/

section
variable {d : Dev} {s i o : Nat} {x : KSlot} (hs : s < 2) (hi : i < slotCount) (hi0 : d.sentry.inject = none)
  (hw : sramMark 0 (s * slotCount + i) ∉ d.ueWords)
include hs hi hi0 hw

theorem Dev.release_found (hj : d.kinject = none) (hr : (d.kennel s).rebuild = none) (hx : tget (d.kennel s).slots i = some x) :
    d.release s (slotPtr s i) o = if x.owner != o then d.kennelRefuse s 4 o (slotPtr s i) false
      else d.setKennel s { d.kennel s with slots := terase (d.kennel s).slots i, free := (d.kennel s).free ++ [(i, i)] } := by
  unfold Dev.release
  simp only [Dev.takeKinject_of_unarmed hj, Bool.false_eq_true, if_false, Bool.or_self, Dev.walked_of_idle hr, ptrCheck_slotPtr hs hi,
    slot_slotPtr hi, Dev.readSlot_of_clean hi0 hw, hx]
  rw [Kennel.appendFree_of_idle (k := { d.kennel s with slots := terase (d.kennel s).slots i }) hr i]

omit hs hi in
theorem Dev.handover_held {ptr n : Nat} {pool : Pool} (hp : ptrCheck s ptr = none) (hb : bits ptr 7 20 = i)
    (hx : tget (d.kennel s).slots i = some x) (ho : x.owner = o) :
    d.handover s ptr o n pool = if x.stray then (false, d) else (true, (d.setKennel s { d.kennel s with
      slots := tset (d.kennel s).slots i { x with owner := n, pool := pool, allocTick := d.tick % 2 ^ 32 } }).notePeak s) := by
  unfold Dev.handover
  rw [hp]
  dsimp only
  rw [hb, Dev.readSlot_of_clean hi0 hw]
  dsimp only
  rw [hx]
  exact if_neg (by simp [ho])

omit hs hi in
theorem Dev.handover_free {ptr n : Nat} {pool : Pool} (hp : ptrCheck s ptr = none) (hb : bits ptr 7 20 = i)
    (hx : tget (d.kennel s).slots i = none) : d.handover s ptr o n pool = (false, d) := by
  unfold Dev.handover
  rw [hp]
  dsimp only
  rw [hb, Dev.readSlot_of_clean hi0 hw]
  dsimp only
  rw [hx]

theorem Dev.handover_found {n : Nat} {pool : Pool} (hx : tget (d.kennel s).slots i = some x) (ho : x.owner = o) (hst : x.stray = false) :
    d.handover s (slotPtr s i) o n pool = (true, (d.setKennel s { d.kennel s with
      slots := tset (d.kennel s).slots i { x with owner := n, pool := pool, allocTick := d.tick % 2 ^ 32 } }).notePeak s) := by
  rw [Dev.handover_held hi0 hw (ptrCheck_slotPtr hs hi) (slot_slotPtr hi) hx ho, if_neg (by simp [hst])]

theorem Dev.handover_nothing {n : Nat} {pool : Pool} (h : tget (d.kennel s).slots i = none ∨
    ∃ x, tget (d.kennel s).slots i = some x ∧ x.owner = o ∧ x.stray = true) :
    d.handover s (slotPtr s i) o n pool = (false, d) := by
  have hp := ptrCheck_slotPtr hs hi
  have hb := slot_slotPtr (s := s) hi
  rcases h with h | ⟨x, hx, ho, hst⟩
  · exact Dev.handover_free hi0 hw hp hb h
  · rw [Dev.handover_held hi0 hw hp hb hx ho, if_pos hst]

end

theorem Dev.kennelRefuse_of_lt {d : Dev} {s code owner ptr : Nat} (h : d.reg (E.KENNEL_REFUSALS s) < 0xFFFFFFFE) :
    ∃ x, d.kennelRefuse s code owner ptr false = { (d.setReg (E.LAST_REFUSAL s) (code * 2 ^ 56 + owner * 2 ^ 47 + ptr)).setReg
      (E.KENNEL_REFUSALS s) (d.reg (E.KENNEL_REFUSALS s) + 1) with sentry := x, draws := d.draws + 1 } := by
  have hne : E.KENNEL_REFUSALS s ≠ E.LAST_REFUSAL s := by simp [E.KENNEL_REFUSALS, E.LAST_REFUSAL]
  have hreg : (d.setReg (E.LAST_REFUSAL s) (code * 2 ^ 56 + owner * 2 ^ 47 + ptr)).reg (E.KENNEL_REFUSALS s) =
      d.reg (E.KENNEL_REFUSALS s) := Dev.reg_setReg_other _ _ hne
  unfold Dev.kennelRefuse
  rw [Dev.countErr_of_lt (hreg.symm ▸ h), hreg]
  exact ⟨_, rfl⟩

theorem Dev.kennelRefuse_fields {d : Dev} {s code owner ptr : Nat} (h : d.reg (E.KENNEL_REFUSALS s) < 0xFFFFFFFE) :
    (d.kennelRefuse s code owner ptr false).reg (E.LAST_REFUSAL s) = code * 2 ^ 56 + owner * 2 ^ 47 + ptr ∧
    (d.kennelRefuse s code owner ptr false).reg (E.KENNEL_REFUSALS s) = d.reg (E.KENNEL_REFUSALS s) + 1 ∧
    (∀ k, k ≠ E.LAST_REFUSAL s → k ≠ E.KENNEL_REFUSALS s → (d.kennelRefuse s code owner ptr false).reg k = d.reg k) ∧
    { d.kennelRefuse s code owner ptr false with regs := d.regs, sentry := d.sentry, draws := d.draws } = d := by
  obtain ⟨y, hy⟩ := Dev.kennelRefuse_of_lt (code := code) (owner := owner) (ptr := ptr) h
  rw [hy]
  exact ⟨(Dev.reg_setReg_other _ _ (by simp [E.KENNEL_REFUSALS, E.LAST_REFUSAL])).trans (Dev.reg_setReg_same _ _ _),
    Dev.reg_setReg_same _ _ _, fun k h1 h2 => (Dev.reg_setReg_other _ _ h2).trans (Dev.reg_setReg_other _ _ h1), rfl⟩

/-! ## The operations as commands -/

theorem Dev.reg_setKennel (d : Dev) (s : Nat) (k : Kennel) (i : Nat) : (d.setKennel s k).reg i = d.reg i :=
  Dev.reg_of_regs (d.setKennel_regs s k) i

/-- What a change of a kennel whose peak is noted may change. -/
theorem Dev.peaked_frame (d : Dev) (s : Nat) (k : Kennel) :
    ∃ a b r x, (d.setKennel s k).notePeak s = { d with kennel0 := a, kennel1 := b, regs := r, tele := x } := by
  obtain ⟨a, b, h⟩ := d.setKennel_frame k s
  rw [h]
  obtain ⟨r, x, h'⟩ := Dev.notePeak_frame { d with kennel0 := a, kennel1 := b } s
  exact ⟨a, b, r, x, h'⟩

section
variable {s : State} {sd : Sdie} {o : Owner} {d1 : Dev}

theorem exec_allocate_some {pool : Pool} {i : Nat} (hd : s.domainOff .switch = false)
    (h : s.toDev.allocate sd.val pool o.val 0 = (some i, d1)) :
    exec (.allocate sd pool o) s = .next (s.dev (d1.emit (.answer s.tick askAllocate 0 (slotPtr sd.val i)))) := by
  refine run_dev ((if_neg (by simp [hd])).trans ?_)
  rw [h]

theorem exec_allocate_none {pool : Pool} (hd : s.domainOff .switch = false)
    (h : s.toDev.allocate sd.val pool o.val 0 = (none, d1)) :
    exec (.allocate sd pool o) s = .next (s.dev (d1.emit (.answer s.tick askAllocate 1 nullPtr))) := by
  refine run_dev ((if_neg (by simp [hd])).trans ?_)
  rw [h]

theorem exec_release_of {ptr : BitVec 32} (hd : s.domainOff .switch = false)
    (h : s.toDev.release sd.val ptr.toNat o.val = d1) : exec (.release sd ptr o) s = .next (s.dev d1) :=
  run_dev ((if_neg (by simp [hd])).trans h)

theorem exec_handover_of {ptr : BitVec 32} {n : Owner} {pool : Pool} {ok : Bool} (hd : s.domainOff .switch = false)
    (h : s.toDev.handover sd.val ptr.toNat o.val n.val pool = (ok, d1)) :
    exec (.handover sd ptr o n pool) s =
      .next (s.dev (d1.emit (.answer s.tick askHandover (if ok then 0 else 1) ptr.toNat))) := by
  refine run_dev ((if_neg (by simp [hd])).trans ?_)
  rw [h]

end

/-- Without power none of the three operations acts (R32). -/
theorem kennelOperations_unpowered {s : State} (sd : Sdie) (o n : Owner) (pool : Pool) (ptr : BitVec 32)
    (h : s.domainOff .switch = true) : exec (.allocate sd pool o) s = .next s ∧ exec (.release sd ptr o) s = .next s ∧
      exec (.handover sd ptr o n pool) s = .next s :=
  ⟨run_dev (d := s.toDev) (if_pos h), run_dev (d := s.toDev) (if_pos h), run_dev (d := s.toDev) (if_pos h)⟩

/-! ## The rebuild (R190) -/

theorem Kennel.walk_done {k : Kennel} {r : Rebuild} {t : Nat} (hr : k.rebuild = some r) (hp : r.passed ≤ slotCount)
    (ht : r.start + 615 ≤ t) : ∃ f, k.walk t = { k with free := f, rebuild := some { r with passed := slotCount } } := by
  have hn : min slotCount ((t - r.start) * 1280) = slotCount := Nat.min_eq_left (by unfold slotCount; omega)
  unfold Kennel.walk
  rw [hr]
  dsimp only
  rw [hn]
  by_cases h : r.passed < slotCount
  · rw [if_pos h]
    exact ⟨_, rfl⟩
  · rw [if_neg h, ← Nat.le_antisymm hp (Nat.le_of_not_lt h), ← hr]
    exact ⟨k.free, rfl⟩

theorem exec_freelistRebuildDone {s : State} {sd : Sdie} {r : Rebuild} (hr : (s.kennel sd.val).rebuild = some r)
    (hp : r.passed ≤ slotCount) (ht : r.start + 615 ≤ s.tick) : ∃ f, exec (.freelistRebuildDone sd) s =
      .next (s.dev (s.toDev.setKennel sd.val { s.kennel sd.val with free := f, rebuild := none })) := by
  obtain ⟨f, hf⟩ := Kennel.walk_done hr hp ht
  refine ⟨f, run_dev ?_⟩
  dsimp only
  rw [hf]
  exact if_pos rfl

/-! ## The audit (R192) -/

theorem Dev.badLink_of_sound {d : Dev} {s i : Nat} (hj : d.kinject = none) (hi0 : d.sentry.inject = none)
    (hw : sramMark 0 (s * slotCount + i) ∉ d.ueWords) : d.badLink s i = (false, false, d) := by
  unfold Dev.badLink
  dsimp only
  rw [Dev.takeKinject_of_unarmed hj, ite_self]
  dsimp only
  rw [Dev.readSlot_of_clean hi0 hw]
  rfl

section
variable {d : Dev} {s : Nat} (hi0 : d.sentry.inject = none) (hw : sramMark 0 (s * slotCount + (d.kennel s).auditNext) ∉ d.ueWords)
  (hn : (d.kennel s).auditNext + 1 < slotCount)
include hi0 hw hn

/-- The kennel whose audit goes on to the next slot. -/
def Kennel.audited (k : Kennel) : Kennel := { k with auditNext := k.auditNext + 1 }

theorem Dev.auditVisit_free (hj : d.kinject = none) (hx : tget (d.kennel s).slots (d.kennel s).auditNext = none) :
    d.auditVisit s = d.setKennel s (d.kennel s).audited := by
  have hbad : (d.setKennel s (d.kennel s).audited).badLink s (d.kennel s).auditNext =
      (false, false, d.setKennel s (d.kennel s).audited) :=
    Dev.badLink_of_sound (by simpa using hj) (by simpa using hi0) (by simpa using hw)
  unfold Dev.auditVisit
  dsimp only
  rw [if_neg (Nat.ne_of_lt hn), if_neg (Nat.succ_ne_zero _), hx]
  dsimp only
  change (if ((d.setKennel s (d.kennel s).audited).badLink s (d.kennel s).auditNext).1 = true then _ else
    ((d.setKennel s (d.kennel s).audited).badLink s (d.kennel s).auditNext).2.2) = _
  rw [hbad]
  rfl

theorem Dev.auditVisit_stray {x : KSlot} (hx : tget (d.kennel s).slots (d.kennel s).auditNext = some x) (hst : x.stray = false)
    (hage : d.reg E.STRAY_AGE_TICKS < (d.tick + 2 ^ 32 - x.allocTick) % 2 ^ 32) :
    d.auditVisit s = (((d.setKennel s (d.kennel s).audited).setKennel s { (d.kennel s).audited with
      slots := tset (d.kennel s).slots (d.kennel s).auditNext { x with stray := true } }).countErr (E.STRAYS_FOUND s)).kennelReport s 7
        iniNone (slotPtr s (d.kennel s).auditNext) false := by
  unfold Dev.auditVisit
  dsimp only
  rw [if_neg (Nat.ne_of_lt hn), if_neg (Nat.succ_ne_zero _), hx]
  dsimp only
  rw [Dev.readSlot_of_clean (by simpa using hi0) (by simpa using hw)]
  dsimp only
  rw [if_pos (by rw [hst, decide_eq_true hage]; rfl), Dev.kennel_setKennel_same]
  rfl

end

/-! ## The clauses of O35 -/

theorem allocate_takes_head (s : State) (sd : Sdie) (pool : Pool) (o : Owner) (lo hi : Nat) (rest : List (Nat × Nat))
    (hd : s.domainOff .switch = false) (hr : (s.kennel sd.val).rebuild = none) (hj : s.kinject = none) (hsl : s.slotReads sd.val lo)
    (hu : (s.kennel sd.val).used pool < s.poolSize sd.val pool) (hf : (s.kennel sd.val).free = (lo, hi) :: rest)
    (hx : tget (s.kennel sd.val).slots lo = none) : ∃ t, exec (.allocate sd pool o) s = .next t ∧
      t.out = s.out ++ [.answer s.tick askAllocate 0 (slotPtr sd.val lo)] ∧
      tget (t.kennel sd.val).slots lo = some { pool := pool, owner := o.val, allocTick := s.tick % 2 ^ 32 } ∧
      (∀ i, i ≠ lo → tget (t.kennel sd.val).slots i = tget (s.kennel sd.val).slots i) ∧
      (t.kennel sd.val).free = (if lo < hi then (lo + 1, hi) :: rest else rest) ∧
      t.kennel (1 - sd.val) = s.kennel (1 - sd.val) ∧ s.regsBut t [E.SHR_PEAK sd.val] ∧
      { t with kennel0 := s.kennel0, kennel1 := s.kennel1, regs := s.regs, tele := s.tele, out := s.out } = s := by
  have ha := Dev.allocate_head (d := s.toDev) (o := o.val) (sl := 0) hr hj hsl.1 hsl.2 hu hf hx
  refine ⟨_, exec_allocate_some hd ha, ?_⟩
  set k := (s.kennel sd.val).pop lo hi rest { pool := pool, owner := o.val, sl := 0, allocTick := s.tick % 2 ^ 32 } with hk
  obtain ⟨a, b, r, x, hfr⟩ := s.toDev.peaked_frame sd.val k
  have hken : ((s.toDev.setKennel sd.val k).notePeak sd.val).kennel sd.val = k := by
    rw [Dev.kennel_notePeak, Dev.kennel_setKennel_same]
  refine ⟨?_, ?_, fun i hi => ?_, ?_, ?_, fun j hj => ?_, ?_⟩
  · exact (congrArg (fun e : Dev => e.out ++ [Out.answer s.tick askAllocate 0 (slotPtr sd.val lo)]) hfr :)
  · exact (congrArg (fun e : Kennel => tget e.slots lo) hken).trans (tget_tset_same _ _ _)
  · exact (congrArg (fun e : Kennel => tget e.slots i) hken).trans (tget_tset_other _ _ hi)
  · exact (congrArg Kennel.free hken :)
  · exact (Dev.kennel_notePeak _ _ _).trans (s.toDev.kennel_setKennel_other k sd.isLt)
  · exact (Dev.reg_notePeak _ (by simpa using hj)).trans (Dev.reg_setKennel _ _ _ _)
  · rw [hfr]
    rfl

theorem allocate_answers_null (s : State) (sd : Sdie) (pool : Pool) (o : Owner) (hd : s.domainOff .switch = false)
    (hr : (s.kennel sd.val).rebuild = none)
    (hf : s.poolSize sd.val pool ≤ (s.kennel sd.val).used pool ∨ (s.kennel sd.val).free = [])
    (hreg : s.reg (E.ALLOC_FAILS sd.val) < 0xFFFFFFFE) :
    ∃ t, exec (.allocate sd pool o) s = .next t ∧ t.out = s.out ++ [.answer s.tick askAllocate 1 nullPtr] ∧
      t.reg (E.ALLOC_FAILS sd.val) = s.reg (E.ALLOC_FAILS sd.val) + 1 ∧ s.regsBut t [E.ALLOC_FAILS sd.val] ∧
      (pool = .shr → s.poolSize sd.val pool ≤ (s.kennel sd.val).used pool → t.sentry = s.sentry ∧ t.draws = s.draws) ∧
      (pool ≠ .shr ∨ (s.kennel sd.val).used pool < s.poolSize sd.val pool → t.sentry = { s.sentry with
        reports := s.sentry.reports ++ [Report.mk s.sampledAt
          (bark 0x0401 accKennel (iniXbar sd.val (o.val % 256)) false nullPtr (s.reg (E.LAST_REFUSAL sd.val)))] }) ∧
      { t with regs := s.regs, out := s.out, sentry := s.sentry, draws := s.draws } = s := by
  have hbut : ∀ k, k ∉ [E.ALLOC_FAILS sd.val] →
      (s.toDev.setReg (E.ALLOC_FAILS sd.val) (s.reg (E.ALLOC_FAILS sd.val) + 1)).reg k = s.reg k :=
    fun k hk => Dev.reg_setReg_other _ _ (by simpa using hk)
  by_cases hq : pool = .shr ∧ s.poolSize sd.val pool ≤ (s.kennel sd.val).used pool
  · obtain ⟨hp, hu⟩ := hq
    have ha := Dev.allocate_full (d := s.toDev) (o := o.val) (sl := 0) hr hu
    rw [show (pool != .shr) = false by rw [hp]; rfl, Dev.poolEmpty_quiet hreg] at ha
    exact ⟨_, exec_allocate_none hd ha, rfl, Dev.reg_setReg_same _ _ _, hbut, fun _ _ => ⟨rfl, rfl⟩,
      fun h => h.elim (absurd hp) (absurd hu ∘ Nat.not_le.2), rfl⟩
  · have ha : s.toDev.allocate sd.val pool o.val 0 = (none, s.toDev.poolEmpty sd.val o.val true) := by
      by_cases hu : s.poolSize sd.val pool ≤ (s.kennel sd.val).used pool
      · rw [Dev.allocate_full hr hu, bne_iff_ne.2 fun h => hq ⟨h, hu⟩]
      · exact Dev.allocate_no_slot hr (Nat.lt_of_not_le hu) (hf.resolve_left hu)
    rw [Dev.poolEmpty_reported hreg] at ha
    exact ⟨_, exec_allocate_none hd ha, rfl, Dev.reg_setReg_same _ _ _, hbut, fun h hu => absurd ⟨h, hu⟩ hq, fun _ => rfl, rfl⟩

section
variable (s : State) (sd : Sdie) (o : Owner) {i : Nat} (hd : s.domainOff .switch = false) (hj : s.kinject = none)
  (hsl : s.slotReads sd.val i) (hr : (s.kennel sd.val).rebuild = none) (hi : i < slotCount)
include hd hsl hi

include hj hr in
theorem release_by_owner (x : KSlot) (hx : tget (s.kennel sd.val).slots i = some x) (ho : x.owner = o.val) :
    exec (.release sd (BitVec.ofNat 32 (slotPtr sd.val i)) o) s = .next (s.dev (s.toDev.setKennel sd.val
      { s.kennel sd.val with slots := terase (s.kennel sd.val).slots i, free := (s.kennel sd.val).free ++ [(i, i)] })) := by
  refine exec_release_of hd ?_
  rw [toNat_slotPtr sd.isLt hi, Dev.release_found sd.isLt hi hsl.1 hsl.2 hj hr hx]
  exact if_neg (by simp [ho])

include hj hr in
theorem release_by_other (x : KSlot) (hx : tget (s.kennel sd.val).slots i = some x) (ho : x.owner ≠ o.val)
    (hreg : s.reg (E.KENNEL_REFUSALS sd.val) < 0xFFFFFFFE) :
    ∃ t, exec (.release sd (BitVec.ofNat 32 (slotPtr sd.val i)) o) s = .next t ∧
      t.reg (E.LAST_REFUSAL sd.val) = 4 * 2 ^ 56 + o.val * 2 ^ 47 + slotPtr sd.val i ∧
      t.reg (E.KENNEL_REFUSALS sd.val) = s.reg (E.KENNEL_REFUSALS sd.val) + 1 ∧
      s.regsBut t [E.LAST_REFUSAL sd.val, E.KENNEL_REFUSALS sd.val] ∧
      { t with regs := s.regs, sentry := s.sentry, draws := s.draws } = s := by
  have hrel := Dev.release_found (o := o.val) sd.isLt hi hsl.1 hsl.2 hj hr hx
  rw [if_pos (bne_iff_ne.2 ho)] at hrel
  obtain ⟨h1, h2, h3, h4⟩ := Dev.kennelRefuse_fields (code := 4) (owner := o.val) (ptr := slotPtr sd.val i) hreg
  generalize s.toDev.kennelRefuse sd.val 4 o.val (slotPtr sd.val i) false = d1 at *
  rw [← toNat_slotPtr sd.isLt hi] at hrel
  refine ⟨_, exec_release_of hd hrel, h1, h2, fun k hk => ?_, ?_⟩
  · obtain ⟨hl, hc⟩ : k ≠ E.LAST_REFUSAL sd.val ∧ k ≠ E.KENNEL_REFUSALS sd.val := by simpa using hk
    exact h3 k hl hc
  · exact (congrArg s.dev h4 :)

theorem handover_by_owner (x : KSlot) (n : Owner) (hx : tget (s.kennel sd.val).slots i = some x) (ho : x.owner = o.val)
    (hst : x.stray = false) : ∃ t, exec (.handover sd (BitVec.ofNat 32 (slotPtr sd.val i)) o n x.pool) s = .next t ∧
      t.out = s.out ++ [.answer s.tick askHandover 0 (slotPtr sd.val i)] ∧
      tget (t.kennel sd.val).slots i = some { x with owner := n.val, allocTick := s.tick % 2 ^ 32 } ∧
      (∀ j, j ≠ i → tget (t.kennel sd.val).slots j = tget (s.kennel sd.val).slots j) ∧
      (t.kennel sd.val).free = (s.kennel sd.val).free ∧ t.kennel (1 - sd.val) = s.kennel (1 - sd.val) := by
  have hh := Dev.handover_found (n := n.val) (pool := x.pool) sd.isLt hi hsl.1 hsl.2 hx ho hst
  rw [← toNat_slotPtr sd.isLt hi] at hh
  refine ⟨_, exec_handover_of hd hh, ?_⟩
  set k := { s.kennel sd.val with slots := tset (s.kennel sd.val).slots i { x with owner := n.val, allocTick := s.tick % 2 ^ 32 } }
  obtain ⟨a, b, r, y, hfr⟩ := s.toDev.peaked_frame sd.val k
  have hken : ((s.toDev.setKennel sd.val k).notePeak sd.val).kennel sd.val = k := by
    rw [Dev.kennel_notePeak, Dev.kennel_setKennel_same]
  refine ⟨?_, ?_, fun j hj => ?_, ?_, ?_⟩
  · rw [toNat_slotPtr sd.isLt hi]
    exact (congrArg (fun e : Dev => e.out ++ [Out.answer s.tick askHandover 0 (slotPtr sd.val i)]) hfr :)
  · exact (congrArg (fun e : Kennel => tget e.slots i) hken).trans (tget_tset_same _ _ _)
  · exact (congrArg (fun e : Kennel => tget e.slots j) hken).trans (tget_tset_other _ _ hj)
  · exact (congrArg Kennel.free hken :)
  · exact (Dev.kennel_notePeak _ _ _).trans (s.toDev.kennel_setKennel_other k sd.isLt)

theorem handover_finds_nothing (n : Owner) (pool : Pool) (h : tget (s.kennel sd.val).slots i = none ∨
      ∃ x, tget (s.kennel sd.val).slots i = some x ∧ x.owner = o.val ∧ x.stray = true) :
    exec (.handover sd (BitVec.ofNat 32 (slotPtr sd.val i)) o n pool) s =
      .next (s.dev (s.toDev.emit (.answer s.tick askHandover 1 (slotPtr sd.val i)))) := by
  have hh := Dev.handover_nothing (n := n.val) (pool := pool) sd.isLt hi hsl.1 hsl.2 h
  rw [← toNat_slotPtr sd.isLt hi] at hh
  rw [exec_handover_of hd hh, toNat_slotPtr sd.isLt hi]
  rfl

end

theorem rebuild_ends (s : State) (sd : Sdie) (r : Rebuild) (hr : (s.kennel sd.val).rebuild = some r) (hp : r.passed ≤ slotCount)
    (ht : r.start + 615 ≤ s.tick) : ∃ t, exec (.freelistRebuildDone sd) s = .next t ∧ (t.kennel sd.val).rebuild = none ∧
      (t.kennel sd.val).slots = (s.kennel sd.val).slots ∧ t.kennel (1 - sd.val) = s.kennel (1 - sd.val) ∧
      { t with kennel0 := s.kennel0, kennel1 := s.kennel1 } = s := by
  obtain ⟨f, hf⟩ := exec_freelistRebuildDone hr hp ht
  refine ⟨_, hf, ?_⟩
  set k := { s.kennel sd.val with free := f, rebuild := none }
  obtain ⟨a, b, hfr⟩ := s.toDev.setKennel_frame k sd.val
  have hken := s.toDev.kennel_setKennel_same k sd.val
  refine ⟨(congrArg Kennel.rebuild hken :), (congrArg Kennel.slots hken :), s.toDev.kennel_setKennel_other k sd.isLt, ?_⟩
  rw [hfr]
  rfl

theorem audit_finds_stray (s : State) (sd : Sdie) (he : s.flag E.AUDIT_ENABLE = true) (hd : s.domainOff .switch = false)
    (hsl : s.slotReads sd.val (s.kennel sd.val).auditNext) (hn : (s.kennel sd.val).auditNext + 1 < slotCount) (x : KSlot)
    (hx : tget (s.kennel sd.val).slots (s.kennel sd.val).auditNext = some x) (hst : x.stray = false)
    (hage : s.reg E.STRAY_AGE_TICKS < (s.tick + 2 ^ 32 - x.allocTick) % 2 ^ 32) (hreg : s.reg (E.STRAYS_FOUND sd.val) < 0xFFFFFFFE) :
    ∃ t, exec (.auditVisit sd) s = .next t ∧
      tget (t.kennel sd.val).slots (s.kennel sd.val).auditNext = some { x with stray := true } ∧
      (t.kennel sd.val).auditNext = (s.kennel sd.val).auditNext + 1 ∧
      t.reg (E.STRAYS_FOUND sd.val) = s.reg (E.STRAYS_FOUND sd.val) + 1 ∧ s.regsBut t [E.STRAYS_FOUND sd.val] ∧
      t.kennel (1 - sd.val) = s.kennel (1 - sd.val) ∧
      { t with kennel0 := s.kennel0, kennel1 := s.kennel1, regs := s.regs, sentry := s.sentry, draws := s.draws } = s := by
  have hv := Dev.auditVisit_stray (d := s.toDev) hsl.1 hsl.2 hn hx hst hage
  set k0 := (s.kennel sd.val).audited
  set k := { k0 with slots := tset (s.kennel sd.val).slots (s.kennel sd.val).auditNext { x with stray := true } }
  set D := (s.toDev.setKennel sd.val k0).setKennel sd.val k with hD
  have hDreg : ∀ i, D.reg i = s.reg i := fun i => (Dev.reg_setKennel _ _ _ _).trans (Dev.reg_setKennel _ _ _ _)
  rw [Dev.countErr_of_lt ((hDreg _).symm ▸ hreg), hDreg] at hv
  refine ⟨_, run_dev ((if_pos (by rw [he, hd]; rfl)).trans hv), ?_⟩
  have hken : D.kennel sd.val = k := Dev.kennel_setKennel_same _ _ _
  have hoth : D.kennel (1 - sd.val) = s.kennel (1 - sd.val) :=
    (Dev.kennel_setKennel_other _ _ sd.isLt).trans (Dev.kennel_setKennel_other _ _ sd.isLt)
  refine ⟨?_, congrArg Kennel.auditNext hken, Dev.reg_setReg_same _ _ _, fun j hj => ?_, hoth, ?_⟩
  · exact (congrArg (fun e : Kennel => tget e.slots (s.kennel sd.val).auditNext) hken).trans (tget_tset_same _ _ _)
  · exact (Dev.reg_setReg_other _ _ (by simpa using hj)).trans (hDreg j)
  · obtain ⟨a, b, h0⟩ := s.toDev.setKennel_frame k0 sd.val
    obtain ⟨a', b', h1⟩ := Dev.setKennel_frame { s.toDev with kennel0 := a, kennel1 := b } k sd.val
    rw [hD, h0, h1]
    rfl

/-- Settles O35. -/
theorem kennelOperations : Obligations.KennelOperations := by
  refine ⟨allocate_takes_head, allocate_answers_null, fun s sd o n pool ptr h => ?_, fun s sd o i hd hj hsl hr hi => ?_, rebuild_ends,
    fun s sd he hd hsl hj hn => ?_⟩
  · exact kennelOperations_unpowered sd o n pool ptr h
  · exact ⟨release_by_owner s sd o hd hj hsl hr hi, release_by_other s sd o hd hj hsl hr hi, handover_by_owner s sd o hd hsl hi,
      handover_finds_nothing s sd o hd hsl hi⟩
  · exact ⟨fun hx => run_dev ((if_pos (by rw [he, hd]; rfl)).trans (Dev.auditVisit_free hsl.1 hsl.2 hn hj hx)),
      audit_finds_stray s sd he hd hsl hn⟩

end Sys2Proof.Machine
end

section
/-! The crossbar's cycle and expired cells (O36). -/

namespace Sys2Proof.Machine

/-! ## A slot that is left (R174, R219) -/

theorem Dev.leaveInput_frame (d : Dev) (s : Nat) (x : KSlot) : ∃ ps, d.leaveInput s x = { d with ports := ps } := by
  unfold Dev.leaveInput
  split
  · exact ⟨_, rfl⟩
  · exact ⟨d.ports, rfl⟩

theorem Dev.setKennel_ports_setKennel (d : Dev) (s : Nat) (k k' : Kennel) (ps : Tbl PortSt) :
    Dev.setKennel { d.setKennel s k with ports := ps } s k' = { d.setKennel s k' with ports := ps } := by
  unfold Dev.setKennel
  split <;> rfl

/-- The kennel once a held cell has left its queues and its slot. -/
def Kennel.vacated (k : Kennel) (n : Nat) : Kennel :=
  { k.unqueue n with slots := terase k.slots n, free := k.free ++ [(n, n)] }

theorem Dev.leave_of_found {d : Dev} {s n : Nat} {x : KSlot} (hs : s < 2) (hn : n < slotCount) (hj : d.kinject = none)
    (hi0 : d.sentry.inject = none) (hw : sramMark 0 (s * slotCount + n) ∉ d.ueWords) (hr : (d.kennel s).rebuild = none)
    (hx : tget (d.kennel s).slots n = some x) : ∃ ps,
    ((d.setKennel s ((d.kennel s).unqueue n)).leaveInput s x).release s (slotPtr s n) x.owner =
      { d.setKennel s ((d.kennel s).vacated n) with ports := ps } := by
  obtain ⟨ps, hps⟩ := (d.setKennel s ((d.kennel s).unqueue n)).leaveInput_frame s x
  have hk : Dev.kennel { d.setKennel s ((d.kennel s).unqueue n) with ports := ps } s = (d.kennel s).unqueue n :=
    d.kennel_setKennel_same _ s
  refine ⟨ps, ?_⟩
  rw [hps, Dev.release_found (x := x) hs hn (by simpa using hi0) (by simpa using hw) (by simpa using hj) (by rw [hk]; exact hr)
    (by rw [hk]; exact hx), if_neg (by simp), Dev.setKennel_ports_setKennel, hk]
  rfl

theorem Kennel.mem_queues_vacated (k : Kennel) (n : Nat) : ∀ e ∈ (k.vacated n).queues, n ∉ e.2 := fun e he hn => by
  obtain ⟨q, -, rfl⟩ := List.mem_map.1 he
  simpa using List.of_mem_filter hn

/-! ## Expired cells (R219) -/

theorem Dev.dropSlot_of_found {d : Dev} {s n : Nat} {x : KSlot} (hx : tget (d.kennel s).slots n = some x) :
    d.dropSlot s n = ((d.setKennel s ((d.kennel s).unqueue n)).leaveInput s x).release s (slotPtr s n) x.owner := by
  unfold Dev.dropSlot
  rw [hx]

theorem Kennel.fresh_eq {k : Kennel} {t n : Nat} {x : KSlot} {c : Cell} (hx : tget k.slots n = some x) (hc : x.cell = some c) :
    k.fresh t n = !expiredAt t c := by
  unfold Kennel.fresh
  rw [hx]
  dsimp only
  rw [hc]

theorem bits_ofNat_slotPtr {s n : Nat} (hs : s < 2) (hn : n < slotCount) :
    bits (BitVec.ofNat 32 (slotPtr s n)).toNat 7 20 = n := by
  rw [toNat_slotPtr hs hn, slot_slotPtr hn]

theorem Dev.updMap_maps (d : Dev) (s : Nat) (f : MapGather → MapGather) :
    { (d.updMap s f).tele with map0 := d.tele.map0, map1 := d.tele.map1 } = d.tele := by
  unfold Dev.updMap
  dsimp only
  split
  · rfl
  · dsimp only
    split <;> rfl

theorem expired_cell_leaves (s : State) (sd : Sdie) (i : XPort) (n : Nat) (x : KSlot) (c : Cell) (k : Nat) (r : List Nat)
    (hj : s.kinject = none) (hsl : s.slotReads sd.val n) (hr : (s.kennel sd.val).rebuild = none) (hn : n < slotCount)
    (hq : (k, n :: r) ∈ (s.kennel sd.val).queues) (hk : k / 4096 = i.val) (hx : tget (s.kennel sd.val).slots n = some x)
    (hc : x.cell = some c) (he : expiredAt s.tick c = true) (hreg : s.reg (E.EXPIRED sd.val) < 0xFFFFFFFE) :
    ∃ t, exec (.cellExpired sd i (BitVec.ofNat 32 (slotPtr sd.val n))) s = .next t ∧
      t.reg (E.EXPIRED sd.val) = s.reg (E.EXPIRED sd.val) + 1 ∧
      (t.kennel sd.val).slots = terase (s.kennel sd.val).slots n ∧ (∀ e ∈ (t.kennel sd.val).queues, n ∉ e.2) ∧
      s.regsBut t [E.EXPIRED sd.val] ∧
      { t.tele with map0 := s.tele.map0, map1 := s.tele.map1 } = s.tele ∧
      { t with kennel0 := s.kennel0, kennel1 := s.kennel1, ports := s.ports, regs := s.regs, tele := s.tele } = s := by
  have hb := bits_ofNat_slotPtr sd.isLt hn
  have hhead : (s.kennel sd.val).queues.any (fun e => decide (e.1 / 4096 = i.val) && decide (e.2.head? = some n)) = true :=
    List.any_eq_true.2 ⟨_, hq, by simp [hk]⟩
  obtain ⟨ps, hps⟩ := Dev.leave_of_found sd.isLt hn hj hsl.1 hsl.2 hr hx
  rw [← Dev.dropSlot_of_found hx] at hps
  set k' := (s.kennel sd.val).vacated n with hk'
  set D : Dev := { s.toDev.setKennel sd.val k' with ports := ps } with hD
  have hDreg : ∀ j, D.reg j = s.reg j := Dev.reg_setKennel s.toDev sd.val k'
  have hDken : D.kennel sd.val = k' := s.toDev.kennel_setKennel_same k' sd.val
  have hexp : s.toDev.expire sd.val n = (D.setReg (E.EXPIRED sd.val) (s.reg (E.EXPIRED sd.val) + 1)).updMap sd.val
      (fun m => { m with expired := m.expired + 1 }) := by
    unfold Dev.expire Dev.countExpired
    rw [hps, Dev.countErr_of_lt ((hDreg _).symm ▸ hreg), hDreg]
  set M := D.setReg (E.EXPIRED sd.val) (s.reg (E.EXPIRED sd.val) + 1) with hM
  have hMken : M.kennel sd.val = k' := hDken
  obtain ⟨a, b, hfr⟩ := s.toDev.setKennel_frame k' sd.val
  obtain ⟨y, hy⟩ := M.updMap_tele sd.val (fun m => { m with expired := m.expired + 1 })
  have hmaps := M.updMap_maps sd.val (fun m => { m with expired := m.expired + 1 })
  have hMt : M.tele = s.tele := s.toDev.setKennel_tele sd.val k'
  rw [hMt] at hmaps
  rw [hy] at hexp hmaps
  refine ⟨s.dev { M with tele := y }, run_dev ?_, ?_, ?_, ?_, fun j hj => ?_, hmaps, ?_⟩
  · dsimp only
    rw [hb, if_pos (by rw [hx, hhead, Kennel.fresh_eq hx hc, he]; rfl), hexp]
  · exact Dev.reg_setReg_same _ _ _
  · exact (congrArg Kennel.slots hMken :)
  · exact (congrArg (fun e : Kennel => e.queues) hMken).symm ▸ Kennel.mem_queues_vacated _ n
  · exact (Dev.reg_setReg_other _ _ (by simpa using hj)).trans (hDreg j)
  · rw [hM, hD, hfr]
    rfl

/-! ## What a cycle's bookkeeping leaves as it is (R170, R171) -/

/-- What a kennel holds, apart from its free numbers: pointers, rotations and victims. -/
def Kennel.held (k : Kennel) : Kennel :=
  { k with auditNext := 0, ctlPtr := [], clsPtr := [], accPtr := [], rotCls := [], rotServed := [], taken := [] }

/-- `e` is the device `d` in a cycle of S-die `s` that has moved pointers and weights only. -/
structure Dev.Paced (d e : Dev) (s : Nat) : Prop where
  rest : ∃ a b r, e = { d with kennel0 := a, kennel1 := b, routing := r }
  held : (e.kennel s).held = (d.kennel s).held
  other : e.kennel (1 - s) = d.kennel (1 - s)

section
variable {d e f : Dev} {s : Nat}

theorem Dev.Paced.trans (h : d.Paced e s) (h' : e.Paced f s) : d.Paced f s := by
  obtain ⟨a, b, r, rfl⟩ := h.rest
  obtain ⟨a', b', r', rfl⟩ := h'.rest
  exact ⟨⟨a', b', r', rfl⟩, h'.held.trans h.held, h'.other.trans h.other⟩

theorem Dev.paced_setKennel {k : Kennel} (hs : s < 2) (hk : k.held = (d.kennel s).held) : d.Paced (d.setKennel s k) s := by
  obtain ⟨a, b, h⟩ := d.setKennel_frame k s
  exact ⟨⟨a, b, d.routing, h⟩, by rw [Dev.kennel_setKennel_same, hk], Dev.kennel_setKennel_other _ _ hs⟩

theorem Dev.paced_takeWeights (d : Dev) (s : Nat) : d.Paced d.takeWeights s := by
  unfold Dev.takeWeights
  split
  · exact ⟨⟨d.kennel0, d.kennel1, d.routing, rfl⟩, rfl, rfl⟩
  · exact ⟨⟨d.kennel0, d.kennel1, _, rfl⟩, rfl, rfl⟩

theorem Kennel.held_movePtrs (k : Kennel) (acc : List XReq) : (k.movePtrs acc).held = k.held := rfl

theorem Kennel.held_moveRot (k : Kennel) (w : List Nat) (acc : List XReq) : (k.moveRot w acc).held = k.held := by
  refine foldl_keeps Kennel.held (fun a r => ?_) acc k
  dsimp only
  split_ifs <;> rfl

theorem Dev.paced_beginCycle (hs : s < 2) (h : (d.kennel s).unitUsed = []) : d.Paced (d.beginCycle s) s := by
  refine Dev.paced_setKennel hs ?_
  rw [h]
  unfold Kennel.held
  rw [h]
  rfl

end

/-! ## A cycle with one control cell -/

/-- The only cell of S-die `s` is the control cell `c` in slot `n`, at the head of its queue from input `i` to the internal
output `o`, whose unit has all its credits. -/
structure Dev.Lone (d : Dev) (s i o n : Nat) (x : KSlot) (c : Cell) : Prop where
  slots : (d.kennel s).slots = [(n, x)]
  queues : (d.kennel s).queues = [(uniKey i o 10, [n])]
  mqueues : (d.kennel s).mqueues = []
  unitUsed : (d.kennel s).unitUsed = []
  idle : (d.kennel s).rebuild = none
  waiting : (d.kennel s).waiting = []
  other : (d.kennel (1 - s)).waiting = []
  cell : x.cell = some c
  owner : x.owner = i
  fresh : expiredAt d.tick c = false
  unarmed : d.sentry.inject = none
  kinject : d.kinject = none
  word : sramMark 0 (s * slotCount + n) ∉ d.ueWords

section
variable {d e : Dev} {s i o n : Nat} {x : KSlot} {c : Cell}

theorem Dev.Lone.paced (h : d.Lone s i o n x c) (hp : d.Paced e s) : e.Lone s i o n x c := by
  obtain ⟨a, b, r, he⟩ := hp.rest
  have part {α : Type} (f : Kennel → α) (hf : ∀ k : Kennel, f k.held = f k) : f (e.kennel s) = f (d.kennel s) := by
    rw [← hf, hp.held, hf]
  constructor
  case slots => exact (part Kennel.slots fun _ => rfl).trans h.slots
  case queues => exact (part Kennel.queues fun _ => rfl).trans h.queues
  case mqueues => exact (part Kennel.mqueues fun _ => rfl).trans h.mqueues
  case unitUsed => exact (part Kennel.unitUsed fun _ => rfl).trans h.unitUsed
  case idle => exact (part Kennel.rebuild fun _ => rfl).trans h.idle
  case waiting => exact (part Kennel.waiting fun _ => rfl).trans h.waiting
  case other => rw [hp.other]; exact h.other
  case cell => exact h.cell
  case owner => exact h.owner
  case fresh => rw [he]; exact h.fresh
  case unarmed => rw [he]; exact h.unarmed
  case kinject => rw [he]; exact h.kinject
  case word => rw [he]; exact h.word

section
variable (h : d.Lone s i o n x c)
include h

theorem Dev.Lone.slot : tget (d.kennel s).slots n = some x := by
  rw [h.slots]
  simp [tget]

theorem Dev.Lone.isFresh : (d.kennel s).fresh d.tick n = true := by
  rw [Kennel.fresh_eq h.slot h.cell, h.fresh]
  rfl

theorem Dev.Lone.expireHeads : d.expireHeads s = d := by
  have hf := h.isFresh
  unfold Dev.expireHeads
  dsimp only
  rw [h.queues, h.mqueues]
  simp [hf]

end

/-- The request of the lone cell. -/
def loneReq (i o n : Nat) : XReq := ⟨i, o, 10, n, false⟩

theorem uniKey_fields (ho : o < 144) : uniKey i o 10 / 4096 = i ∧ uniKey i o 10 / 16 % 256 = o ∧ uniKey i o 10 % 16 = 10 := by
  unfold uniKey
  omega

theorem Dev.Lone.requests (h : d.Lone s i o n x c) (ho : o < 144) :
    (d.kennel s).requests d.tick = [loneReq i o n] := by
  have hf := h.isFresh
  obtain ⟨h1, h2, h3⟩ := uniKey_fields (i := i) ho
  unfold Kennel.requests
  rw [h.queues, h.mqueues]
  simp [hf, h1, h2, h3, loneReq]

/-- A control cell that asks alone is granted while there is credit. -/
theorem grantLoop_alone {k : Kennel} {credit ctl : Nat → Nat} {w : List Nat} {cls served w' : Nat} {r : XReq} (hv : r.vc = 10)
    (hc : 0 < credit 10) : grantLoop k o credit w ctl cls served [r] [] (w' + 1) = [r] := by
  have hrot : ∀ m a b, rotPick (fun _ => false) w a b m = none := fun m => by
    induction m with
    | zero => exact fun _ _ => rfl
    | succ m ih => exact fun a b => (if_neg (by simp)).trans (ih _ _)
  have hlast : ∀ m, grantLoop k o credit w ctl cls served [] [r] m = [r] := fun m => by
    cases m with
    | zero => rfl
    | succ m => simp [grantLoop, firstRR, hrot]
  simp [grantLoop, firstRR, hv, hc, hlast]

theorem xWidth_pos (o : Nat) : ∃ w, xWidth o = w + 1 := by
  unfold xWidth
  split
  · exact ⟨0, rfl⟩
  · split
    · exact ⟨15, rfl⟩
    · split
      · exact ⟨127, rfl⟩
      · split
        · exact ⟨1, rfl⟩
        · exact ⟨31, rfl⟩

theorem Dev.outCredit_unused (hu : (d.kennel s).unitUsed = []) (ho : 128 ≤ o) (ho' : o ≠ 132) : 0 < d.outCredit s o 10 := by
  unfold Dev.outCredit
  rw [if_neg (Nat.not_lt.2 ho), if_neg ho', hu]
  exact Nat.succ_pos _

/-- A request that is alone and granted is accepted. -/
theorem Dev.iterate_alone {r : XReq} (hm : r.multi = false) (hg : d.grants s r.output (xWidth r.output) [] [r] = [r]) :
    d.iterate s [r] [] = [r] := by
  have ha : acceptLoop [r] (xWidth r.input) [] = [r] := by
    obtain ⟨w, hw⟩ := xWidth_pos r.input
    rw [hw]
    simp [acceptLoop, hm]
  have hs : ∀ p, sortOut p [r] = [r] := fun _ => rfl
  have hw0 : widthUsed [] = 0 := rfl
  unfold Dev.iterate
  simp [List.eraseDups_cons, hg, hs, hw0, ha]

theorem Dev.iterate_lone (hu : (d.kennel s).unitUsed = []) (ho : 128 ≤ o) (ho' : o ≠ 132) :
    d.iterate s [loneReq i o n] [] = [loneReq i o n] := by
  refine Dev.iterate_alone rfl ?_
  obtain ⟨w, hw⟩ := xWidth_pos o
  refine (congrArg (fun w => d.grants s o w [] [loneReq i o n]) hw).trans ?_
  unfold Dev.grants
  refine grantLoop_alone (r := loneReq i o n) rfl ?_
  exact Dev.outCredit_unused hu ho ho'

theorem Dev.iterate_again (r : XReq) : d.iterate s [r] [r] = [] := by
  unfold Dev.iterate
  simp

/-! ## The transfer of the lone cell (R174) -/

/-- The lone cell as it transfers. -/
def loneMove (i o n : Nat) (x : KSlot) (c : Cell) : XMove := ⟨n, x, c, i, false, [o]⟩

theorem Dev.readHeads_lone (h : d.Lone s i o n x c) : d.readHeads s [loneReq i o n] = ([loneMove i o n x c], d) := by
  have hr : ∀ ini, d.readSlot s n ini = (true, d) := Dev.readSlot_of_clean h.unarmed h.word
  unfold Dev.readHeads
  simp [List.eraseDups_cons, loneReq, hr, h.slot, h.cell, loneMove]

theorem Cell.cls_of_ctl (hc : c.vc = 10) : c.cls = 5 := by
  have hd : c.dl < 2 := Nat.mod_lt _ (by decide)
  unfold Cell.vc at hc
  omega

/-- A kennel that has used one more credit of an internal output's unit. -/
def Kennel.charged (k : Kennel) (o vc : Nat) : Kennel :=
  { k with unitUsed := tset k.unitUsed (unitKey o vc) (tgetD k.unitUsed (unitKey o vc) 0 + 1) }

/-- The device once a cell has gone out to a unit. -/
def Dev.driven (d : Dev) (s o : Nat) (c : Cell) : Dev :=
  (d.setKennel s ((d.kennel s).charged o c.vc)).emit (.internal d.tick (Fin.ofNat 2 s) o c)

theorem Dev.cross_of_unarmed (h : d.sentry.inject = none) (ls : List Nat) : d.cross ls = d := by
  have hp : ∀ l, d.pkgTransfer l = d := fun l => by unfold Dev.pkgTransfer; rw [h]
  induction ls with
  | nil => rfl
  | cons l ls ih => exact (congrArg (fun e : Dev => e.cross ls) (hp l)).trans ih

theorem Dev.arrives_of_unarmed (h : d.sentry.inject = none) (ls : List Nat) : d.arrives ls = true :=
  List.all_eq_true.2 fun l _ => by unfold Dev.linkDown; rw [h]; rfl

theorem Dev.drive_inner {m : XMove} (hi : d.sentry.inject = none) (ho : 128 ≤ o) (ho' : o ≠ 132) (hm : m.cell.vc = 10) :
    d.drive s m o none = d.driven s o m.cell := by
  unfold Dev.drive
  dsimp only
  rw [Dev.cross_of_unarmed hi, Dev.arrives_of_unarmed hi, if_neg (by decide), if_neg (Nat.not_lt.2 ho), if_neg ho',
    if_neg (by simp [Cell.cls_of_ctl hm, cRPL])]
  rfl

theorem Dev.driven_kennel (d : Dev) (s o : Nat) (c : Cell) : (d.driven s o c).kennel s = (d.kennel s).charged o c.vc :=
  d.kennel_setKennel_same _ s

/-- The device once the lone cell has gone out and its slot is freed. -/
theorem Dev.transfers_lone (h : d.Lone s i o n x c) (hs : s < 2) (hn : n < slotCount) (ho : 128 ≤ o) (ho' : o ≠ 132)
    (hc : c.vc = 10) : ∃ ps, d.transfers s [loneReq i o n] =
      { (d.driven s o c).setKennel s (((d.kennel s).charged o c.vc).vacated n) with ports := ps } := by
  have hb : ∀ e : Dev, e.beyond s o = false := fun e => by simp [Dev.beyond, ho]
  have hk := d.driven_kennel s o c
  obtain ⟨a, b, hf⟩ := d.setKennel_frame ((d.kennel s).charged o c.vc) s
  have hdr : d.driven s o c = { d with kennel0 := a, kennel1 := b, out := d.out ++ [.internal d.tick (Fin.ofNat 2 s) o c] } :=
    (congrArg (fun e : Dev => e.emit (.internal d.tick (Fin.ofNat 2 s) o c)) hf :)
  obtain ⟨ps, hps⟩ := Dev.leave_of_found (d := d.driven s o c) (x := x) hs hn (by rw [hdr]; exact h.kinject)
    (by rw [hdr]; exact h.unarmed) (by rw [hdr]; exact h.word) (by rw [hk]; exact h.idle) (by rw [hk]; exact h.slot)
  have hserve : (d.driven s o c).serveHead s (loneMove i o n x c) =
      { (d.driven s o c).setKennel s (((d.kennel s).charged o c.vc).vacated n) with ports := ps } := by
    unfold Dev.serveHead
    rw [if_neg (by simp [loneMove]), if_neg (by simp [loneMove, hb])]
    exact hk ▸ hps
  have hw : (Dev.kennel { (d.driven s o c).setKennel s (((d.kennel s).charged o c.vc).vacated n) with ports := ps } s).waiting = [] :=
    (congrArg Kennel.waiting ((d.driven s o c).kennel_setKennel_same _ s)).trans h.waiting
  refine ⟨ps, ?_⟩
  unfold Dev.transfers
  rw [Dev.readHeads_lone h]
  simp only [List.foldl_cons, List.foldl_nil, List.flatMap_cons, List.flatMap_nil, List.append_nil]
  rw [show (loneMove i o n x c).outs = [o] from rfl]
  simp only [List.filter_cons, hb, Bool.not_false, if_true, Bool.false_eq_true, if_false, List.filter_nil, List.map_nil, List.foldl_cons,
    List.foldl_nil]
  rw [Dev.drive_inner h.unarmed ho ho' hc, show (loneMove i o n x c).cell = c from rfl, hserve, hw]
  rfl

theorem Dev.admitWaiting_none {s : Nat} (h : (d.kennel s).waiting = []) : d.admitWaiting s = d := by
  unfold Dev.admitWaiting
  rw [h]
  rfl

/-- A cycle with a lone control cell moves pointers and weights, and transfers it. -/
theorem Dev.cycle_lone (h : d.Lone s i o n x c) (hs : s < 2) (hn : n < slotCount) (ho : 128 ≤ o) (ho' : o ≠ 132) (h144 : o < 144)
    (hc : c.vc = 10) : ∃ e ps, d.Paced e s ∧ d.cycle s = Dev.worked
      { (e.driven s o c).setKennel s (((e.kennel s).charged o c.vc).vacated n) with ports := ps } := by
  have p1 : d.Paced (d.beginCycle s).takeWeights s :=
    (Dev.paced_beginCycle hs h.unitUsed).trans (Dev.paced_takeWeights _ s)
  set d1 := (d.beginCycle s).takeWeights with hd1
  have l1 := h.paced p1
  have p2 : d1.Paced (d1.setKennel s (((d1.kennel s).movePtrs [loneReq i o n]).moveRot d1.rotWeights [loneReq i o n])) s :=
    Dev.paced_setKennel hs ((Kennel.held_moveRot _ _ _).trans (Kennel.held_movePtrs _ _))
  set d2 := d1.setKennel s (((d1.kennel s).movePtrs [loneReq i o n]).moveRot d1.rotWeights [loneReq i o n]) with hd2
  have l2 := l1.paced p2
  obtain ⟨ps, hps⟩ := Dev.transfers_lone l2 hs hn ho ho' hc
  refine ⟨d2, ps, p1.trans p2, ?_⟩
  have hrest : ((d2.driven s o c).setKennel s (((d2.kennel s).charged o c.vc).vacated n)).kennel (1 - s) = d2.kennel (1 - s) :=
    (Dev.kennel_setKennel_other _ _ hs).trans (Dev.kennel_setKennel_other _ _ hs)
  unfold Dev.cycle
  dsimp only
  rw [← hd1, l1.expireHeads, l1.requests h144, Dev.iterate_lone l1.unitUsed ho ho', ← hd2, Dev.iterate_again,
    show (d2.kennel s).moveRot d1.rotWeights [] = d2.kennel s from rfl, Dev.setKennel_self, List.append_nil, hps,
    if_neg (List.cons_ne_nil _ _)]
  exact Dev.admitWaiting_none ((congrArg Kennel.waiting hrest).trans l2.other)

end

/-! ## The clauses of O36 -/

theorem lone_cell_leaves (s : State) (sd : Sdie) (i n o : Nat) (x : KSlot) (c : Cell) (hd : s.domainOff .switch = false)
    (hg : s.domainGated .switch = false) (hf : s.fenced = false) (hn : n < slotCount) (hc : c.vc = 10)
    (ho : 128 ≤ o ∧ o < 132 ∨ o = 133 ∧ sd = 0 ∨ 136 ≤ o ∧ o < 144) (h : s.toDev.Lone sd.val i o n x c) :
    ∃ t, exec (.crossbarCycle sd) s = .next t ∧ t.out = s.out ++ [.internal s.tick (Fin.ofNat 2 sd.val) o c] ∧
      (t.kennel sd.val).slots = [] ∧ (t.kennel sd.val).queues = [(uniKey i o 10, [])] ∧
      (t.kennel sd.val).free = (s.kennel sd.val).free ++ [(n, n)] ∧ t.mem = s.mem ∧ t.ctxs = s.ctxs := by
  obtain ⟨e, ps, hp, hcyc⟩ := Dev.cycle_lone h sd.isLt hn (by omega) (by omega) (by omega) hc
  have he := h.paced hp
  have hfree : (e.kennel sd.val).free = (s.kennel sd.val).free := (congrArg Kennel.free hp.held :)
  obtain ⟨a, b, r, hrest⟩ := hp.rest
  set k := ((e.kennel sd.val).charged o c.vc).vacated n with hk
  have hken : ((e.driven sd.val o c).setKennel sd.val k).kennel sd.val = k := Dev.kennel_setKennel_same _ _ _
  refine ⟨_, run_dev ((if_neg (by rw [hd, hg, hf]; decide)).trans hcyc), ?_, ?_, ?_, ?_, ?_, ?_⟩
  · refine ((e.driven sd.val o c).setKennel_out sd.val k).trans ?_
    refine (congrArg (· ++ [Out.internal e.tick (Fin.ofNat 2 sd.val) o c]) (Dev.setKennel_out e sd.val _)).trans ?_
    rw [hrest]
  · refine (congrArg Kennel.slots hken).trans ((congrArg (fun l => terase l n) he.slots).trans ?_)
    simp [terase]
  · refine (congrArg Kennel.queues hken).trans
      ((congrArg (List.map fun q : Nat × List Nat => (q.1, q.2.filter (· != n))) he.queues).trans ?_)
    simp
  · refine (congrArg Kennel.free hken).trans (congrArg (· ++ [(n, n)]) hfree)
  · refine ((e.driven sd.val o c).setKennel_mem sd.val k).trans ((Dev.setKennel_mem e sd.val _).trans ?_)
    rw [hrest]
  · refine ((e.driven sd.val o c).setKennel_ctxs sd.val k).trans ((Dev.setKennel_ctxs e sd.val _).trans ?_)
    rw [hrest]

/-- Settles O36. -/
theorem crossbarMovesCells : Obligations.CrossbarMovesCells := by
  refine ⟨fun s sd h => ?_, fun s sd hd hg hf => ?_, ?_, expired_cell_leaves⟩
  · exact run_dev (d := s.toDev) (if_pos (by rcases h with h | h | h <;> simp [h]))
  · exact run_dev (if_neg (by rw [hd, hg, hf]; decide))
  · intro s sd i n o x c hd hg hf hsl hj hi hn hc ho hu hr hq hm hslots hown hcell hexp hw0 hw1
    have hw : ∀ k, (s.kennel k).waiting = [] := fun k => by
      unfold Dev.kennel
      split
      · exact hw0
      · exact hw1
    exact lone_cell_leaves s sd i n o x c hd hg hf hn hc ho
      ⟨hslots, hq, hm, hu, hr, hw _, hw _, hcell, hown, hexp, hsl.1, hj, hsl.2⟩

end Sys2Proof.Machine
end

section
/-! Wakes of a port (O27), and the entry into LANES. -/

namespace Sys2Proof.Machine

/-! ## Entry into LANES (R103, R150, R154) -/

section
variable (x old : PortSt) (now : Nat)

theorem PortSt.progress_recheck : (x.recheck old now).progress = x.progress := by
  unfold PortSt.recheck
  split <;> rfl

theorem PortSt.since_recheck : (x.recheck old now).since = x.since := by
  unfold PortSt.recheck
  split <;> rfl

theorem PortSt.heldClass_recheck : (x.recheck old now).heldClass = x.heldClass := by
  unfold PortSt.recheck
  split <;> rfl

end

/-- A port that has entered LANES, or runs it again in RECOVER. -/
def PortSt.intoLanes (x : PortSt) (now : Nat) (recover : Bool) (rate cls : Nat) : PortSt :=
  (({ x with state := if recover then .recover else .lanes, since := now, progress := now, handover := none,
             bothAccept := none, lanesEndSent := false, resends := 0 } : PortSt).mapLanes (fun _ y => y.startTrain rate cls)).recheck x now

section
variable (x : PortSt) (now rate cls : Nat) (recover : Bool)

theorem PortSt.state_intoLanes : (x.intoLanes now recover rate cls).state = if recover then .recover else .lanes :=
  PortSt.state_recheck _ _ _

theorem PortSt.progress_intoLanes : (x.intoLanes now recover rate cls).progress = now := PortSt.progress_recheck _ _ _

theorem PortSt.since_intoLanes : (x.intoLanes now recover rate cls).since = now := PortSt.since_recheck _ _ _

theorem PortSt.heldClass_intoLanes : (x.intoLanes now recover rate cls).heldClass = x.heldClass := PortSt.heldClass_recheck _ _ _

theorem PortSt.lane_intoLanes (l : Lane) : (x.intoLanes now recover rate cls).lane l = (x.lane l).startTrain rate cls := by
  unfold PortSt.intoLanes
  rw [PortSt.lane_recheck, PortSt.lane_mapLanes]
  rfl

end

theorem LaneSt.startTrain_idle {y : LaneSt} {rate cls : Nat} (h : y.state = .off ∨ y.state = .keepalive) :
    (y.startTrain rate cls).state = .train ∧ (y.startTrain rate cls).rate = rate := by
  unfold LaneSt.startTrain
  rcases h with h | h <;> rw [h] <;> exact ⟨rfl, rfl⟩

/-- The device with the level of a port's link in force. -/
def Dev.levelled (d : Dev) (p : Nat) : Dev := d.setReg (E.FABRIC_LEVEL p) (d.linkLevel p)

section
variable (d : Dev) (p : Nat) (recover : Bool)

theorem Dev.toLanes_rest : ∃ o m, (if (d.port p).state = .ident then d.levelled p else
      (d.levelled p).moduleLanes p ((d.levelled p).linkRate p)) = { d.levelled p with out := o, modules := m } ∧
    ((d.port p).state = .ident → o = d.out ∧ m = d.modules) := by
  by_cases h : (d.port p).state = .ident
  · rw [if_pos h]
    exact ⟨d.out, d.modules, rfl, fun _ => ⟨rfl, rfl⟩⟩
  · rw [if_neg h, Dev.moduleLanes_frame]
    exact ⟨_, _, rfl, fun h' => absurd h' h⟩

/-- What an entry into LANES changes: the port, its level, and what goes out. -/
theorem Dev.toLanes_eq : ∃ o m, d.toLanes p recover = { (d.levelled p).setPort p ((d.port p).intoLanes d.tick recover
      ((d.levelled p).linkRate p) ((d.levelled p).elecClass p)) with out := o, modules := m } ∧
    ((d.port p).state = .ident → m = d.modules) := by
  obtain ⟨o, m, he, hi⟩ := d.toLanes_rest p
  refine ⟨(d.toLanes p recover).out, m, ?_, fun h => (hi h).2⟩
  unfold Dev.levelled at he
  rw [Dev.toLanes]
  dsimp only
  rw [he, Dev.notePort_frame]
  rfl

end

/-! ## The wake of a port (R129, R159, R160) -/

theorem Dev.wake_active {d : Dev} (h : d.power.sleep = .active) (code : Nat) : d.wake code = d := by
  unfold Dev.wake
  rw [h]
  rfl

theorem Dev.switchBack_of_lanes {d : Dev} (h : d.domainOff .lanes = false) : d.switchBack = d := by
  have hk : d.power.sleepPower ≠ .keepalive := fun e => by simp [Dev.domainOff, e] at h
  unfold Dev.switchBack
  dsimp only
  split
  · rfl
  · refine if_neg fun hw => ?_
    simp only [Bool.and_eq_true, decide_eq_true_eq] at hw
    obtain ⟨⟨hs, hf⟩, -⟩ := hw
    exact hk (by unfold Power.sleepPower; rw [if_pos hs, hf])

section
variable (s : State) (p : Port)

theorem wakeRequest_asleep (c : Cell) (hc : c.pay 0 1 = 1) (ha : s.power.sleep = .active)
    (hs : (s.port p.val).state = .keepalive) : exec (.wakeRequest p c) s = .next (s.dev
      ((s.toDev.setPort p.val { s.port p.val with wakeReqRcvd := some ((s.port p.val).wakeReqRcvd.getD s.tick) }).sendWake
        p.val 2 0)) := by
  refine run_dev ((if_neg (by simp [hc])).trans ((if_neg (by simp [hs])).trans ((if_pos hs).trans ?_)))
  exact congrArg (fun e : Dev => e.sendWake p.val 2 0) (Dev.wake_active (by exact ha) _)

theorem wakeRequest_up (c : Cell) (hc : c.pay 0 1 = 1) (ha : s.power.sleep = .active) (hs : (s.port p.val).state = .up)
    (ht : (s.port p.val).sleepTs ≠ none) : exec (.wakeRequest p c) s = .next (s.dev
      ((s.toDev.setPort p.val { s.port p.val with sleepTs := none, sleepSent := false }).sendWake p.val 2 0)) := by
  refine run_dev ((if_neg (by simp [hc])).trans ((if_pos (by simp [hs, Option.isSome_iff_ne_none, ht])).trans ?_))
  dsimp only
  rw [if_neg (by rw [ha]; decide)]
  exact congrArg (fun e : Dev => e.sendWake p.val 2 0) (Dev.wake_active (by exact ha) _)

theorem wakeRequestSend_traffic (hs : (s.port p.val).state = .keepalive) (hw : (s.port p.val).wakeReqSent = false)
    (hq : s.queuedTo p.val = true) : exec (.wakeRequestSend p) s = .next (s.dev
      ((s.toDev.setPort p.val { s.port p.val with wakeReqSent := true }).sendWake p.val 1
        (if s.startQueuedTo p.val = true then 2 else 1))) :=
  run_dev (if_pos (by simp [hs, hw, hq]))

theorem wakeAck_noted (c : Cell) (hs : (s.port p.val).state = .keepalive) (hc : c.pay 0 1 = 2) :
    exec (.wakeAck p c) s = .next (s.withPort p.val { s.port p.val with wakeAckRcvd := true }) :=
  run_dev (if_pos (by simp [hs, hc]))

theorem wakeReadySend_first (hs : (s.port p.val).state = .keepalive) (hr : (s.port p.val).wakeReadySent = false)
    (hq : (s.port p.val).wakeReqSent = true) (hn : (s.port p.val).wakeReadyRcvd = false) (hd : s.domainOff .lanes = false) :
    exec (.wakeReadySend p) s = .next (s.dev
      ((s.toDev.setPort p.val { s.port p.val with wakeReadySent := true }).sendWake p.val 3 0)) := by
  have hnote : (({ s.port p.val with wakeReadySent := true } : PortSt).noteReady s.tick) =
      { s.port p.val with wakeReadySent := true } := if_neg (by simp [hn])
  refine run_dev ?_
  dsimp only
  rw [Dev.switchBack_of_lanes hd, ite_self, if_pos (by simp [hs, hr, hq, hd]), hnote]

theorem wakeReady_noted (c : Cell) (hs : (s.port p.val).state = .keepalive) (hc : c.pay 0 1 = 3) :
    exec (.wakeReady p c) s = .next (s.withPort p.val { s.port p.val with
      wakeReadyRcvd := true,
      wakeBoth := (if (s.port p.val).wakeReadySent then some ((s.port p.val).wakeBoth.getD s.tick)
        else (s.port p.val).wakeBoth) }) := by
  refine run_dev ((if_pos (by simp [hs, hc])).trans (congrArg (s.toDev.setPort p.val) ?_))
  unfold PortSt.noteReady
  by_cases h : (s.port p.val).wakeReadySent = true
  · rw [if_pos (by simp [h]), if_pos h]
  · rw [if_neg (by simp [h]), if_neg h]

theorem wakeLanesStart_due (t0 : Nat) (hs : (s.port p.val).state = .keepalive) (hb : (s.port p.val).wakeBoth = some t0)
    (ht : t0 + 256 ≤ s.tick) :
    ∃ t, exec (.wakeLanesStart p) s = .next t ∧ (t.port p.val).state = .lanes ∧ (t.port p.val).progress = s.tick ∧
      (∀ l, (s.lane p.val l).state = .off ∨ (s.lane p.val l).state = .keepalive → (t.lane p.val l).state = .train) ∧
      t.reg (E.FABRIC_LEVEL p.val) = s.linkLevel p.val ∧ s.regsBut t [E.FABRIC_LEVEL p.val] ∧ s.portsBut t p.val ∧
      { t with ports := s.ports, regs := s.regs, out := s.out, modules := s.modules } = s := by
  obtain ⟨o, m, he, -⟩ := s.toDev.toLanes_eq p.val false
  have hrun : exec (.wakeLanesStart p) s = .next (s.dev (s.toDev.toLanes p.val false)) := by
    refine run_dev ?_
    dsimp only
    rw [hb]
    exact if_pos (by simp [hs, ht])
  rw [he] at hrun
  set y := (s.port p.val).intoLanes s.tick false ((s.levelled p.val).linkRate p.val) ((s.levelled p.val).elecClass p.val)
  have hport : ((s.levelled p.val).setPort p.val y).port p.val = y := Dev.port_setPort_same _ _ _
  refine ⟨_, hrun, ?_, ?_, fun l hl => ?_, ?_, fun k hk => ?_, fun q hq => ?_, rfl⟩
  · exact (congrArg PortSt.state hport).trans (PortSt.state_intoLanes _ _ _ _ _)
  · exact (congrArg PortSt.progress hport).trans (PortSt.progress_intoLanes _ _ _ _ _)
  · refine (congrArg (fun z : PortSt => (z.lane l).state) hport).trans ?_
    exact (congrArg LaneSt.state (PortSt.lane_intoLanes _ _ _ _ _ l)).trans (LaneSt.startTrain_idle hl).1
  · exact Dev.reg_setReg_same _ _ _
  · exact Dev.reg_setReg_other _ _ (by simpa using hk)
  · exact Dev.port_setPort_other _ _ hq

end

/-- Settles O27. -/
theorem portWakes : Obligations.PortWakes :=
  ⟨fun s p c hc ha => ⟨wakeRequest_asleep s p c hc ha, wakeRequest_up s p c hc ha⟩, wakeRequestSend_traffic, wakeAck_noted,
    wakeReadySend_first, wakeReady_noted, wakeLanesStart_due⟩

end Sys2Proof.Machine
end

section
/-! Identity and training of a port (O25). -/

namespace Sys2Proof.Machine

/-! ## TRAIN cells (R88, R148) -/

theorem Dev.farLoop_of_traffic {d : Dev} {p : Nat} {l : Lane} (h : (d.lane p l).state ≠ .test) (bs : List Byte) :
    d.farLoop p l bs = d := by
  unfold Dev.farLoop
  exact if_neg (by simp [h])

theorem bit0_mask (m : Nat) (on : Bool) : bits (if on then maskSet m 0 else maskClear m 0) 0 1 = if on then 1 else 0 := by
  unfold bits maskSet maskClear maskHas
  by_cases h : m % 2 = 1 <;> cases on <;> simp [h] <;> omega

/-- The device once a TRAIN cell is counted and its polarity noted. -/
def Dev.trained0 (d : Dev) (p : Nat) (inv : Bool) : Dev :=
  (d.setPort p { d.port p with trainRun := (d.port p).trainRun + 1, lastGood := d.tick }).notePolarity p 0 inv

theorem exec_trainCell_detect {s : State} {p : Port} {c : Cell} {inv : Bool} (hs : (s.port p.val).state = .detect)
    (ht : (s.port p.val).lane0.state ≠ .test) :
    exec (.trainCell p 0 c inv) s = .next (s.dev ((s.toDev.trained0 p.val inv).detectCheck p.val)) := by
  refine run_dev ?_
  rw [Dev.farLoop_of_traffic (d := s.toDev) (p := p.val) (l := 0) ht]
  dsimp only
  rw [hs]
  exact if_pos rfl

section
variable (d : Dev) (p : Nat) (inv : Bool)

theorem Dev.port_trained0_same : (d.trained0 p inv).port p =
    { d.port p with trainRun := (d.port p).trainRun + 1, lastGood := d.tick } := d.port_setPort_same p _

theorem Dev.port_trained0_other {q : Nat} (h : q ≠ p) : (d.trained0 p inv).port q = d.port q := d.port_setPort_other _ h

theorem Dev.reg_trained0_same : bits ((d.trained0 p inv).reg (E.RX_POLARITY p)) 0 1 = if inv then 1 else 0 :=
  (congrArg (fun v => bits v 0 1) (Dev.reg_setReg_same _ _ _)).trans (bit0_mask _ inv)

theorem Dev.reg_trained0_other {k : Nat} (h : k ≠ E.RX_POLARITY p) : (d.trained0 p inv).reg k = d.reg k :=
  Dev.reg_setReg_other _ _ h

end

theorem trainCell_counts (s : State) (p : Port) (c : Cell) (inv : Bool) (hs : (s.port p.val).state = .detect)
    (ht : (s.port p.val).lane0.state ≠ .test) (hn : (s.port p.val).trainRun + 1 < 8) :
    ∃ t, exec (.trainCell p 0 c inv) s = .next t ∧
      t.port p.val = { s.port p.val with trainRun := (s.port p.val).trainRun + 1, lastGood := s.tick } ∧
      bits (t.reg (E.RX_POLARITY p.val)) 0 1 = (if inv then 1 else 0) ∧ s.regsBut t [E.RX_POLARITY p.val] ∧
      s.portsBut t p.val ∧ { t with ports := s.ports, regs := s.regs } = s := by
  have hport := s.toDev.port_trained0_same p.val inv
  have hc : (s.toDev.trained0 p.val inv).detectCheck p.val = s.toDev.trained0 p.val inv := by
    unfold Dev.detectCheck
    rw [hport]
    exact if_neg (by simp; omega)
  have hrun := exec_trainCell_detect (c := c) (inv := inv) hs ht
  rw [hc] at hrun
  refine ⟨_, hrun, hport, s.toDev.reg_trained0_same p.val inv, fun k hk => ?_, fun q hq => ?_, rfl⟩
  · exact s.toDev.reg_trained0_other p.val inv (by simpa using hk)
  · exact s.toDev.port_trained0_other p.val inv hq

theorem trainCell_detects (s : State) (p : Port) (c : Cell) (inv : Bool) (hs : (s.port p.val).state = .detect)
    (hlos : (s.port p.val).lane0.los = false) (hlol : (s.port p.val).lane0.lol = false)
    (ht : (s.port p.val).lane0.state ≠ .test) (hn : 8 ≤ (s.port p.val).trainRun + 1) (hq : s.queuedTo p.val = false) :
    ∃ t, exec (.trainCell p 0 c inv) s = .next t ∧ (t.port p.val).state = .ident ∧ (t.port p.val).lastIdent = s.tick ∧
      t.reg (E.LANE0_MISWIRED p.val) = 0 ∧ tget t.discovery p.val = some { tick := s.tick } ∧ s.portsBut t p.val ∧
      s.regsBut t [E.RX_POLARITY p.val, E.LANE0_MISWIRED p.val] ∧
      { t with ports := s.ports, regs := s.regs, discovery := s.discovery, out := s.out } = s := by
  set D := s.toDev.trained0 p.val inv with hD
  have hport : D.port p.val = _ := s.toDev.port_trained0_same p.val inv
  have hDq : D.queuedTo p.val = false := hq
  have hc : D.detectCheck p.val = (D.toIdent p.val).setReg (E.LANE0_MISWIRED p.val) 0 := by
    unfold Dev.detectCheck
    rw [hport]
    exact if_pos (by simp [hs, hlos, hlol]; omega)
  have hident := Dev.port_toIdent_same hDq
  have hrun := exec_trainCell_detect (c := c) (inv := inv) hs ht
  rw [hc] at hrun
  refine ⟨_, hrun, ?_, ?_, Dev.reg_setReg_same _ _ _, ?_, fun q h => ?_, fun k hk => ?_, ?_⟩
  · exact (congrArg PortSt.state hident :)
  · exact (congrArg PortSt.lastIdent hident :)
  · unfold Dev.toIdent
    rw [Dev.flushPort_of_empty hDq, Dev.notePort_frame]
    exact tget_tset_same _ _ _
  · exact (Dev.port_toIdent_other hDq h).trans (s.toDev.port_trained0_other p.val inv h)
  · obtain ⟨h1, h2⟩ : k ≠ E.RX_POLARITY p.val ∧ k ≠ E.LANE0_MISWIRED p.val := by simpa using hk
    refine (Dev.reg_setReg_other _ _ h2).trans (Eq.trans ?_ (s.toDev.reg_trained0_other p.val inv h1))
    unfold Dev.toIdent
    rw [Dev.flushPort_of_empty hDq, Dev.notePort_frame]
    rfl
  · unfold Dev.toIdent
    rw [Dev.flushPort_of_empty hDq, Dev.notePort_frame]
    rfl

/-! ## IDENT cells (R127, R148 to R150) -/

theorem Dev.txIdle_setPort (d : Dev) (p : Nat) {x : PortSt} {l : Lane} (h : x.lane l = d.lane p l) :
    (d.setPort p x).txIdle p l = d.txIdle p l := by
  have hl : (d.setPort p x).lane p l = d.lane p l := (congrArg (fun y : PortSt => y.lane l) (d.port_setPort_same p x)).trans h
  unfold Dev.txIdle
  rw [hl]
  rfl

theorem identSend_due (s : State) (p : Port) (hs : (s.port p.val).state = .ident) (hv : (s.port p.val).verdict = 0)
    (hd : (s.port p.val).identSent = none ∨ ∃ e, (s.port p.val).identSent = some e ∧ e + 16 ≤ s.tick)
    (hi : s.txIdle p.val 0 = false) :
    let c := mkLinkCell tIdent 0 (s.identPayload p.val 0)
    exec (.identSend p) s = .next (s.dev ((s.toDev.setPort p.val { s.port p.val with identSent := some s.tick }).emit
      (.cell s.tick (portFin p.val) 0 c (cellCrc c) (s.lane p.val 0).txBad))) := by
  intro c
  have hx : ({ s.port p.val with identSent := some s.tick, acceptSent := (s.port p.val).acceptSent || decide ((s.port p.val).verdict = 1) } : PortSt) =
      { s.port p.val with identSent := some s.tick } := by rw [hv]; simp
  set D := s.toDev.setPort p.val { s.port p.val with identSent := some s.tick } with hD
  have hport : D.port p.val = { s.port p.val with identSent := some s.tick } := s.toDev.port_setPort_same p.val _
  have hlane : D.lane p.val 0 = s.lane p.val 0 := (congrArg (fun y : PortSt => y.lane 0) hport :)
  have hidle : D.txIdle p.val 0 = false := (s.toDev.txIdle_setPort p.val (x := { s.port p.val with identSent := some s.tick }) rfl).trans hi
  have hcheck : ∀ o, (D.emit o).identCheck p.val = D.emit o := fun o => by
    unfold Dev.identCheck
    dsimp only
    exact if_pos (by rw [show ((D.emit o).port p.val).verdict = 0 from (congrArg PortSt.verdict hport).trans hv]; simp)
  have hdue : (match (s.port p.val).identSent with
      | some t => decide (t + 16 ≤ s.tick)
      | none => true) = true := by
    rcases hd with h | ⟨e, h, he⟩
    · rw [h]
    · rw [h]
      exact decide_eq_true he
  refine run_dev ((if_pos ?_).trans ?_)
  · rw [decide_eq_true hs, Bool.true_and]
    exact hdue
  · unfold Dev.sendIdent
    dsimp only
    rw [hx, ← hD, hv, Dev.sendCell_of_live hidle, hcheck, hlane]
    rfl

/-- The device once a partner's IDENT is kept. -/
def Dev.identKept (d : Dev) (p : Nat) (c : Cell) : Dev :=
  (d.setBlob (E.PEER_IDENT p) c.payload).setPort p { d.port p with
    lastIdent := d.tick, firstIdent := some ((d.port p).firstIdent.getD d.tick), peerVerdict := c.pay 25 1, lastGood := d.tick }

section
variable {s : State} {p : Port} {c : Cell}

theorem exec_identCell_ident (hs : (s.port p.val).state = .ident) :
    exec (.identCell p c) s = .next (s.dev ((s.toDev.identKept p.val c).identCheck p.val)) := run_dev (if_pos hs)

theorem blob_identKept (d : Dev) (p : Nat) (c : Cell) : (d.identKept p c).blob (E.PEER_IDENT p) = c.payload := by
  refine (congrArg (fun o : Option (List Byte) => o.getD _) (tget_tset_same d.blobs (E.PEER_IDENT p) c.payload)).trans rfl

theorem port_identKept_same (d : Dev) (p : Nat) (c : Cell) : (d.identKept p c).port p = { d.port p with
    lastIdent := d.tick, firstIdent := some ((d.port p).firstIdent.getD d.tick), peerVerdict := c.pay 25 1, lastGood := d.tick } :=
  Dev.port_setPort_same _ p _

theorem port_identKept_other (d : Dev) {p q : Nat} (c : Cell) (h : q ≠ p) : (d.identKept p c).port q = d.port q :=
  Dev.port_setPort_other _ _ h

end

theorem identCell_undecided (s : State) (p : Port) (c : Cell) (hs : (s.port p.val).state = .ident)
    (hv : (s.port p.val).verdict = 0) : ∃ t, exec (.identCell p c) s = .next t ∧ t.blob (E.PEER_IDENT p.val) = c.payload ∧
      (t.port p.val).lastIdent = s.tick ∧ (t.port p.val).state = .ident ∧ (t.port p.val).peerVerdict = c.pay 25 1 ∧
      s.portsBut t p.val ∧ { t with ports := s.ports, blobs := s.blobs } = s := by
  have hport := port_identKept_same s.toDev p.val c
  have hc : (s.toDev.identKept p.val c).identCheck p.val = s.toDev.identKept p.val c := by
    unfold Dev.identCheck
    dsimp only
    rw [hport]
    exact if_pos (by simp [hv])
  have hrun := exec_identCell_ident (c := c) hs
  rw [hc] at hrun
  refine ⟨_, hrun, blob_identKept _ _ _, (congrArg PortSt.lastIdent hport :), ?_,
    (congrArg PortSt.peerVerdict hport :), fun q hq => port_identKept_other _ c hq, rfl⟩
  exact (congrArg PortSt.state hport).trans hs

theorem Dev.moduleLanes_of_cable {d : Dev} {p : Nat} (h : d.isModule p = false) (rate : Nat) : d.moduleLanes p rate = d := by
  unfold Dev.moduleLanes
  rw [Dev.cmis_of_cable h, Dev.setModule_of_cable h]

/-- A stored IDENT does not change a port's class. -/
theorem Dev.isModule_peerIdent (d : Dev) (p : Nat) (v : List Byte) :
    (d.setBlob (E.PEER_IDENT p) v).isModule p = d.isModule p := by
  have hplan : (d.setBlob (E.PEER_IDENT p) v).planEntry (d.logical p) = d.planEntry (d.logical p) := by
    unfold Dev.planEntry
    rw [show tget (d.setBlob (E.PEER_IDENT p) v).blobs (E.PLAN_NEIGHBOUR (d.logical p)) = tget d.blobs (E.PLAN_NEIGHBOUR (d.logical p))
      from tget_tset_other _ _ (by unfold E.PEER_IDENT E.PLAN_NEIGHBOUR; omega)]
  unfold Dev.isModule Dev.elecClass Dev.planClass Dev.reach
  rw [show (d.setBlob (E.PEER_IDENT p) v).logical p = d.logical p from rfl, hplan]
  rfl

theorem Dev.wakeIdent_active {d : Dev} (h : d.power.sleep = .active) : d.wakeIdent = d := by
  unfold Dev.wakeIdent
  rw [Dev.wake_active h]
  exact if_neg (by simp [h])

theorem identCell_both_accept (s : State) (p : Port) (c : Cell) (hs : (s.port p.val).state = .ident)
    (hv : (s.port p.val).verdict = 1) (hc : c.pay 25 1 = 1) (ha : (s.port p.val).acceptSent = true)
    (hb : (s.port p.val).bothAccept = none) (hp : s.power.sleep = .active) :
    ∃ t, exec (.identCell p c) s = .next t ∧ t.blob (E.PEER_IDENT p.val) = c.payload ∧
        (t.port p.val).state = .ident ∧ (t.port p.val).bothAccept = some s.tick ∧ s.portsBut t p.val ∧
        (s.isModule p.val = false → t.out = s.out ∧ t.modules = s.modules) ∧
        { t with ports := s.ports, blobs := s.blobs, out := s.out, modules := s.modules } = s := by
  have hport := port_identKept_same s.toDev p.val c
  set D := s.toDev.identKept p.val c with hD
  set M := D.setPort p.val { D.port p.val with bothAccept := some s.tick } with hM
  have hMport : M.port p.val = { D.port p.val with bothAccept := some s.tick } := D.port_setPort_same p.val _
  obtain ⟨rate, hcheck⟩ : ∃ rate, D.identCheck p.val = M.moduleLanes p.val rate := by
    refine ⟨(D.setReg (E.FABRIC_LEVEL p.val) (D.linkLevel p.val)).linkRate p.val, ?_⟩
    unfold Dev.identCheck
    dsimp only
    rw [if_neg (by rw [hport]; simp [hs, hv]), if_neg (by rw [hport]; simp [hv, hc]), if_pos (by rw [hport]; simp [hc, ha, hb])]
    exact Dev.wakeIdent_active (by rw [Dev.moduleLanes_frame]; exact hp)
  have hrun := exec_identCell_ident (c := c) hs
  rw [hcheck] at hrun
  refine ⟨_, hrun, ?_, ?_, ?_, fun q hq => ?_, fun hm => ?_, ?_⟩
  · rw [Dev.moduleLanes_frame]
    exact blob_identKept _ _ _
  · exact (congrArg PortSt.state ((M.port_moduleLanes p.val rate p.val).trans hMport)).trans ((congrArg PortSt.state hport).trans hs)
  · exact (congrArg PortSt.bothAccept ((M.port_moduleLanes p.val rate p.val).trans hMport) :)
  · exact (M.port_moduleLanes p.val rate q).trans ((D.port_setPort_other _ hq).trans (port_identKept_other _ c hq))
  · have hcable : M.isModule p.val = false := by
      rw [hM, Dev.isModule_setPort _ _ (by rfl), hD]
      exact (Dev.isModule_setPort (s.toDev.setBlob (E.PEER_IDENT p.val) c.payload) p.val (by rfl)).trans
        ((Dev.isModule_peerIdent s.toDev p.val c.payload).trans hm)
    rw [Dev.moduleLanes_of_cable hcable]
    exact ⟨rfl, rfl⟩
  · rw [Dev.moduleLanes_frame]
    rfl

/-- A port that has entered QUARANTINE. -/
def PortSt.intoQuarantine (x : PortSt) (now low cls : Nat) : PortSt :=
  ({ x.closeCredits with state := .quarantine, since := now, bothAccept := none,
                         txq := x.txq.filter Cell.quarantined }).mapLanes (fun l y => y.toDetect l low cls)

theorem Dev.toQuarantine_of_empty {d : Dev} {p : Nat} (h : d.queuedTo p = false) : d.toQuarantine p =
    ((d.setPort p ((d.port p).intoQuarantine d.tick (d.lowRate p) (d.elecClass p))).notePort d p).linkEvent p := by
  unfold Dev.toQuarantine
  rw [Dev.flushPort_of_empty h]
  rfl

theorem identCell_rejected (s : State) (p : Port) (c : Cell) (hs : (s.port p.val).state = .ident)
    (hv : (s.port p.val).verdict = 1) (hc : c.pay 25 1 = 2) (hq : s.queuedTo p.val = false) :
    ∃ t, exec (.identCell p c) s = .next t ∧ t.blob (E.PEER_IDENT p.val) = c.payload ∧
        (t.port p.val).state = .quarantine ∧ t.arrivals = s.arrivals ++ [Arrival.mk s.sampledAt (.link p.val)] ∧
        s.portsBut t p.val ∧
        { t with ports := s.ports, blobs := s.blobs, arrivals := s.arrivals, draws := s.draws, out := s.out } = s := by
  have hport := port_identKept_same s.toDev p.val c
  set D := s.toDev.identKept p.val c with hD
  have hDq : D.queuedTo p.val = false := hq
  set x := (D.port p.val).intoQuarantine D.tick (D.lowRate p.val) (D.elecClass p.val)
  have hcheck : D.identCheck p.val = ((D.setPort p.val x).notePort D p.val).linkEvent p.val := by
    unfold Dev.identCheck
    dsimp only
    rw [if_neg (by rw [hport]; simp [hs, hv]), if_pos (by rw [hport]; simp [hc]), Dev.toQuarantine_of_empty hDq]
  rw [Dev.notePort_frame] at hcheck
  have hrun := exec_identCell_ident (c := c) hs
  rw [hcheck] at hrun
  refine ⟨_, hrun, blob_identKept _ _ _, ?_, rfl, fun q hq => ?_, rfl⟩
  · exact (congrArg PortSt.state (D.port_setPort_same p.val x)).trans rfl
  · exact (D.port_setPort_other _ hq).trans (port_identKept_other _ c hq)

/-! ## LANES (R150 to R153) -/

theorem Dev.linkRate_setPort (d : Dev) (p : Nat) {x : PortSt} (h : x.heldClass = (d.port p).heldClass) :
    (d.setPort p x).linkRate p = d.linkRate p := by
  unfold Dev.linkRate
  rw [Dev.isModule_setPort _ _ h]
  rfl

theorem lanesStart_due (s : State) (p : Port) (t0 : Nat) (hs : (s.port p.val).state = .ident)
    (hb : (s.port p.val).bothAccept = some t0) (ht : t0 + 512 ≤ s.tick) (hm : s.moduleReady p.val = true)
    (hd : s.domainOff .lanes = false) :
    ∃ t, exec (.lanesStart p) s = .next t ∧ (t.port p.val).state = .lanes ∧ (t.port p.val).since = s.tick ∧
      t.reg (E.FABRIC_LEVEL p.val) = s.linkLevel p.val ∧
      (∀ l, (s.lane p.val l).state = .off ∨ (s.lane p.val l).state = .keepalive →
        (t.lane p.val l).state = .train ∧ (t.lane p.val l).rate = t.linkRate p.val) ∧
      s.regsBut t [E.FABRIC_LEVEL p.val] ∧ s.portsBut t p.val ∧
      { t with ports := s.ports, regs := s.regs, out := s.out } = s := by
  obtain ⟨o, m, he, hi⟩ := s.toDev.toLanes_eq p.val false
  have hrun : exec (.lanesStart p) s = .next (s.dev (s.toDev.toLanes p.val false)) := by
    refine run_dev ?_
    dsimp only
    rw [hb]
    exact if_pos (by simp [hs, ht, hm, hd])
  rw [he, hi hs] at hrun
  set D := s.levelled p.val with hD
  set y := (s.port p.val).intoLanes s.tick false (D.linkRate p.val) (D.elecClass p.val) with hy
  have hport : (D.setPort p.val y).port p.val = y := Dev.port_setPort_same _ _ _
  have hrate : (D.setPort p.val y).linkRate p.val = D.linkRate p.val :=
    D.linkRate_setPort p.val (PortSt.heldClass_intoLanes _ _ _ _ _)
  refine ⟨_, hrun, ?_, ?_, Dev.reg_setReg_same _ _ _, fun l hl => ?_, fun k hk => ?_, fun q hq => ?_, rfl⟩
  · exact (congrArg PortSt.state hport).trans (PortSt.state_intoLanes _ _ _ _ _)
  · exact (congrArg PortSt.since hport).trans (PortSt.since_intoLanes _ _ _ _ _)
  · have hl' : (D.setPort p.val y).lane p.val l = (s.lane p.val l).startTrain (D.linkRate p.val) (D.elecClass p.val) :=
      (congrArg (fun z : PortSt => z.lane l) hport).trans (PortSt.lane_intoLanes _ _ _ _ _ l)
    obtain ⟨hst, hr⟩ := LaneSt.startTrain_idle (rate := D.linkRate p.val) (cls := D.elecClass p.val) hl
    exact ⟨(congrArg LaneSt.state hl').trans hst, (congrArg LaneSt.rate hl').trans (hr.trans hrate.symm)⟩
  · exact Dev.reg_setReg_other _ _ (by simpa using hk)
  · exact Dev.port_setPort_other _ _ hq

/-! ## The end of LANES (R153) -/

/-- A lane at the end of LANES. -/
def LaneSt.ended (z : LaneSt) : LaneSt :=
  if z.bothReady then { z.join z.rate with goodSince := none } else if z.state = .train then z.fail else z

/-- A port whose link opens with grants `g` at the end of LANES, and has sent its LINK cell. -/
def PortSt.opened (x : PortSt) (g : List Nat) (now : Nat) : PortSt :=
  { x.closeCredits with granted := g, rx := ⟨g, []⟩, fresh := false, shown := [], nakCount := 0, peerNak := 0, gapOpen := false,
                        lanesEndSent := true, sinceLink := 0, firstUnacked := none, lastLink := now }

theorem LaneSt.ended_ready {z : LaneSt} (h : z.bothReady = true) : z.ended.state = .active := by
  unfold LaneSt.ended
  rw [if_pos h]
  rfl

theorem LaneSt.ended_train {z : LaneSt} (h : z.bothReady = false) (ht : z.state = .train) : z.ended.state = .failed := by
  unfold LaneSt.ended
  rw [if_neg (by simp [h]), if_pos ht]
  rfl

theorem Dev.sendTrain_frame (d : Dev) (p : Nat) (l : Lane) (phase n : Nat) :
    d.sendTrain p l phase n = { d with out := (d.sendTrain p l phase n).out, draws := (d.sendTrain p l phase n).draws } := by
  unfold Dev.sendTrain
  split
  · rfl
  · rw [Dev.emitLive_frame]
    rfl

/-- The training frames that end LANES, on each lane that is ready. -/
def Dev.endFrames (d : Dev) (p : Nat) : Dev :=
  lanes4.foldl (fun a l => if ((d.port p).lane l).bothReady then a.sendTrain p l 3 64 else a) d

theorem Dev.endFrames_frame (d : Dev) (p : Nat) :
    d.endFrames p = { d with out := (d.endFrames p).out, draws := (d.endFrames p).draws } :=
  congrArg (fun e : Dev => { e with out := (d.endFrames p).out, draws := (d.endFrames p).draws })
    (foldl_keeps (f := fun (a : Dev) l => if ((d.port p).lane l).bothReady then a.sendTrain p l 3 64 else a)
      (fun e : Dev => { e with out := [], draws := 0 }) (fun a l => by
        split
        · rw [Dev.sendTrain_frame]
        · rfl) lanes4 d)

/-- The device once the ready lanes of a port have joined striping and the others have failed. -/
def Dev.lanesJoined (d : Dev) (p : Nat) : Dev :=
  if lanes4.any (fun l => ((d.port p).lane l).state = .train && !((d.port p).lane l).bothReady) then
    ((d.endFrames p).updPort p (fun y => y.mapLanes (fun _ z => z.ended))).linkEvent p
  else (d.endFrames p).updPort p (fun y => y.mapLanes (fun _ z => z.ended))

theorem Dev.endLanes_of_ready {d : Dev} {p : Nat} (h : (d.port p).lane0.bothReady = true) :
    d.endLanes p = ((d.lanesJoined p).openLink p).sendLink p := by
  unfold Dev.endLanes
  exact if_neg (by simp [h])

theorem Dev.lanesJoined_frame (d : Dev) (p : Nat) : ∃ o a n, d.lanesJoined p =
    { d.setPort p ((d.port p).mapLanes (fun _ z => z.ended)) with out := o, arrivals := a, draws := n } := by
  unfold Dev.lanesJoined
  rw [Dev.endFrames_frame]
  split
  · exact ⟨_, _, _, rfl⟩
  · exact ⟨_, d.arrivals, _, rfl⟩

theorem Dev.sendLink_eq (d : Dev) (p : Nat) : ∃ o, d.sendLink p = { d.setPort p { d.port p with
    sinceLink := 0, firstUnacked := none, lastLink := d.tick } with out := o } := by
  unfold Dev.sendLink
  rw [Dev.sendCell_frame]
  exact ⟨_, rfl⟩

theorem Dev.setPort_setPort (d : Dev) (p : Nat) (x y : PortSt) : (d.setPort p x).setPort p y = d.setPort p y := by
  unfold Dev.setPort
  dsimp only
  rw [tset_tset]

theorem Dev.openLink_frame (d : Dev) (p : Nat) : ∃ g o, (d.openLink p).sendLink p =
    { d.setPort p ((d.port p).opened g d.tick) with out := o } := by
  obtain ⟨o, ho⟩ := (d.openLink p).sendLink_eq p
  refine ⟨d.grantList, o, ho.trans ?_⟩
  unfold Dev.openLink Dev.regrant Dev.updPort
  simp only [Dev.port_setPort_same, Dev.setPort_setPort]
  rfl

/-- What the end of LANES with lane 0 ready does. -/
theorem Dev.endLanes_eq {d : Dev} {p : Nat} (h : (d.port p).lane0.bothReady = true) : ∃ g o a n, d.endLanes p =
    { d.setPort p (((d.port p).mapLanes (fun _ z => z.ended)).opened g d.tick) with out := o, arrivals := a, draws := n } := by
  obtain ⟨o, a, n, hj⟩ := d.lanesJoined_frame p
  obtain ⟨g, o', hl⟩ := (d.lanesJoined p).openLink_frame p
  refine ⟨g, o', a, n, (Dev.endLanes_of_ready h).trans (hl.trans ?_)⟩
  have hport : (d.lanesJoined p).port p = (d.port p).mapLanes (fun _ z => z.ended) := by
    rw [hj]
    exact Dev.port_setPort_same _ _ _
  rw [hport, hj]
  exact (congrArg (fun e : Dev => { e with out := o', arrivals := a, draws := n })
    (d.setPort_setPort p ((d.port p).mapLanes (fun _ z => z.ended)) (((d.port p).mapLanes (fun _ z => z.ended)).opened g d.tick)) :)

theorem PortSt.lane_mem_upper (x : PortSt) {k : Lane} (hk : k ≠ 0) : x.lane k ∈ [x.lane1, x.lane2, x.lane3] := by
  match k, hk with
  | 1, _ | 2, _ | 3, _ => simp [PortSt.lane]

theorem lanesStall_ends (s : State) (p : Port) (k : Lane) (hs : (s.port p.val).state = .lanes)
    (he : (s.port p.val).lanesEndSent = false) (hp : (s.port p.val).progress + 25000 ≤ s.tick)
    (h0 : (s.lane p.val 0).bothReady = true) (hk : k ≠ 0) (hr : (s.lane p.val k).bothReady = true) :
    ∃ t, exec (.lanesStall p) s = .next t ∧
      (∀ l : Lane, ((s.lane p.val l).bothReady = true → (t.lane p.val l).state = .active) ∧
        ((s.lane p.val l).bothReady = false → (s.lane p.val l).state = .train → (t.lane p.val l).state = .failed)) ∧
      (t.port p.val).state = .lanes ∧ (t.port p.val).lanesEndSent = true ∧ s.portsBut t p.val ∧
      { t with ports := s.ports, out := s.out, arrivals := s.arrivals, draws := s.draws, dedOld := s.dedOld,
               dedWait := s.dedWait } = s := by
  obtain ⟨g, o, a, n, heq⟩ := Dev.endLanes_eq (d := s.toDev) (p := p.val) h0
  set x := ((s.port p.val).mapLanes (fun _ z => z.ended)).opened g s.tick with hx
  have hport : (s.toDev.setPort p.val x).port p.val = x := Dev.port_setPort_same _ _ _
  have hlane : ∀ l, x.lane l = (s.lane p.val l).ended := fun l =>
    (show x.lane l = ((s.port p.val).mapLanes (fun _ z => z.ended)).lane l from rfl).trans (PortSt.lane_mapLanes _ _ _)
  have hany : [(s.port p.val).lane1, (s.port p.val).lane2, (s.port p.val).lane3].any LaneSt.bothReady = true :=
    List.any_eq_true.2 ⟨_, PortSt.lane_mem_upper _ hk, hr⟩
  have hrun : (s.toDev.endLanes p.val).settle s.toDev = s.toDev.endLanes p.val := by
    rw [heq]
    refine Dev.settle_of_states (fun q => ?_) rfl rfl
    by_cases hq : q = p.val
    · subst hq
      exact (congrArg PortSt.state hport).trans rfl
    · exact congrArg PortSt.state (Dev.port_setPort_other _ _ hq)
  refine ⟨_, settled_run_dev (d := s.toDev.endLanes p.val) ?_, ?_⟩
  · dsimp only
    rw [if_pos (by simp [hs, he, hp, show (s.port p.val).lane0.bothReady = true from h0, hany]), hrun]
  · rw [heq]
    refine ⟨fun l => ⟨fun hl => ?_, fun hl ht => ?_⟩, ?_, ?_, fun q hq => ?_, rfl⟩
    · exact (congrArg (fun y : PortSt => (y.lane l).state) hport).trans ((congrArg LaneSt.state (hlane l)).trans (LaneSt.ended_ready hl))
    · exact (congrArg (fun y : PortSt => (y.lane l).state) hport).trans ((congrArg LaneSt.state (hlane l)).trans (LaneSt.ended_train hl ht))
    · exact (congrArg PortSt.state hport).trans hs
    · exact (congrArg PortSt.lanesEndSent hport).trans rfl
    · exact Dev.port_setPort_other _ _ hq

/-- Settles O25. -/
theorem identityAndTraining : Obligations.IdentityAndTraining :=
  ⟨fun s p c inv hs hlos hlol ht => ⟨trainCell_counts s p c inv hs ht, trainCell_detects s p c inv hs hlos hlol ht⟩,
    fun s p hs hv _ hd hi => identSend_due s p hs hv hd hi,
    fun s p c hs => ⟨identCell_undecided s p c hs, identCell_both_accept s p c hs, identCell_rejected s p c hs⟩, lanesStart_due,
    lanesStall_ends⟩

end Sys2Proof.Machine
end

section
/-! What a received cell does, and LINK cells (O23). -/

namespace Sys2Proof.Machine

/-! ## Cells that arrive (R118, R126, R132, R133) -/

theorem PortSt.lane_breakRun_state (x : PortSt) (l k : Lane) : ((x.breakRun l).lane k).state = (x.lane k).state := by
  unfold PortSt.breakRun
  split
  · rfl
  · match l, k with
    | 0, 0 | 0, 1 | 0, 2 | 0, 3 | 1, 0 | 1, 1 | 1, 2 | 1, 3 | 2, 0 | 2, 1 | 2, 2 | 2, 3 | 3, 0 | 3, 1 | 3, 2 | 3, 3 => rfl

theorem PortSt.breakRun_frame (x : PortSt) (l : Lane) : ∃ n a b c e, x.breakRun l =
    { x with trainRun := n, lane0 := a, lane1 := b, lane2 := c, lane3 := e } := by
  unfold PortSt.breakRun
  split
  · exact ⟨_, _, _, _, _, rfl⟩
  · match l with
    | 0 | 1 | 2 | 3 => exact ⟨_, _, _, _, _, rfl⟩

theorem PortSt.checkLane_breakRun (x : PortSt) (l : Lane) : (x.breakRun l).checkLane = x.checkLane := by
  have hs : (x.breakRun l).state = x.state := by
    obtain ⟨n, a, b, c, e, h⟩ := x.breakRun_frame l
    rw [h]
  unfold PortSt.checkLane
  rw [hs, PortSt.striping_congr (x.lane_breakRun_state l)]

/-- The port a cell has come to, before it is judged: its runs of TRAIN cells are broken unless it is one (R90, R148). -/
def PortSt.taken (x : PortSt) (l : Lane) (c : Cell) : PortSt := if c.type = tTrain then x else x.breakRun l

theorem PortSt.checkLane_taken (x : PortSt) (l : Lane) (c : Cell) : (x.taken l c).checkLane = x.checkLane := by
  unfold PortSt.taken
  split
  · rfl
  · exact x.checkLane_breakRun l

theorem PortSt.taken_frame (x : PortSt) (l : Lane) (c : Cell) : ∃ n a b e f, x.taken l c =
    { x with trainRun := n, lane0 := a, lane1 := b, lane2 := e, lane3 := f } := by
  unfold PortSt.taken
  split
  · exact ⟨x.trainRun, x.lane0, x.lane1, x.lane2, x.lane3, rfl⟩
  · exact x.breakRun_frame l

/-- The lane brings its cells to the link layer of a port that is on. -/
structure State.brings (s : State) (p : Port) (l : Lane) : Prop where
  on : (s.port p.val).state ≠ .off
  unarmed : s.sentry.inject = none
  traffic : (s.lane p.val l).state ≠ .test
  clean : (s.lane p.val l).inject = none

/-- The device whose port has had a good cell on a lane. -/
def Dev.cellIn (d : Dev) (p : Nat) (l : Lane) (c : Cell) : Dev :=
  if c.type = tTrain then d else d.updPort p (fun y => y.breakRun l)

section
variable (d : Dev) (p : Nat) (l : Lane) (c : Cell)

theorem Dev.port_cellIn_same : (d.cellIn p l c).port p = (d.port p).taken l c := by
  unfold Dev.cellIn PortSt.taken
  split
  · rfl
  · exact Dev.port_updPort_same _ _ _

theorem Dev.port_cellIn_other {q : Nat} (h : q ≠ p) : (d.cellIn p l c).port q = d.port q := by
  unfold Dev.cellIn
  split
  · rfl
  · exact Dev.port_updPort_other _ _ h

theorem Dev.cellIn_frame : ∃ ps, d.cellIn p l c = { d with ports := ps } := by
  unfold Dev.cellIn
  split
  · exact ⟨d.ports, rfl⟩
  · exact ⟨_, rfl⟩

end

section
variable {s : State} {p : Port} {l : Lane} {bytes : List Byte}

theorem State.brings.codewords (h : s.brings p l) :
    ¬ (((s.port p.val).lane l).injecting 3 && decide (0 < ((s.port p.val).lane l).codewords)) = true := by
  have hi : ((s.port p.val).lane l).injecting 3 = false := by
    unfold LaneSt.injecting
    rw [show ((s.port p.val).lane l).inject = none from h.clean]
  simp [hi]

theorem exec_cellReceive_bad (h : s.brings p l) (hb : parseCell bytes = none) : exec (.cellReceive p l bytes) s =
    .next (s.dev ((s.toDev.setPort p.val ((s.port p.val).breakRun l)).countErr (E.CRC_ERRORS p.val))) := by
  refine run_dev ((if_neg h.on).trans ((if_neg h.codewords).trans ?_))
  rw [Dev.farLoop_of_traffic h.traffic, Dev.takeInject_of_unarmed h.unarmed]
  dsimp only
  rw [if_neg (by decide), hb]
  rfl

theorem exec_cellReceive_good {c : Cell} (h : s.brings p l) (hb : parseCell bytes = some c) (hc : (s.port p.val).carries l = true) :
    exec (.cellReceive p l bytes) s = .next (s.dev ((s.toDev.cellIn p.val l c).receive p.val l c)) := by
  refine run_dev ((if_neg h.on).trans ((if_neg h.codewords).trans ?_))
  rw [Dev.farLoop_of_traffic h.traffic, Dev.takeInject_of_unarmed h.unarmed]
  dsimp only
  rw [if_neg (by decide), hb]
  exact if_pos hc

end

theorem cellReceive_bad (s : State) (p : Port) (l : Lane) (bytes : List Byte) (h : s.brings p l) (hb : parseCell bytes = none)
    (hreg : s.reg (E.CRC_ERRORS p.val) < 0xFFFFFFFE) : ∃ t, exec (.cellReceive p l bytes) s = .next t ∧
      t.reg (E.CRC_ERRORS p.val) = s.reg (E.CRC_ERRORS p.val) + 1 ∧ t.port p.val = (s.port p.val).breakRun l ∧
      s.portsBut t p.val ∧ s.regsBut t [E.CRC_ERRORS p.val] ∧ { t with ports := s.ports, regs := s.regs } = s := by
  have hrun := exec_cellReceive_bad h hb
  rw [Dev.countErr_of_lt (d := s.toDev.setPort p.val ((s.port p.val).breakRun l)) hreg] at hrun
  exact ⟨_, hrun, Dev.reg_setReg_same _ _ _, s.toDev.port_setPort_same _ _, fun q hq => s.toDev.port_setPort_other _ hq,
    fun k hk => Dev.reg_setReg_other _ _ (by simpa using hk), rfl⟩

/-! ## Good cells (R122, R133) -/

/-- A good cell on the check lane restarts the count of ticks without one (R154). -/
def Dev.hearCell (d : Dev) (p now : Nat) : Dev := d.setPort p { d.port p with lastGood := now }

theorem Dev.receive_plain {d : Dev} {p : Nat} {l : Lane} {c : Cell} (hl : (d.port p).checkLane = l) (hs : c.sequenced = false)
    (hn : c.type ≠ tNull) (hk : c.type ≠ tPark) (hm : c.malformedForm = false) :
    d.receive p l c = (d.hearCell p d.tick).emit (.deliver d.tick (portFin p) c) := by
  unfold Dev.receive
  dsimp only
  rw [if_pos hl]
  refine (if_pos (by rw [hs]; rfl)).trans ((if_neg (by simp [hm])).trans ((if_neg hn).trans ?_))
  rw [if_neg (by simp [hn, hk])]
  rfl

theorem cellReceive_plain (s : State) (p : Port) (l : Lane) (bytes : List Byte) (c : Cell) (h : s.brings p l)
    (hb : parseCell bytes = some c) (hc : (s.port p.val).carries l = true) (hl : (s.port p.val).checkLane = l)
    (hm : c.malformedForm = false) (hs : c.sequenced = false) (hn : c.type ≠ tNull) (hk : c.type ≠ tPark) :
    ∃ t, exec (.cellReceive p l bytes) s = .next t ∧ t.out = s.out ++ [.deliver s.tick (portFin p.val) c] ∧
      t.port p.val = { (if c.type = tTrain then s.port p.val else (s.port p.val).breakRun l) with lastGood := s.tick } ∧
      s.portsBut t p.val ∧ { t with ports := s.ports, out := s.out } = s := by
  have hport := s.toDev.port_cellIn_same p.val l c
  obtain ⟨ps, hfr⟩ := s.toDev.cellIn_frame p.val l c
  have hr := Dev.receive_plain (d := s.toDev.cellIn p.val l c) (p := p.val) (l := l) (c := c)
    (by rw [hport, PortSt.checkLane_taken]; exact hl) hs hn hk hm
  refine ⟨_, (exec_cellReceive_good h hb hc).trans (congrArg (fun d => Host.Outcome.next (s.dev d)) hr), ?_, ?_, fun q hq => ?_, ?_⟩
  · rw [hfr]
    rfl
  · refine (Dev.port_setPort_same _ _ _).trans ?_
    rw [hport, hfr]
    rfl
  · exact (Dev.port_setPort_other _ _ hq).trans (s.toDev.port_cellIn_other p.val l c hq)
  · rw [hfr]
    rfl

/-- A link-local cell that nothing forbids is delivered (R122). -/
theorem Dev.acceptCell_local {d : Dev} {p : Nat} {c : Cell} (hs : d.reg E.SAMPLE_SHIFT = 0) (hloc : c.linkLocal = true)
    (hcr : c.takesCredit = false) (hm : c.malformedForm = false) (hlv : d.levelForbids p c = false)
    (hf : d.formForbids p c = false) (hsn : snapCommand c = false) (l : Lane) :
    d.acceptCell p l c = d.emit (.deliver d.tick (portFin p) c) := by
  unfold Dev.acceptCell
  dsimp only
  rw [Dev.sampleCell_off hs, hloc, if_pos rfl, show d.cross [] = d from rfl, hcr, hm, hlv, hf, hsn]
  rfl

/-- A port that has taken the cell it expected (R133, R135). -/
def PortSt.tookNext (x : PortSt) (now : Nat) : PortSt :=
  { x with held := [], rxNext := (x.rxNext + 1) % 16384, gapOpen := false, sinceLink := x.sinceLink + 1,
           firstUnacked := some (x.firstUnacked.getD now) }

/-- A port that holds a cell it has just been shown until its turn comes. -/
def PortSt.queueCell (x : PortSt) (l : Lane) (c : Cell) : PortSt :=
  { x.show l c.lseq with held := (x.show l c.lseq).held ++ [{ lseq := c.lseq, lane := l, cell := c }] }

theorem Dev.deliverHeld_none {d : Dev} {p : Nat} (h : (d.port p).held = []) (n : Nat) : d.deliverHeld p n = d := by
  cases n with
  | zero => rfl
  | succ n =>
    unfold Dev.deliverHeld
    dsimp only
    rw [h]
    rfl

theorem Dev.deliverHeld_expected {d : Dev} {p n : Nat} {e : HeldRx} (h : (d.port p).held = [e]) (he : e.lseq = (d.port p).rxNext)
    (hnext : (((d.setPort p ((d.port p).tookNext d.tick)).acceptCell p e.lane e.cell).port p).held = []) :
    d.deliverHeld p (n + 1) = (d.setPort p ((d.port p).tookNext d.tick)).acceptCell p e.lane e.cell := by
  rw [Dev.deliverHeld]
  dsimp only
  rw [h]
  simp only [List.find?_cons, he, decide_true]
  have hf : [e].filter (fun k => k.lseq != (d.port p).rxNext) = [] := by simp [he]
  rw [hf]
  exact Dev.deliverHeld_none hnext n

section
variable {d : Dev} {p : Nat} {l : Lane} {c : Cell} (hl : (d.port p).checkLane = l) (hseq : c.sequenced = true)
  (hn : c.lseq = (d.port p).rxNext) (hh : (d.port p).held = []) (hs : d.reg E.SAMPLE_SHIFT = 0) (hloc : c.linkLocal = true)
  (hcr : c.takesCredit = false) (hm : c.malformedForm = false) (hlv : d.levelForbids p c = false)
  (hf : d.formForbids p c = false) (hsn : snapCommand c = false)
include hl hseq hn hh hs hloc hcr hm hlv hf hsn

/-- A link-local cell that comes in its turn is delivered, and the next one is expected (R133). -/
theorem Dev.receive_expected : ∃ x : PortSt, x.rxNext = ((d.port p).rxNext + 1) % 16384 ∧ x.held = [] ∧
    d.receive p l c = ((d.setPort p x).emit (.deliver d.tick (portFin p) c)).gapCheck p := by
  have hoff : (c.lseq + 16384 - (d.port p).rxNext) % 16384 = 0 := by
    rw [hn, Nat.add_sub_cancel_left]
  set z : PortSt := ({ d.port p with lastGood := d.tick } : PortSt).queueCell l c with hz
  set D := (d.hearCell p d.tick).setPort p z with hD
  have hport : D.port p = z := Dev.port_setPort_same _ _ _
  have hheld : z.held = [{ lseq := c.lseq, lane := l, cell := c }] := (congrArg (· ++ [(⟨c.lseq, l, c⟩ : HeldRx)]) hh).trans rfl
  have hacc : (D.setPort p ((D.port p).tookNext D.tick)).acceptCell p l c =
      (D.setPort p ((D.port p).tookNext D.tick)).emit (.deliver d.tick (portFin p) c) :=
    Dev.acceptCell_local (d := D.setPort p ((D.port p).tookNext D.tick)) (by exact hs) hloc hcr hm (by exact hlv) (by exact hf) hsn l
  have hdel : D.deliverHeld p 256 = (D.setPort p ((D.port p).tookNext D.tick)).emit (.deliver d.tick (portFin p) c) := by
    refine (Dev.deliverHeld_expected (n := 255) (e := ⟨c.lseq, l, c⟩) (by rw [hport]; exact hheld) (by rw [hport]; exact hn) ?_).trans hacc
    rw [hacc]
    exact congrArg PortSt.held (D.port_setPort_same p _)
  have hset : D.setPort p ((D.port p).tookNext D.tick) = d.setPort p (z.tookNext d.tick) := by
    rw [hport]
    exact (Dev.setPort_setPort _ p _ _).trans (d.setPort_setPort p _ _)
  rw [hset] at hdel
  refine ⟨z.tookNext d.tick, rfl, rfl, ?_⟩
  rw [← hdel]
  have hx : (d.hearCell p d.tick).port p = { d.port p with lastGood := d.tick } := d.port_setPort_same p _
  unfold Dev.receive
  dsimp only
  rw [if_pos hl]
  change (if (!c.sequenced) = true then _ else if (decide (256 ≤ (c.lseq + 16384 - ((d.hearCell p d.tick).port p).rxNext) % 16384) || _) = true
    then _ else _) = _
  refine (if_neg (by rw [hseq]; decide)).trans ((if_neg ?_).trans ?_)
  · rw [hx]
    simp [hoff, hh]
  · exact congrArg (fun x : PortSt => (((d.hearCell p d.tick).setPort p (x.queueCell l c)).deliverHeld p 256).gapCheck p) hx

end

theorem Dev.out_gapCheck (d : Dev) (p : Nat) {o : Out} (h : o ∈ d.out) : o ∈ (d.gapCheck p).out := by
  unfold Dev.gapCheck
  dsimp only
  split
  · unfold Dev.sendLink Dev.sendCell Dev.emitLive
    split
    · exact h
    · split
      · exact h
      · exact List.mem_append_left _ h
  · exact h

theorem cellReceive_expected (s : State) (p : Port) (l : Lane) (bytes : List Byte) (c : Cell) (h : s.brings p l)
    (hb : parseCell bytes = some c) (hc : (s.port p.val).carries l = true) (hl : (s.port p.val).checkLane = l)
    (hm : c.malformedForm = false) (hseq : c.sequenced = true) (hloc : c.linkLocal = true) (hcr : c.takesCredit = false)
    (hn : c.lseq = (s.port p.val).rxNext) (hh : (s.port p.val).held = []) (hs : s.reg E.SAMPLE_SHIFT = 0)
    (hlv : s.levelForbids p.val c = false) (hf : s.formForbids p.val c = false) (hsn : snapCommand c = false) :
    ∃ t, exec (.cellReceive p l bytes) s = .next t ∧ (t.port p.val).rxNext = ((s.port p.val).rxNext + 1) % 16384 ∧
      (t.port p.val).held = [] ∧ Out.deliver s.tick (portFin p.val) c ∈ t.out ∧ s.portsBut t p.val ∧
      s.regsBut t [E.GAPS p.val] ∧ { t with ports := s.ports, out := s.out, regs := s.regs } = s := by
  have hport := s.toDev.port_cellIn_same p.val l c
  obtain ⟨n, a, b, e, f, ht⟩ := (s.port p.val).taken_frame l c
  obtain ⟨ps, hfr⟩ := s.toDev.cellIn_frame p.val l c
  have hnext : ((s.toDev.cellIn p.val l c).port p.val).rxNext = (s.port p.val).rxNext := by rw [hport, ht]
  have hheld : ((s.toDev.cellIn p.val l c).port p.val).held = [] := by rw [hport, ht]; exact hh
  have hcheck : ((s.toDev.cellIn p.val l c).port p.val).checkLane = l := by rw [hport, PortSt.checkLane_taken]; exact hl
  obtain ⟨x, hx1, hx2, hr⟩ := Dev.receive_expected (d := s.toDev.cellIn p.val l c) (c := c) hcheck hseq (hn.trans hnext.symm) hheld
    (by rw [hfr]; exact hs) hloc hcr hm (by rw [hfr]; exact hlv) (by rw [hfr]; exact hf) hsn
  rw [hnext] at hx1
  have hrun := exec_cellReceive_good h hb hc
  rw [hr] at hrun
  set D := s.toDev.cellIn p.val l c with hD
  set M := (D.setPort p.val x).emit (.deliver D.tick (portFin p.val) c) with hM
  have hMport : M.port p.val = x := D.port_setPort_same _ _
  have htick : D.tick = s.tick := by rw [hfr]
  obtain ⟨g, n', k, f', a', hgap⟩ := M.port_gapCheck_same p.val
  refine ⟨_, hrun, ?_, ?_, ?_, fun q hq => ?_, fun j hj => ?_, ?_⟩
  · exact (congrArg PortSt.rxNext hgap).trans ((congrArg PortSt.rxNext hMport).trans hx1)
  · exact (congrArg PortSt.held hgap).trans ((congrArg PortSt.held hMport).trans hx2)
  · refine M.out_gapCheck p.val (List.mem_append_right _ ?_)
    rw [htick]
    exact List.mem_singleton_self _
  · exact (M.port_gapCheck_other hq).trans ((D.port_setPort_other _ hq).trans (s.toDev.port_cellIn_other p.val l c hq))
  · refine (M.reg_gapCheck_other (by simpa using hj)).trans ?_
    rw [hM, hfr]
    rfl
  · rw [Dev.gapCheck_frame, hM, hfr]
    rfl

/-! ## LINK and NULL cells that go out (R132, R135) -/

theorem linkSend_due (s : State) (p : Port)
    (hs : (s.port p.val).state = .up ∨ (s.port p.val).state = .keepalive ∨ (s.port p.val).state = .quarantine)
    (ht : (s.port p.val).lastLink + 64 ≤ s.tick) (hi : s.txIdle p.val (s.port p.val).checkLane = false) :
    let c := mkLinkCell tLink 0 (s.linkPayload p.val)
    exec (.linkSend p) s = .next (s.dev ((s.toDev.setPort p.val { s.port p.val with
      sinceLink := 0, firstUnacked := none, lastLink := s.tick }).emit
        (.cell s.tick (portFin p.val) (s.port p.val).checkLane c (cellCrc c) (s.lane p.val (s.port p.val).checkLane).txBad))) := by
  intro c
  have hlinked : (s.port p.val).linked = true := by
    unfold PortSt.linked
    rcases hs with h | h | h <;> rw [h]
  set D := s.toDev.setPort p.val { s.port p.val with sinceLink := 0, firstUnacked := none, lastLink := s.tick } with hD
  have hlane : ∀ l, D.lane p.val l = s.lane p.val l := fun l =>
    (congrArg (fun y : PortSt => y.lane l) (s.toDev.port_setPort_same p.val _) :).trans (by cases l using Fin.cases <;> rfl)
  have hidle : D.txIdle p.val (s.port p.val).checkLane = false := by
    unfold Dev.txIdle at hi ⊢
    rw [hlane]
    exact hi
  refine run_dev ((if_pos (by simp [hlinked, ht])).trans ?_)
  unfold Dev.sendLink
  refine (Dev.sendCell_of_live (d := D) hidle _).trans ?_
  rw [hlane]
  rfl

/-- The same cell on lanes whose transmitters are not idle. -/
theorem Dev.sendCells_live {d : Dev} {p : Nat} (c : Cell) (ls : List Lane) (h : ∀ l ∈ ls, d.txIdle p l = false) :
    ls.foldl (fun a l => a.sendCell p l c) d = { d with out := d.out ++ ls.map (fun l =>
      .cell d.tick (portFin p) l c (cellCrc c) (d.lane p l).txBad) } := by
  induction ls generalizing d with
  | nil => rw [List.foldl_nil, List.map_nil, List.append_nil]
  | cons l ls ih =>
    rw [List.foldl_cons, Dev.sendCell_of_live (h l List.mem_cons_self)]
    refine (ih (d := d.emit _) fun k hk => h k (List.mem_cons_of_mem _ hk)).trans ?_
    exact congrArg (fun o => { d with out := o }) (List.append_assoc _ _ _)

theorem fillPort_up (s : State) (p : Port) (hs : (s.port p.val).state = .up) (ht : ∀ l : Lane, (s.lane p.val l).state ≠ .train)
    (hi : ∀ l ∈ (s.port p.val).striping, s.txIdle p.val l = false) :
    let c := mkLinkCell tNull (s.port p.val).txLseq []
    s.toDev.fillPort p.val = { s.toDev with out := s.out ++ (s.port p.val).striping.map (fun l =>
      .cell s.tick (portFin p.val) l c (cellCrc c) (s.lane p.val l).txBad) } := by
  intro c
  have htr : lanes4.filter (fun l => decide (((s.port p.val).lane l).state = .train)) = [] :=
    List.filter_eq_nil_iff.2 fun l _ => by rw [decide_eq_true_eq]; exact ht l
  have hn : (s.port p.val).nullLanes = (s.port p.val).striping := by
    unfold PortSt.nullLanes
    rw [hs]
  refine Eq.trans ?_ (Dev.sendCells_live c _ hi)
  unfold Dev.fillPort
  dsimp only
  rw [hs]
  dsimp only
  rw [htr, hn]
  rfl

/-! ## Park markers (R138) -/

theorem PortSt.gapOpen_setLane (x : PortSt) (l : Lane) (y : LaneSt) : (x.setLane l y).gapOpen = x.gapOpen := by
  rw [PortSt.setLane_frame]

theorem parkCell_marks (s : State) (p : Port) (l : Lane) (c : Cell) (hc : c.type = tPark) (hg : (s.port p.val).gapOpen = true) :
    exec (.parkCell p l c) s = .next (s.withPort p.val (((s.port p.val).show l c.lseq).setLane l { s.lane p.val l with
      parkSeen := (s.lane p.val l).state = .active, trailing := false })) := by
  refine run_dev ((if_pos hc).trans (Dev.gapCheck_of_open ?_))
  rw [Dev.port_setPort_same, PortSt.gapOpen_setLane]
  exact hg

/-! ## LINK cells that come (R137, R139, R153) -/

theorem Dev.drainTxq_of_empty {d : Dev} {p : Nat} (h : (d.port p).txq = []) : d.drainTxq p = d.setPort p { d.port p with txq := [] } := by
  unfold Dev.drainTxq
  dsimp only
  rw [h]
  rfl

/-- What an ACK does where one kept cell stands, which holds no slot: it stays, or it goes (R137). -/
def PortSt.acked (x : PortSt) (a : Nat) (k : Kept) : PortSt :=
  if 0 < (a + 16384 - k.lseq) % 16384 ∧ (a + 16384 - k.lseq) % 16384 ≤ 8192 then { x with kept := [], resends := 0, txq := [] } else x

theorem Dev.ackTo_one {d : Dev} {p a : Nat} {k : Kept} (hk : (d.port p).kept = [k]) (hs : k.slot = none) (hq : (d.port p).txq = []) :
    ((d.ackTo p a).port p = (d.port p).acked a k) ∧ ∃ ps, d.ackTo p a = { d with ports := ps } ∧
      ∀ q, q ≠ p → (d.ackTo p a).port q = d.port q := by
  by_cases hv : 0 < (a + 16384 - k.lseq) % 16384 ∧ (a + 16384 - k.lseq) % 16384 ≤ 8192
  · have hd : d.ackTo p a = (d.setPort p { d.port p with kept := [], resends := 0 }).drainTxq p := by
      unfold Dev.ackTo
      dsimp only
      rw [hk, List.takeWhile_cons_of_pos (by simpa using hv), List.takeWhile_nil, if_neg (List.cons_ne_nil _ _), List.foldl_cons,
        List.foldl_nil, hs]
      unfold Dev.updPort
      dsimp only
      rw [hk]
      rfl
    have hport : (d.setPort p { d.port p with kept := [], resends := 0 }).port p = { d.port p with kept := [], resends := 0 } :=
      d.port_setPort_same p _
    rw [hd, Dev.drainTxq_of_empty (by rw [hport]; exact hq), hport, Dev.setPort_setPort]
    refine ⟨?_, _, rfl, fun q h => d.port_setPort_other _ h⟩
    unfold PortSt.acked
    rw [if_pos hv]
    exact d.port_setPort_same p _
  · have hd : d.ackTo p a = d := by
      unfold Dev.ackTo
      dsimp only
      rw [hk, List.takeWhile_cons_of_neg (by simpa using hv), if_pos rfl]
      rfl
    rw [hd]
    unfold PortSt.acked
    rw [if_neg hv]
    exact ⟨rfl, d.ports, rfl, fun _ _ => rfl⟩

theorem Dev.ackTo_none {d : Dev} {p : Nat} (hk : (d.port p).kept = []) (a : Nat) : d.ackTo p a = d := by
  unfold Dev.ackTo
  dsimp only
  rw [hk]
  rfl

/-- The grants that a LINK cell carries (R126). -/
def linkGrants (c : Cell) : List Nat := (List.range 13).map (fun i => c.pay (4 + 2 * i) 2)

/-- A port that has taken the grants of a LINK cell. -/
def PortSt.granting (x : PortSt) (g : List Nat) : PortSt := { x with tx := { x.tx with grant := g } }

theorem linkCell_acknowledges (s : State) (p : Port) (c : Cell) (k : Kept)
    (hs : (s.port p.val).state = .up ∨ (s.port p.val).state = .keepalive ∨ (s.port p.val).state = .quarantine)
    (hk : (s.port p.val).kept = [k]) (hslot : k.slot = none) (hq : (s.port p.val).txq = [])
    (hn : c.pay 2 2 = (s.port p.val).peerNak) :
    ∃ t, exec (.linkCell p c) s = .next t ∧
      (t.port p.val).tx = { (s.port p.val).tx with grant := (List.range 13).map (fun i => c.pay (4 + 2 * i) 2) } ∧
      (c.pay 0 2 / 4 = (k.lseq + 1) % 16384 → k.lseq < 16384 → (t.port p.val).kept = []) ∧
      (c.pay 0 2 / 4 = k.lseq → (t.port p.val).kept = [k]) ∧
      (t.port p.val).state = (s.port p.val).state ∧ (t.port p.val).rxNext = (s.port p.val).rxNext ∧
      s.portsBut t p.val ∧ { t with ports := s.ports } = s := by
  set D := s.toDev.setPort p.val ((s.port p.val).granting (linkGrants c)) with hD
  have hDport : D.port p.val = (s.port p.val).granting (linkGrants c) := s.toDev.port_setPort_same _ _
  obtain ⟨hport, ps, hfr, hoth⟩ := Dev.ackTo_one (d := D) (p := p.val) (a := c.pay 0 2 / 4) (k := k) (by rw [hDport]; exact hk) hslot
    (by rw [hDport]; exact hq)
  rw [hDport] at hport
  set A := D.ackTo p.val (c.pay 0 2 / 4) with hA
  set y := ((s.port p.val).granting (linkGrants c)).acked (c.pay 0 2 / 4) k with hy
  have hlinked : (s.port p.val).linked = true := by
    unfold PortSt.linked
    rcases hs with h | h | h <;> rw [h]
  have htake : s.toDev.takeLink p.val c = A.setPort p.val { y with peerNak := c.pay 2 2 } := by
    unfold Dev.takeLink
    dsimp only
    rw [if_neg (by rw [hn]; simp)]
    exact congrArg (fun z : PortSt => A.setPort p.val { z with peerNak := c.pay 2 2 }) hport
  have hbare : (fun d : Dev => if !(d.port p.val).linked then d
      else if (d.port p.val).state = .lanes || (d.port p.val).state = .recover then d.firstLink p.val c
      else d.takeLink p.val c) s.toDev = A.setPort p.val { y with peerNak := c.pay 2 2 } := by
    dsimp only
    rw [hlinked, if_neg (by decide), if_neg (by rcases hs with h | h | h <;> simp [h]), htake]
  have hystate : y.state = (s.port p.val).state := by
    rw [hy, PortSt.acked]
    split <;> rfl
  set T := A.setPort p.val { y with peerNak := c.pay 2 2 } with hT
  have hTport : T.port p.val = { y with peerNak := c.pay 2 2 } := A.port_setPort_same _ _
  have hTother : ∀ q, q ≠ p.val → T.port q = s.port q := fun q h =>
    (A.port_setPort_other _ h).trans ((hoth q h).trans (s.toDev.port_setPort_other _ h))
  have hTfr : ∃ ps, T = { s.toDev with ports := ps } := by
    rw [hT, hfr]
    exact ⟨_, rfl⟩
  have hset : T.settle s.toDev = T := by
    obtain ⟨ps', h'⟩ := hTfr
    refine Dev.settle_of_states (fun q => ?_) (by rw [h']) (by rw [h'])
    by_cases h : q = p.val
    · rw [h, hTport]
      exact hystate
    · rw [hTother q h]
  refine ⟨_, settled_run_dev ((congrArg (fun e : Dev => e.settle s.toDev) hbare).trans hset), ?_, fun ha hk' => ?_, fun ha => ?_, ?_, ?_,
    hTother, ?_⟩
  · refine (congrArg PortSt.tx hTport).trans ?_
    rw [show ({ y with peerNak := c.pay 2 2 } : PortSt).tx = y.tx from rfl, hy, PortSt.acked]
    split <;> rfl
  · refine (congrArg PortSt.kept hTport).trans ?_
    rw [show ({ y with peerNak := c.pay 2 2 } : PortSt).kept = y.kept from rfl, hy, PortSt.acked, if_pos (by omega)]
  · refine (congrArg PortSt.kept hTport).trans ?_
    rw [show ({ y with peerNak := c.pay 2 2 } : PortSt).kept = y.kept from rfl, hy, PortSt.acked, if_neg (by omega)]
    exact hk
  · exact (congrArg PortSt.state hTport).trans hystate
  · refine (congrArg PortSt.rxNext hTport).trans ?_
    rw [show ({ y with peerNak := c.pay 2 2 } : PortSt).rxNext = y.rxNext from rfl, hy, PortSt.acked]
    split <;> rfl
  · obtain ⟨ps', h'⟩ := hTfr
    rw [h']
    rfl

/-! ## The first LINK cell after LANES (R153, R154) -/

/-- No context learns of a loss where every port that was in UP still is, and the peers and the routes are as they were. -/
theorem Dev.settle_of_up_kept {d was : Dev} (hup : ∀ p, (was.port p).state = .up → (d.port p).state = .up)
    (hl : ∀ p, portLost (was.port p).state (d.port p).state = false) (hb : d.blobs = was.blobs)
    (hr : d.routing = was.routing) : d.settle was = d := by
  have hring : ∀ g p, p ∈ was.ringPorts g none → p ∈ d.ringPorts g none := by
    intro g p hp
    have hpeer : ∀ p, d.peerKind p = was.peerKind p := fun p => by unfold Dev.peerKind Dev.peer Dev.blob; rw [hb]
    have hports : d.groupPorts d.ingressEpoch g = was.groupPorts was.ingressEpoch g := by
      unfold Dev.groupPorts Dev.ringGroup Dev.ingressEpoch Dev.blob
      rw [hb, hr]
    unfold Dev.ringPorts at hp ⊢
    rw [hports]
    simp only [List.mem_filter, Option.all_none, Bool.and_true, Bool.and_eq_true, decide_eq_true_eq, hpeer] at hp ⊢
    obtain ⟨hg, hst, hkind⟩ := hp
    exact ⟨hg, hup p hst, hkind⟩
  refine Dev.settle_of_no_loss (fun p _ => hl p) ?_
  unfold Dev.groupCut
  rw [List.any_eq_false]
  intro g _
  rw [Bool.not_eq_true, List.any_eq_false]
  intro p hp
  simpa using hring g p hp

/-- A port that has come to UP. -/
def PortSt.intoUp (x : PortSt) (now : Nat) : PortSt :=
  ({ x with state := .up, since := now, lastGood := now, resends := 0 } : PortSt).passOn

/-- What an entry into UP changes. -/
theorem Dev.toUp_eq (d : Dev) (p : Nat) : d.toUp p = { (d.setPort p ((d.port p).intoUp d.tick)).setReg (E.UP_TICK p) d.tick with
    dedWait := d.dedWait.filter (· != p), dedOld := if d.dedWait.filter (· != p) = [] then [] else d.dedOld,
    arrivals := d.arrivals ++ [Arrival.mk d.sampledAt (.link p)], draws := d.draws + 1 } := rfl

theorem linkCell_first (s : State) (p : Port) (c : Cell) (hs : (s.port p.val).state = .lanes)
    (he : (s.port p.val).lanesEndSent = true) (hk : (s.port p.val).kept = []) :
    ∃ t, exec (.linkCell p c) s = .next t ∧ (t.port p.val).state = .up ∧ t.reg (E.UP_TICK p.val) = s.tick ∧
      (t.port p.val).tx.grant = (List.range 13).map (fun i => c.pay (4 + 2 * i) 2) ∧
      t.arrivals = s.arrivals ++ [Arrival.mk s.sampledAt (.link p.val)] ∧ s.portsBut t p.val ∧
      s.regsBut t [E.UP_TICK p.val] ∧ t.dedWait = s.dedWait.filter (· != p.val) ∧
      t.dedOld = (if t.dedWait = [] then [] else s.dedOld) ∧
      { t with ports := s.ports, regs := s.regs, arrivals := s.arrivals, draws := s.draws, dedOld := s.dedOld, dedWait := s.dedWait } = s := by
  set D := s.toDev.toUp p.val with hD
  have hDport : D.port p.val = (s.port p.val).intoUp s.tick := s.toDev.port_setPort_same p.val _
  have hDkept : (D.port p.val).kept = [] := (congrArg PortSt.kept hDport).trans hk
  set y : PortSt := { D.port p.val with tx := ⟨linkGrants c, (D.port p.val).keptCredits⟩, peerNak := c.pay 2 2 } with hy
  have hTport : (D.setPort p.val y).port p.val = y := D.port_setPort_same _ _
  have hTother : ∀ q, q ≠ p.val → (D.setPort p.val y).port q = s.port q := fun q h =>
    (D.port_setPort_other _ h).trans (s.toDev.port_setPort_other _ h)
  have hystate : y.state = .up := congrArg PortSt.state hDport
  have hfirst : s.toDev.firstLink p.val c = D.setPort p.val y := by
    unfold Dev.firstLink
    dsimp only
    rw [← hD, Dev.ackTo_none hDkept]
    exact if_pos ((congrArg PortSt.kept hTport).trans hDkept)
  have hlinked : (s.port p.val).linked = true := by
    unfold PortSt.linked
    rw [hs]
    exact he
  have hset : (D.setPort p.val y).settle s.toDev = D.setPort p.val y := by
    have hst : ∀ q, q ≠ p.val → ((D.setPort p.val y).port q).state = (s.port q).state := fun q h => congrArg PortSt.state (hTother q h)
    refine Dev.settle_of_up_kept (fun q h => ?_) (fun q => ?_) rfl rfl
    · by_cases hq : q = p.val
      · rw [hq, hTport]
        exact hystate
      · rw [hst q hq]
        exact h
    · by_cases hq : q = p.val
      · rw [hq, hTport, hystate]
        exact Bool.and_false _
      · rw [hst q hq]
        exact portLost_self _
  refine ⟨_, settled_run_dev (d := D.setPort p.val y) ?_, (congrArg PortSt.state hTport).trans hystate, Dev.reg_setReg_same _ _ _,
    (congrArg (fun x : PortSt => x.tx.grant) hTport).trans rfl, rfl, hTother, fun j hj => ?_, rfl, rfl, rfl⟩
  · dsimp only
    rw [hlinked, if_neg (by decide), if_pos (by simp [hs]), hfirst, hset]
  · exact Dev.reg_setReg_other _ _ (by simpa using hj)

/-- Settles O23. -/
theorem cellReception : Obligations.CellReception := by
  refine ⟨fun s p l bytes hon hinj htest hno => ?_, fun s p _ => ?_, parkCell_marks, linkCell_acknowledges,
    fun s p c hs he hk _ => linkCell_first s p c hs he hk⟩
  · have h : s.brings p l := ⟨hon, hinj, htest, hno⟩
    refine ⟨cellReceive_bad s p l bytes h, fun c hb hc hl hm => ⟨fun hs hn hk => ?_, fun hseq hloc hcr hn hh hs hlv hf hsn => ?_⟩⟩
    · exact cellReceive_plain s p l bytes c h hb hc hl hm hs hn hk
    · exact cellReceive_expected s p l bytes c h hb hc hl hm hseq hloc hcr hn hh hs hlv hf hsn
  · exact ⟨linkSend_due s p, fillPort_up s p⟩

end Sys2Proof.Machine
end

section
/-! Events of the segment, the host link and the housekeeping processor (O17). -/

namespace Sys2Proof.Machine

/-! ## The segment (R66, R67) -/

theorem neighbourSolicitation_answered (s : State) (p : Path) (src target : BitVec 128) (hl : s.toDev.listens p = true)
    (hg : p = .host → s.toDev.domainGated .host = false) (hm : s.toDev.holdsAddr p target = true) :
    exec (.neighbourSolicitation p src target) s = .next { s with
      toDev := (if p = .host then s.toDev.count E.HOST_FRAMES else s.toDev).emit (.neighbour s.tick p src target) } := by
  refine run_dev ((if_neg (by simp [hl])).trans ((if_neg fun h => ?_).trans ?_))
  · rw [Bool.and_eq_true, decide_eq_true_eq] at h
    obtain ⟨hp, hgated⟩ := h
    exact absurd hgated (by simp [hg hp])
  · unfold Dev.solicited
    rw [hm]
    rfl

theorem plcaBeacon_takes (s : State) (hl : s.toDev.listens .t1s = true) : ∃ t, exec .plcaBeacon s = .next t ∧ t.reg E.PLCA_STATUS = 1 ∧
    t.mgmt.plca = [s.reg E.PLCA_NODE_ID, s.reg E.PLCA_TO_TIMER, s.reg E.PLCA_BURST_COUNT, s.reg E.PLCA_BURST_TIMER] ∧
    { t with regs := s.regs, mgmt := s.mgmt } = s :=
  ⟨_, run_dev (if_neg (by simp [hl])), Dev.reg_setReg_same _ _ _, rfl, rfl⟩

theorem FaultClass.plcaCollisions_unlogged (c : FaultClass) :
    E.PLCA_COLLISIONS ∉ [E.BARKS, c.counter, E.ANY_SATURATED, E.SATURATION_EVENTS] := by
  cases c <;> decide

theorem plcaCollision_counts (s : State) (hl : s.toDev.listens .t1s = true) (hreg : s.reg E.PLCA_COLLISIONS < 2 ^ 32 - 2) :
    ∃ t, exec .plcaCollision s = .next t ∧ t.reg E.PLCA_COLLISIONS = s.reg E.PLCA_COLLISIONS + 1 ∧
    { t with regs := s.regs, tele := s.tele, sentry := s.sentry, ints := s.ints, draws := s.draws } = s := by
  refine ⟨_, run_dev (if_neg (by simp [hl])), ?_, ?_⟩
  · refine (Dev.reg_sample _ _ _).trans ?_
    rw [Dev.reg_logged_other _ _ (FaultClass.plcaCollisions_unlogged _)]
    refine (congrArg (fun d : Dev => d.reg E.PLCA_COLLISIONS) (Dev.countErr_of_lt (d := s.toDev.drew) hreg)).trans ?_
    exact Dev.reg_setReg_same _ _ _
  · rw [Dev.sample_frame, Dev.countErr_frame]
    rfl

/-! ## The host link (R478, R479, R483) -/

theorem hostPortDown_clears (s : State) (h : s.reg E.HOST_MODE ≠ 0) : ∃ t, exec .hostPortDown s = .next t ∧ t.reg E.HOST_MODE = 0 ∧
    t.hostPort = {} ∧ (∀ k, k ≠ E.HOST_MODE → t.reg k = s.reg k) ∧ { t with regs := s.regs, hostPort := s.hostPort } = s :=
  ⟨_, run_dev (if_neg h), Dev.reg_setReg_same _ _ _, rfl, fun _ hk => Dev.reg_setReg_other _ _ hk, rfl⟩

section
variable (s : State) (l : List HostMode) (hd : s.toDev.domainOff .host = false) (hf : s.toDev.fenced = false)
  (hm : s.reg E.HOST_MODE = 0)
include hd hf hm

theorem hostAutoneg_800 (hx : s.reg E.HOST_MAX_MODE ≠ 2) (ho : s.hostPort.only400 = false) (hl : HostMode.cr4x800 ∈ l) :
    ∃ t, exec (.hostAutoneg l true) s = .next t ∧ t.reg E.HOST_MODE = 1 ∧ t.hostPort = { s.hostPort with fails800 := 0 } ∧
      s.regsBut t [E.HOST_MODE] ∧ { t with regs := s.regs, hostPort := s.hostPort } = s := by
  have h := exec_hostAutoneg hd hf hm l true
  rw [if_pos (by simp [hx, ho, hl]), if_pos rfl] at h
  exact ⟨_, h, Dev.reg_setReg_same _ _ _, rfl, fun k hk => Dev.reg_setReg_other _ _ (by simpa using hk), rfl⟩

theorem hostAutoneg_400 (hx : s.reg E.HOST_MAX_MODE = 2 ∨ s.hostPort.only400 = true ∨ HostMode.cr4x800 ∉ l)
    (hl : HostMode.cr4x400 ∈ l) : ∃ t, exec (.hostAutoneg l true) s = .next t ∧ t.reg E.HOST_MODE = 2 ∧
      s.regsBut t [E.HOST_MODE] ∧ { t with regs := s.regs } = s := by
  have h := exec_hostAutoneg hd hf hm l true
  rw [if_neg (by rcases hx with hx | hx | hx <;> simp [hx]), if_pos (by simp [hl])] at h
  exact ⟨_, h, Dev.reg_setReg_same _ _ _, fun k hk => Dev.reg_setReg_other _ _ (by simpa using hk), rfl⟩

end

theorem hostDrops_long (s : State) (f : List Byte) (h : s.toDev.hostUp = true) (hg : s.toDev.domainGated .host = false)
    (hl : 4200 < f.length) : ∃ t, exec (.hostDrops f) s = .next t ∧ t.reg E.HOST_DROPS = (s.reg E.HOST_DROPS + 1) % 2 ^ 64 ∧
      s.regsBut t [E.HOST_DROPS] ∧ { t with regs := s.regs } = s := by
  have hs : s.toDev.servesFrame f = false := by
    unfold Dev.servesFrame
    dsimp only
    rw [decide_eq_false (Nat.not_le.2 hl)]
    simp only [Bool.false_and]
  refine ⟨_, run_dev ((Dev.hostTake_acts h hg _ _).trans (if_neg (by simp [hs]))), ?_, fun k hk => ?_, rfl⟩
  · exact (Dev.reg_count _ _ _).trans (if_pos rfl)
  · exact (Dev.reg_count _ _ _).trans (if_neg (by simpa using hk))

/-! ## Rates and retries (R486, R487) -/

theorem Dev.setQp_setQp (d : Dev) (q : Nat) (x y : Qp) : (d.setQp q x).setQp q y = d.setQp q y := by
  unfold Dev.setQp
  dsimp only
  rw [tset_tset]

section
variable (s : State) (q : QpNo)

theorem cnp_halves (h : s.toDev.hostUp = true) (hg : s.toDev.domainGated .host = false) (h1 : (s.qp q.val).state = 1)
    (ha : ∀ a, (s.qp q.val).lastCnp = some a → a + 1250 ≤ s.tick) :
    ∃ t, exec (.cnp q) s = .next t ∧ (t.qp q.val).rate = max 8 ((s.qp q.val).rate / 2) ∧ (t.qp q.val).lastCnp = some s.tick ∧
      (t.qp q.val).lastRise = s.tick ∧ (∀ v, v ≠ q.val → t.qp v = s.qp v) ∧ s.regsBut t [E.HOST_FRAMES] ∧
      { t with regs := s.regs, qps := s.qps } = s := by
  have hqp : ((s.toDev.count E.HOST_FRAMES).setQp q.val ((s.qp q.val).slowed s.tick)).qp q.val = (s.qp q.val).slowed s.tick :=
    Dev.qp_setQp_same ..
  exact ⟨_, run_dev ((Dev.hostTake_acts h hg _ _).trans (Dev.takeCnp_halves h1 ha)), (congrArg Qp.rate hqp :),
    (congrArg Qp.lastCnp hqp :), (congrArg Qp.lastRise hqp :), fun v hv => Dev.qp_setQp_other _ _ hv,
    fun k hk => (Dev.reg_count _ _ _).trans (if_neg (by simpa using hk)), rfl⟩

theorem cnp_again (a : Nat) (h : s.toDev.hostUp = true) (hg : s.toDev.domainGated .host = false) (h1 : (s.qp q.val).state = 1)
    (ha : (s.qp q.val).lastCnp = some a) (ht : s.tick < a + 1250) :
    ∃ t, exec (.cnp q) s = .next t ∧ t.qp q.val = { s.qp q.val with lastRise := s.tick } ∧
      (∀ v, v ≠ q.val → t.qp v = s.qp v) ∧ s.regsBut t [E.HOST_FRAMES] ∧ { t with regs := s.regs, qps := s.qps } = s :=
  ⟨_, run_dev ((Dev.hostTake_acts h hg _ _).trans (Dev.takeCnp_again h1 ha ht)), Dev.qp_setQp_same .., fun v hv => Dev.qp_setQp_other _ _ hv,
    fun k hk => (Dev.reg_count _ _ _).trans (if_neg (by simpa using hk)), rfl⟩

theorem qpRateRise_due (h : (s.qp q.val).lastRise + 1375 ≤ s.tick) :
    ∃ t, exec (.qpRateRise q) s = .next t ∧ (t.qp q.val).rate = min 256 ((s.qp q.val).rate + 16) ∧
      (t.qp q.val).lastRise = s.tick ∧ (∀ v, v ≠ q.val → t.qp v = s.qp v) ∧ { t with qps := s.qps } = s := by
  have hqp : (s.toDev.setQp q.val { s.qp q.val with rate := min 256 ((s.qp q.val).rate + 16), lastRise := s.tick }).qp q.val =
      { s.qp q.val with rate := min 256 ((s.qp q.val).rate + 16), lastRise := s.tick } := Dev.qp_setQp_same ..
  exact ⟨_, run_dev (if_neg (Nat.not_lt.mpr h)), (congrArg Qp.rate hqp :), (congrArg Qp.lastRise hqp :),
    fun v hv => Dev.qp_setQp_other _ _ hv, rfl⟩

theorem qpRetryTimeout_resends (r : QpReq) (h1 : (s.qp q.val).state = 1) (h2 : (s.qp q.val).sent = [r])
    (ht : (s.qp q.val).sentAt + s.reg (E.RETRY_TICKS q.val) ≤ s.tick) (hc : (s.qp q.val).retries < s.reg (E.RETRY_COUNT q.val))
    (hup : s.toDev.hostUp = true) :
    exec (.qpRetryTimeout q) s = .next (s.dev ((s.toDev.setQp q.val { s.qp q.val with
      retries := (s.qp q.val).retries + 1, sentAt := s.tick }).emit (.host s.tick q.val (s.toDev.reqBytes q.val r)))) := by
  rw [exec_qpRetryTimeout_again h1 (by simp [h2]) ht hc]
  unfold Dev.retried
  rw [Dev.setQp_setQp, if_pos hup, h2]
  rfl

theorem qpRetryTimeout_ends (r : QpReq) (h1 : (s.qp q.val).state = 1) (h2 : (s.qp q.val).sent.head? = some r)
    (ht : (s.qp q.val).sentAt + s.reg (E.RETRY_TICKS q.val) ≤ s.tick) (hc : s.reg (E.RETRY_COUNT q.val) ≤ (s.qp q.val).retries) :
    exec (.qpRetryTimeout q) s = .next (s.dev (s.toDev.qpError q.val r.psn)) := by
  rw [exec_qpRetryTimeout h1 (fun e => by simp [e] at h2) ht]
  exact congrArg (fun d => Host.Outcome.next (s.dev d)) ((if_pos hc).trans (by rw [h2]; rfl))

end

/-! ## The housekeeping watchdog (R543) -/

/-- The device once HKP_RESTART is reported and counted. -/
def Dev.restartNoted (d : Dev) : Dev := (d.sample (bark 0x0C02 accNone iniHkp false 0 0)).countErr E.HKP_RESTARTS

theorem Dev.restartNoted_frame (d : Dev) : ∃ r x y i, d.restartNoted = { d with regs := r, tele := x, sentry := y, ints := i } := by
  unfold Dev.restartNoted
  rw [Dev.countErr_frame, Dev.sample_frame]
  exact ⟨_, _, _, _, rfl⟩

theorem hkpWatchdog_restarts (s : State) : ∃ t, exec .hkpWatchdog s = .next t ∧
    t.mgmt = { s.mgmt with sessions := [], nonces := [], cache := [], handles := [] } ∧ maskHas t.ints.pending 0x06 = true ∧
    { t with regs := s.regs, tele := s.tele, sentry := s.sentry, ints := s.ints, mgmt := s.mgmt } = s := by
  obtain ⟨r, x, y, i, h⟩ := s.toDev.restartNoted_frame
  have hrun : exec .hkpWatchdog s = .next (s.dev (({ s.toDev.restartNoted with
      mgmt := { s.toDev.restartNoted.mgmt with sessions := [], nonces := [], cache := [], handles := [] } } : Dev).raiseInt 0x06)) := rfl
  rw [h] at hrun
  exact ⟨_, hrun, rfl, maskHas_maskSet_same _ _, rfl⟩

/-- Settles O17. -/
theorem segmentAndHostLinkEvents : Obligations.SegmentAndHostLinkEvents :=
  ⟨neighbourSolicitation_answered, plcaBeacon_takes, plcaCollision_counts, hostPortDown_clears, hostAutoneg_800, hostAutoneg_400,
    hostDrops_long, cnp_halves, fun s q a => cnp_again s q a, qpRateRise_due, qpRetryTimeout_resends, qpRetryTimeout_ends,
    fun _ _ h => exec_qpRetryTimeout_early (.inr (.inr h)), hkpWatchdog_restarts⟩

end Sys2Proof.Machine
end

section
/-! The tick of an empty queue (O2). -/

namespace Sys2Proof.Machine

/-- A TX1 whose ports are OFF, with lane 0 of port 0 in TEST, and whose fence takes effect with the next tick (R103, R523). -/
def fencingTest : State :=
  { State.reset with
    power := { bootStage := 3 }, ports := [(0, { lane0 := { state := .test } })], sentry := { fenceAt := some 1 } }

theorem port_fencingTest_of_ne (p : Nat) (h : p ≠ 0) : fencingTest.port p = {} := by
  have hget : tget fencingTest.ports p = none := by
    show (if 0 = p then _ else _) = none
    rw [if_neg (Ne.symm h)]
    rfl
  show (tget fencingTest.ports p).getD {} = {}
  rw [hget]
  rfl

theorem port_fencingTest (p : Nat) : (fencingTest.port p).state = .off ∧ (fencingTest.port p).handover = none := by
  by_cases h : p = 0
  · subst h
    exact ⟨rfl, rfl⟩
  · rw [port_fencingTest_of_ne p h]
    exact ⟨rfl, rfl⟩

theorem lane_fencingTest (p : Nat) (h : p ≠ 0) (l : Lane) : fencingTest.lane p l = {} := by
  show (fencingTest.port p).lane l = {}
  rw [port_fencingTest_of_ne p h]
  match l with
  | 0 | 1 | 2 | 3 => rfl

theorem lane_fencingTest_inject (p : Nat) (l : Lane) : (fencingTest.lane p l).inject = none := by
  by_cases h : p = 0
  · subst h
    match l with
    | 0 | 1 | 2 | 3 => rfl
  · rw [lane_fencingTest p h]

/-! ## Transmitters that were idle before the fence -/

theorem Dev.txIdle_of_fenced {d : Dev} (h : d.fenced = true) (p : Nat) (l : Lane) : d.txIdle p l = true := by
  simp [Dev.txIdle, h]

theorem Dev.txIdle_of_off {d : Dev} {p : Nat} {l : Lane} (h : (d.lane p l).state = .off) : d.txIdle p l = true := by
  simp [Dev.txIdle, h]

theorem Dev.notePort_of_same {d was : Dev} {p : Nat} (h : ∀ l, d.txIdle p l = was.txIdle p l) : d.notePort was p = d := by
  show ((((d.notePins was p 0).notePins was p 1).notePins was p 2).notePins was p 3) = d
  rw [Dev.notePins_of_same (h 0), Dev.notePins_of_same (h 1), Dev.notePins_of_same (h 2), Dev.notePins_of_same (h 3)]

/-- Ports whose pins carry what they did have nothing to note. -/
theorem Dev.notePorts_of_same {d was : Dev} (ps : List Nat) (h : ∀ p ∈ ps, ∀ l, d.txIdle p l = was.txIdle p l) :
    ps.foldl (fun a p => a.notePort was p) d = d := by
  induction ps with
  | nil => rfl
  | cons p ps ih =>
    rw [List.foldl_cons, Dev.notePort_of_same (h p List.mem_cons_self)]
    exact ih fun q hq => h q (List.mem_cons_of_mem p hq)

/-! ## The tick in which the fence takes effect -/

/-- `fencingTest` in its next tick, with the fence in effect and what has gone out by then. -/
def fencedTest (out : List Out) : Dev :=
  { fencingTest.toDev with tick := 1, power := { bootStage := 3, selfRefresh := true }, out := out }

theorem sampleEvents_fencingTest : fencingTest.toDev.sampleEvents = fencingTest.toDev := rfl

theorem lane_fencedTest (out : List Out) (p : Nat) (l : Lane) : (fencedTest out).lane p l = fencingTest.lane p l := rfl

theorem txIdle_fencedTest (out : List Out) (p : Nat) (l : Lane) : (fencedTest out).txIdle p l = true :=
  Dev.txIdle_of_fenced rfl p l

theorem notePins_fencedTest {out : List Out} {p : Nat} {l : Lane} (h : (fencingTest.lane p l).state = .off) :
    (fencedTest out).notePins fencingTest.toDev p l = fencedTest out :=
  Dev.notePins_of_same ((txIdle_fencedTest out p l).trans (Dev.txIdle_of_off h).symm)

/-- Lane 0 of port 0 is the one that carried a signal. -/
theorem notePort_fencedTest : (fencedTest []).notePort fencingTest.toDev 0 = fencedTest [.idle 1 0 0 true] := by
  have hlane : (fencedTest []).notePins fencingTest.toDev 0 0 = fencedTest [.idle 1 0 0 true] := rfl
  show (((((fencedTest []).notePins fencingTest.toDev 0 0).notePins fencingTest.toDev 0 1).notePins fencingTest.toDev 0
    2).notePins fencingTest.toDev 0 3) = _
  rw [hlane, notePins_fencedTest rfl, notePins_fencedTest rfl, notePins_fencedTest rfl]

theorem raiseFence_fencingTest :
    fencingTest.toDev.countTick.raiseFence fencingTest.toDev = fencedTest [.idle 1 0 0 true] := by
  have hrest : (List.range' 1 255).foldl (fun a p => a.notePort fencingTest.toDev p) (fencedTest [.idle 1 0 0 true])
      = fencedTest [.idle 1 0 0 true] := by
    refine Dev.notePorts_of_same _ fun p hp l => ?_
    have hne : p ≠ 0 := by
      have := List.mem_range'_1.mp hp
      omega
    rw [txIdle_fencedTest, Dev.txIdle_of_off (by rw [lane_fencingTest p hne])]
  have hports : allPorts = 0 :: List.range' 1 255 := by
    rw [allPorts, List.range_eq_range', List.range'_succ]
  calc fencingTest.toDev.countTick.raiseFence fencingTest.toDev
      = allPorts.foldl (fun a p => a.notePort fencingTest.toDev p) (fencedTest []) := rfl
    _ = _ := by rw [hports, List.foldl_cons, notePort_fencedTest, hrest]

theorem tickMap_fencedTest (out : List Out) (i : Nat) : (fencedTest out).tickMap i = fencedTest out := by
  have hflag : (fencedTest out).flag E.MAP_ENABLE = false := rfl
  have hmap : ((fencedTest out).tele.map i).active = false := by
    unfold Telemetry.map
    split <;> rfl
  simp [Dev.tickMap, hflag, hmap]

theorem tickPorts_fencedTest (out : List Out) : (fencedTest out).tickPorts = fencedTest out := by
  have h : (fencedTest out).tickPort 0 = fencedTest out := rfl
  exact h

theorem clock_fencingTest :
    fencingTest.toDev.clock = ((((fencedTest [.idle 1 0 0 true]).tickMap 0).tickMap 1).tickSnap.releaseHeld.tickPorts.noteWork) := by
  have hon : fencingTest.toDev.power.off = false := rfl
  rw [Dev.clock, hon, if_neg Bool.false_ne_true, sampleEvents_fencingTest, Dev.beginTick, raiseFence_fencingTest]

theorem out_clock_fencingTest : fencingTest.toDev.clock.out.isEmpty = false := by
  rw [clock_fencingTest, tickMap_fencedTest, tickMap_fencedTest]
  show (fencedTest [.idle 1 0 0 true]).tickPorts.out.isEmpty = false
  rw [tickPorts_fencedTest]
  rfl

/-- Refutes O2: the tick in which the fence takes effect sends an idle pattern from a port whose lane 0 is in TEST, and a
port that is OFF may have such a lane (R103). -/
theorem not_emptyQueueTicks : ¬ Obligations.EmptyQueueTicks := by
  unfold Obligations.EmptyQueueTicks
  intro h
  obtain ⟨t, ht, -, -, -, -, -, hoff, -⟩ := (h fencingTest rfl).2 rfl rfl rfl rfl rfl rfl
    fun p l => ⟨(port_fencingTest p).2, lane_fencingTest_inject p l⟩
  have hout : t.out = [] := (hoff fun p => (port_fencingTest p).1).1
  have hstep : t = fencingTest.clock := (Host.Outcome.next.inj ht).symm
  have hsent : t.out.isEmpty = false := by
    rw [hstep]
    exact out_clock_fencingTest
  simp [hout] at hsent

end Sys2Proof.Machine
end
